-- ==== Sys2Proof/Word.lean ====
section
/-! DEFINITION. The words of the Horoth HX16 and the plainest arithmetic on them. -/

namespace Sys2Proof

/-- A byte. -/
abbrev Byte := BitVec 8
/-- A register word (R13: every register is 32 bits wide). -/
abbrev Word := BitVec 32
/-- A CSR byte address (R13: 26 bits). -/
abbrev CsrAddr := BitVec 26
/-- A unit address in the form of R22. -/
abbrev UnitAddr := BitVec 32
/-- A 16-bit status code (R18). -/
abbrev Code := BitVec 16
/-- A fabric node ID (R318). -/
abbrev Node := BitVec 16
/-- A context number, 0 to 4095. -/
abbrev CtxNo := BitVec 12
/-- A partition number, 0 to 63. -/
abbrev Pid := BitVec 6
/-- A fabric port or a transceiver, 0 to 63. -/
abbrev PortNo := BitVec 6
/-- A grid channel, 0 to 15. -/
abbrev ChanNo := BitVec 4
/-- A thread slot of a core, 0 to 7 (R93). -/
abbrev SlotNo := BitVec 3

/-- Sparse data by key: keys strictly rising, and no entry equal to what an unlisted key reads as. -/
abbrev SMap (α : Type) := List (Nat × α)

/-- Sum that stops at the top of the width (the saturating counters). -/
def satAdd {w : Nat} (x : BitVec w) (n : Nat) : BitVec w :=
  if x.toNat + n < 2 ^ w then BitVec.ofNat w (x.toNat + n) else BitVec.allOnes w

/-- A number shown in a field of `w` bits that stops at its largest value. -/
def satNat (w n : Nat) : BitVec w :=
  if n < 2 ^ w then BitVec.ofNat w n else BitVec.allOnes w

/-- A Bool as one bit. -/
def bit (b : Bool) : BitVec 1 := if b then 1#1 else 0#1

/-- `v` moved to bit `lo` of a register word. -/
def fld {w : Nat} (lo : Nat) (v : BitVec w) : Word := (v.setWidth 32) <<< lo

/-- The number in bits `hi` down to `lo` of a word. -/
def bitsOf {w : Nat} (v : BitVec w) (hi lo : Nat) : Nat := (v.toNat >>> lo) % 2 ^ (hi + 1 - lo)

end Sys2Proof
end

