-- ==== Sys2Proof/Syntax.lean ====
section
/-! DEFINITION. The commands of the block: one constructor per row of spec/opcode_table.json,
with the operands that the row's rule gives the sender, and the small types of those operands. -/

namespace Sys2Proof

/-- An access path to the registers (R14, R24, R39, R340): an HMP session, an admin queue pair,
the executor of image records, or the unprivileged pages of one context. -/
inductive Path where
  | hmp (n : BitVec 2)
  | admin (a : BitVec 4)
  | image
  | page (c : CtxNo)
deriving DecidableEq, Repr

/-- A device time (R362): 48-bit seconds and a nanoseconds field of 0 to 999,999,999. -/
structure DevTime where
  s : BitVec 48
  ns : BitVec 32
deriving DecidableEq, Repr

/-- What the code of the local store reports in one core cycle (R96). -/
inductive LsEcc where
  | clean
  | corrected
  | uncorrectable (k : SlotNo)
deriving DecidableEq, Repr

/-- The Ethernet ports: the two host ports (R208) and the management port (R395). -/
inductive EthPort where
  | hp0 | hp1 | mp
deriving DecidableEq, Repr

/-- Why an Ethernet port drops a frame (R208, R209, R210, R212, R395, R396, R398). -/
inductive DropReason where
  | tooLong | notAccepted | badQpn | badKey | badIcrc | qpNotRts | badDatagram | wrongSource | badTag
deriving DecidableEq, Repr

/-- A fabric message as received (R265): its 16-byte header and the data that follows.
`link` and `vc` say on which logical link and virtual channel it arrived. -/
structure FabMsg where
  link : BitVec 6
  vc : Bool
  rtEn : Bool
  tag : BitVec 16
  srcCtx : CtxNo
  dstCtx : CtxNo
  srcNode : Node
  dstNode : Node
  addr : BitVec 48
  len : Word
  rtIndex : BitVec 6
  rtUnit : UnitAddr
  status : Code
  data : List Byte
deriving DecidableEq, Repr

/-- A flit as received on a channel (R264): whether its codeword was correctable, and its 256 bytes, byte 0 in the low bits. -/
structure Flit where
  coded : Bool
  bits : BitVec 2048
deriving DecidableEq, Repr

/-- A ring: a ring of a tray by its index (R239), or a transmit or receive ring of a transceiver. -/
inductive RingId where
  | tray (u : UnitAddr) (i : BitVec 11)
  | tx (x : PortNo) (k : ChanNo)
  | rx (x : PortNo) (k : ChanNo)
deriving DecidableEq, Repr

/-- What a tag check judges in one go (R242): the rings of a tray, or of a transceiver
(ring index k for the receive ring of CHk). -/
inductive TagUnit where
  | tray (u : UnitAddr)
  | lt (x : PortNo)
deriving DecidableEq, Repr

/-- The outcomes of a tag check other than good (R242). -/
inductive TagFault where
  | mislock | dark
deriving DecidableEq, Repr

/-- The fix-stage coefficients of one mode (R53, R247), in units of 2^-12: the offsets o_i in
half-LSB, the gains g_i in product units per half-LSB, and the crosstalk terms k_i,-1 and k_i,+1. -/
structure FixCoef where
  o : List Int
  g : List Int
  kLo : List Int
  kHi : List Int
deriving DecidableEq, Repr

/-- What a test strip measures (R250, R254). `tCal` is in 1/16 degree. -/
structure StripFigures where
  tCal : Int
  resStd : BitVec 16
  resFine : BitVec 16
  randStd : BitVec 16
  randFine : BitVec 16
  std : FixCoef
  fine : FixCoef
deriving DecidableEq, Repr

/-- What a LINK frame tells of a channel (R277, R309): the line on the sender's transmit ring is gone or is there, or the sender's receive
ring has locked and agrees the equaliser settings for the training. -/
inductive LinkNote where
  | dark | lit | locked
deriving DecidableEq, Repr

/-- The header of a safelight frame, the port it arrived on, and its CRC field (R308). -/
structure SlHead where
  port : PortNo
  src : Node
  dst : Node
  seq : Word
  epoch : BitVec 16
  hops : Byte
  sport : PortNo
  govB : Bool
  simplex : Bool
  isLocal : Bool
  crc : Word
deriving DecidableEq, Repr

/-- The receivers of governor messages (R302). -/
inductive GovReceiver where
  | matrixSeq
  | siteCtl (n : BitVec 4)
  | slEngine
  | mgmtPort
deriving DecidableEq, Repr

/-- One copy of a governor message at a receiver (R302, R303). -/
structure GovMsg where
  rcv : GovReceiver
  src : Node
  epoch : BitVec 16
  seq : Word
  govB : Bool
  payload : List Byte
deriving DecidableEq, Repr

/-- The payload of a DISCOVERY frame (R325). -/
structure Disc where
  serial : BitVec 128
  planId : Word
  digest8 : BitVec 64
  heardSerial : BitVec 128
  heardPort : Byte
  heardValid : Bool
  bypass : Bool
  quarantined : Bool
deriving DecidableEq, Repr

/-- The payload of a TIME_MARKER frame (R370). -/
structure Marker where
  mark : Word
  tt : Byte
  prev : DevTime
deriving DecidableEq, Repr

/-- The payload of a HEALTH_RELAY frame (R403): a notice of another module, or an acknowledgement. -/
inductive RelayMsg where
  | notice (payload : List Byte)
  | ack (node epoch : BitVec 16) (seq : Word)
deriving DecidableEq, Repr

/-- The header of a RoCEv2 request, the host port that it arrives at, whether it carries an 802.1Q tag, and the bytes in that port's receive
buffer (R209-R211). -/
structure RoceHead where
  port : BitVec 1
  tagged : Bool
  qpn : BitVec 24
  psn : BitVec 24
  ce : Bool
  bufBytes : BitVec 22
deriving DecidableEq, Repr

/-- What a packet that is no READ request is (R210): a WRITE Only; the First of a WRITE of `len` bytes, a Middle or a Last, which carry neither
key nor address (those operands are ignored); or a request that R210 refuses (a SEND, a WRITE with immediate, an atomic, an invalidate). -/
inductive WritePkt where
  | only
  | first (len : Word)
  | middle
  | last
  | refused
deriving DecidableEq, Repr

/-- The header of an HMP request and its source (R396, R398). -/
structure HmpHead where
  session : Word
  ip : BitVec 128
  port : BitVec 16
  seq : Word
deriving DecidableEq, Repr

/-- The dataset of a PTP master as its Announce gives it (R364). -/
structure PtpMaster where
  clock : BitVec 64
  port : BitVec 16
  domain : Byte
  priority1 : Byte
  clockClass : Byte
  accuracy : Byte
  variance : BitVec 16
  priority2 : Byte
  steps : BitVec 16
deriving DecidableEq, Repr

/-- The tables of R352. -/
inductive TableNo where
  | retouch | calibration | seeds | activation
deriving DecidableEq, Repr

/-- What a reset acts on (R355): a unit of any level, or a partition. -/
inductive ResetTarget where
  | unit (u : UnitAddr)
  | partition (pid : Pid)
deriving DecidableEq, Repr

/-- A sector that a command reads, by site and number, with the dies whose symbols are in error (R190). -/
structure MemErr where
  site : BitVec 4
  sector : BitVec 31
  bad : List (Fin 36)
deriving DecidableEq, Repr

/-- The commands: one per row of spec/opcode_table.json. -/
inductive Instr where
  /-- REGISTER_WRITE (R15). A write to a register that has no row of its own stores the value by its access code, and writes to holes or RO bits are ignored. -/
  | regWrite (p : Path) (a : CsrAddr) (v : Word)
  /-- WIDE_LOW_READ (R14). A read of the low word of a 64-bit register returns it and latches the high word for the same path. -/
  | wideLowRead (p : Path) (a : CsrAddr)
  /-- WIDE_HIGH_READ (R14). A read of the high word of a 64-bit register returns and releases the latched value, or the current high word if nothing is latched. -/
  | wideHighRead (p : Path) (a : CsrAddr)
  /-- WIDE_LOW_WRITE (R14). A write of the low word of a 64-bit register is held on its path and replaces any earlier held low word. -/
  | wideLowWrite (p : Path) (a : CsrAddr) (v : Word)
  /-- WIDE_HIGH_WRITE (R14). A write of the high word applies the held low word and the high word together, or is ignored if no low word is held. -/
  | wideHighWrite (p : Path) (a : CsrAddr) (v : Word)
  /-- UNIT_SEL_WRITE (R25). A write of UNIT_SEL evaluates the selection and sets UNIT_SEL_STATUS.CODE. -/
  | unitSelWrite (p : Path) (v : Word)
  /-- UNIT_SEL_MODE_WRITE (R25). A write of UNIT_SEL_MODE sets wildcard or partition view and re-evaluates the selection. -/
  | unitSelModeWrite (p : Path) (v : Word)
  /-- WILDCARD_DELIVERED (R26). Every unit matched by a wildcard write has latched the value, BUSY returns to 0 and held window writes proceed. -/
  | wildcardDelivered (p : Path)
  /-- UCB_HOLD (R31). A write of UCB_CTL.HOLD requests or releases the HELD state of the selected unit or the trays below it. -/
  | ucbHold (p : Path) (on : Bool)
  /-- UCB_FENCE (R28). A write of UCB_CTL.FENCE makes new work aimed at the unit complete with FENCED. -/
  | ucbFence (p : Path) (on : Bool)
  /-- UCB_RESET (R355). A write of UCB_CTL.RESET starts a reset at the unit's level or of a partition, with its stop phase. -/
  | ucbReset (p : Path)
  /-- UCB_DRAIN (R31). A write of UCB_CTL.DRAIN stops admission of work and sends READY or HELD units to DRAINING. -/
  | ucbDrain (p : Path) (on : Bool)
  /-- UCB_ENABLE (R31). A write of UCB_CTL.ENABLE starts an OFF unit or drains an enabled unit towards OFF. -/
  | ucbEnable (p : Path) (on : Bool)
  /-- UCB_MAP_WRITE (R35). A privileged write of UCB_MAP.PHYSICAL binds a spare in service, or is refused. -/
  | ucbMapWrite (p : Path) (phys : BitVec 6)
  /-- MAP_PERSISTED (R35). The governors finish writing a new map entry to flash and PERSISTED reads 1. -/
  | mapPersisted (u : UnitAddr)
  /-- UCB_VF_WRITE (R29). A write of UCB_VF sets the floor for MODE, CLK or VSTEP at the levels where each acts. -/
  | ucbVfWrite (p : Path) (v : Word)
  /-- UCB_OWNER_WRITE (R30). A write of UCB_OWNER changes the owner of trays that are OFF or drained and HELD. -/
  | ucbOwnerWrite (p : Path) (pid : Pid)
  /-- UCB_TEMP_READ (R28). A read of UCB_TEMP returns PEAK and clears it. -/
  | ucbTempRead (p : Path)
  /-- SELF_TEST_DONE (R31). A STARTING unit finishes self-test and table check and goes to READY, HELD or FAILED. -/
  | selfTestDone (u : UnitAddr) (passed crcOk lockOk : Bool)
  /-- DRAIN_COMPLETE (R31). A DRAINING unit's last work in flight completes and it goes to OFF or to HELD with DRAINED. -/
  | drainComplete (u : UnitAddr)
  /-- EXPOSURE_ISSUE (R67). In a beat the exposure at the head of the tray's queue is exposed on the ACTIVE plane and enters the pipeline. -/
  | exposureIssue (u : UnitAddr)
  /-- PROOF_VERDICT (R165). The proof unit judges an exposure's two residuals against T and accumulates it or holds it back. -/
  | proofVerdict (u : UnitAddr)
  /-- LOAD_START (R58). A queued plane load starts on the idle plane once earlier swaps have executed and the weight DACs are free. -/
  | loadStart (u : UnitAddr)
  /-- LOAD_ROW_WRITE (R58). In a free beat a running load writes its next weight row and its row sum. -/
  | loadRowWrite (u : UnitAddr)
  /-- SWAP_EXECUTE (R60). A swap at the head of the queue exchanges the planes over 3 dead beats once the idle plane is LOADED and earlier loads done. -/
  | swapExecute (u : UnitAddr)
  /-- SWAP_REFRESH_DUE (R62). The ACTIVE plane reaches 48 µs with the idle plane EMPTY and no load queued, so its shadow loads for a swap-refresh. -/
  | swapRefreshDue (u : UnitAddr)
  /-- INPLACE_REFRESH_DUE (R62). The ACTIVE plane reaches 49 µs unreplaced and is rewritten in place over 32 dead beats. -/
  | inplaceRefreshDue (u : UnitAddr)
  /-- BACKGROUND_RELOAD_DUE (R62). A LOADED idle plane reaches 48 µs and is reloaded from its shadow in the background. -/
  | backgroundReloadDue (u : UnitAddr)
  /-- IDLE_BOUNDARY (R63). After 64 beats with nothing to expose and an empty pipeline the tray reaches a run boundary. -/
  | idleBoundary (u : UnitAddr)
  /-- VSTEP_PAUSE_END (R64). The 1 µs analogue supply pause after a VSTEP change ends and exposures and loads resume. -/
  | vstepPauseEnd (u : UnitAddr)
  /-- MODE_SETTLE_END (R64). The 8 dead beats of a mode change end and exposures resume in the new mode. -/
  | modeSettleEnd (u : UnitAddr)
  /-- CORE_ISSUE_CYCLE (R94). In each core cycle the issue stage gives the datapath to device work or to one READY thread in round order. -/
  | coreIssueCycle (c : UnitAddr) (ecc : LsEcc)
  /-- THREAD_DISPATCH (R107). A waiting start request is dispatched to the chosen core, slot and window once quota and room allow. -/
  | threadDispatch (u : UnitAddr)
  /-- WINDOW_CLEARED (R96). An ended thread's local store window finishes clearing and its slot becomes FREE. -/
  | windowCleared (c : UnitAddr) (k : SlotNo)
  /-- TALLY_APPLY (R100). An ADD, SET or completion ADD arrives at its target cluster and is applied atomically. -/
  | tallyApply (u : UnitAddr)
  /-- TALLY_WAIT_TIMEOUT (R134). An unsatisfied WAIT reaches its timeout and ends with WAIT_TIMEOUT. -/
  | tallyWaitTimeout (c : UnitAddr) (k : SlotNo)
  /-- CLOCK_STEP_APPLY (R112). A change of a cluster's effective clock step takes effect with a short issue pause. -/
  | clockStepApply (u : UnitAddr)
  /-- QUEUE_ADMIT (R102). A thread waiting for room admits its entry to the tray's exposure or load queue once room frees. -/
  | queueAdmit (c : UnitAddr) (k : SlotNo)
  /-- CTX_THREADS_WRITE (R108). A write of a context's priority or thread quota applies to its running threads within 1 µs. -/
  | ctxThreadsWrite (p : Path) (v : Word)
  /-- CHAIN_FETCH_DONE (R122). A chain block fetch completes, or fails when the thread reaches it. -/
  | chainFetchDone (c : UnitAddr) (k : SlotNo) (errs : List MemErr)
  /-- NOP (R132). NOP waits and adds under its header only. -/
  | nop (c : UnitAddr) (k : SlotNo)
  /-- END (R132). END ends the thread, freeing its slot and clearing its window. -/
  | endThread (c : UnitAddr) (k : SlotNo)
  /-- JUMP (R132). JUMP continues the chain at TARGET. -/
  | jump (c : UnitAddr) (k : SlotNo)
  /-- UNKNOWN_OPCODE (R131). A descriptor with an unknown opcode completes with DESC_OPCODE. -/
  | unknownOpcode (c : UnitAddr) (k : SlotNo)
  /-- THREAD_START (R133). THREAD_START asks for a child thread in the same context and submission. -/
  | threadStart (c : UnitAddr) (k : SlotNo)
  /-- TALLY_ADD (R134). TALLY ADD adds n to a tally of a cluster in the partition. -/
  | tallyAdd (c : UnitAddr) (k : SlotNo)
  /-- TALLY_SET (R134). TALLY SET sets a tally of a cluster in the partition. -/
  | tallySet (c : UnitAddr) (k : SlotNo)
  /-- TALLY_WAIT (R134). TALLY WAIT waits until a tally of the own cluster reaches a value, with optional timeout. -/
  | tallyWait (c : UnitAddr) (k : SlotNo)
  /-- COPY (R135). COPY moves a two-dimensional block between DEV, LS and TB. -/
  | copy (c : UnitAddr) (k : SlotNo)
  /-- FILL (R136). FILL writes a 64-bit pattern over a range. -/
  | fill (c : UnitAddr) (k : SlotNo)
  /-- FABRIC_PUT (R138). FABRIC_PUT writes local data into a peer context's memory. -/
  | fabricPut (c : UnitAddr) (k : SlotNo)
  /-- FABRIC_GET (R138). FABRIC_GET reads a peer context's memory into local space. -/
  | fabricGet (c : UnitAddr) (k : SlotNo)
  /-- MOVER_DONE (R124). The mover finishes a data movement or fabric transfer and makes its data visible. -/
  | moverDone (id : Nat) (errs : List MemErr)
  /-- EXPOSE (R139). EXPOSE admits COUNT exposures of consecutive BS8 vectors to the tray's queue. -/
  | expose (c : UnitAddr) (k : SlotNo)
  /-- PLANE_LOAD (R140). PLANE_LOAD admits one load of the idle plane. -/
  | planeLoad (c : UnitAddr) (k : SlotNo)
  /-- PLANE_SWAP (R141). PLANE_SWAP admits one swap. -/
  | planeSwap (c : UnitAddr) (k : SlotNo)
  /-- ACC_READ (R142). ACC_READ copies accumulator vectors out, optionally clearing them. -/
  | accRead (c : UnitAddr) (k : SlotNo)
  /-- ACC_WRITE (R143). ACC_WRITE sets or clears accumulator vectors. -/
  | accWrite (c : UnitAddr) (k : SlotNo)
  /-- CONVERT_BS8 (R144). CONVERT_BS8 converts 32-element vectors into BS8. -/
  | convertBs8 (c : UnitAddr) (k : SlotNo)
  /-- CONVERT_PLANE (R145). CONVERT_PLANE converts a 32 × 32 weight block into a plane image and exponents. -/
  | convertPlane (c : UnitAddr) (k : SlotNo)
  /-- VEC (R146). VEC applies one element-wise operation over COUNT elements. -/
  | vec (c : UnitAddr) (k : SlotNo)
  /-- ACTIVATE (R147). ACTIVATE evaluates a table-driven function element by element. -/
  | activate (c : UnitAddr) (k : SlotNo)
  /-- REDUCE (R148). REDUCE reduces each row to one value. -/
  | reduce (c : UnitAddr) (k : SlotNo)
  /-- MATMUL_EXACT (R149). MATMUL_EXACT computes an exact small-tile product on the thread's core. -/
  | matmulExact (c : UnitAddr) (k : SlotNo)
  /-- SEQ_OPEN (R151). SEQ_OPEN opens the lowest free sequence slot for the context. -/
  | seqOpen (c : UnitAddr) (k : SlotNo)
  /-- SEQ_CLOSE (R152). SEQ_CLOSE moves a slot to CLOSING. -/
  | seqClose (c : UnitAddr) (k : SlotNo)
  /-- SEQ_APPEND (R153). SEQ_APPEND asks to reserve and write entries in a slot. -/
  | seqAppend (c : UnitAddr) (k : SlotNo)
  /-- SEQ_RESERVE_DONE (R111). An append's reservation arrives at the slot, receives its index range and advances RESERVED. -/
  | seqReserveDone (c : UnitAddr) (k : SlotNo)
  /-- SEQ_ENTRIES_VISIBLE (R111). An append's entries become visible, or are released, and VALID advances where possible. -/
  | seqEntriesVisible (slot : BitVec 8) (first : BitVec 24) (errs : List MemErr)
  /-- SEQ_QUERY (R154). SEQ_QUERY writes 16 bytes describing a slot. -/
  | seqQuery (c : UnitAddr) (k : SlotNo)
  /-- PUBLISH (R155). PUBLISH updates progress or result bytes of the submission's status record. -/
  | publish (c : UnitAddr) (k : SlotNo)
  /-- PUT_OPEN (R265). A PUT_OPEN message asks the peer to validate a range and the sender. -/
  | putOpen (m : FabMsg)
  /-- PUT_DATA (R265). A PUT_DATA message carries data of an accepted PUT to be written. -/
  | putData (m : FabMsg)
  /-- GET_REQ (R265). A GET_REQ message asks the peer for a range. -/
  | getReq (m : FabMsg) (errs : List MemErr)
  /-- GET_DATA (R265). A GET_DATA message carries data of a GET to be written locally. -/
  | getData (m : FabMsg)
  /-- ACCEPT (R265). An ACCEPT message reports the remote range validated. -/
  | msgAccept (m : FabMsg) (errs : List MemErr)
  /-- REFUSE (R265). A REFUSE message ends a transfer with the peer's status code. -/
  | msgRefuse (m : FabMsg)
  /-- DONE (R265). A DONE message reports all bytes visible at the peer, after any remote tally ADD. -/
  | msgDone (m : FabMsg)
  /-- PAGE_READ (R265). A PAGE_READ message asks the lender for remote-page data. -/
  | pageRead (m : FabMsg) (errs : List MemErr)
  /-- PAGE_WRITE (R265). A PAGE_WRITE message writes data to a remote page at the lender. -/
  | pageWrite (m : FabMsg)
  /-- PAGE_DATA (R265). A PAGE_DATA message returns remote-page data to the borrower. -/
  | pageData (m : FabMsg)
  /-- ABORT (R265). An ABORT message makes the receiver discard a transfer's state. -/
  | msgAbort (m : FabMsg)
  /-- TRANSFER_NO_PROGRESS (R138). A transfer without progress for 100 ms completes with LINK_DOWN. -/
  | transferNoProgress (id : Nat)
  /-- GUEST_EXPOSURE (R166). A partner receives a guest request and loads, exposes and restores the missing tray's plane. -/
  | guestExposure (u : UnitAddr)
  /-- PARTNER_REPORT (R166). The partner's guest exposure finishes and its proof outcome is reported. -/
  | partnerReport (u : UnitAddr) (x : Nat)
  /-- PARTNER_TIMEOUT (R166). A partner that has not reported within 10 µs is recorded as skipped. -/
  | partnerTimeout (u : UnitAddr) (x : Nat)
  /-- REFEREE_REPORT (R168). The first referee reports its exact result and the verdict is taken or a second referee started. `err` is what a faulty
  cluster adds to its 32 exact sums, or nothing. -/
  | refereeReport (u : UnitAddr) (x : Nat) (err : List Int)
  /-- SECOND_REFEREE_REPORT (R169). The second referee reports and the vote among checker and referees settles the exposure. `err` as for REFEREE_REPORT. -/
  | secondRefereeReport (u : UnitAddr) (x : Nat) (err : List Int)
  /-- EPOCH_END (R161). A proof epoch's count of exposures ends and the next sign pattern comes into force. -/
  | epochEnd (u : UnitAddr)
  /-- RATE_INTERVAL_END (R178). An interval of 2^24 exposures ends and the first-attempt miss count restarts. -/
  | rateIntervalEnd (u : UnitAddr)
  /-- SCORE_DECAY (R178). A suspect score decays, withdrawing ladder actions below their hysteresis and returning to 0 below 1. -/
  | scoreDecay (u : UnitAddr) (sec : BitVec 16)
  /-- SPARE_RESTORE_DONE (R177). The spare tray finishes restoring the moved state and accesses to the logical tray resume. -/
  | spareRestoreDone (u : UnitAddr) (lost : List (BitVec 16))
  /-- RESEED (R162). A write of PROOF_CTL.RESEED draws and broadcasts new proof seeds. -/
  | reseed (p : Path)
  /-- RELEARN (R171). A write of PROOF_CTL.RELEARN restarts monitor learning on every tray. -/
  | relearn (p : Path)
  /-- SCRUB_READ (R193). The scrubber reads a sector and corrects and writes it back as needed. -/
  | scrubRead (site : BitVec 4) (sector : BitVec 31) (bad : List (Fin 36))
  /-- DIE_ERASE (R191). A die whose error count or retraining failures pass the limit is declared erased. -/
  | dieErase (site : BitVec 4) (die : Fin 36)
  /-- RETRAIN_START (R194). A die due by age, temperature or corrections opens a retraining window and holds accesses that need it. -/
  | retrainStart (site : BitVec 4) (die : Fin 36)
  /-- RETRAIN_END (R194). A retraining window closes and held writes and reads are served. -/
  | retrainEnd (site : BitVec 4) (us : BitVec 8)
  /-- CTX_CREATE (R201). CREATE takes the lowest FREE context for a partition. -/
  | ctxCreate (p : Path) (pid : Pid)
  /-- CTX_DESTROY (R201). DESTROY resets a context, releases its regions and returns it to FREE. -/
  | ctxDestroy (p : Path)
  /-- CTX_FENCE (R201). FENCE moves an ACTIVE context to FENCED. -/
  | ctxFence (p : Path)
  /-- CTX_UNFENCE (R201). UNFENCE returns a FENCED context to ACTIVE. -/
  | ctxUnfence (p : Path)
  /-- CTX_RESET (R201). RESET absorbs a context's threads and descriptors and closes its slots. -/
  | ctxReset (p : Path)
  /-- CTX_RESET_DONE (R201). A context reset completes and the context returns to ACTIVE or FENCED. -/
  | ctxResetDone (c : CtxNo)
  /-- CTX_DESTROY_DONE (R201). A DESTROY completes and the context is FREE. -/
  | ctxDestroyDone (c : CtxNo)
  /-- REGION_ALLOCATE (R198). ALLOCATE judges and places a new region of the context. -/
  | regionAllocate (p : Path) (v : Word)
  /-- REGION_ALLOCATE_DONE (R197). An allocation's pages are zeroed and mapped and the region becomes MAPPED. -/
  | regionAllocateDone (c : CtxNo) (r : BitVec 6)
  /-- REGION_RELEASE (R199). RELEASE starts freeing a region once descriptors in flight allow. -/
  | regionRelease (p : Path) (v : Word)
  /-- REGION_RELEASE_DONE (R130). A waiting release unmaps and frees the region's pages. -/
  | regionReleaseDone (c : CtxNo) (r : BitVec 6)
  /-- REGION_QUERY (R199). QUERY loads a region's state, base, size and remote pages. -/
  | regionQuery (p : Path) (v : Word)
  /-- CTX_TBGRANT_WRITE (R202). A write of CTX_TBGRANT changes the tray-buffer grant or is refused with event 0x0806. -/
  | ctxTbgrantWrite (p : Path) (v : Word)
  /-- LENDER_LOST (R200). No circuit to the lender for 100 ms, or a lender reset, makes regions with remote pages LOST. -/
  | lenderLost (node : Node)
  /-- POWER_SAMPLE (R205). The input power is sampled every 100 µs and averaged over 1 ms. -/
  | powerSample (watts vinA vinB : BitVec 12) (holdup : BitVec 8)
  /-- POWER_CAP_STEP (R205). With the average over the limit, the next power-cap step is taken at most once per ms. -/
  | powerCapStep
  /-- POWER_CAP_WITHDRAW (R205). With the average below 95 % of the limit, one step is withdrawn per 100 ms. -/
  | powerCapWithdraw
  /-- RDMA_WRITE (R215). A host RDMA WRITE packet is judged and placed in order, and acknowledged once visible. -/
  | rdmaWrite (h : RoceHead) (pkt : WritePkt) (rkey : Word) (va : BitVec 64) (data : List Byte) (errs : List MemErr)
  /-- RDMA_READ (R214). A host RDMA READ request is judged and answered from the named space. `mid` are the records of the context that the
  READ meets within their last rewrite: past its first write, or past its second too (R224). -/
  | rdmaRead (h : RoceHead) (rkey : Word) (va : BitVec 64) (len : BitVec 32) (errs : List MemErr) (mid : List (BitVec 16 × Bool))
  /-- CNP_RECEIVED (R211). A received CNP cuts the queue pair's send rate. -/
  | cnpReceived (qp : BitVec 13)
  /-- DCQCN_RATE_TIMER (R211). RATE_TIMER expiry runs one recovery or increase of a cut rate. -/
  | dcqcnRateTimer (qp : BitVec 13)
  /-- DCQCN_BYTE_COUNTER (R211). BYTE_COUNTER expiry runs one recovery or increase of a cut rate. -/
  | dcqcnByteCounter (qp : BitVec 13)
  /-- PFC_FRAME (R211). A received PFC frame for the configured priority pauses or resumes the port. -/
  | pfcFrame (port : BitVec 1) (prio : BitVec 3) (pause : Bool)
  /-- ACK_TIMEOUT (R210). An unacknowledged mirror write or response times out and is retransmitted go-back-N. -/
  | ackTimeout (qp : BitVec 13)
  /-- MIRROR_ACK (R210). An ACK for a mirror write is received and releases it. -/
  | mirrorAck (qp : BitVec 13)
  /-- MIRROR_NAK (R226). A NAK for a mirror write moves the queue pair to ERROR and sets mirror MODE to 0. -/
  | mirrorNak (qp : BitVec 13)
  /-- ARP_REQUEST (R209). An ARP request for the port's address is answered. -/
  | arpRequest (port : BitVec 1) (ip : BitVec 32) (tagged : Bool)
  /-- NEIGHBOUR_SOLICITATION (R209). An IPv6 neighbour solicitation for the port's address is answered. -/
  | neighbourSolicitation (port : EthPort) (ip : BitVec 128) (tagged : Bool)
  /-- ICMP_ECHO (R209). An ICMP or ICMPv6 echo request is answered. -/
  | icmpEcho (port : EthPort) (v6 : Bool) (ip : BitVec 128) (tagged : Bool)
  /-- FRAME_DROPPED (R209). Any other frame is dropped and counted in PORT_RX_DROP. -/
  | frameDropped (port : EthPort) (why : DropReason)
  /-- HOST_LINK_CHANGE (R227). A host port link goes up or down and records event 0x0A06. -/
  | hostLinkChange (port : BitVec 1) (up : Bool)
  /-- QP_CONNECT (R212). QP_CMD CONNECT moves a configured queue pair from RESET to RTS. -/
  | qpConnect (p : Path)
  /-- QP_RESET (R212). QP_CMD RESET returns a queue pair to RESET from any state. -/
  | qpReset (p : Path)
  /-- AUTH_GO (R216). A write of GO on the authentication page starts verification of the owner signature. -/
  | authGo (a : BitVec 4)
  /-- AUTH_VERIFY_DONE (R216). Verification ends, the admin queue pair is authenticated or refused and a new nonce drawn. -/
  | authVerifyDone (a : BitVec 4)
  /-- AUTH_LOCKOUT_END (R216). 60 s after AUTH_LIMIT a CONNECT of the admin queue pair is accepted again. -/
  | authLockoutEnd (a : BitVec 4)
  /-- RING_ENABLE (R219). A write of CTX_RING_CFG.EN = 1 checks the ring and sets its consumer index. -/
  | ringEnable (p : Path) (r : BitVec 2) (v : Word)
  /-- RING_DISABLE (R219). A write of EN = 0 stops the ring after the visit in progress. -/
  | ringDisable (p : Path) (r : BitVec 2) (v : Word)
  /-- RING_SCAN (R220). The scanner visits an enabled ring and takes up to 64 new entries. -/
  | ringScan (c : CtxNo) (r : BitVec 2)
  /-- RING_IDLE (R220). A ring whose PRODUCER is unchanged for 1 ms becomes idle. -/
  | ringIdle (c : CtxNo) (r : BitVec 2)
  /-- RING_NOP (R221). A NOP ring entry does nothing. -/
  | ringNop (c : CtxNo) (r : BitVec 2)
  /-- RING_START (R221). A START ring entry writes its record QUEUED and becomes a start request. -/
  | ringStart (c : CtxNo) (r : BitVec 2)
  /-- RING_RELEASE (R221). A RELEASE ring entry writes its record FREE. -/
  | ringRelease (c : CtxNo) (r : BitVec 2)
  /-- STATUS_REGION_CONFIG (R227). A write of CTX_STATUS_BASE or CTX_STATUS_CFG configures and zeroes the records, or is ignored. -/
  | statusRegionConfig (p : Path) (v : Word)
  /-- LASER_FAIL (R232). A failed compute laser puts the tray in a SUBSTITUTION hold and starts the group's spare. -/
  | laserFail (u : UnitAddr) (laser : Fin 36)
  /-- COMB_FAIL (R235). A failed comb starts its quadrant's spare or leaves the pool. -/
  | combFail (comb : Fin 56)
  /-- COMB_SPARE_LOCKED (R235). The spare comb locks and the failed comb's lines move to it. -/
  | combSpareLocked (q : BitVec 2)
  /-- REF_ACCEPTED (R236). A grid reference within power and frequency limits is accepted and ACQUIRING begins. -/
  | refAccepted (power offset : BitVec 8)
  /-- REF_LOST (R236). Loss of the grid reference enters HOLDOVER and records event 0x0708. -/
  | refLost
  /-- REF_LOCKED (R236). The combs come within ±0.2 GHz of the reference and the state is LOCKED. -/
  | refLocked (offset : BitVec 8)
  /-- CARRIER_REFUSED (R237). A receive carrier offset past ±10 GHz refuses the channel. -/
  | carrierRefused (x : PortNo) (k : ChanNo) (offset : BitVec 8)
  /-- CARRIER_READMITTED (R237). A refused channel's offset returns within ±8 GHz and it is admitted again. -/
  | carrierReadmitted (x : PortNo) (k : ChanNo) (offset : BitVec 8)
  /-- RING_LOCK_TIMEOUT (R241). A ring not locked within 2.7 ms is retried, or after three attempts is FAILED. -/
  | ringLockTimeout (r : RingId)
  /-- RING_LOCKED (R240). A ring's dither loop locks during acquisition. -/
  | ringLocked (r : RingId) (heater : BitVec 12) (pn : BitVec 10)
  /-- TAG_CHECK_DUE (R242). A scheduled or post-acquisition tag check starts its 100 µs integration. -/
  | tagCheckDue (t : TagUnit)
  /-- TAG_CHECK_DONE (R242). A tag check judges every ring as good, MISLOCK or DARK. -/
  | tagCheckDone (t : TagUnit) (bad : List (BitVec 11 × TagFault))
  /-- SENSOR_SAMPLE (R245). The junction sensors are sampled and feedforward and slew are updated. -/
  | sensorSample (t : TagUnit) (temps : List (BitVec 16))
  /-- TEMP_SETTLED (R246). After 200 µs of slew ≤ 0.5 K an interim set is staged and rings re-acquire. -/
  | tempSettled (u : UnitAddr)
  /-- CAL_AGE_DUE (R249). A set reaching its age or temperature threshold requests a strip or raises STALE. -/
  | calAgeDue (t : TagUnit)
  /-- STRIP_SLICE (R251). A strip slice runs at a run boundary and restores the user planes at its end. -/
  | stripSlice (u : UnitAddr) (beats : BitVec 32)
  /-- STRIP_END (R250). A strip finishes all its parts in both modes. -/
  | stripEnd (u : UnitAddr) (f : StripFigures)
  /-- CAL_SET_STAGE (R252). The site controller stages a measured or interim set for adoption. -/
  | calSetStage (t : TagUnit)
  /-- RELOCK_ALL (R258). LIGHT_CTL.RELOCK_ALL puts every READY tray in a RELOCK hold. -/
  | relockAll (p : Path)
  /-- STRIP_ALL (R258). LIGHT_CTL.STRIP_ALL makes a priority-5 strip request on every tray. -/
  | stripAll (p : Path)
  /-- RELOCK (R259). LK_CTL.RELOCK puts the tray in a RELOCK hold with re-acquisition. -/
  | relock (p : Path)
  /-- STRIP (R259). LK_CTL.STRIP makes a priority-5 strip request for the tray. -/
  | strip (p : Path)
  /-- LIGHT_CAL_WRITE (R256). A write of CAL_DELTA or CAL_MAX_AGE re-evaluates strip triggers and STALE at once. -/
  | lightCalWrite (p : Path) (v : Word)
  /-- LK_SLEW_READ (R259). A read of LK_SLEW returns PEAK and clears it. -/
  | lkSlewRead (p : Path)
  /-- FLIT_IDLE (R264). An IDLE flit delivers its acknowledgement and credit return. -/
  | flitIdle (x : PortNo) (k : ChanNo) (f : Flit)
  /-- FLIT_DATA (R268). A DATA flit is checked, delivered in LSEQ order or forwarded, with its acknowledgement and credit. -/
  | flitData (x : PortNo) (k : ChanNo) (f : Flit)
  /-- FLIT_NAK (R267). A NAK flit makes the sender resend from the named CSEQ. -/
  | flitNak (x : PortNo) (k : ChanNo) (f : Flit)
  /-- CHANNEL_GROW (R271). A backlog above 256 KiB for 50 µs requests one more transmit channel. -/
  | channelGrow (l : BitVec 6) (x : PortNo)
  /-- CHANNEL_SHRINK (R271). A link below 25 % of its rate for 10 ms releases a channel above MIN. -/
  | channelShrink (l : BitVec 6) (x : PortNo) (k : ChanNo)
  /-- LINE_GRANT (R272). A freed line goes to the highest-priority oldest waiting request. -/
  | lineGrant (q : BitVec 2)
  /-- LINE_WAIT (R272). A line request waiting 10 ms records event 0x0607. -/
  | lineWait (x : PortNo)
  /-- CHANNEL_LOCKED (R276). A channel's ring locks with a good tag and training starts. -/
  | channelLocked (x : PortNo) (k : ChanNo) (rx : Bool) (offset : BitVec 8)
  /-- SHORT_CHECK_DONE (R277). Training's short check ends and the channel goes UP, retrains or fails. -/
  | shortCheckDone (x : PortNo) (k : ChanNo) (rx : Bool) (errors : BitVec 32)
  /-- BER_WINDOW_10MS (R278). A 10 ms window with pre-FEC BER above 2.4 × 10⁻⁴ retrains the channel. -/
  | berWindow10ms (x : PortNo) (k : ChanNo) (bits errs : BitVec 64)
  /-- BER_WINDOW_1S (R281). A 1 s window sets or clears DEGRADED and updates NLOG. -/
  | berWindow1s (x : PortNo) (k : ChanNo) (bits errs : BitVec 64) (height width : BitVec 16)
  /-- UNCORRECTABLE_BURST (R278). 16 uncorrectable codewords within 1 ms retrain the channel. -/
  | uncorrectableBurst (x : PortNo) (k : ChanNo) (n : BitVec 16)
  /-- FEC_ALIGNMENT_LOSS (R278). Loss of FEC alignment retrains the channel. -/
  | fecAlignmentLoss (x : PortNo) (k : ChanNo)
  /-- READY_CRITERION_BITS (R280). A channel reaching 10¹¹ bits meets the ready criterion or is retrained. -/
  | readyCriterionBits (x : PortNo) (k : ChanNo)
  /-- CHANNEL_FAILED_RETRY (R276). 60 s after FAILED, a channel with its line and a LINKED port tries again. -/
  | channelFailedRetry (x : PortNo) (k : ChanNo) (rx : Bool)
  /-- ALS_DARK (R283). Input dark for 500 µs puts the port in SHUTDOWN and closes its shutter. -/
  | alsDark (port : PortNo)
  /-- ALS_LINE_RELEASE (R283). After 1 s of SHUTDOWN the joined transceiver's lines are released. -/
  | alsLineRelease (port : PortNo)
  /-- ALS_PROBE_TIMER (R284). Every 100 s a SHUTDOWN port probes for 2 ms. -/
  | alsProbeTimer (port : PortNo)
  /-- PROBE (R284). A write of FP_CTL.PROBE probes a SHUTDOWN port at once. -/
  | probe (p : Path) (port : PortNo)
  /-- PROBE_END (R284). A probe without light ends after 2 ms and the shutter closes again. -/
  | probeEnd (port : PortNo)
  /-- ALS_RESTORED (R284). Input light for 100 µs takes the port out of SHUTDOWN to DISCOVERING. -/
  | alsRestored (port : PortNo) (power : BitVec 16)
  /-- STEER_SWITCH_GO (R297). A write of STEER_SWITCH.GO starts a switch as coordinator or refuses it. -/
  | steerSwitchGo (p : Path) (slot : BitVec 2)
  /-- PREPARE (R297). A PREPARE frame asks a participant to answer READY or REFUSE for the target plan. -/
  | prepare (h : SlHead) (id : Word) (t : DevTime) (planId : Word) (digest : BitVec 384)
  /-- READY (R297). A READY frame counts a participant ready for the switch. -/
  | slReady (h : SlHead) (id : Word)
  /-- REFUSE_FRAME (R297). A REFUSE frame records a participant's refusal and code. -/
  | refuseFrame (h : SlHead) (id : Word) (code : Code)
  /-- COMMIT (R298). A COMMIT frame commits the participant and arms its trigger for T. -/
  | commit (h : SlHead) (id : Word)
  /-- ABORT_FRAME (R298). An ABORT frame ends the switch ABORTED at a participant. -/
  | abortFrame (h : SlHead) (id : Word) (code : Code)
  /-- COMMIT_ACK (R298). A COMMIT_ACK frame stops COMMIT repeats to that participant. -/
  | commitAck (h : SlHead) (id : Word)
  /-- OUTCOME (R309). An OUTCOME frame reports a participant's result to the coordinator. -/
  | outcomeFrame (h : SlHead) (id : Word) (code : Code) (resume : BitVec 16)
  /-- PREPARE_RESEND (R298). Every 2 ms PREPARE is repeated to participants that have not answered. -/
  | prepareResend
  /-- READY_DEADLINE (R298). At T − 8 ms the coordinator broadcasts COMMIT or ABORT. -/
  | readyDeadline
  /-- COMMIT_RESEND (R298). Every 1 ms COMMIT is repeated to participants that have not acknowledged. -/
  | commitResend
  /-- QUIESCE_START (R298). At T − QUIESCE − GUARD changing links stop admitting DATA flits. -/
  | quiesceStart
  /-- QUIESCE_END (R298). At T − GUARD quiesce ends with unacknowledged flits kept. -/
  | quiesceEnd
  /-- SWITCH_T (R298). At T the steering trigger closes changed shutters, moves elements and makes the target plan ACTIVE. -/
  | switchT
  /-- ELEMENTS_LATCHED (R298). At T + 1.2 ms elements are latched and shutters open. -/
  | elementsLatched
  /-- LIGHT_VERIFY (R298). At T + 1.5 ms light and tags are verified on changed connections. -/
  | lightVerify (badPorts : List PortNo)
  /-- TRAFFIC_RESUME (R298). Credits are re-advertised and replay stores resent, and traffic resumes on changed links. -/
  | trafficResume
  /-- COMMIT_MISSING (R301). A participant with PREPARE but no COMMIT at T − 2 ms does not move and reports itself. -/
  | commitMissing
  /-- ELEMENT_SETTLE_TIMEOUT (R296). An element unlatched 1.2 ms after drive is driven again, or after the second timeout is FAILED. -/
  | elementSettleTimeout (inp outp : BitVec 7)
  /-- HOT_SWAP_LATCH_RELEASE (R291). Release of the hot-swap latch drives the matrix to bypass. -/
  | hotSwapLatchRelease
  /-- HOT_SWAP_LATCH_CLOSE (R291). Closing the hot-swap latch lets S7, RESTORE or a plan switch leave bypass. -/
  | hotSwapLatchClose
  /-- BYPASS (R291). STEER_CTL.BYPASS drives the matrix to bypass. -/
  | bypass (p : Path)
  /-- RESTORE (R312). STEER_CTL.RESTORE returns the matrix to the active plan's connections. -/
  | restore (p : Path)
  /-- STEER_ABORT (R315). STEER_CTL.ABORT broadcasts ABORT if COMMIT has not been sent. -/
  | steerAbort (p : Path)
  /-- BYPASS_LATCHED (R291). The sequencer finishes latching the bypass state and records event 0x0503. -/
  | bypassLatched
  /-- GOV_COPY (R303). A receiver judges a governor message copy and accepts, discards or detects a split. -/
  | govCopy (g : GovMsg)
  /-- GOV_SECOND_COPY_TIMEOUT (R304). No second copy within 50 µs inside the module raises GOVERNOR_SPLIT. -/
  | govSecondCopyTimeout (r : GovReceiver) (seq : Word)
  /-- GOV_SELFCHECK_DONE (R305). Governor self-check ends and a governor is dropped or the split is held. -/
  | govSelfcheckDone (okA okB : Bool)
  /-- SWAP (R306). GOV_CMD SWAP asks the governor roles to exchange. -/
  | govSwap (p : Path)
  /-- GOV_ROLE_SWAPPED (R306). The governor roles exchange at a message boundary. -/
  | govRoleSwapped
  /-- RESYNC (R306). GOV_CMD RESYNC reboots the dropped governor to rejoin lockstep. -/
  | resync (p : Path)
  /-- RESYNC_DONE (R306). The rebooted governor rejoins lockstep and simplex ends. -/
  | resyncDone
  /-- KEEP_A (R306). GOV_CMD KEEP_A drops GOV B and runs GOV A simplex. -/
  | keepA (p : Path)
  /-- KEEP_B (R306). GOV_CMD KEEP_B drops GOV A and runs GOV B simplex. -/
  | keepB (p : Path)
  /-- SPLIT_REPORT (R304). A SPLIT_REPORT frame from a remote receiver is treated as a local split. -/
  | splitReport (h : SlHead) (seq : Word) (epoch : BitVec 16)
  /-- DISCOVERY (R326). A DISCOVERY frame is judged against the planned neighbour of its port. -/
  | discovery (h : SlHead) (d : Disc)
  /-- LINK (R309). A LINK frame carries a line notice or equaliser agreement for training. -/
  | slLink (h : SlHead) (x : PortNo) (k : ChanNo) (n : LinkNote)
  /-- TIME_MARKER (R370). A TIME_MARKER frame is stamped and may update TIME_MARK_SKEW. -/
  | timeMarker (h : SlHead) (m : Marker)
  /-- HEALTH_RELAY (R403). A HEALTH_RELAY frame carries a relayed notice or its acknowledgement. -/
  | healthRelay (h : SlHead) (m : RelayMsg)
  /-- DISCOVERY_SEND (R325). Every 10 ms each port sends a DISCOVERY frame. -/
  | discoverySend (port : PortNo)
  /-- DISCOVERY_SILENCE (R326). No valid frame for 50 ms makes the port's outcome MISSING. -/
  | discoverySilence (port : PortNo)
  /-- PLAN_LOAD (R324). PLAN_LOAD OP LOAD starts validating the staged plan into a slot. -/
  | planLoad (p : Path) (slot : BitVec 2)
  /-- PLAN_LOAD_DONE (R324). Validation and writing end and the slot is STAGED or the load rejected. -/
  | planLoadDone
  /-- PLAN_ERASE (R323). PLAN_LOAD OP ERASE empties a STAGED slot. -/
  | planErase (p : Path) (slot : BitVec 2)
  /-- PLAN_MARK_REWRITE (R323). The flash mark naming the ACTIVE slot is rewritten after T. -/
  | planMarkRewrite
  /-- PLAN_ACCEPT (R329). PLAN_ACCEPT.GO adopts an unplanned member neighbour or is refused. -/
  | planAccept (p : Path) (port : PortNo)
  /-- SPARE_OFFER (R330). A neighbour missing for 1 s with a staged substitution is offered. -/
  | spareOffer (node : Node)
  /-- POWER_UP (R345). Input power on a connector starts the boot at S0. -/
  | powerUp (vinA vinB : BitVec 12)
  /-- STAGE_POWER (R345). S0 starts supplies and the crystal with the matrix in bypass. -/
  | stagePower
  /-- STAGE_IMAGE (R342). S1 chooses the boot header and reads and checks the configuration image. -/
  | stageImage
  /-- STAGE_GOVERN (R345). S2 boots the governors into lockstep and starts management, PTP and safelight relay. -/
  | stageGovern (okA okB h4Ok : Bool)
  /-- STAGE_SITES (R346). S3 powers the present sites in turn and boots their controllers. -/
  | stageSites
  /-- STAGE_MEMORY (R348). S4 trains and zeroes every site's memory. -/
  | stageMemory (failed : List (BitVec 4 × Fin 36))
  /-- STAGE_LIGHT (R349). S5 ramps lasers, starts combs and locks rings. -/
  | stageLight
  /-- STAGE_TRAYS (R350). S6 broadcasts tables and starts enabled trays and clusters. -/
  | stageTrays
  /-- STAGE_FABRIC (R351). S7 makes the plan active, releases the matrix and judges links. -/
  | stageFabric
  /-- STAGE_HOST (R345). S8 configures host ports and image admin queue pairs. -/
  | stageHost
  /-- STAGE_READY (R345). S9 records MODULE_READY and starts ring scanning. -/
  | stageReady
  /-- RECORD_WRITE (R339). A WRITE stage record writes VALUE to ADDR. -/
  | recordWrite
  /-- RECORD_MODIFY (R339). A MODIFY stage record reads ADDR and writes the masked value. -/
  | recordModify
  /-- RECORD_POLL (R339). A POLL stage record reads ADDR until the masked value matches. -/
  | recordPoll
  /-- RECORD_POLL_TIMEOUT (R340). A POLL that does not match within TIMEOUT_MS halts the stage. -/
  | recordPollTimeout
  /-- RECORD_DELAY (R339). A DELAY stage record starts a wait of VALUE µs. -/
  | recordDelay
  /-- RECORD_DELAY_END (R339). A DELAY ends and the next record runs. -/
  | recordDelayEnd
  /-- MOD_STAGE_GO (R344). A write of MOD_STAGE_GO runs the next or halted stage in STEPPED mode, or is refused. -/
  | modStageGo (p : Path) (v : Word)
  /-- MOD_RESET (R358). A confirmed MOD_RESET restarts the boot from S0. -/
  | modReset (p : Path) (v : Word)
  /-- S7_TIMEOUT (R351). S7 reaching S7_MAX releases unready channels' lines and completes. -/
  | s7Timeout
  /-- SITE_POWER_ON (R346). At 2k ms into S3 site k is powered with soft-start. -/
  | sitePowerOn (site : BitVec 4)
  /-- SITE_REPORT_TIMEOUT (R346). A site controller not reporting within 500 ms makes the site FAILED. -/
  | siteReportTimeout (site : BitVec 4)
  /-- BAY_LASER_START (R349). At n × 200 µs into S5 the laser bank of bay n ramps. -/
  | bayLaserStart (n : BitVec 7)
  /-- TABLE_CRC_RETURN (R353). A recipient's returned CRC is compared and a repair sent on mismatch. -/
  | tableCrcReturn (u : UnitAddr) (t : TableNo) (crcOk : Bool)
  /-- TABLE_CRC_TIMEOUT (R353). No CRC within 1 ms triggers a repair, or after three leaves the unit out. -/
  | tableCrcTimeout (u : UnitAddr) (t : TableNo)
  /-- RESET_STOP_DONE (R355). A reset's stop phase ends, the level is cleared and its units go to STARTING. -/
  | resetStopDone (r : ResetTarget)
  /-- ENDPOINT_DRAIN_TIMEOUT (R357). A partition's endpoints not drained after 10 ms are discarded with event 0x0B08. -/
  | endpointDrainTimeout (pid : Pid)
  /-- PTP_ANNOUNCE (R364). An Announce message enters master selection. -/
  | ptpAnnounce (m : PtpMaster) (utc : BitVec 16)
  /-- PTP_SYNC (R365). A Sync message forms a raw offset and drives the servo and clock state. -/
  | ptpSync (clock : BitVec 64) (seq : BitVec 16) (rx origin : DevTime) (twoStep : Bool)
  /-- PTP_FOLLOW_UP (R365). A Follow_Up supplies the origin time of a two-step Sync. -/
  | ptpFollowUp (clock : BitVec 64) (seq : BitVec 16) (origin : DevTime)
  /-- PTP_DELAY_RESP (R365). A Delay_Resp updates the mean path delay. -/
  | ptpDelayResp (clock : BitVec 64) (seq : BitVec 16) (t4 : DevTime)
  /-- DELAY_REQ_SEND (R364). A Delay_Req is sent at the master's interval. -/
  | delayReqSend
  /-- ANNOUNCE_TIMEOUT (R365). Announce receipt timeout or no Sync moves the clock to HOLDOVER. -/
  | announceTimeout
  /-- TX_STAMP (R367). A transmit stamp enters the queue, or is dropped when it is full. -/
  | txStamp (marker : Bool) (id : BitVec 16) (t : DevTime)
  /-- FORCE_STEP (R366). TIME_CTL.FORCE_STEP applies the next filtered offset as a step. -/
  | forceStep (p : Path)
  /-- TIME_SET (R366). TIME_CTL.SET steps device time to TIME_SET. -/
  | timeSet (p : Path)
  /-- HELD_STEP_APPLY (R366). A step held for a switch is applied when the switch ends. -/
  | heldStepApply
  /-- TT_ARM (R368). TT_CFG.ARM arms a trigger, or makes it LATE if its time is past. -/
  | ttArm (p : Path) (n : BitVec 3)
  /-- TT_CANCEL (R368). TT_CFG.CANCEL returns a trigger to IDLE. -/
  | ttCancel (p : Path) (n : BitVec 3)
  /-- TRIGGER_STRIP (R368). A STRIP trigger fires and requests a strip on every READY tray. -/
  | triggerStrip (n : BitVec 3)
  /-- TRIGGER_SNAPSHOT (R368). A SNAPSHOT trigger fires and records event 0x0308 with its list. -/
  | triggerSnapshot (n : BitVec 3)
  /-- TRIGGER_MARKER (R368). A MARKER trigger fires and sends a TIME_MARKER frame. -/
  | triggerMarker (n : BitVec 3)
  /-- FW_OPEN (R379). FW_DL OPEN starts or resumes a download into the non-active slot. -/
  | fwOpen (p : Path) (config : Bool)
  /-- FW_ERASE (R379). FW_DL ERASE empties a slot that is neither active nor rollback target. -/
  | fwErase (p : Path) (config : Bool)
  /-- SLOT_VERIFY_DONE (R379). Read-back of a received slot ends VERIFIED or INVALID. -/
  | slotVerifyDone (slot : BitVec 2) (ok : Bool)
  /-- ACTIVATE_HITLESS (R381). ACTIVATE_HITLESS puts the new firmware on trial and starts the hitless update. -/
  | activateHitless (p : Path)
  /-- HITLESS_GOVERNOR_BOOTED (R384). A governor finishes booting the new image during a hitless update and the next step follows. -/
  | hitlessGovernorBooted
  /-- HITLESS_SITE_RESTARTED (R384). A site controller restarts from the new image and its units leave HELD. -/
  | hitlessSiteRestarted
  /-- ACTIVATE_RESET (R381). ACTIVATE_RESET puts the new image on trial and resets the module. -/
  | activateReset (p : Path)
  /-- SELECT_CONFIG (R381). SELECT_CONFIG names the other configuration slot for the next reset. -/
  | selectConfig (p : Path)
  /-- CONFIRM (R381). CONFIRM ends the trial of the running image. -/
  | confirm (p : Path)
  /-- ROLLBACK (R381). ROLLBACK returns to the previous slot and resets the module. -/
  | rollback (p : Path)
  /-- SAVE (R387). SAVE writes the current settings to the bank not in use. -/
  | save (p : Path)
  /-- SETTINGS_CONVERT (R388). FW_SETTINGS_ADOPT CONVERT translates a foreign bank. -/
  | settingsConvert (p : Path)
  /-- SETTINGS_EMPTY (R388). FW_SETTINGS_ADOPT EMPTY writes an empty bank. -/
  | settingsEmpty (p : Path)
  /-- FW_LOCK_WRITE (R394). A write of FW_LOCK sets OWNER_LOCK or raises MIN_SVN. -/
  | fwLockWrite (p : Path) (v : Word)
  /-- KEY_INSTALL (R389). A KEY request installs an owner key. -/
  | keyInstall (h : HmpHead) (idx : BitVec 2) (key sig : BitVec 768)
  /-- KEY_REMOVE (R389). A KEY request removes an owner key other than the last. -/
  | keyRemove (h : HmpHead) (idx : BitVec 2) (sig : BitVec 768)
  /-- FW_ATTEST (R391). FW_ATTEST.GO starts an attestation report over the nonce. -/
  | fwAttest (p : Path)
  /-- ATTEST_REPORT_DONE (R391). The signed report is in FW_REPORT and event 0x040B recorded. -/
  | attestReportDone
  /-- OPEN (R397). An HMP OPEN opens a session and returns a nonce. -/
  | hmpOpen (h : HmpHead)
  /-- AUTH (R397). An HMP AUTH submits an owner signature for the session. -/
  | hmpAuth (h : HmpHead) (keyIdx : BitVec 8) (sig : BitVec 768)
  /-- HMP_AUTH_VERIFIED (R398). Session authentication is accepted or refused. -/
  | hmpAuthVerified (n : BitVec 2)
  /-- CLOSE (R397). An HMP CLOSE ends the session. -/
  | hmpClose (h : HmpHead)
  /-- KEEPALIVE (R397). An HMP KEEPALIVE only keeps the session. -/
  | keepalive (h : HmpHead)
  /-- CSR_READ (R397). An HMP CSR_READ reads whole registers. -/
  | csrRead (h : HmpHead) (a : CsrAddr) (n : BitVec 8)
  /-- CSR_WRITE (R397). An HMP CSR_WRITE writes whole registers. -/
  | csrWrite (h : HmpHead) (a : CsrAddr) (vs : List Word)
  /-- XFER_OPEN (R397). An HMP XFER_OPEN opens the session's transfer. -/
  | xferOpen (h : HmpHead) (kind : BitVec 8) (size : Word)
  /-- XFER_DATA (R400). An HMP XFER_DATA adds a chunk and judges completed blocks. -/
  | xferData (h : HmpHead) (off : Word) (data : List Byte)
  /-- XFER_CLOSE (R400). An HMP XFER_CLOSE hands the transfer to its consumer. -/
  | xferClose (h : HmpHead)
  /-- CERT_READ (R397). An HMP CERT_READ returns part of the identity certificate. -/
  | certRead (h : HmpHead) (off : Word)
  /-- NOTICE_ACK (R402). A NOTICE_ACK acknowledges both copies of a notice. -/
  | noticeAck (node epoch : BitVec 16) (seq : Word)
  /-- SESSION_TIMEOUT (R398). A session idle for 60 s closes. -/
  | sessionTimeout (n : BitVec 2)
  /-- HMP_LOCKOUT_END (R398). 60 s after three refused AUTHs OPEN from that source is accepted again. -/
  | hmpLockoutEnd (ip : BitVec 128)
  /-- NOTICE_RESEND (R402). An unacknowledged notice is resent every 1 s and given up after 60 s. -/
  | noticeResend (seq : Word)
  /-- MGMT_LINK (R412). The MP link goes up or down and records event 0x010C. -/
  | mgmtLink (up : Bool)
  /-- RELAY_START (R403). MP down for 1 s or no station makes notices relay over safelight. -/
  | relayStart
  /-- TELEMETRY (R404). Every TELEMETRY_S seconds a TELEMETRY message is sent. -/
  | telemetry
  /-- BUCKET_REFILL (R407). Per-code token buckets refill at RATE in non-NORMAL modes. -/
  | bucketRefill
  /-- PERSIST (R408). CSHEET_CTL.PERSIST or a fatal event starts writing the last 1,024 records to flash. -/
  | persist (p : Path)
  /-- PERSIST_DONE (R408). The persist write completes with its CRC. -/
  | persistDone
  /-- CS_CLEAR (R410). A write of CS_CLEAR.UPTO invalidates live records and records 0x0109. -/
  | csClear (p : Path) (upto : Word)
  /-- INPUT_LOST (R415). A connector below 38 V for 50 µs is lost and the load moves or ride-through starts. -/
  | inputLost (connB : Bool)
  /-- INPUT_REGAINED (R415). A connector above 40 V for 10 ms is regained. -/
  | inputRegained (connB : Bool) (vin : BitVec 12)
  /-- POWER_FAIL_SIGNAL (R417). Ride-through expiry, bank at 15 J, withdrawal or trip sheds load, bypasses and persists. -/
  | powerFailSignal
  /-- CONTROL_OFF (R417). The control section switches off, and boots from S0 if an input is present. -/
  | controlOff
  /-- HOLDUP_DEGRADED (R418). HOLDUP below 90 % for 60 s while READY records event 0x0110. -/
  | holdupDegraded
  /-- COOLANT_ALARM (R420). Inlet or flow outside limits for 1 s records event 0x0111. -/
  | coolantAlarm
  /-- THERMAL_WITHDRAW (R420). With the hottest junction below 95 °C, one thermal step is withdrawn per 100 ms. -/
  | thermalWithdraw
  /-- THERMAL_TRIP (R420). A junction at 110 °C for 1 ms or flow below 0.5 L/min for 1 s trips and raises power-fail. -/
  | thermalTrip
  /-- SAFELIGHT_DOWN (R315). A port's safelight receiver loses its stream, SL_STATUS leaves UP and event 0x0508 is recorded, so frames stop being forwarded on that port. -/
  | safelightDown (port : PortNo)
  /-- SAFELIGHT_UP (R315). A port's safelight receiver gains sync on the 8b/10b stream and SL_STATUS goes through SYNC to UP, so the port forwards frames again. -/
  | safelightUp (port : PortNo)
  /-- GOV_WATCHDOG (R361). The governor watchdog expires and resets the module with MOD_RESET_CAUSE GOV_WATCHDOG, which R408 also treats as a fatal event for persistence. -/
  | govWatchdog
  /-- LINK_ADDRESS_RESOLVED (R209). An ARP reply or IPv6 neighbour advertisement arrives for the link address of a queue pair's peer or gateway, and the port uses it for that queue pair. -/
  | linkAddressResolved (qp : BitVec 13) (mac : BitVec 48)
  /-- TRIGGER_ACTION_NONE (R368). An armed trigger with ACTION NONE reaches its time and goes to FIRED, counting FIRES, or fires again each period. -/
  | triggerActionNone (n : BitVec 3)
deriving DecidableEq, Repr

end Sys2Proof
end

