-- ==== Sys2Proof/Config.lean ====
section
/-! DEFINITION. The values that the spec leaves open and that no proof can see: opaque functions with no
body, each applied to the free-value counter of the state or to the operands it depends on (log entry 1). -/

namespace Sys2Proof.Config

/-- The random error of a sample of an exposure but for its weight-hold part (R5, R75, R78, R434), in units of 2^-12 half-LSB, by use
and by sample: row i is sample i, and its second sample of FINE mode is sample 32 + i. -/
opaque noise : Nat → Nat → Int
/-- The weight-hold error of a row (R78), in units of 2^-12 product units, by plane load and row. -/
opaque weightHold : Nat → Nat → Int
/-- The fixed error of a row (R79) but for its drift, in units of 2^-12 product units, by tray, set and row. -/
opaque fixedError : Nat → Nat → Nat → Int
/-- The drift of the fixed error of a row (R79, R87), in units of 2^-12 product units, by use and row. -/
opaque fixedDrift : Nat → Nat → Int
/-- The gain error of a row (R79) but for its drift, in parts per 10^9, by tray, set and row. -/
opaque gain : Nat → Nat → Nat → Int
/-- The drift of the gain error of a row (R79, R87), in parts per 10^9, by use and row. -/
opaque gainDrift : Nat → Nat → Int
/-- The pattern error of a row (R79), in units of 2^-12 product units, by tray, set, row, input mantissas and weights. -/
opaque pattern : Nat → Nat → Nat → List Int → List (List Int) → Int
/-- A value of the fix stage that passes its signed 40 bits, which no rule says how to deliver (R54), by its exact value. -/
opaque past40 : Int → BitVec 40
/-- Whether the fix stage takes a product that lies between two multiples of 2^-12 upwards (R54 fixes the format
and not the rounding of products), by the exact product in units of 2^-24. -/
opaque fixUp : Int → Bool
/-- The fraction bits of a NaN result, which no rule states (R54, R91), by the width of the fraction. -/
opaque nanFrac : Nat → Nat
/-- The sign of a NaN result, which no rule states (R54, R91). -/
opaque nanNeg : Bool
/-- An activation result at an infinity, where no rule states one (R147), by function and operand. -/
opaque activation : Nat → BitVec 32 → BitVec 32
/-- How many steps the result of an activation lies from the nearest number (R91, R147), by function and operand. -/
opaque steps : Nat → BitVec 32 → Int
/-- A result of a floating-point operation that no rule states exactly (R103, R181), by use and index. -/
opaque number : Nat → Nat → BitVec 32
/-- A sum over the fixed pairwise tree of REDUCE whose shape the spec leaves open (R148), by operation and elements. -/
opaque tree : Nat → List (BitVec 32) → BitVec 32
/-- The row of a die that holds a sector of its site (R192 remaps rows; no rule says which sectors share one). -/
opaque rowOf : Nat → Nat
/-- The heater tables of the sets measured at manufacture (R247), by physical tray, or 1,152 and a transceiver, by temperature 0 to 4 and
by ring. -/
opaque storedHeater : Nat → Nat → Nat → BitVec 12
/-- Their fix-stage coefficients, by tray, temperature, mode (1: FINE), kind (offset, gain, the two crosstalk terms) and row. -/
opaque storedCoef : Nat → Nat → Nat → Nat → Nat → Int
/-- Where a Wokor pack (R185 gives no layout) holds its signature, by its bytes: the index of its owner key, the signature and the signed
bytes. -/
opaque packSig : List (BitVec 8) → Nat × BitVec 768 × List (BitVec 8)
/-- The patterns of a Wokor pack (R185 gives no layout), by its bytes: mantissas, exponent, weights, row exponents and exact products. -/
opaque wokor : List (BitVec 8) → List (List Int × Int × List (List Int) × List Int × List Int)
/-- An undefined byte (R96, R138, R158): by use and index. -/
opaque byte : Nat → Nat → Byte
/-- A word of the module information page beyond the module UCB, by offset, variant, number of sites and firmware version: R39
names this content, with the published figures, and gives no layout. -/
opaque pageInfo : Nat → BitVec 2 → Nat → BitVec 32 → BitVec 32
/-- The magic of the Horoth H4 image format, which R377 names and does not give. -/
opaque h4Magic : BitVec 32
/-- A word drawn at random or fixed by the implementation, by use (R162, R297, R302, R398). -/
opaque word : Nat → BitVec 32
/-- A wide random value: nonces and seeds (R162, R216, R398), by use. -/
opaque wide : Nat → BitVec 384
/-- Whether a peer lies on the link of a port (R209; no register gives a prefix), by the port's address and the peer's. -/
opaque onLink : BitVec 128 → BitVec 128 → Bool
/-- A rate after a DCQCN recovery or increase (R211), by use, in Mb/s. -/
opaque rate : Nat → Nat
/-- A choice that the spec leaves to the implementation (arbitration among equals), by use. -/
opaque choice : Nat → Nat

end Sys2Proof.Config
end

