-- ==== Sys2Proof/Machine/Crypto.lean ====
section
/-! DEFINITION. CRC-32C, and the signature scheme of the block: SHA-384 (FIPS 180-4) and ECDSA on brainpoolP384r1 (RFC 5639), as the table of
standards in the scope names them and R375 uses them. -/

set_option Elab.async false

namespace Sys2Proof.Machine

/-! ### CRC-32C (R174, R264) -/

/-- One bit of CRC-32C. -/
def crcBit (c : Word) : Word := if c.getLsbD 0 then (c >>> 1) ^^^ 0x82F63B78 else c >>> 1
/-- One byte of CRC-32C. -/
def crcByte (c : Word) (b : Byte) : Word :=
  (List.range 8).foldl (fun c _ => crcBit c) (c ^^^ b.setWidth 32)
/-- CRC-32C of bytes. -/
def crc32c (l : List Byte) : Word := ~~~ (l.foldl crcByte 0xFFFFFFFF)

/-! ### SHA-384 -/

/-- The fractional parts of the cube roots of the first 80 primes. -/
def shaK : List Nat :=
  [0x428a2f98d728ae22, 0x7137449123ef65cd, 0xb5c0fbcfec4d3b2f, 0xe9b5dba58189dbbc, 0x3956c25bf348b538, 0x59f111f1b605d019,
   0x923f82a4af194f9b, 0xab1c5ed5da6d8118, 0xd807aa98a3030242, 0x12835b0145706fbe, 0x243185be4ee4b28c, 0x550c7dc3d5ffb4e2,
   0x72be5d74f27b896f, 0x80deb1fe3b1696b1, 0x9bdc06a725c71235, 0xc19bf174cf692694, 0xe49b69c19ef14ad2, 0xefbe4786384f25e3,
   0x0fc19dc68b8cd5b5, 0x240ca1cc77ac9c65] ++
  [0x2de92c6f592b0275, 0x4a7484aa6ea6e483, 0x5cb0a9dcbd41fbd4, 0x76f988da831153b5, 0x983e5152ee66dfab, 0xa831c66d2db43210,
   0xb00327c898fb213f, 0xbf597fc7beef0ee4, 0xc6e00bf33da88fc2, 0xd5a79147930aa725, 0x06ca6351e003826f, 0x142929670a0e6e70,
   0x27b70a8546d22ffc, 0x2e1b21385c26c926, 0x4d2c6dfc5ac42aed, 0x53380d139d95b3df, 0x650a73548baf63de, 0x766a0abb3c77b2a8,
   0x81c2c92e47edaee6, 0x92722c851482353b] ++
  [0xa2bfe8a14cf10364, 0xa81a664bbc423001, 0xc24b8b70d0f89791, 0xc76c51a30654be30, 0xd192e819d6ef5218, 0xd69906245565a910,
   0xf40e35855771202a, 0x106aa07032bbd1b8, 0x19a4c116b8d2d0c8, 0x1e376c085141ab53, 0x2748774cdf8eeb99, 0x34b0bcb5e19b48a8,
   0x391c0cb3c5c95a63, 0x4ed8aa4ae3418acb, 0x5b9cca4f7763e373, 0x682e6ff3d6b2b8a3, 0x748f82ee5defb2fc, 0x78a5636f43172f60,
   0x84c87814a1f0ab72, 0x8cc702081a6439ec] ++
  [0x90befffa23631e28, 0xa4506cebde82bde9, 0xbef9a3f7b2c67915, 0xc67178f2e372532b, 0xca273eceea26619c, 0xd186b8c721c0c207,
   0xeada7dd6cde0eb1e, 0xf57d4f7fee6ed178, 0x06f067aa72176fba, 0x0a637dc5a2c898a6, 0x113f9804bef90dae, 0x1b710b35131c471b,
   0x28db77f523047d84, 0x32caab7b40c72493, 0x3c9ebe0a15c9bebc, 0x431d67c49c100d4c, 0x4cc5d4becb3e42b6, 0x597f299cfc657e2a,
   0x5fcb6fab3ad6faec, 0x6c44198c4a475817]

/-- The eight words of a hash in progress. -/
structure ShaSt where
  a : Nat
  b : Nat
  c : Nat
  d : Nat
  e : Nat
  f : Nat
  g : Nat
  h : Nat
deriving DecidableEq, Repr

/-- The initial hash of SHA-384. -/
def ShaSt.init : ShaSt :=
  ⟨0xcbbb9d5dc1059ed8, 0x629a292a367cd507, 0x9159015a3070dd17, 0x152fecd8f70e5939, 0x67332667ffc00b31, 0x8eb44a8768581511,
   0xdb0c2e0d64f98fa7, 0x47b5481dbefa4fa4⟩

/-- A sum of 64-bit words, and a rotation to the right. -/
def add64 (x y : Nat) : Nat := (x + y) % 18446744073709551616
def rotr64 (x n : Nat) : Nat := x >>> n ||| (x <<< (64 - n)) % 18446744073709551616

/-- One round. -/
def ShaSt.round (s : ShaSt) (kw : Nat) : ShaSt :=
  let s1 := rotr64 s.e 14 ^^^ rotr64 s.e 18 ^^^ rotr64 s.e 41
  let ch := (s.e &&& s.f) ^^^ ((18446744073709551615 ^^^ s.e) &&& s.g)
  let t1 := s.h + s1 + ch + kw
  let s0 := rotr64 s.a 28 ^^^ rotr64 s.a 34 ^^^ rotr64 s.a 39
  let maj := (s.a &&& s.b) ^^^ (s.a &&& s.c) ^^^ (s.b &&& s.c)
  ⟨add64 t1 (s0 + maj), s.a, s.b, s.c, add64 s.d t1, s.e, s.f, s.g⟩

/-- The rounds over a schedule whose last 16 words are `w`, oldest first. -/
def shaRounds : List Nat → List Nat → ShaSt → ShaSt
  | [], _, s => s
  | k :: ks, w, s =>
    let w0 := w.headD 0
    let x := w.getD 1 0
    let y := w.getD 14 0
    let s0 := rotr64 x 1 ^^^ rotr64 x 8 ^^^ (x >>> 7)
    let s1 := rotr64 y 19 ^^^ rotr64 y 61 ^^^ (y >>> 6)
    shaRounds ks (w.tail ++ [add64 (w0 + s0) (w.getD 9 0 + s1)]) (s.round (k + w0))

/-- One block of 16 words. -/
def ShaSt.block (s : ShaSt) (w : List Nat) : ShaSt :=
  let r := shaRounds shaK w s
  ⟨add64 s.a r.a, add64 s.b r.b, add64 s.c r.c, add64 s.d r.d, add64 s.e r.e, add64 s.f r.f, add64 s.g r.g, add64 s.h r.h⟩

/-- A number from bytes, the first the highest. -/
def beNat (l : List Byte) : Nat := l.foldl (fun n b => 256 * n + b.toNat) 0

/-- `n` bytes of a number, the highest first. -/
def beBytes : Nat → Nat → List Byte
  | 0, _ => []
  | n + 1, x => BitVec.ofNat 8 (x / 256 ^ n) :: beBytes n x

/-- The words of a block. -/
def shaWords : Nat → List Byte → List Nat
  | 0, _ => []
  | n + 1, l => beNat (l.take 8) :: shaWords n (l.drop 8)

/-- `n` blocks of bytes hashed. -/
def shaBlocks : Nat → List Byte → ShaSt → ShaSt
  | 0, _, s => s
  | n + 1, l, s => shaBlocks n (l.drop 128) (s.block (shaWords 16 l))

/-- SHA-384 of bytes: 48 bytes. -/
def sha384 (l : List Byte) : List Byte :=
  let n := (l.length + 17 + 127) / 128
  let padded := l ++ [0x80] ++ List.replicate (128 * n - l.length - 17) 0 ++ beBytes 16 (8 * l.length)
  let s := shaBlocks n padded ShaSt.init
  [s.a, s.b, s.c, s.d, s.e, s.f].flatMap (beBytes 8)

/-! ### ECDSA on brainpoolP384r1 -/

/-- The curve y² = x³ + a x + b over p, its base point and its order (RFC 5639). -/
def ecP : Nat := 0x8CB91E82A3386D280F5D6F7E50E641DF152F7109ED5456B412B1DA197FB71123ACD3A729901D1A71874700133107EC53
def ecA : Nat := 0x7BC382C63D8C150C3C72080ACE05AFA0C2BEA28E4FB22787139165EFBA91F90F8AA5814A503AD4EB04A8C7DD22CE2826
def ecB : Nat := 0x04A8C7DD22CE28268B39B55416F0447C2FB77DE107DCD2A62E880EA53EEB62D57CB4390295DBC9943AB78696FA504C11
def ecGx : Nat := 0x1D1C64F068CF45FFA2A63A81B7C13F6B8847A3E77EF14FE3DB7FCAFE0CBD10E8E826E03436D646AAEF87B2E247D4AF1E
def ecGy : Nat := 0x8ABE1D7520F9C2A45CB1EB8E95CFD55262B70B29FEEC5864E19C054FF99129280E4646217791811142820341263C5315
def ecN : Nat := 0x8CB91E82A3386D280F5D6F7E50E641DF152F7109ED5456B31F166E6CAC0425A7CF3AB6AF6B7FC3103B883202E9046565

/-- A point in Jacobian coordinates; z = 0 is the point at infinity. -/
structure EcPt where
  x : Nat
  y : Nat
  z : Nat
deriving DecidableEq, Repr

/-- A difference modulo p of numbers below p. -/
def subP (x y : Nat) : Nat := (x + ecP - y) % ecP

/-- A point doubled. -/
def EcPt.dbl (p : EcPt) : EcPt :=
  if p.z = 0 then p
  else
    let yy := p.y * p.y % ecP
    let s := 4 * p.x * yy % ecP
    let zz := p.z * p.z % ecP
    let m := (3 * p.x * p.x + ecA * (zz * zz % ecP)) % ecP
    let x := subP (m * m % ecP) (2 * s % ecP)
    ⟨x, subP (m * subP s x % ecP) (8 * (yy * yy % ecP) % ecP), 2 * p.y * p.z % ecP⟩

/-- Two points added. -/
def EcPt.add (p q : EcPt) : EcPt :=
  if p.z = 0 then q
  else if q.z = 0 then p
  else
    let pz := p.z * p.z % ecP
    let qz := q.z * q.z % ecP
    let u := p.x * qz % ecP
    let v := q.x * pz % ecP
    let s := p.y * (qz * q.z % ecP) % ecP
    let t := q.y * (pz * p.z % ecP) % ecP
    if u = v then (if s = t then p.dbl else ⟨1, 1, 0⟩)
    else
      let h := subP v u
      let r := subP t s
      let hh := h * h % ecP
      let hhh := hh * h % ecP
      let w := u * hh % ecP
      let x := subP (subP (r * r % ecP) hhh) (2 * w % ecP)
      ⟨x, subP (r * subP w x % ecP) (s * hhh % ecP), p.z * q.z % ecP * h % ecP⟩

/-- The sum of `u` times `p` and `v` times `q`, whose sum is `pq`, over the low `n` bits, from the highest on. -/
def ecTwo (p q pq : EcPt) (u v : Nat) : Nat → EcPt → EcPt
  | 0, r => r
  | n + 1, r =>
    let r := r.dbl
    let r := match u.testBit n, v.testBit n with
      | true, true => r.add pq
      | true, false => r.add p
      | false, true => r.add q
      | false, false => r
    ecTwo p q pq u v n r

/-- `x ^ e` modulo `m` over the low `n` bits of `e`, from the highest on. -/
def powModN (x e m : Nat) : Nat → Nat → Nat
  | 0, r => r
  | n + 1, r =>
    let r := r * r % m
    powModN x e m n (if e.testBit n then r * x % m else r)

/-- A point on the curve. -/
def onCurve (x y : Nat) : Bool :=
  decide (x < ecP) && decide (y < ecP) && decide (y * y % ecP = (x * x % ecP * x + ecA * x + ecB) % ecP)

/-- The signature `r`, `s` of bytes verifies under the key with the point `x`, `y`. -/
def ecdsaOk (x y r s : Nat) (msg : List Byte) : Bool :=
  if !onCurve x y || r == 0 || s == 0 || decide (ecN ≤ r) || decide (ecN ≤ s) then false
  else
    let w := powModN s (ecN - 2) ecN 384 1
    let u := beNat (sha384 msg) * w % ecN
    let v := r * w % ecN
    let g : EcPt := ⟨ecGx, ecGy, 1⟩
    let q : EcPt := ⟨x, y, 1⟩
    let t := ecTwo g q (g.add q) u v 384 ⟨1, 1, 0⟩
    let zz := t.z * t.z % ecP
    t.z != 0 && (t.x == r * zz % ecP || (decide (r + ecN < ecP) && t.x == (r + ecN) * zz % ecP))

/-- The two halves of 96 bytes: a key's x and y, or a signature's r and s, each a little-endian number (log entry 80). -/
def half0 (v : BitVec 768) : Nat := v.toNat % 2 ^ 384
def half1 (v : BitVec 768) : Nat := v.toNat / 2 ^ 384

/-- A signature of bytes that verifies under a key. -/
def sigOk (key sig : BitVec 768) (msg : List Byte) : Bool := ecdsaOk (half0 key) (half1 key) (half0 sig) (half1 sig) msg

end Sys2Proof.Machine
end

