-- ==== Sys2Proof/Machine/State.lean ====
section
/-! DEFINITION. The state of the block: every register, queue, buffer, counter and mode that the spec
gives the HX16, as plain data, with the reset value of each field as its default. Marked fields are the
model's own (log entries 1, 5, 6). -/

set_option Elab.async false

namespace Sys2Proof.Machine

/-- Why the block stops. Nothing in the spec stops the block: every refusal of the spec is a status
code or an event, and a command whose conditions do not hold changes nothing. -/
inductive Fault where
  /-- Stands for a command that no sender can form (WellFormed). No meaning raises it; safe. -/
  | illFormed
deriving DecidableEq, Repr

/-- Why the model gives no meaning. -/
inductive Refusal where
  /-- Raised by an arm of exec that has no meaning yet; safe. -/
  | notModelled (mnemonic : String)
deriving DecidableEq, Repr

/-! ### Units (01, R20-R37) -/

/-- The unit states of R31. -/
inductive UState where
  | off | starting | ready | draining | held | resetting | mappedOut | failed
deriving DecidableEq, Repr

/-- What each tray, cluster and core stores of its UCB_CTL, and its state (R28, R31, R433); `upd` holds it while its site
controller restarts in a hitless update (R384). -/
structure UnitCtl where
  upd : Bool := false
  hold : Bool := false
  fence : Bool := false
  drain : Bool := false
  enable : Bool := true
  st : UState := .off
  drained : Bool := true
deriving DecidableEq, Repr

/-- The suspect score and the ladder of a tray or cluster (R178-R180). The score is kept in units of
2^-32; `acts` are the numbers of the actions in force. -/
structure Ladder where
  score : Nat := 0
  acts : List Nat := []
  lastStep : BitVec 4 := 0
  misses : Word := 0
deriving DecidableEq, Repr

/-- A temperature sensor as UCB_TEMP shows it, in 1/16 degree (R28). -/
structure Temp where
  now : BitVec 16 := 0
  peak : BitVec 16 := 0
deriving DecidableEq, Repr

/-! ### Exposure unit (02) -/

/-- The plane states of R57. -/
inductive PState where
  | empty | loading | loaded | active | invalid | refreshing
deriving DecidableEq, Repr

/-- The digital data of a plane: the shadow of its weights and row exponents with the row sums S_i and
column sums C_j (R52, R58, R159). -/
structure Shadow where
  rows : List (List Int) := []
  exps : List Int := []
  sums : List Int := []
  cols : List Int := []
  gen : Byte := 0
  isB : Bool := false
deriving DecidableEq, Repr

/-- Where a plane was loaded from, for the journal (R174). -/
structure Origin where
  expSrc : BitVec 2 := 0
  image : BitVec 22 := 0
  expsOff : BitVec 22 := 0
  pid : Pid := 0
  ctx : CtxNo := 0
deriving DecidableEq, Repr

/-- A plane (R46, R57): its state, generation, committed data, the exponents it last held, the time of its last
write, the generation of the calibration set it was written under and the draw of its weight-hold error (R78), the model's own. -/
structure Plane where
  st : PState := .empty
  gen : Byte := 0
  data : Shadow := {}
  exps : List Int := []
  written : Nat := 0
  calGen : BitVec 16 := 0
  origin : Origin := {}
  hold : Nat := 0
deriving DecidableEq, Repr

/-- A load in the load queue (R58, R140). `adm` is its place in the order of admission; `src` 3 is a
refresh from a shadow; `desc` is the descriptor that admitted it. -/
structure LoadReq where
  adm : Nat
  src : BitVec 2
  image : Nat
  expsOff : Nat
  desc : Option Nat
  sub : Option Nat
  pid : Pid
  ctx : CtxNo
deriving DecidableEq, Repr

/-- Why a load runs (R58, R62). -/
inductive LoadKind where
  | user | swapRefresh | background
deriving DecidableEq, Repr

/-- A running load: its target plane, the rows written, and the staged companion data (R58). -/
structure LoadRun where
  kind : LoadKind
  req : LoadReq
  toB : Bool
  rows : List (List Int) := []
  exps : List Int := []
  calGen : BitVec 16 := 0
deriving DecidableEq, Repr

/-- An entry of the exposure queue (R61, R139, R141): an exposure names a vector of a BS8 group by its
byte offset in the tray buffer. -/
inductive QEntry where
  | expo (adm : Nat) (group vec acc : Nat) (add : Bool) (desc sub : Option Nat)
  | swap (adm : Nat) (desc sub : Option Nat)
deriving DecidableEq, Repr

/-- Where an exposure of the pending store stands (R165-R169). -/
inductive PPhase where
  | piped | replay | awaitRef | secondRef | settled
deriving DecidableEq, Repr

/-- An exposure of the pending store, made and not yet accumulated (R173): its input vector, its plane's
data, its attempts and what the partner and the referees have answered. Sums and outputs are in units of
2^-12 product units; outputs of referees in whole product units. `adm` is the place of its exposure in the order of
admission; `res` and `resE1` hold its settled values while a thread's earlier read or write of its vector is still to
be served (R56, R103); `hold` is the draw of its plane's load (R78); `run` and `expNo` are those of the last attempt, `run0` and
`expNo0` those of the first (R184), and `runs` every run in which an attempt was made (R174). -/
structure Pend where
  id : Nat
  m : List Int
  e : Int
  acc : Nat
  add : Bool
  desc : Option Nat := none
  sub : Option Nat := none
  sh : Shadow := {}
  run : Nat := 0
  fine : Bool := false
  k : Nat := 96
  allow : BitVec 16 := 0
  pat : Word := 0
  epoch : Word := 0
  outs : List Int := []
  first : Option (Int × Int) := none
  rerun : Option (Int × Int) := none
  phase : PPhase := .piped
  isReplay : Bool := false
  partner : BitVec 4 := 0
  partnerE1 : Int := 0
  ref1 : Option Nat := none
  out1 : List Int := []
  ref2 : Option Nat := none
  expNo : Nat := 0
  adm : Nat := 0
  res : List (Word × Bool × Bool × Bool) := []
  resE1 : Option Int := none
  hold : Nat := 0
  run0 : Nat := 0
  expNo0 : Nat := 0
  runs : List Nat := []
deriving DecidableEq, Repr

/-- A journal entry (R174). -/
structure JEntry where
  run : Word := 0
  first : BitVec 64 := 0
  isB : Bool := false
  gen : Byte := 0
  count : BitVec 20 := 0
  calGen : BitVec 16 := 0
  fine : Bool := false
  vstep : BitVec 3 := 0
  misses : BitVec 10 := 0
  epoch : Word := 0
  pattern : Word := 0
  crc : Word := 0
  startNs : Word := 0
  startS : Word := 0
  endNs : Word := 0
  replays : BitVec 16 := 0
  refereed : BitVec 16 := 0
  origin : Origin := {}
  flags : BitVec 6 := 0
deriving DecidableEq, Repr

/-- A calibration set (R66, R247, R248): the fix-stage coefficients of both modes, and the temperature `tTab`, in 1/16 °C, at which its
tables are interpolated in the stored sets; `tables` is the draw that names its modulator and weight-DAC lookups, whose contents no
rule gives. `stamp` is the uptime at the end of its strip. -/
structure CalSet where
  gen : BitVec 16 := 0
  tables : Nat := 0
  tTab : Int := 0
  interim : Bool := true
  clamped : Bool := false
  tCal : Int := 0
  stamp : Option Nat := none
  sumRes : BitVec 16 := 0
  std : FixCoef := ⟨[], [], [], []⟩
  fine : FixCoef := ⟨[], [], [], []⟩
deriving DecidableEq, Repr

/-- The running-mean monitor of a tray (R171): sums in units of 2^-12 product units; `since` is when the epoch in progress began, and
`begun` when those of the window did (R172). -/
structure Monitor where
  cur : Int × Nat := (0, 0)
  win : List (Int × Nat) := []
  since : DevTime := ⟨0, 0⟩
  begun : List DevTime := []
  base : Option Int := none
  d : Int := 0
  ds : List Int := []
  evals : Nat := 0
  alarm : Bool := false
deriving DecidableEq, Repr

/-- The proof registers and counters of a tray (R161-R188). `runs` numbers the next run, `runCount` counts them; `guestQ` holds the
requests for guest exposures, by missing tray and exposure, and `guestDone` those that have been made and not reported, with their
proof's outcome and e1 (R166). -/
structure ProofSt where
  seed : BitVec 64 := 0
  newSeed : Option (BitVec 64) := none
  epoch : Word := 0
  inEpoch : Nat := 0
  pattern : Word := 0
  sumRes : BitVec 16 := 0
  allow : BitVec 16 := 0
  mon : Monitor := {}
  rateNow : BitVec 16 := 0
  rateLast : BitVec 16 := 0
  rateExp : Nat := 0
  rateHit : Bool := false
  partnerLast : BitVec 4 := 0
  guests : BitVec 16 := 0
  jsel : BitVec 9 := 0
  runs : Word := 0
  runCount : Word := 0
  reruns : BitVec 64 := 0
  wrong : Word := 0
  checker : Word := 0
  patterns : Word := 0
  bias : Word := 0
  rateExcess : Word := 0
  runOpen : Bool := false
  journal : List JEntry := []
  shadows : List Shadow := []
  guestQ : List (Nat × Nat) := []
  guestDone : List (Nat × Nat × Bool × Int) := []
deriving DecidableEq, Repr

/-- A microring (R238-R243): 0 UNLOCKED, 1 ACQUIRING, 2 LOCKED, 3 FAILED. -/
structure Ring where
  lock : BitVec 2 := 0
  tagOk : Bool := false
  mislock : Bool := false
  pn : BitVec 10 := 0
  heater : BitVec 12 := 0
  attempts : Nat := 0
deriving DecidableEq, Repr

/-- A request for a test strip (R249): its priority and when it was made. -/
structure StripReq where
  prio : Nat
  stamp : Nat
deriving DecidableEq, Repr

/-- A test pattern of a Wokor pack (R185): a BS8 block, a plane and its exact products. -/
structure WokorPattern where
  m : List Int
  e : Int
  rows : List (List Int)
  exps : List Int
  exact : List Int
deriving DecidableEq, Repr

/-- A running test strip (R250, R251): beats run in it, and the range of tray temperatures. -/
structure StripRun where
  prio : Nat := 5
  beats : Nat := 0
  lo : Int := 0
  hi : Int := 0
deriving DecidableEq, Repr

/-- What a strip has measured (R250, R252): its figures, SUM_RES, the uptime of its end and the draw that names its set's lookups. -/
structure Measured where
  figs : StripFigures
  sumRes : BitVec 16
  stamp : Nat
  tables : Nat
deriving DecidableEq, Repr

/-- Lasers, rings, sensors, locking and calibration of a tray (09). Rings not listed are as `ringBase`; `acqT` is the
tray temperature at the last acquisition, and `spent` the slices of the last 10 ms, by uptime and beats (R250). -/
structure LightSt where
  failed : BitVec 36 := 0
  spares : List (Option (BitVec 3)) := [none, none, none, none]
  exhausted : BitVec 4 := 0
  lit : Bool := false
  ringBase : Ring := {}
  acqT : Int := 0
  spent : List (Nat × Nat) := []
  rings : SMap Ring := []
  devHold : Bool := false
  cause : BitVec 4 := 0
  settling : Bool := false
  acquiring : Bool := false
  locked : Bool := false
  gridFailed : Bool := false
  hist : List (List Int) := []
  slewPeak : BitVec 16 := 0
  slewNow : BitVec 16 := 0
  relock : Bool := false
  stripBit : Bool := false
  req : Option StripReq := none
  stripRun : Option StripRun := none
  measured : Option Measured := none
  interimDue : Bool := false
  wantStrip : Bool := false
  checking : Bool := false
  staleWas : Bool := true
  resStd : BitVec 16 := 0xFFFF
  resFine : BitVec 16 := 0xFFFF
  randStd : BitVec 16 := 0xFFFF
  randFine : BitVec 16 := 0xFFFF
  strips : Word := 0
  tempHolds : BitVec 16 := 0
  substs : BitVec 16 := 0
  mislocks : BitVec 16 := 0
  lastRing : BitVec 11 := 0
  goodRun : Nat := 0
  wokorBad : Bool := false
deriving DecidableEq, Repr

/-- The counters of R74. -/
structure TrayCnt where
  exposures : BitVec 64 := 0
  beats : BitVec 64 := 0
  dead : BitVec 64 := 0
  loadwait : BitVec 64 := 0
  idle : BitVec 64 := 0
  swaps : BitVec 64 := 0
  refreshes : BitVec 64 := 0
  clips : BitVec 64 := 0
  rejects : BitVec 64 := 0
deriving DecidableEq, Repr

/-- A physical tray (R28, R43-R74, 06, 09). `refSwap` is a swap-refresh that is due (R62), `inplace` the rows that an in-place
refresh has rewritten, `gam` the drift of the row gains at the exposures of the last 76 ms (R79), in parts per 10^9, and `shot` the
level extension registers as they read when the tray was mapped out (R73). -/
structure Tray where
  ctl : UnitCtl := {}
  owner : Pid := 0
  defective : Bool := false
  floorV : BitVec 3 := 0
  floorFine : Bool := false
  lad : Ladder := {}
  temp : Temp := {}
  a : Plane := {}
  b : Plane := {}
  activeB : Bool := false
  expQ : List QEntry := []
  loadQ : List LoadReq := []
  load : Option LoadRun := none
  refSwap : Bool := false
  inplace : Option Nat := none
  adm : Nat := 0
  pend : List Pend := []
  acc : SMap Word := []
  tb : SMap Byte := []
  fineUse : Bool := false
  vUse : BitVec 3 := 0
  vPause : Bool := false
  settle : Bool := false
  cal : CalSet := {}
  staged : Option CalSet := none
  flags : BitVec 7 := 0
  cnt : TrayCnt := {}
  idleAt : Bool := false
  proof : ProofSt := {}
  light : LightSt := {}
  restoring : Bool := false
  gam : List (Nat × List Int) := []
  shot : SMap Word := []
deriving DecidableEq, Repr

/-! ### Clusters, cores and threads (04) -/

/-- A tally operation on its way to a cluster (R100): ADD of a count or SET of a value; `desc` is the TALLY
descriptor that it completes, if any. It waits for the writes that thread `thread` issued before number `mark`. -/
structure TallyOp where
  tally : BitVec 6
  isSet : Bool
  v : Word
  desc : Option Nat := none
  thread : Nat := 0
  mark : Nat := 0
deriving DecidableEq, Repr

/-- The registers of a physical cluster (R98, R112, R115). `shot` holds its level extension registers as they read when it was
mapped out. -/
structure Cluster where
  ctl : UnitCtl := {}
  defective : Bool := false
  floorClk : BitVec 2 := 0
  clkUse : BitVec 2 := 0
  lad : Ladder := {}
  temp : Temp := {}
  tallies : SMap Word := []
  flags : BitVec 5 := 0
  issue : BitVec 64 := 0
  device : BitVec 64 := 0
  stall : BitVec 64 := 0
  inflight : List TallyOp := []
  shot : SMap Word := []
deriving DecidableEq, Repr

/-- The thread states of R93 (a FREE slot holds no thread). -/
inductive ThState where
  | ready | waitTally | waitQueue | waitData | held | ending
deriving DecidableEq, Repr

/-- What a thread waits for (R100, R102, R122-R124, R133, R134). -/
inductive Wait where
  | none
  | fetch
  | order
  | pre (t : BitVec 6) (v : Word)
  | tally (t : BitVec 6) (v : Word) (timeout : Word)
  | queue
  | mover (id : Nat)
  | asyncRoom
  | child (req : Nat)
  | reserve
  | append (slot : BitVec 8) (first : BitVec 24)
  | opArrive (desc : Nat)
  | visible (issue : Nat) (code : Option Code)
deriving DecidableEq, Repr

/-- A thread (R93): `cur` is the descriptor it has fetched, `nxt` the one prefetched, `prog` how many entries of the
current descriptor are admitted, `waited` that its header's waits are over. -/
structure Thread where
  id : Nat
  ctx : CtxNo
  pid : Pid
  sub : Nat
  prio : BitVec 2
  base : Nat
  size : Nat
  pc : BitVec 48
  st : ThState := .waitData
  wait : Wait := .fetch
  cur : Option (BitVec 512) := none
  nxt : Option (BitVec 512) := none
  waited : Bool := false
  prog : Nat := 0
  desc : Option Nat := none
  ended : Option (Nat × BitVec 6) := none
deriving DecidableEq, Repr

/-- A core (R93, R94, R96, R116). `slots` holds the threads by slot; `ls` the local store;
`turn` the slot whose turn it is and the cycles it has had; `burst` the cycles of the device-work burst
in progress, `devWork` the cycles of device work waiting, `owed` that the threads are owed a round. -/
structure Core where
  ctl : UnitCtl := {}
  slots : SMap Thread := []
  ls : SMap Byte := []
  turn : Nat := 0
  used : Nat := 0
  burst : Nat := 0
  devWork : Nat := 0
  owed : List Nat := []
  issue : BitVec 64 := 0
deriving DecidableEq, Repr

/-- A start request that waits for dispatch (R105-R107). -/
structure StartReq where
  id : Nat
  ctx : CtxNo
  sub : Nat
  chain : BitVec 48
  place : UnitAddr
  lsKib : Nat
  ended : Option (Nat × BitVec 6) := none
  parent : Option (Nat × BitVec 3) := none
  serial : Bool := false
  first : Bool := false
deriving DecidableEq, Repr

/-- A descriptor that has not reached its completion-ADD point (R123, R126). -/
structure Outst where
  id : Nat
  thread : Nat
  sub : Nat
  cluster : Nat
  ct : Option (Nat × BitVec 6)
  left : Nat
  isAsync : Bool := false
  landed : Bool := false
  isEnd : Bool := false
  dev : List (CtxNo × Nat) := []
deriving DecidableEq, Repr

/-- A movement that the mover holds (R124, R135, R136, R138, R142, R143). `adm` is the tray's place of admission when an
accumulator read or write was accepted (R56, R103). -/
structure MoverOp where
  id : Nat
  core : Nat
  slot : BitVec 3
  thread : Nat
  ctx : CtxNo
  tray : Nat
  base : Nat
  d : BitVec 512
  desc : Nat
  isAsync : Bool
  adm : Nat := 0
  fin : Option (Option Code) := none
deriving DecidableEq, Repr

/-- A submission (R126, R222, R223): the fields of its status record and its threads. -/
structure Sub where
  ctx : CtxNo
  ring : BitVec 2
  slot : BitVec 16
  entry : Word
  gen : BitVec 16
  seq : BitVec 16 := 0
  st : BitVec 3 := 1
  user : BitVec 64 := 0
  done : Word := 0
  total : Word := 0
  valid : Word := 0
  start : DevTime := ⟨0, 0⟩
  finish : DevTime := ⟨0, 0⟩
  status : Code := 2
  threads : Nat := 0
  fail : Option Code := none
  refereed : Bool := false
  replayed : Bool := false
  serial : Bool := false
  prev : List Byte := []
  at_ : Nat := 0
deriving DecidableEq, Repr

/-- A sequence slot (R109). `inflight` are the ranges reserved and not yet written: first index, count. -/
structure SeqSlot where
  st : BitVec 2 := 0
  ctx : CtxNo := 0
  gen : BitVec 16 := 0
  base : BitVec 48 := 0
  units : BitVec 11 := 0
  cap : BitVec 24 := 0
  reserved : BitVec 24 := 0
  valid : BitVec 24 := 0
  inflight : List (Nat × Nat × Bool) := []
deriving DecidableEq, Repr

/-! ### Memory and contexts (07) -/

/-- The pages of a frame of 1 GiB (R189): one 1 GiB page, or 2 MiB pages by a bit each. -/
inductive Frame where
  | big
  | small (used : BitVec 512)
deriving DecidableEq, Repr

/-- Who made a write that a site holds (R194): a thread, by its number and that of its descriptor; a transfer or a host queue pair that
this module serves; or the block itself. -/
inductive Writer where
  | block
  | thread (id issue : Nat)
  | xfer (id : Nat)
  | host (qp : Nat)
deriving DecidableEq, Repr

/-- A site (R189-R194, R346, R348). Memory is keyed by the byte within the site's data capacity. -/
structure Site where
  reported : Bool := false
  failed : Bool := false
  trained : Bool := false
  frames : SMap Frame := []
  mem : SMap Byte := []
  poison : List Nat := []
  erased : List (Fin 36) := []
  training : Option (Fin 36) := none
  heldW : List (Nat × Byte × Writer) := []
  spare : SMap Nat := []
  rowHits : List (Nat × Nat) := []
  toRemap : List (Nat × Nat) := []
  pass : Nat := 0
  passPos : Nat := 0
  lastEnd : Option Nat := none
  windows : BitVec 16 := 0
  longest : Byte := 0
  corr : BitVec 64 := 0
  uncorr : BitVec 64 := 0
  stall : BitVec 64 := 0
deriving DecidableEq, Repr

/-- Where a page of a region lies (R195, R200): a site and its byte offset, or the lender. -/
inductive PageAt where
  | here (site : BitVec 4) (off : Nat)
  | lender (n : Nat)
deriving DecidableEq, Repr

/-- The states of a region (R197, R199, R200). -/
inductive RState where
  | allocating | mapped | lost | releasing
deriving DecidableEq, Repr

/-- A region of a context (R197). -/
structure Region where
  base : Nat
  size : Nat
  big : Bool
  place : BitVec 2
  st : RState
  pages : List PageAt
  path : Nat := 0
deriving DecidableEq, Repr

/-- A submission ring (R217-R221). `taken` holds the entries copied by a visit and not yet
judged, each with its index; an entry that could not be read has no bytes. -/
structure SubRing where
  base : BitVec 64 := 0
  log2 : BitVec 5 := 6
  en : Bool := false
  stopped : Bool := false
  idle : Bool := false
  code : Code := 0
  consumer : Word := 0
  rejects : Word := 0
  lastReject : Word := 0
  taken : List (Word × Option (BitVec 512)) := []
deriving DecidableEq, Repr

/-- A context (R105, R137, R201, R202, R207, R229). State: 0 FREE, 1 ACTIVE, 2 FENCED, 3 RESETTING. -/
structure Ctx where
  st : BitVec 2 := 0
  pid : Pid := 0
  fenced : Bool := false
  quota : Word := 0
  remEn : Bool := false
  remCap : BitVec 31 := 0
  prio : BitVec 2 := 0
  tquota : Option (BitVec 22) := none
  squota : BitVec 9 := 256
  gbase : BitVec 6 := 0
  gsize : BitVec 7 := 0
  peers : SMap Word := []
  regions : SMap Region := []
  remBytes : BitVec 64 := 0
  busy : Option (BitVec 3 × Nat) := none
  waiting : List (BitVec 3 × Nat) := []
  rings : SMap SubRing := []
  sbase : BitVec 64 := 0
  scount : BitVec 17 := 0
  mbase : BitVec 64 := 0
  mkey : Word := 0
  mmode : BitVec 2 := 0
  submits : BitVec 64 := 0
deriving DecidableEq, Repr

/-- Memory, contexts, quotas and the power cap (07). `pool` holds the 2 MiB pages set aside as a lending pool, by site
and byte offset (R333). `remote` holds the bytes of this module's remote pages as it
last wrote or received them, keyed by page number times 2^30 plus offset; `lent` the bytes of the lending pool of
this module, keyed by borrower node times 2^48 plus address (log entry 9). -/
structure MemSt where
  sites : SMap Site := []
  remote : SMap Byte := []
  lent : List Nat := []
  remBad : List Nat := []
  heldR : List Instr := []
  ctxs : SMap Ctx := []
  rot : Nat := 0
  samples : List Nat := []
  avg : BitVec 12 := 0
  step : Nat := 0
  exhausted : Bool := false
  thermal : Nat := 0
  pool : List (BitVec 4 × Nat) := []
deriving DecidableEq, Repr

/-! ### Host ports and queue pairs (08) -/

/-- The frame of a RoCEv2 packet that the module sends (R209-R212): the port, the 802.1Q tag where the port has one, the peer's link address
where it is resolved, the family and the address of the peer, DSCP, the ECN field, the UDP source port and the host's QPN. -/
structure RoceOut where
  port : BitVec 1
  tag : Option (BitVec 16)
  mac : Option (BitVec 48)
  v6 : Bool
  ip : List Word
  dscp : BitVec 6
  ecn : BitVec 2
  src : BitVec 16
  qpn : BitVec 24
deriving DecidableEq, Repr

/-- A RoCEv2 packet that the module sends (R210, R211, R226). -/
inductive RocePkt where
  | cnp
  | ack (psn : BitVec 24)
  | nak (psn : BitVec 24) (reason : Byte)
  | readResp (psn : BitVec 24) (data : List Byte)
  | mirror (psn : BitVec 24) (va : Nat) (key : Word) (data : List Byte)
deriving DecidableEq, Repr

/-- A mirror write that no ACK has released (R226). -/
structure MirrorCopy where
  slot : BitVec 16
  psn : BitVec 24
  va : Nat
  key : Word
  data : List Byte
deriving DecidableEq, Repr

/-- A host WRITE of which packets have still to come (R210): the PSN of its first packet, its key, address and length, and the bytes that
have come. -/
structure WriteRun where
  psn : BitVec 24
  rkey : Word
  va : Nat
  len : Nat
  got : Nat
deriving DecidableEq, Repr

/-- A queue pair (R211-R216, R226). State: 0 RESET, 1 RTS, 2 ERROR. `rate` is in Mb/s, `alpha` in 2^-32. `ackDue` is a WRITE whose
acknowledgement waits for held writes, `stalled` the requests that wait behind it or for a retraining window (R194, R215). -/
structure Qp where
  op : BitVec 2 := 0
  run : Option WriteRun := none
  ackDue : Option (BitVec 24) := none
  stalled : List Instr := []
  st : BitVec 2 := 0
  auth : Bool := false
  reason : Byte := 0
  cfg : Word := 0xEC000000
  path : Word := 0
  sqpsn : BitVec 24 := 0
  rqpsn : BitVec 24 := 0
  keytag : BitVec 24 := 0
  raddr : List Word := [0, 0, 0, 0]
  sendPsn : BitVec 24 := 0
  expPsn : BitVec 24 := 0
  rate : Nat := 400000
  alpha : Nat := 4294967296
  cnpAt : Option Nat := none
  mac : Option (BitVec 48) := none
  mirror : List MirrorCopy := []
  retries : Nat := 0
  nonce : BitVec 384 := 0
  sig : SMap Byte := []
  keyIdx : Word := 0
  result : BitVec 2 := 0
  verifying : Bool := false
  refusals : Nat := 0
  lockout : Bool := false
deriving DecidableEq, Repr

/-- A host port (R208, R211, R229). `txq` are the packets that wait while the port is paused, oldest first. -/
structure HPort where
  txq : List (RoceOut × RocePkt) := []
  link : Bool := false
  fec : Bool := false
  paused : Bool := false
  pausing : Bool := false
  rxBytes : BitVec 64 := 0
  txBytes : BitVec 64 := 0
  drop : BitVec 64 := 0
  cnpRx : BitVec 64 := 0
  cnpTx : BitVec 64 := 0
  retx : BitVec 64 := 0
deriving DecidableEq, Repr

/-- The host side (08). -/
structure HostSt where
  qps : SMap Qp := []
  p0 : HPort := {}
  p1 : HPort := {}
  scanning : Bool := false
deriving DecidableEq, Repr

/-! ### Light (09) -/

/-- A comb (R235): 0 ACTIVE, 1 SPARE, 2 FAILED, 3 STARTING; `none` is the state at manufacture. -/
structure Comb where
  st : Option (BitVec 2) := none
  lit : BitVec 16 := 0
deriving DecidableEq, Repr

/-- The fabric light sources, the grid reference and the module counters of LIGHT (R234-R237, R258). -/
structure LightMod where
  combs : SMap Comb := []
  started : Bool := false
  refSt : BitVec 2 := 0
  power : Byte := 0x80
  offset : Byte := 0
  since : Nat := 0
  mislocks : BitVec 64 := 0
  holds : BitVec 64 := 0
  strips : BitVec 64 := 0
deriving DecidableEq, Repr

/-! ### Fabric (10) -/

/-- The port states of R275. -/
inductive FState where
  | dark | discovering | absent | quarantined | transit | linked | shutdown
deriving DecidableEq, Repr

/-- The channel states of R276. -/
inductive CState where
  | unlit | waitLine | locking | training | up | retrain | refused | failed
deriving DecidableEq, Repr

/-- A flit in the transmit replay store (R267); `home` is the port whose store holds it. -/
structure TxFlit where
  cseq : BitVec 12
  vc : Bool
  lseq : BitVec 24
  payload : List Byte
  sends : Nat
  home : PortNo := 0
deriving DecidableEq, Repr

/-- A message, or the rest of one, still to be sent on a virtual channel. `done` says that all its bytes have come; a forwarded message of
which flits have still to come names the link and the virtual channel that they come on (R269). -/
structure TxMsg where
  vc : Bool
  dst : Node
  bytes : List Byte
  done : Bool := true
  src : Option (BitVec 6 × Bool) := none
deriving DecidableEq, Repr

/-- A channel of a transceiver, both directions (R264-R282). `goodSeq` is the CSEQ expected at the last good tag check (R244), `line` is the comb whose line it transmits on; `peerLit`
that the peer has told of a line on its own transmit ring, `peerLocked` that it has reported receive lock on this one's, `readyFails` the failures of the ready criterion since it was
last met. -/
structure Chan where
  tx : CState := .unlit
  rx : CState := .unlit
  attempts : BitVec 4 := 0
  rxAttempts : BitVec 4 := 0
  offset : Byte := 0
  retrains : Byte := 0
  bits : BitVec 64 := 0
  errs : BitVec 64 := 0
  uncorr : Word := 0
  replays : Word := 0
  height : BitVec 16 := 0
  width : BitVec 16 := 0
  readyOk : Bool := false
  degraded : Bool := false
  nlog : BitVec 16 := 0xFFFF
  goodWin : Nat := 0
  nextSeq : BitVec 12 := 1
  expect : BitVec 12 := 1
  goodSeq : BitVec 12 := 1
  discarding : Bool := false
  unacked : List TxFlit := []
  line : Option Nat := none
  peerLit : Bool := false
  peerLocked : Bool := false
  readyFails : Nat := 0
  releasing : Bool := false
deriving DecidableEq, Repr

/-- A transceiver (R260, R287). Its temperature, in 1/16 °C, the temperatures at which the tables of its transmit and of its receive rings
are interpolated, an interpolation that waits for their boundaries, and the temperature and the uptime of the last one (R253). -/
structure Lt where
  temp : Int := 0
  txTab : Int := 0
  rxTab : Int := 0
  staged : Option Int := none
  tCal : Int := 0
  stamp : Option Nat := none
  calDue : Bool := false
  port : Option PortNo := none
  chans : SMap Chan := []
  rings : SMap Ring := []
  checking : Bool := false
deriving DecidableEq, Repr

/-- A fabric port (R275, R283, R284, R266). Per virtual channel, in units of 256 B: `rxUsed` the receive buffer in
use, `out` the units taken at the peer, `owe` the units freed here and not yet returned. -/
structure FPort where
  st : FState := .dark
  shutter : Bool := false
  light : Bool := false
  rxPow : BitVec 16 := 0x8000
  txPow : BitVec 16 := 0x8000
  shutdowns : BitVec 16 := 0
  probes : BitVec 16 := 0
  probing : Bool := false
  probeBit : Bool := false
  rxUsed0 : Nat := 0
  rxUsed1 : Nat := 0
  out0 : Nat := 0
  out1 : Nat := 0
  owe0 : Nat := 0
  owe1 : Nat := 0
deriving DecidableEq, Repr

/-- A logical link (R270, R271, R268). `reorder` holds flits received ahead of their turn, `resend` flits of channels
that left UP, `queue` the messages, or parts of them, still to be sent, `turn` what each channel is owed of the spreading, by transceiver
and channel. Per virtual channel, `part` is the message that is being received (its bytes so far, or none for one that goes on), and
`inbox` the messages for this module, oldest first. -/
structure LLink where
  turn : SMap Int := []
  part0 : Option (Option (List Byte)) := none
  part1 : Option (Option (List Byte)) := none
  inbox : List (Bool × List Byte) := []
  used : Bool := false
  peer : Node := 0
  ports : List PortNo := []
  min : BitVec 5 := 0
  max : BitVec 5 := 0
  prio : BitVec 2 := 0
  dateline : Bool := false
  pid : Pid := 0
  quiesced : Bool := false
  txBytes : BitVec 64 := 0
  txL0 : BitVec 24 := 0
  txL1 : BitVec 24 := 0
  rxL0 : BitVec 24 := 0
  rxL1 : BitVec 24 := 0
  reorder : List (Bool × BitVec 24 × List Byte × PortNo) := []
  resend : List TxFlit := []
  queue : List TxMsg := []
deriving DecidableEq, Repr

/-- A transmit request that waits for a line (R272). -/
structure LineReq where
  lt : PortNo
  prio : BitVec 2
  stamp : Nat
  link : BitVec 6
deriving DecidableEq, Repr

/-- The state of a transfer or of a served request (R138, R265). -/
inductive XPhase where
  | opening | sending | waiting | serving
deriving DecidableEq, Repr

/-- A fabric transfer: one this module started, or one it serves for a peer (R138, R357). -/
structure Xfer where
  id : Nat
  mine : Bool
  isPut : Bool
  phase : XPhase
  tag : BitVec 16
  ctx : CtxNo
  peerNode : Node
  peerCtx : CtxNo
  addr : Nat
  len : Nat
  moved : Nat := 0
  rt : Option (Nat × BitVec 6) := none
  op : Option Nat := none
deriving DecidableEq, Repr

/-- The fabric (10). -/
structure FabSt where
  ports : SMap FPort := []
  lts : SMap Lt := []
  links : SMap LLink := []
  waiting : List LineReq := []
  xfers : List Xfer := []
  stuck : List TxMsg := []
deriving DecidableEq, Repr

/-! ### Steering, governors, safelight, plans (11, 12) -/

/-- An entry of a plan's MODULES section (R318). -/
structure PModule where
  serial : BitVec 128
  node : Node
  role : Byte
  variant : Byte
  lender : Node
  pool : Word
  label : BitVec 128
deriving DecidableEq, Repr

/-- An entry of a plan's PORTS section (R319). -/
structure PPort where
  kind : Byte
  join : Byte
  link : Byte
  pid : Byte
  nbrNode : Node
  nbrPort : Byte
  altPort : Byte
  altNode : Node
  rxLoss : BitVec 16
deriving DecidableEq, Repr

/-- An entry of a plan's LINKS section (R320). -/
structure PLink where
  peer : Node
  ports : List Byte
  min : Byte
  max : Byte
  prio : Byte
  flags : Byte
  pid : Byte
deriving DecidableEq, Repr

/-- A topology (R321). Members: module entry index, coordinates, parent. -/
structure PTopo where
  name : BitVec 128
  kind : Byte
  dims : Byte
  size : List Byte
  members : List (Nat × List Byte × BitVec 16)
deriving DecidableEq, Repr

/-- A fabric plan (R317-R321). -/
structure Plan where
  domain : BitVec 16
  planId : Word
  digest : BitVec 384
  modules : List PModule
  ports : List (List PPort)
  links : List (List PLink)
  routes : List (List Byte)
  topos : List PTopo
  substs : List (Node × Node × Word)
deriving DecidableEq, Repr

/-- A plan slot (R322): 0 EMPTY, 1 WRITING, 2 STAGED, 3 ACTIVE. -/
structure PlanSlot where
  st : BitVec 2 := 0
  plan : Option Plan := none
deriving DecidableEq, Repr

/-- Discovery at a port (R326-R329). Outcomes are numbered as PLAN_PORT.OUTCOME. -/
structure PortDisc where
  outcome : BitVec 4 := 0
  cand : BitVec 4 := 0
  swapPort : PortNo := 0
  heard : Option (SlHead × Disc) := none
  adopted : Bool := false
  silent : Bool := false
deriving DecidableEq, Repr

/-- The plan registers and slots (12). -/
structure PlanSt where
  s0 : PlanSlot := {}
  s1 : PlanSlot := {}
  s2 : PlanSlot := {}
  s3 : PlanSlot := {}
  mark : Option (BitVec 2) := none
  staging : SMap Byte := []
  stagedLen : Nat := 0
  loading : Option (BitVec 2) := none
  loadQ : List (BitVec 2) := []
  result : Code := 0
  disc : SMap PortDisc := []
  degraded : Bool := false
  offer : Option (Node × BitVec 2) := none
  acceptCode : Code := 0
  acceptHeld : List PortNo := []
deriving DecidableEq, Repr

/-- The switch in which the module takes part (R297-R301). `begun` says that step 4 of R298 has been reached. -/
structure Switch where
  id : Word
  coord : Bool
  coordNode : Node
  t : DevTime
  planId : Word
  digest : BitVec 384
  slot : BitVec 2
  ready : List Node := []
  refused : List (Node × Code) := []
  acks : List Node := []
  committed : Bool := false
  begun : Bool := false
deriving DecidableEq, Repr

/-- The steering matrix and reconfiguration (R288-R301, R315). A connection is (input, output). `step` is
where a move of steps 6 to 10 of R298 stands (0 none, 1 moving, 2 verifying, 3 training), `old` the connections before the move
and `changed` the ports whose connections it changes; `goCode` is the code of a refused GO while another switch is pending. -/
structure SteerSt where
  conn : List (Nat × Nat) := (List.range 64).map fun p => (p, if p % 2 = 0 then p + 1 else p - 1)
  old : List (Nat × Nat) := []
  failed : List (Nat × Nat) := []
  retried : List (Nat × Nat) := []
  moves : SMap Nat := []
  total : BitVec 64 := 0
  bad : BitVec 64 := 0
  src : BitVec 3 := 5
  inBypass : Bool := true
  latchOpen : Bool := false
  frozen : Bool := false
  moving : Bool := false
  bypassBit : Bool := false
  restoreBit : Bool := false
  sw : Option Switch := none
  step : BitVec 3 := 0
  changed : List PortNo := []
  phase : BitVec 4 := 0
  swCoord : Bool := false
  goCode : Option Code := none
  code : Code := 0
  failNode : Node := 0
  failCount : BitVec 16 := 0
  resume : BitVec 16 := 0
  switches : BitVec 16 := 0
  done : List Word := []
deriving DecidableEq, Repr

/-- The safelight channel of a port (R307-R310, R315): 0 DOWN, 1 SYNC, 2 UP, 3 OFF. -/
structure SlPort where
  st : BitVec 2 := 0
  peer : Node := 0
  rx : Word := 0
  tx : Word := 0
  crc : BitVec 16 := 0
  dropped : BitVec 16 := 0
deriving DecidableEq, Repr

/-- What a receiver keeps of one source and EPOCH (R303): SEQ, CRC, the governor, both copies seen. -/
structure GovWin where
  rcv : GovReceiver
  src : Node
  epoch : BitVec 16
  high : Word
  got : List (Word × Word × Bool × Bool)
deriving DecidableEq, Repr

/-- The governors (R302-R306, R316). Roles: 0 ACTIVE, 1 STANDBY, 2 DROPPED, 3 BOOTING. -/
structure GovSt where
  roleA : BitVec 2 := 3
  roleB : BitVec 2 := 3
  split : BitVec 2 := 0
  simplex : Bool := false
  seq : Word := 0
  epoch : BitVec 16 := 0
  cause : BitVec 4 := 0
  receiver : BitVec 4 := 0
  resultC : BitVec 4 := 0
  node : Node := 0
  splitSeq : Word := 0
  dups : BitVec 64 := 0
  splits : BitVec 16 := 0
  swaps : BitVec 16 := 0
  swapAsked : Bool := false
  resyncing : Bool := false
  wins : List GovWin := []
  flooded : List (Node × BitVec 16 × Word × Bool) := []
  sl : SMap SlPort := []
  relay : Bool := false
deriving DecidableEq, Repr

/-! ### Boot, resets, tables, power (13, 17) -/

/-- A stage record (R339). -/
structure Rec where
  op : Byte
  stage : Byte
  timeoutMs : BitVec 16
  addr : Word
  value : Word
  mask : Word
deriving DecidableEq, Repr

/-- A configuration image (R338): its header fields and records. `plan` holds the bytes of its plan, if any. -/
structure Image where
  magic : Word
  format : BitVec 16
  domain : BitVec 16
  imageId : Word
  size : Word
  bootMode : Byte
  keyIdx : Byte
  variants : Byte
  records : List Rec
  plan : List Byte
  digest : BitVec 384
  bytes : Nat
deriving DecidableEq, Repr

/-- A reset in progress (R355, R356): its target and the trays, clusters and cores it clears. -/
structure ResetJob where
  target : ResetTarget
  trays : List Nat
  clusters : List Nat
  cores : List Nat
  ctxs : List CtxNo
  stopped : Bool := false
deriving DecidableEq, Repr

/-- What the record executor waits for (R339). -/
inductive RecWait where
  | idle | next | delay
deriving DecidableEq, Repr

/-- MOD: boot, stages, resets, tables and power (R338-R361, R414-R420).
States: 0 RUNNING, 1 WAITING, 2 DONE, 3 HALTED. Modes: 0 AUTONOMOUS, 1 STEPPED, 2 RECOVERY. -/
structure ModSt where
  on : Bool := false
  stage : BitVec 4 := 0
  st : BitVec 2 := 0
  mode : BitVec 2 := 0
  code : Byte := 0
  begun : Bool := false
  since : Nat := 0
  next : BitVec 2 := 0
  imageB : Bool := false
  fallback : Bool := false
  image : Option Image := none
  recs : List Rec := []
  recWait : RecWait := .idle
  goBit : Bool := false
  goRecs : Bool := false
  goStage : BitVec 4 := 0
  times : SMap Word := []
  table : Byte := 0
  repairs : Byte := 0
  leftOut : BitVec 16 := 0
  tries : SMap Nat := []
  cause : BitVec 4 := 0
  count : BitVec 16 := 0
  resets : List ResetJob := []
  vinA : BitVec 12 := 0
  vinB : BitVec 12 := 0
  lostA : Bool := true
  lostB : Bool := true
  holdup : Byte := 0
  powerFail : Bool := false
  tripped : Bool := false
deriving DecidableEq, Repr

/-! ### Time (14) -/

/-- A time trigger (R368): 0 IDLE, 1 ARMED, 2 FIRED, 3 LATE, 4 CANCELLED. -/
structure Trigger where
  st : BitVec 3 := 0
  steer : Bool := false
  missed : Byte := 0
  fires : BitVec 16 := 0
  action : BitVec 4 := 0
  periodic : Bool := false
  dst : Node := 0xFFFF
  ns : BitVec 30 := 0
  s : BitVec 48 := 0
  period : Word := 100
deriving DecidableEq, Repr

/-- The time base (R362-R373). `frac` is the part of a nanosecond that the counter has advanced, in 10^-9; `up` is the uptime in ns (the model's own clock, log entry 5).
States: 0 UNSET, 1 ACQUIRING, 2 LOCKED, 3 HOLDOVER, 4 FREE. -/
structure TimeSt where
  now : DevTime := ⟨0, 0⟩
  frac : Int := 0
  up : Nat := 0
  st : BitVec 3 := 0
  set : Bool := false
  refused : Bool := false
  heldSet : Bool := false
  heldForce : Bool := false
  forceArm : Bool := false
  slewing : Bool := false
  freq : Int := 0
  offset : Int := 0
  raws : List Int := []
  delays : List Int := []
  good : Nat := 0
  big : Nat := 0
  master : Option PtpMaster := none
  heard : List PtpMaster := []
  utc : BitVec 16 := 0
  sync : Option (BitVec 16 × DevTime) := none
  lastSync : Option (DevTime × DevTime) := none
  reqSeq : BitVec 16 := 0
  txq : List (Bool × BitVec 16 × DevTime) := []
  overflow : BitVec 16 := 0
  since : Nat := 0
  setNs : BitVec 30 := 0
  setS : BitVec 48 := 0
  markNo : Word := 0
  marks : List (Node × Word × DevTime) := []
  markSrc : Word := 0xFFFE0000
  markSkew : Word := 0
  tts : SMap Trigger := []
deriving DecidableEq, Repr

/-! ### Firmware and settings (15) -/

/-- What a boot header names (R378). -/
structure BootSel where
  fwB : Bool := false
  cfgB : Bool := false
  trial : Bool := false
  tries : BitVec 2 := 0
deriving DecidableEq, Repr

/-- One copy of the boot header (R378). -/
structure BootHdr where
  ok : Bool := true
  seq : Word := 0
  sel : BootSel := {}
  prev : BootSel := {}
deriving DecidableEq, Repr

/-- A firmware or configuration slot (R374, R378, R379): states as under R378. -/
structure FwSlot where
  st : BitVec 4 := 0
  h4 : Bool := false
  hitless : Bool := false
  svn : BitVec 16 := 0
  version : Word := 0
  stateFrom : Word := 0
  schemaWrite : BitVec 16 := 0
  schemaReadMin : BitVec 16 := 0
  schemaConvMin : BitVec 16 := 0
  next : BitVec 16 := 0xFFFF
  blocks : BitVec 16 := 0
  header : List Byte := []
  buf : List Byte := []
  image : Option Image := none
deriving DecidableEq, Repr

/-- A settings bank (R385). -/
structure Bank where
  ok : Bool := false
  schema : BitVec 16 := 0
  seq : Word := 0
  entries : List Rec := []
deriving DecidableEq, Repr

/-- The operations that FW_RESULT.BUSY covers (R379, R381, R384). -/
inductive FwOp where
  | idle | verify (slot : BitVec 2) | hitless
deriving DecidableEq, Repr

/-- Firmware, settings, keys, attestation and Wokor packs (15, R185). -/
structure FwSt where
  h1 : BootHdr := {}
  h2 : BootHdr := {}
  fa : FwSlot := {}
  fb : FwSlot := {}
  ca : FwSlot := {}
  cb : FwSlot := {}
  op : FwOp := .idle
  runB : Bool := false
  status : Code := 0
  phase : BitVec 4 := 0
  hstep : Nat := 0
  site : BitVec 4 := 0
  target : BitVec 2 := 0
  bankA : Bank := {}
  bankB : Bank := {}
  useB : Option Bool := none
  foreign : Bool := false
  ownerLock : Bool := false
  minSvn : BitVec 16 := 0
  keys : SMap (BitVec 768) := []
  reporting : Bool := false
  valid : Bool := false
  reports : BitVec 16 := 0
  report : List Byte := []
  boots : Word := 0
  packs : List (BitVec 384) := []
  patterns : List WokorPattern := []
  runVersion : Word := 0
  runSvn : BitVec 16 := 0
deriving DecidableEq, Repr

/-! ### Contact sheet and management (16) -/

/-- A contact-sheet record (R405). -/
structure CsRec where
  code : Code
  rep : BitVec 16 := 0
  index : Word
  t : DevTime
  source : Byte := 0
  unit : UnitAddr := 0
  lastUs : Word := 0
  flags : BitVec 16 := 0
  valid : Bool := true
  snaps : List (BitVec 64) := []
  up : Nat := 0
deriving DecidableEq, Repr

/-- A configured snapshot list (R405, R413). -/
structure SnapList where
  en : Bool := false
  count : BitVec 5 := 0
  code : Code := 0
  addrs : SMap (BitVec 26) := []
deriving DecidableEq, Repr

/-- The contact sheet (R405-R410). -/
structure CsSt where
  next : Word := 0
  recs : SMap CsRec := []
  p0 : Option (List CsRec) := none
  p1 : Option (List CsRec) := none
  newerP1 : Bool := false
  writing : Option (Bool × List CsRec) := none
  persistBit : Bool := false
  lastPersist : Option Nat := none
  noted : Bool := true
  dropped : BitVec 16 := 0
  taken : SMap Nat := []
  owed : SMap Nat := []
  lists : SMap SnapList := []
  upto : Word := 0
deriving DecidableEq, Repr

/-- The transfer of a session (R397, R400). -/
structure HXfer where
  kind : Byte
  size : Nat
  next : Nat := 0
  data : List Byte := []
deriving DecidableEq, Repr

/-- A reply kept for a session (R399). -/
structure HReply where
  ty : Byte
  seq : Word
  status : Code
  data : List Byte
deriving DecidableEq, Repr

/-- An HMP session (R398-R400). -/
structure Sess where
  id : Word
  ip : BitVec 128
  port : BitVec 16
  auth : Bool := false
  nonce : BitVec 384 := 0
  replies : List HReply := []
  refusals : Nat := 0
  verifying : Option (Word × BitVec 8 × BitVec 768) := none
  xfer : Option HXfer := none
deriving DecidableEq, Repr

/-- A queued health notice (R401, R402). -/
structure Notice where
  seq : Word
  node : Node
  epoch : BitVec 16
  payload : List Byte
  sends : Nat := 0
deriving DecidableEq, Repr

/-- A station (R413). -/
structure Station where
  en : Bool := false
  port : BitVec 16 := 52710
  addr : List Word := [0, 0, 0, 0]
deriving DecidableEq, Repr

/-- The management port (R395-R404, R413). -/
structure MgmtSt where
  link : Bool := false
  relaying : Bool := false
  sess : SMap Sess := []
  lockouts : List (BitVec 128) := []
  notices : List Notice := []
  lost : BitVec 16 := 0
  givenUp : BitVec 16 := 0
  overflow : BitVec 16 := 0
  drop : BitVec 64 := 0
  stns : SMap Station := []
  stnSel : BitVec 2 := 0
  snapSel : Byte := 0
  counts : List Word := [0, 0, 0, 0, 0, 0, 0]
deriving DecidableEq, Repr

/-! ### Paths, what was sent, and the whole -/

/-- A window access held behind a wildcard write (R26). -/
inductive WinAccess where
  | cmd (c : Instr)
deriving DecidableEq, Repr

/-- The registers that each access path has of its own (R14, R24, R199, R207, R229, R259, R287, R315, R409). -/
structure PathSt where
  unitSel : Word := 0
  mode : Word := 0
  code : BitVec 4 := 0
  busy : Bool := false
  heldAcc : List WinAccess := []
  rl : SMap Word := []
  wl : SMap Word := []
  ctxSel : CtxNo := 0
  ctxCmd : Word := 0
  ctxOf : CtxNo := 0
  ctxStatus : Code := 0
  rcmd : Word := 0
  rbase : BitVec 64 := 0
  rsize : BitVec 64 := 0
  rresult : Word := 0
  rremote : Word := 0
  seqSel : Byte := 0
  qpSel : BitVec 13 := 0
  llSel : BitVec 6 := 0
  chSel : SMap Nat := []
  xsel : BitVec 7 := 0
  ringSel : BitVec 11 := 0
  csArea : BitVec 2 := 0
  csSel : Word := 0
deriving DecidableEq, Repr

/-- What the block sends to the outside (the model's own record of it, log entry 6). -/
inductive Sent where
  | csr (p : Path) (a : Nat) (v : Word)
  | arpRequest (port : BitVec 1) (ip : BitVec 32)
  | arpReply (port : BitVec 1) (ip : BitVec 32)
  | nsRequest (port : EthPort) (ip : BitVec 128)
  | naReply (port : EthPort) (ip : BitVec 128)
  | echoReply (port : EthPort)
  | pfc (port : BitVec 1) (pause : Bool)
  | roce (h : RoceOut) (x : RocePkt)
  | hmp (ip : BitVec 128) (port : BitVec 16) (bytes : List Byte)
  | delayReq (ipv4 : Bool) (domain : Byte) (seq : BitVec 16)
  | flit (lt : PortNo) (k : ChanNo) (bits : BitVec 2048)
  | msg (link : Nat) (op : Byte) (m : FabMsg)
  | slFrame (port : PortNo) (bytes : List Byte)
deriving DecidableEq, Repr

/-- What is fixed at manufacture (R2, R354, R361, R391, R395, R208; log entry 2): the variant, the physical site
of each logical site, the stepping, the identity serial, the MAC addresses and the identity certificate. Nothing
that a command does changes it. -/
structure Fuses where
  variant : BitVec 2 := 0
  sites : List Nat := List.range 16
  stepping : Byte := 0
  serial : BitVec 128 := 0
  mac0 : BitVec 48 := 0
  mac1 : BitVec 48 := 0
  macMp : BitVec 48 := 0
  revoked : BitVec 2 := 0
  release : List (BitVec 768) := []
  cert : List Byte := []
deriving DecidableEq, Repr

/-- The whole module. `csr` holds the stored module registers that no other field holds, keyed by CSR
address; `map` and `cmap` the retouch map by bay and by tray (R34): (logical index, service, persisted).
`seedsOwed` lists the trays that have still to acknowledge new seeds, `pending` is the queue of commands, `fv` the count of free values taken, `sent` what was sent. -/
structure State where
  pending : List Instr := []
  fuse : Fuses := {}
  fv : Nat := 0
  sent : List Sent := []
  csr : SMap Word := []
  paths : SMap PathSt := []
  map : SMap (Nat × Bool × Bool) := []
  cmap : SMap (Nat × Bool × Bool) := []
  trays : SMap Tray := []
  clusters : SMap Cluster := []
  cores : SMap Core := []
  nextId : Nat := 0
  starts : List StartReq := []
  outst : List Outst := []
  movers : List MoverOp := []
  subs : SMap Sub := []
  seqs : SMap SeqSlot := []
  mem : MemSt := {}
  host : HostSt := {}
  light : LightMod := {}
  fab : FabSt := {}
  steer : SteerSt := {}
  gov : GovSt := {}
  plan : PlanSt := {}
  mod : ModSt := {}
  time : TimeSt := {}
  fw : FwSt := {}
  cs : CsSt := {}
  mgmt : MgmtSt := {}
  proofMisses : BitVec 64 := 0
  proofRefereed : BitVec 64 := 0
  proofNomaj : BitVec 64 := 0
  seedsOwed : List Nat := []
deriving DecidableEq, Repr

/-- The block right after reset: before input power is applied, every register at the value the spec
gives for reset or, where it gives none, at the value of log entries 3, 4 and 6; no command waiting. -/
def State.reset : State := {}

end Sys2Proof.Machine
end

