-- ==== Sys2Proof/Machine/Ops.lean ====
section
/-! DEFINITION. The named operations over sparse maps, memory, units, time and free values that every
meaning shares. -/

set_option Elab.async false

namespace Sys2Proof.Machine

/-- What a meaning answers. -/
abbrev Out := Host.Outcome State Fault Refusal

/-! ### Sparse maps -/

/-- The entry of key `k`. -/
def SMap.find {α : Type} : SMap α → Nat → Option α
  | [], _ => none
  | (a, b) :: r, k => if a = k then some b else SMap.find r k

/-- The map without key `k`. -/
def SMap.del {α : Type} (m : SMap α) (k : Nat) : SMap α := m.filter fun e => e.1 != k

/-- `(k, v)` put before the first larger key. -/
def SMap.ins {α : Type} (k : Nat) (v : α) : SMap α → SMap α
  | [] => [(k, v)]
  | (a, b) :: r => if k < a then (k, v) :: (a, b) :: r else (a, b) :: SMap.ins k v r

/-- The map with `v` at key `k`. -/
def SMap.put {α : Type} (m : SMap α) (k : Nat) (v : α) : SMap α := SMap.ins k v (SMap.del m k)

/-- The entry of key `k`, or `d`. -/
def SMap.get {α : Type} (m : SMap α) (k : Nat) (d : α) : α := (SMap.find m k).getD d

/-! ### Byte memory (R189, R48, R96): an unlisted byte reads as 0 (log entry 4) -/

/-- One byte. -/
def Memory.read (m : SMap Byte) (a : Nat) : Byte := SMap.get m a 0

/-- One byte written; writing 0 removes the entry. -/
def Memory.write (m : SMap Byte) (a : Nat) (v : Byte) : SMap Byte :=
  if v = 0 then SMap.del m a else SMap.put m a v

/-- `n` bytes from `a`. -/
def Memory.readN (m : SMap Byte) (a n : Nat) : List Byte := (List.range n).map fun i => Memory.read m (a + i)

/-- Bytes written from `a` on. -/
def Memory.writeL (m : SMap Byte) (a : Nat) : List Byte → SMap Byte
  | [] => m
  | v :: r => Memory.writeL (Memory.write m a v) (a + 1) r

/-- The memory without the bytes from `a` to `a + n - 1`: they read 0. -/
def Memory.zero (m : SMap Byte) (a n : Nat) : SMap Byte := m.filter fun e => e.1 < a || a + n ≤ e.1

/-- The keys rise strictly from `lo` on and no byte is 0. -/
def Memory.wfFrom : Nat → SMap Byte → Bool
  | _, [] => true
  | lo, (a, v) :: r => decide (lo ≤ a) && v != 0 && Memory.wfFrom (a + 1) r

/-- The canonical form: addresses strictly rising, no entry equal to what an unlisted address reads as. -/
def Memory.wf (m : SMap Byte) : Bool := Memory.wfFrom 0 m

/-- The number that bytes hold, least significant byte first. -/
def leNat : List Byte → Nat
  | [] => 0
  | v :: r => v.toNat + 256 * leNat r

/-- The `n` low bytes of a number, least significant first. -/
def leBytes : Nat → Nat → List Byte
  | 0, _ => []
  | n + 1, v => BitVec.ofNat 8 v :: leBytes n (v / 256)

/-- A signed number from the low `w` bits. -/
def sgn (w n : Nat) : Int :=
  let m := n % 2 ^ w
  if m < 2 ^ (w - 1) then (m : Int) else (m : Int) - (2 ^ w : Nat)

/-- A signed number as a word, stopping at the ends of the range. -/
def satInt (w : Nat) (x : Int) : BitVec w :=
  if x < -(2 ^ (w - 1) : Nat) then BitVec.ofNat w (2 ^ (w - 1))
  else if (2 ^ (w - 1) : Nat) ≤ x then BitVec.ofNat w (2 ^ (w - 1) - 1)
  else BitVec.ofInt w x

/-- The `n`-th entry of a list replaced. -/
def setAt {α : Type} (l : List α) (n : Nat) (v : α) : List α := l.set n v

/-! ### Free values (log entry 1) -/

/-- The counter of free values moved on by one use. -/
def State.draw (s : State) : State := { s with fv := s.fv + 1 }

/-! ### Time (R362): `up` is the uptime in ns of the model's own clock (log entry 5) -/

/-- Nanoseconds since the PTP epoch. -/
def DevTime.toNs (t : DevTime) : Nat := t.s.toNat * 1000000000 + t.ns.toNat

/-- A device time from nanoseconds since the epoch. -/
def DevTime.ofNs (n : Nat) : DevTime := ⟨BitVec.ofNat 48 (n / 1000000000), BitVec.ofNat 32 (n % 1000000000)⟩

/-- Earlier than. -/
def DevTime.before (a b : DevTime) : Bool := decide (DevTime.toNs a < DevTime.toNs b)

/-- `n` ns later. -/
def DevTime.plus (t : DevTime) (n : Nat) : DevTime := DevTime.ofNs (DevTime.toNs t + n)

/-- `n` ns earlier, not before the epoch. -/
def DevTime.minus (t : DevTime) (n : Nat) : DevTime := DevTime.ofNs (DevTime.toNs t - n)

/-- Device time moved by a signed number of ns, not before the epoch. -/
def DevTime.shift (t : DevTime) (x : Int) : DevTime := DevTime.ofNs ((DevTime.toNs t : Int) + x).toNat

/-- The ten bytes of a time in a payload: nanoseconds, seconds [31:0], seconds [47:32] (R401). -/
def DevTime.bytes (t : DevTime) : List Byte :=
  leBytes 4 t.ns.toNat ++ leBytes 4 t.s.toNat ++ leBytes 2 (t.s.toNat / 2 ^ 32)

/-- The device time of the module. -/
abbrev State.now (s : State) : DevTime := s.time.now

/-- The uptime in ns. -/
abbrev State.up (s : State) : Nat := s.time.up

/-! ### Access to the parts of the state -/

/-- Key of an access path: HMP sessions 0 to 3, admin queue pairs 4 to 19, the record executor 20,
context pages from 32. -/
def pathKey : Path → Nat
  | .hmp n => n.toNat
  | .admin a => 4 + a.toNat
  | .image => 20
  | .page c => 32 + c.toNat

/-- A privileged path (R24, R39, R340). -/
def privileged : Path → Bool
  | .page _ => false
  | _ => true

def State.path (s : State) (p : Path) : PathSt := SMap.get s.paths (pathKey p) {}
def State.setPath (s : State) (p : Path) (v : PathSt) : State := { s with paths := SMap.put s.paths (pathKey p) v }
def State.tray (s : State) (k : Nat) : Tray := SMap.get s.trays k {}
def State.setTray (s : State) (k : Nat) (t : Tray) : State := { s with trays := SMap.put s.trays k t }
def State.cluster (s : State) (k : Nat) : Cluster := SMap.get s.clusters k {}
def State.setCluster (s : State) (k : Nat) (c : Cluster) : State := { s with clusters := SMap.put s.clusters k c }
/-- A core; one that nothing has acted on yet stands as its cluster does. -/
def State.core (s : State) (k : Nat) : Core :=
  (SMap.find s.cores k).getD
    { ctl := { st := (s.cluster (k / 16)).ctl.st, drained := (s.cluster (k / 16)).ctl.drained } }
def State.setCore (s : State) (k : Nat) (c : Core) : State := { s with cores := SMap.put s.cores k c }
def State.site (s : State) (k : Nat) : Site := SMap.get s.mem.sites k {}
def State.setSite (s : State) (k : Nat) (v : Site) : State :=
  { s with mem := { s.mem with sites := SMap.put s.mem.sites k v } }
def State.ctx (s : State) (c : CtxNo) : Ctx := SMap.get s.mem.ctxs c.toNat {}
def State.setCtx (s : State) (c : CtxNo) (v : Ctx) : State :=
  { s with mem := { s.mem with ctxs := SMap.put s.mem.ctxs c.toNat v } }
def State.seq (s : State) (k : Nat) : SeqSlot := SMap.get s.seqs k {}
def State.setSeq (s : State) (k : Nat) (v : SeqSlot) : State := { s with seqs := SMap.put s.seqs k v }
def State.sub? (s : State) (k : Nat) : Option Sub := SMap.find s.subs k
def State.setSub (s : State) (k : Nat) (v : Sub) : State := { s with subs := SMap.put s.subs k v }
def State.qp (s : State) (k : Nat) : Qp := SMap.get s.host.qps k {}
def State.setQp (s : State) (k : Nat) (v : Qp) : State :=
  { s with host := { s.host with qps := SMap.put s.host.qps k v } }
def State.hport (s : State) (p : BitVec 1) : HPort := if p = 0 then s.host.p0 else s.host.p1
def State.setHport (s : State) (p : BitVec 1) (v : HPort) : State :=
  if p = 0 then { s with host := { s.host with p0 := v } } else { s with host := { s.host with p1 := v } }
def State.comb (s : State) (k : Nat) : Comb := SMap.get s.light.combs k {}
def State.setComb (s : State) (k : Nat) (v : Comb) : State :=
  { s with light := { s.light with combs := SMap.put s.light.combs k v } }
def State.fport (s : State) (p : PortNo) : FPort := SMap.get s.fab.ports p.toNat {}
def State.setFport (s : State) (p : PortNo) (v : FPort) : State :=
  { s with fab := { s.fab with ports := SMap.put s.fab.ports p.toNat v } }
def State.lt (s : State) (x : PortNo) : Lt := SMap.get s.fab.lts x.toNat {}
def State.setLt (s : State) (x : PortNo) (v : Lt) : State :=
  { s with fab := { s.fab with lts := SMap.put s.fab.lts x.toNat v } }
def State.chan (s : State) (x : PortNo) (k : ChanNo) : Chan := SMap.get (s.lt x).chans k.toNat {}
def State.setChan (s : State) (x : PortNo) (k : ChanNo) (v : Chan) : State :=
  s.setLt x { s.lt x with chans := SMap.put (s.lt x).chans k.toNat v }
def State.link (s : State) (l : BitVec 6) : LLink := SMap.get s.fab.links l.toNat {}
def State.setLink (s : State) (l : BitVec 6) (v : LLink) : State :=
  { s with fab := { s.fab with links := SMap.put s.fab.links l.toNat v } }
def State.slPort (s : State) (p : PortNo) : SlPort := SMap.get s.gov.sl p.toNat {}
def State.setSlPort (s : State) (p : PortNo) (v : SlPort) : State :=
  { s with gov := { s.gov with sl := SMap.put s.gov.sl p.toNat v } }
def State.disc (s : State) (p : PortNo) : PortDisc := SMap.get s.plan.disc p.toNat {}
def State.setDisc (s : State) (p : PortNo) (v : PortDisc) : State :=
  { s with plan := { s.plan with disc := SMap.put s.plan.disc p.toNat v } }
def State.trigger (s : State) (n : Nat) : Trigger := SMap.get s.time.tts n {}
def State.setTrigger (s : State) (n : Nat) (v : Trigger) : State :=
  { s with time := { s.time with tts := SMap.put s.time.tts n v } }
def State.sess? (s : State) (n : Nat) : Option Sess := SMap.find s.mgmt.sess n
def State.setSess (s : State) (n : Nat) (v : Sess) : State :=
  { s with mgmt := { s.mgmt with sess := SMap.put s.mgmt.sess n v } }

/-- A path carries accesses (R39, R214, R216): an HMP session or an admin queue pair once it is authenticated, the queue
pair of a context while it is in RTS, and the record executor while a record is to be carried out. -/
def State.carries (s : State) (p : Path) : Bool :=
  match p with
  | .hmp n => match s.sess? n.toNat with
    | some x => x.auth
    | none => false
  | .admin a => (s.qp (4096 + a.toNat)).st == 1 && (s.qp (4096 + a.toNat)).auth
  | .image => s.mod.recWait == .next
  | .page c => (s.qp c.toNat).st == 1

/-- A privileged access that its path carries. -/
def State.priv (s : State) (p : Path) : Bool := privileged p && s.carries p

/-- The port that a queue pair uses (R212). -/
def Qp.port (q : Qp) : BitVec 1 := if q.path.getLsbD 31 then 1 else 0

/-- A frame received, and one sent, at a host port: no rule says how many of its bytes PORT_RX_BYTES and PORT_TX_BYTES count
(R229), so that the amount is a free value. -/
def State.frameIn (s : State) (p : BitVec 1) : State :=
  (s.setHport p { s.hport p with rxBytes := satAdd (s.hport p).rxBytes (Config.choice s.fv) }).draw
def State.frameOut (s : State) (p : BitVec 1) : State :=
  (s.setHport p { s.hport p with txBytes := satAdd (s.hport p).txBytes (Config.choice s.fv) }).draw

/-- Something sent to the outside (log entry 6). -/
def State.send (s : State) (x : Sent) : State := { s with sent := x :: s.sent }

/-- A fresh number for a thread, descriptor, load, exposure or transfer of the model's own. -/
def State.fresh (s : State) : State := { s with nextId := s.nextId + 1 }

/-! ### Units (R20-R23, R34) -/

/-- A unit, by physical keys: site s; bay 8 s + b; tray 9 bay + t; cluster 20 tray + c; core 16 cluster + k. -/
inductive URef where
  | module
  | site (s : Nat)
  | bay (b : Nat)
  | tray (t : Nat)
  | cluster (c : Nat)
  | core (k : Nat)
deriving DecidableEq, Repr

/-- The fields of a unit address (R22). -/
def uPhys (u : UnitAddr) : Bool := u.getLsbD 31
def uLevel (u : UnitAddr) : Nat := bitsOf u 30 28
def uSite (u : UnitAddr) : Nat := bitsOf u 27 24
def uBay (u : UnitAddr) : Nat := bitsOf u 23 20
def uTray (u : UnitAddr) : Nat := bitsOf u 19 16
def uCluster (u : UnitAddr) : Nat := bitsOf u 15 10
def uCore (u : UnitAddr) : Nat := bitsOf u 9 6

/-- The logical sites of the variant (R1, R2). -/
def State.siteCount (s : State) : Nat := s.fuse.sites.length

/-- The physical site behind a site field, or none if it is absent (R23, R354). -/
def State.physSite (s : State) (phys : Bool) (i : Nat) : Option Nat :=
  if phys then (if s.fuse.sites.contains i then some i else none) else s.fuse.sites[i]?

/-- The index a logical tray is bound to in its bay (R34). -/
def State.trayIdx (s : State) (bay i : Nat) : Nat :=
  match SMap.find s.map bay with
  | some (l, _) => if l = i then 8 else i
  | none => i

/-- The index a logical cluster is bound to in its tray (R34). -/
def State.clusterIdx (s : State) (tray i : Nat) : Nat :=
  match SMap.find s.cmap tray with
  | some (l, _) => if l = i then 19 else i
  | none => i

/-- The bits below a level that must be 0 (R23), or 0 for a level that names no unit. -/
def belowBits (level : Nat) : Nat :=
  if level = 0 then 28 else if level = 1 then 24 else if level = 2 then 20
  else if level = 3 then 16 else if level = 4 then 10 else 6

/-- A significant index field of all ones, under WILD (R26). -/
def wildSite (u : UnitAddr) : Bool := decide (1 ≤ uLevel u) && uSite u == 15
def wildBay (u : UnitAddr) : Bool := decide (2 ≤ uLevel u) && uBay u == 15
def wildTray (u : UnitAddr) : Bool := decide (3 ≤ uLevel u) && uTray u == 15
def wildCluster (u : UnitAddr) : Bool := decide (4 ≤ uLevel u) && uCluster u == 63
def wildCore (u : UnitAddr) : Bool := decide (5 ≤ uLevel u) && uCore u == 15

/-- Some field is a wildcard (R25, R26). -/
def anyWild (u : UnitAddr) : Bool := wildSite u || wildBay u || wildTray u || wildCluster u || wildCore u

/-- An index outside the ranges of R22; `w` says that fields of all ones are wildcards. -/
def badIndex (u : UnitAddr) (w : Bool) : Bool :=
  let p := uPhys u
  let past (lvl n lim : Nat) (wild : Bool) : Bool := decide (lvl ≤ uLevel u) && decide (lim < n) && !(w && wild)
  past 2 (uBay u) 7 (wildBay u) || past 3 (uTray u) (if p then 8 else 7) (wildTray u) ||
    past 4 (uCluster u) (if p then 19 else 18) (wildCluster u)

/-- UNIT_SEL_STATUS.CODE of a selection (R24, R25); `w` is WILD. -/
def State.selCode (s : State) (u : UnitAddr) (w : Bool) : BitVec 4 :=
  if 6 ≤ uLevel u then 4
  else if u.toNat % 2 ^ belowBits (uLevel u) ≠ 0 then 1
  else if w && uPhys u && anyWild u then 5
  else if badIndex u w then 2
  else if 1 ≤ uLevel u && !(w && wildSite u) && (s.physSite (uPhys u) (uSite u)).isNone then 3
  else 0

/-- The unit that a valid address names (R22, R34). -/
def State.resolve (s : State) (u : UnitAddr) : Option URef :=
  if s.selCode u false ≠ 0 then none
  else if uLevel u = 0 then some .module
  else match s.physSite (uPhys u) (uSite u) with
    | none => none
    | some ps =>
      let b := ps * 8 + uBay u
      let t := b * 9 + (if uPhys u then uTray u else s.trayIdx b (uTray u))
      let c := t * 20 + (if uPhys u then uCluster u else s.clusterIdx t (uCluster u))
      if uLevel u = 1 then some (.site ps)
      else if uLevel u = 2 then some (.bay b)
      else if uLevel u = 3 then some (.tray t)
      else if uLevel u = 4 then some (.cluster c)
      else some (.core (c * 16 + uCore u))

/-- The tray that an address names. -/
def State.trayAt (s : State) (u : UnitAddr) : Option Nat :=
  match s.resolve u with
  | some (.tray t) => some t
  | _ => none

/-- The cluster that an address names. -/
def State.clusterAt (s : State) (u : UnitAddr) : Option Nat :=
  match s.resolve u with
  | some (.cluster c) => some c
  | _ => none

/-- The core that an address names. -/
def State.coreAt (s : State) (u : UnitAddr) : Option Nat :=
  match s.resolve u with
  | some (.core k) => some k
  | _ => none

/-- The keys of the logical trays of a bay, in logical order. -/
def State.traysOfBay (s : State) (b : Nat) : List Nat := (List.range 8).map fun i => b * 9 + s.trayIdx b i

/-- The keys of the logical trays of a physical site. -/
def State.traysOfSite (s : State) (ps : Nat) : List Nat := (List.range 8).flatMap fun b => s.traysOfBay (ps * 8 + b)

/-- The keys of every logical tray, in ascending logical order. -/
def State.allTrays (s : State) : List Nat := s.fuse.sites.flatMap s.traysOfSite

/-- The keys of the 19 logical clusters of a tray. -/
def State.clustersOfTray (s : State) (t : Nat) : List Nat := (List.range 19).map fun i => t * 20 + s.clusterIdx t i

/-- The keys of the 16 cores of a cluster. -/
def coresOfCluster (c : Nat) : List Nat := (List.range 16).map fun k => c * 16 + k

/-- The logical trays at or below a unit (for a cluster or core none). -/
def State.traysUnder (s : State) : URef → List Nat
  | .module => s.allTrays
  | .site p => s.traysOfSite p
  | .bay b => s.traysOfBay b
  | .tray t => [t]
  | .cluster _ => []
  | .core _ => []

/-- The member trays of a partition (R37). -/
def State.traysOfPid (s : State) (pid : Pid) : List Nat := s.allTrays.filter fun t => (s.tray t).owner = pid

/-- Physical indices from keys. -/
def trayOfCluster (c : Nat) : Nat := c / 20
def clusterOfCore (k : Nat) : Nat := k / 16
def trayOfCore (k : Nat) : Nat := k / 320
def bayOfTray (t : Nat) : Nat := t / 9
def siteOfBay (b : Nat) : Nat := b / 8
def siteOfTray (t : Nat) : Nat := t / 72
def siteOfCore (k : Nat) : Nat := k / 23040

/-- The logical index of a physical site. -/
def State.logSite (s : State) (ps : Nat) : Nat := (s.fuse.sites.findIdx? (· == ps)).getD 0

/-- The logical tray index that a physical tray carries, if any (R34). -/
def State.logTray (s : State) (t : Nat) : Option Nat :=
  (List.range 8).find? fun i => s.trayIdx (bayOfTray t) i == t % 9

/-- The logical cluster index that a physical cluster carries, if any (R34). -/
def State.logCluster (s : State) (c : Nat) : Option Nat :=
  (List.range 19).find? fun i => s.clusterIdx (trayOfCluster c) i == c % 20

/-- A unit address from its fields. -/
def mkUnit (phys : Bool) (level site bay tray cluster core : Nat) : UnitAddr :=
  BitVec.ofNat 32 ((if phys then 2 ^ 31 else 0) + level * 2 ^ 28 + site * 2 ^ 24 + bay * 2 ^ 20 +
    tray * 2 ^ 16 + cluster * 2 ^ 10 + core * 2 ^ 6)

/-- The logical address of a tray, or its physical address where it carries no logical index. -/
def State.trayUnit (s : State) (t : Nat) : UnitAddr :=
  match s.logTray t with
  | some i => mkUnit false 3 (s.logSite (siteOfTray t)) (bayOfTray t % 8) i 0 0
  | none => mkUnit true 3 (siteOfTray t) (bayOfTray t % 8) (t % 9) 0 0

/-- The logical address of a cluster, or its physical address. -/
def State.clusterUnit (s : State) (c : Nat) : UnitAddr :=
  let t := trayOfCluster c
  match s.logTray t, s.logCluster c with
  | some i, some j => mkUnit false 4 (s.logSite (siteOfTray t)) (bayOfTray t % 8) i j 0
  | _, _ => mkUnit true 4 (siteOfTray t) (bayOfTray t % 8) (t % 9) (c % 20) 0

/-- The logical address of a core, or its physical address. -/
def State.coreUnit (s : State) (k : Nat) : UnitAddr :=
  let c := clusterOfCore k
  let t := trayOfCluster c
  match s.logTray t, s.logCluster c with
  | some i, some j => mkUnit false 5 (s.logSite (siteOfTray t)) (bayOfTray t % 8) i j (k % 16)
  | _, _ => mkUnit true 5 (siteOfTray t) (bayOfTray t % 8) (t % 9) (c % 20) (k % 16)

/-- The address of a unit. -/
def State.unitAddr (s : State) : URef → UnitAddr
  | .module => 0
  | .site p => mkUnit false 1 (s.logSite p) 0 0 0 0
  | .bay b => mkUnit false 2 (s.logSite (siteOfBay b)) (b % 8) 0 0 0
  | .tray t => s.trayUnit t
  | .cluster c => s.clusterUnit c
  | .core k => s.coreUnit k

/-- A fold of updates over keys. -/
def State.each (s : State) (ks : List Nat) (f : State → Nat → State) : State := ks.foldl f s

/-- The low and the high word of a 64-bit register (R14). -/
def lo64 (v : BitVec 64) : Word := v.setWidth 32
def hi64 (v : BitVec 64) : Word := (v >>> 32).setWidth 32

/-- The integer square root, bit by bit from bit `k`. -/
def isqrtFrom (n : Nat) : Nat → Nat → Nat
  | 0, r => r
  | k + 1, r => isqrtFrom n k (if (r + 2 ^ k) * (r + 2 ^ k) ≤ n then r + 2 ^ k else r)

/-- The integer square root of a number below 2^128. -/
def isqrt (n : Nat) : Nat := isqrtFrom n 64 0

/-- A Bool as a number. -/
def nb (b : Bool) : Nat := if b then 1 else 0

/-- An update of one tray. -/
def State.modTray (s : State) (k : Nat) (f : Tray → Tray) : State := s.setTray k (f (s.tray k))
/-- An update of one cluster. -/
def State.modCluster (s : State) (k : Nat) (f : Cluster → Cluster) : State := s.setCluster k (f (s.cluster k))
/-- An update of one core. -/
def State.modCore (s : State) (k : Nat) (f : Core → Core) : State := s.setCore k (f (s.core k))

/-! ### Keys and signatures (R375) -/

/-- The 96 bytes of a key or of a signature. -/
def keyBytes (v : BitVec 768) : List Byte := leBytes 96 v.toNat

/-- A key or a signature that 96 bytes hold. -/
def keyOf (b : List Byte) : BitVec 768 := BitVec.ofNat 768 (leNat b)

/-- FW_KEY_ID: the first 4 bytes of the SHA-384 of an owner key (R394). -/
def keyId (key : BitVec 768) : Word := BitVec.ofNat 32 (leNat ((sha384 (keyBytes key)).take 4))

/-- A signature of bytes by the owner key with an index, which must be installed (R375). -/
def State.signed (s : State) (idx : Nat) (sig : BitVec 768) (msg : List Byte) : Bool :=
  match SMap.find s.fw.keys idx with
  | some key => decide (idx < 4) && sigOk key sig msg
  | none => false

/-- What an owner signs to be authenticated (R216, R390): the nonce, the identity serial and the number of the queue pair or session. -/
def State.challenge (s : State) (nonce : BitVec 384) (number : Nat) : List Byte :=
  leBytes 48 nonce.toNat ++ leBytes 16 s.fuse.serial.toNat ++ leBytes 4 number

end Sys2Proof.Machine
end

