-- ==== Sys2Proof/Machine/Float.lean ====
section
/-! DEFINITION. Binary floating-point numbers (R45, R49, R54, R84, R144-R149): exact dyadic values, rounding to
nearest with ties to even, and the formats FP32, BF16, FP16 and FP8. -/

set_option Elab.async false

namespace Sys2Proof.Machine

/-- A floating-point value: NaN, an infinity, or the exact number (-1)^neg * m * 2^e. -/
inductive FVal where
  | nan
  | inf (neg : Bool)
  | num (neg : Bool) (m : Nat) (e : Int)
deriving DecidableEq, Repr

/-- A format: width of the fraction, of the exponent, the bias, and whether the all-ones exponent holds
infinities and NaNs (FP8 E4M3 has one NaN and no infinity). -/
structure FFmt where
  frac : Nat
  expo : Nat
  bias : Int
  ieee : Bool
deriving DecidableEq, Repr

def fp32 : FFmt := ⟨23, 8, 127, true⟩
def bf16 : FFmt := ⟨7, 8, 127, true⟩
def fp16 : FFmt := ⟨10, 5, 15, true⟩
def e4m3 : FFmt := ⟨3, 4, 7, false⟩
def e5m2 : FFmt := ⟨2, 5, 15, true⟩

/-- The width of a format in bits. -/
def FFmt.width (f : FFmt) : Nat := 1 + f.expo + f.frac

/-- The value of an encoded number. -/
def FFmt.decode (f : FFmt) (n : Nat) : FVal :=
  let frac := n % 2 ^ f.frac
  let ex := (n / 2 ^ f.frac) % 2 ^ f.expo
  let neg := (n / 2 ^ (f.frac + f.expo)) % 2 == 1
  if f.ieee && ex == 2 ^ f.expo - 1 then (if frac = 0 then .inf neg else .nan)
  else if !f.ieee && ex == 2 ^ f.expo - 1 && frac == 2 ^ f.frac - 1 then .nan
  else if ex = 0 then .num neg frac (1 - f.bias - f.frac)
  else .num neg (frac + 2 ^ f.frac) ((ex : Int) - f.bias - f.frac)

/-- `m / 2^sh` rounded to nearest, ties to even. -/
def rne (m sh : Nat) : Nat :=
  let q := m / 2 ^ sh
  let r := m % 2 ^ sh
  if 2 * r > 2 ^ sh || (2 * r == 2 ^ sh && q % 2 == 1 && sh ≠ 0) then q + 1 else q

/-- `m * 2^e` as a multiple of `2^k`, rounded to nearest, ties to even. -/
def rneAt (m : Nat) (e k : Int) : Nat :=
  if k ≤ e then m * 2 ^ (e - k).toNat else rne m (k - e).toNat

/-- The length of a number in binary. -/
def bitLen (n : Nat) : Nat := if n = 0 then 0 else Nat.log2 n + 1

/-- The exponent of the last place of `m * 2^e` in a format, not below that of the subnormal numbers. -/
def FFmt.lastPlace (f : FFmt) (m : Nat) (e : Int) : Int :=
  max (1 - f.bias - f.frac) (e + bitLen m - 1 - f.frac)

/-- The largest exponent field of a finite number. -/
def FFmt.topExp (f : FFmt) : Nat := if f.ieee then 2 ^ f.expo - 2 else 2 ^ f.expo - 1

/-- The encoding of infinity, or the largest number where the format has none. -/
def FFmt.infBits (f : FFmt) : Nat :=
  if f.ieee then (2 ^ f.expo - 1) * 2 ^ f.frac else (2 ^ f.expo - 1) * 2 ^ f.frac + (2 ^ f.frac - 2)

/-- The sign bit of a format. -/
def FFmt.signBits (f : FFmt) (neg : Bool) : Nat := if neg then 2 ^ (f.frac + f.expo) else 0

/-- A quiet NaN with a clear sign (R91): the first fraction bit is 1; the others are a free value (log entry 7). -/
def FFmt.nanBits (f : FFmt) : Nat :=
  if f.ieee then (2 ^ f.expo - 1) * 2 ^ f.frac + 2 ^ (f.frac - 1) + Config.nanFrac f.frac % 2 ^ (f.frac - 1)
  else (2 ^ f.expo - 1) * 2 ^ f.frac + (2 ^ f.frac - 1)

/-- A number encoded with one rounding to nearest, ties to even, with subnormal results kept.
The second component says that the result overflowed. -/
def FFmt.encode (f : FFmt) : FVal → Nat × Bool
  | .nan => (f.signBits Config.nanNeg + f.nanBits, false)
  | .inf neg => (f.signBits neg + f.infBits, false)
  | .num neg m e =>
    let lp := f.lastPlace m e
    let r := rneAt m e lp
    let r' := if r = 2 ^ (f.frac + 1) then 2 ^ f.frac else r
    let lp' := if r = 2 ^ (f.frac + 1) then lp + 1 else lp
    let ex := if r' < 2 ^ f.frac then 0 else (lp' + f.bias + f.frac).toNat
    let body := if r' < 2 ^ f.frac then r' else ex * 2 ^ f.frac + (r' - 2 ^ f.frac)
    if f.topExp < ex || (!f.ieee && 2 ^ (f.frac + f.expo) - 1 ≤ body) then (f.signBits neg + f.infBits, true)
    else (f.signBits neg + body, false)

/-- Flags of a fix-stage result (R54): NaN, overflow, underflow. -/
structure FFlags where
  nan : Bool := false
  ovf : Bool := false
  ufl : Bool := false
deriving DecidableEq, Repr

/-- The flags of either. -/
def FFlags.or (a b : FFlags) : FFlags := ⟨a.nan || b.nan, a.ovf || b.ovf, a.ufl || b.ufl⟩

/-- A finite result in the fix stage (R54, steps 8 and 9): below the normal range it is delivered as zero. -/
def fixRound (neg : Bool) (m : Nat) (e : Int) : Word × FFlags :=
  if m ≠ 0 ∧ e + bitLen m ≤ -126 then (BitVec.ofNat 32 (fp32.signBits neg), ⟨false, false, true⟩)
  else
    let (n, o) := fp32.encode (.num neg m e)
    (BitVec.ofNat 32 n, ⟨false, o, false⟩)

/-- The exact sum of two values, with the IEEE 754 sign of an exact zero sum. -/
def FVal.add : FVal → FVal → FVal
  | .nan, _ => .nan
  | _, .nan => .nan
  | .inf a, .inf b => if a = b then .inf a else .nan
  | .inf a, _ => .inf a
  | _, .inf b => .inf b
  | .num n1 m1 e1, .num n2 m2 e2 =>
    let e := min e1 e2
    let a : Int := (m1 * 2 ^ (e1 - e).toNat : Nat)
    let b : Int := (m2 * 2 ^ (e2 - e).toNat : Nat)
    let x := (if n1 then -a else a) + (if n2 then -b else b)
    if x = 0 then .num (n1 && n2) 0 e else .num (decide (x < 0)) x.natAbs e

/-- The exact product of two values. -/
def FVal.mul : FVal → FVal → FVal
  | .nan, _ => .nan
  | _, .nan => .nan
  | .inf a, .inf b => .inf (a != b)
  | .inf a, .num b m _ => if m = 0 then .nan else .inf (a != b)
  | .num a m _, .inf b => if m = 0 then .nan else .inf (a != b)
  | .num a m e, .num b n g => .num (a != b) (m * n) (e + g)

/-- The value with the other sign. -/
def FVal.neg : FVal → FVal
  | .nan => .nan
  | .inf a => .inf (!a)
  | .num a m e => .num (!a) m e

/-- Numeric order; `none` where a NaN is compared. -/
def FVal.lt : FVal → FVal → Option Bool
  | .nan, _ => none
  | _, .nan => none
  | .inf a, .inf b => some (a && !b)
  | .inf a, _ => some a
  | _, .inf b => some (!b)
  | .num n1 m1 e1, .num n2 m2 e2 =>
    let e := min e1 e2
    let a : Int := (m1 * 2 ^ (e1 - e).toNat : Nat)
    let b : Int := (m2 * 2 ^ (e2 - e).toNat : Nat)
    some (decide ((if n1 then -a else a) < (if n2 then -b else b)))

/-- A binary32 word as a value. -/
def f32 (w : Word) : FVal := fp32.decode w.toNat

/-- A value rounded to a binary32 word (IEEE 754, subnormal results kept). -/
def toF32 (v : FVal) : Word := BitVec.ofNat 32 (fp32.encode v).1

/-- Accumulation of R54 step 9: old + new, with the flags it sets. -/
def accAdd (old new : Word) : Word × FFlags :=
  match FVal.add (f32 old) (f32 new) with
  | .nan => (BitVec.ofNat 32 (fp32.encode .nan).1, ⟨true, false, false⟩)
  | .inf a => (BitVec.ofNat 32 (fp32.signBits a + fp32.infBits), {})
  | .num a m e => fixRound a m e

/-- Scaling of R53 step 8: a value in units of 2^-12 product units times 2^k. -/
def scaleOut (x : Int) (k : Int) : Word × FFlags := fixRound (decide (x < 0)) x.natAbs (k - 12)

/-- R54 step 6: a value in units of 2^-12 rounded to the 24 significant bits of binary32. -/
def roundSig (x : Int) : Int :=
  let m := x.natAbs
  let sh := bitLen m - 24
  let r : Int := (rne m sh * 2 ^ sh : Nat)
  if x < 0 then -r else r

end Sys2Proof.Machine
end

