-- ==== Sys2Proof/Machine/Policy.lean ====
section
/-! DEFINITION. The module registers that only hold what is written to them: their values at reset and what a
write stores (masks, limits and replaced values of the register tables). A reset value of "image" is the default
that the owning chapter or R341 gives (log entry 3). -/

set_option Elab.async false

namespace Sys2Proof.Machine

/-- The value at reset of a stored register, by address. -/
def polReset (a : Nat) : Word :=
  if a = 0x000020 then 0x08000000        -- MOD_BOOT.AUTOMAP = 1
  else if a = 0x00002C then 100          -- MOD_S7
  else if a = 0x200010 then 0x800001F4   -- TIME_CFG: PTP_EN 1, STEP_MAX 500
  else if a = 0x301000 then 0x00001008   -- CSHEET_CFG: BURST 16, RATE 8
  else if a = 0x400008 then 0x70140A32   -- STEER_CFG: TT 7, LEAD_MIN 20, QUIESCE 10, GUARD 50
  else if a = 0x600004 then 0x00400014   -- HOST_SCAN: IDLE_PERIOD 64, PERIOD 20
  else if a = 0x600008 then 0x80373201   -- HOST_DCQCN: G 8, RATE_TIMER 55, CNP_INTERVAL 50, MIN_RATE 1
  else if a = 0x60000C then 160          -- HOST_DCQCN2
  else if a = 0x601004 || a = 0x601104 then 0x3000001A -- PORT_CFG: PCP 3, DSCP 26
  else if a = 0x700004 then 0x0258001E   -- LIGHT_CAL: MAX_AGE 600, DELTA 30
  else if a = 0x700008 then 0x0000100A   -- LIGHT_STRIP: CONCURRENT 16, SHARE 10
  else if a = 0x900004 then 3000         -- MEM_PCAP
  else if a = 0x900018 then 24           -- MEM_SCRUB
  else if a = 0xA00004 then 0x60446803   -- PROOF_POLICY: K 6.0, EPOCH_SEL 4, A_MULT 4, MON_K 6.5, CAPTURE, MON_EN
  else if a = 0xA00008 then 0x0FA001F4   -- PROOF_A: A_CAP 4,000, A_FLOOR 500
  else if a = 0xA0000C then 500          -- PROOF_MONF
  else if a = 0xA00010 then 0x0E100400   -- PROOF_LADDER: HALF_LIFE 3,600, STEP 1,024
  else if a = 0xA00014 then 0x10102020   -- PROOF_WEIGHTS
  else if a = 0xA00018 then 0x10040000   -- PROOF_WEIGHTS2
  else if a = 0xA0001C then 64           -- PROOF_RATE
  else if a = 0xA00020 then 0xF          -- PROOF_LADDER_EN
  else if a = 0xB00004 then 0x000AFFFE   -- MGMT_CFG: TELEMETRY_S 10, RELAY none
  else 0

/-- A number held within limits. -/
def clampN (lo hi n : Nat) : Nat := if n < lo then lo else if hi < n then hi else n

/-- 0 stored as 1. -/
def nz (n : Nat) : Nat := if n = 0 then 1 else n

/-- A word from numbers at bit positions. -/
def packW : List (Nat × Nat) → Word
  | [] => 0
  | (lo, n) :: r => BitVec.ofNat 32 (n * 2 ^ lo) ||| packW r

/-- What a write of `v` stores in the register at `a`; `none` where the register is not one of these. -/
def polStore (a : Nat) (v : Word) : Option Word :=
  let b := bitsOf v
  if a = 0x000020 then some (v &&& 0x08000000)
  else if a = 0x00002C then some (packW [(0, clampN 10 600 (b 15 0))])
  else if a = 0x100004 then some (v &&& 0x7)
  else if a = 0x200010 then some (packW [(30, b 31 30), (16, b 23 16), (0, max 50 (b 15 0))])
  else if a = 0x301000 then some (packW [(31, b 31 31), (8, nz (b 15 8)), (0, nz (b 7 0))])
  else if a = 0x400008 then
    some (packW [(28, if 7 < b 31 28 then 0 else b 31 28), (16, clampN 20 4000 (b 27 16)), (8, nz (b 15 8)),
      (0, max 50 (b 7 0))])
  else if a = 0x400010 then some (v &&& 0x3)
  else if a = 0x400014 then (if b 29 0 < 1000000000 then some (v &&& 0x3FFFFFFF) else none)
  else if a = 0x400018 then some v
  else if a = 0x40001C then some (v &&& 0xFFFF)
  else if a = 0x402008 then some (v &&& 0xF)
  else if a = 0x402020 then some (v &&& 0x003F0000)
  else if a = 0x600004 then some (packW [(16, b 31 16), (0, clampN 5 10000 (b 15 0))])
  else if a = 0x600008 then some (packW [(8, b 31 8), (0, nz (b 7 0))])
  else if a = 0x60000C then some (packW [(0, nz (b 15 0))])
  else if a = 0x601004 || a = 0x601104 then some (v &&& 0xF8FFF03F)
  else if (a = 0x601010 || a = 0x601014 || a = 0x601110 || a = 0x601114) then some v
  else if (0x601020 ≤ a && a ≤ 0x60103C || 0x601120 ≤ a && a ≤ 0x60113C) && a % 4 == 0 then some v
  else if a = 0x700004 then some (packW [(16, clampN 60 3600 (b 31 16)), (0, clampN 5 100 (b 7 0))])
  else if a = 0x700008 then some (packW [(8, clampN 1 16 (b 15 8)), (0, clampN 1 10 (b 7 0))])
  else if a = 0x800028 then some (v &&& 0xF)
  else if a = 0x800030 then some (v &&& 0x7)
  else if a = 0x80003C then some (v &&& 0x3)
  else if (0x800050 ≤ a && a ≤ 0x80006C) && a % 4 == 0 then some v
  else if a = 0x900004 then some (packW [(0, clampN 1000 3000 (b 11 0))])
  else if a = 0x900018 then some (packW [(0, if 1 ≤ b 7 0 && b 7 0 ≤ 168 then b 7 0 else 24)])
  else if a = 0xA00004 then
    some (packW [(24, clampN 0x30 0xF0 (b 31 24)), (20, if 8 < b 23 20 then 4 else b 23 20), (16, nz (b 19 16)),
      (8, b 15 8), (0, b 1 0)])
  else if a = 0xA00008 then some (packW [(16, min 10000 (b 31 16)), (0, b 15 0)])
  else if a = 0xA0000C then some (v &&& 0xFFFF)
  else if a = 0xA00010 then some (packW [(16, nz (b 31 16)), (0, nz (b 15 0))])
  else if a = 0xA00014 then some v
  else if a = 0xA00018 then some (v &&& 0xFFFF0000)
  else if a = 0xA0001C then some (v &&& 0xFFFF)
  else if a = 0xA00020 then some (v &&& 0xF)
  else if a = 0xB00004 then some v
  else if a = 0xB00010 then some v
  else if (0xB00020 ≤ a && a ≤ 0xB0003C) && a % 4 == 0 then some v
  else none

/-- A stored register. -/
def State.pol (s : State) (a : Nat) : Word := SMap.get s.csr a (polReset a)

/-- A field of a stored register. -/
def State.polF (s : State) (a hi lo : Nat) : Nat := bitsOf (s.pol a) hi lo

/-- A stored register set. -/
def State.setPol (s : State) (a : Nat) (v : Word) : State := { s with csr := SMap.put s.csr a v }

/-! ### The policy of PROOF (R187), LIGHT (R258), STEER (R315) and the power cap (R205) -/

def State.proofK (s : State) : Nat := s.polF 0xA00004 31 24
def State.epochLen (s : State) : Nat := 2 ^ (8 + s.polF 0xA00004 23 20)
def State.aMult (s : State) : Nat := s.polF 0xA00004 19 16
def State.monK (s : State) : Nat := s.polF 0xA00004 15 8
def State.capture (s : State) : Bool := s.polF 0xA00004 1 1 == 1
def State.monEn (s : State) : Bool := s.polF 0xA00004 0 0 == 1
def State.aCap (s : State) : Nat := s.polF 0xA00008 31 16
def State.aFloor (s : State) : Nat := s.polF 0xA00008 15 0
def State.monFloor (s : State) : Nat := s.polF 0xA0000C 15 0
def State.halfLife (s : State) : Nat := s.polF 0xA00010 31 16
def State.ladderStep (s : State) : Nat := s.polF 0xA00010 15 0
def State.wWrong (s : State) : Nat := 16 * s.polF 0xA00014 31 24
def State.wRate (s : State) : Nat := 16 * s.polF 0xA00014 23 16
def State.wBias (s : State) : Nat := 16 * s.polF 0xA00014 15 8
def State.wDissent (s : State) : Nat := 16 * s.polF 0xA00014 7 0
def State.wCheck (s : State) : Nat := 16 * s.polF 0xA00018 31 24
def State.wPattern (s : State) : Nat := 16 * s.polF 0xA00018 23 16
def State.rateLimit (s : State) : Nat := s.polF 0xA0001C 15 0
def State.vstepEn (s : State) : Bool := s.polF 0xA00020 0 0 == 1
def State.fineEn (s : State) : Bool := s.polF 0xA00020 1 1 == 1
def State.clkEn (s : State) : Bool := s.polF 0xA00020 2 2 == 1
def State.mapoutEn (s : State) : Bool := s.polF 0xA00020 3 3 == 1
def State.calDelta (s : State) : Nat := s.polF 0x700004 7 0
def State.calMaxAge (s : State) : Nat := s.polF 0x700004 31 16
def State.steerTT (s : State) : Nat := s.polF 0x400008 31 28
def State.leadMin (s : State) : Nat := s.polF 0x400008 27 16
def State.guardNs (s : State) : Nat := 1000 * s.polF 0x400008 7 0
def State.quiesceNs (s : State) : Nat := 10000 * s.polF 0x400008 15 8
def State.powerLimit (s : State) : Nat := s.polF 0x900004 11 0

/-- The mean of the samples exceeds the limit. -/
def State.powerHigh (s : State) : Bool :=
  decide (s.powerLimit * s.mem.samples.length < s.mem.samples.foldl (· + ·) 0)
def State.automap (s : State) : Bool := s.polF 0x000020 27 27 == 1

/-! ### RoCEv2 packets sent (R209-R212) -/

/-- The local QPN of a queue pair (R212). -/
def localQpn (k : Nat) : Nat := if k < 4096 then 0x1000 + k else 0x100 + (k - 4096)

/-- PORT_CFG of a port. -/
def State.portCfg (s : State) (p : BitVec 1) : Word := s.pol (0x601004 + 0x100 * p.toNat)

/-- The frame of a packet of a queue pair; ECT(0) is the ECN field 2 (R211; the code is RFC 3168's: PRESUMED, log entry 93). -/
def State.roceHead (s : State) (k : Nat) : RoceOut :=
  let q := s.qp k
  let c := s.portCfg q.port
  { port := q.port, tag := if c.getLsbD 31 then some (BitVec.ofNat 16 (bitsOf c 30 28 * 8192 + bitsOf c 23 12)) else none, mac := q.mac,
    v6 := q.path.getLsbD 30, ip := q.raddr, dscp := BitVec.ofNat 6 (bitsOf c 5 0), ecn := 2,
    src := BitVec.ofNat 16 (0xC000 + localQpn k % 0x4000), qpn := BitVec.ofNat 24 (bitsOf q.cfg 23 0) }

/-- A packet on its port's wire, or behind the others while PFC pauses the port (R211). -/
def State.roceOut (s : State) (h : RoceOut) (x : RocePkt) : State :=
  let y := s.hport h.port
  if y.paused then s.setHport h.port { y with txq := y.txq ++ [(h, x)] } else (s.send (.roce h x)).frameOut h.port

/-- A packet of a queue pair sent. -/
def State.roce (s : State) (k : Nat) (x : RocePkt) : State := s.roceOut (s.roceHead k) x

/-- A port resumes: the packets that waited go first. -/
def State.resume (s : State) (p : BitVec 1) : State :=
  let y := s.hport p
  y.txq.foldl (fun s e => s.roceOut e.1 e.2) (s.setHport p { y with paused := false, txq := [] })

end Sys2Proof.Machine
end

