-- ==== Sys2Proof/Machine/Flags.lean ====
section
/-! DEFINITION. What is computed from the state and shown as status: unit control and states (R28-R33, R433),
effective operating points (R28, R29), the ladder level (R179, R180), and the aggregates of R28, R31 and R37. -/

set_option Elab.async false

namespace Sys2Proof.Machine

/-- The value of a unit state in UCB_STATUS.STATE. -/
def UState.code : UState → Nat
  | .off => 0 | .starting => 1 | .ready => 2 | .draining => 3
  | .held => 4 | .resetting => 5 | .mappedOut => 6 | .failed => 7

/-- The value of a plane state (R57). -/
def PState.code : PState → Nat
  | .empty => 0 | .loading => 1 | .loaded => 2 | .active => 3 | .invalid => 4 | .refreshing => 5

/-! ### Effective control (R433) -/

/-- The control that a cluster acts on: its own bits with its tray's. -/
def State.clusterCtl (s : State) (c : Nat) : UnitCtl :=
  let own := (s.cluster c).ctl
  let up := (s.tray (trayOfCluster c)).ctl
  { own with hold := own.hold || up.hold, fence := own.fence || up.fence, drain := own.drain || up.drain,
             enable := own.enable && up.enable }

/-- The control that a core acts on: its own bits with its cluster's and its tray's. -/
def State.coreCtl (s : State) (k : Nat) : UnitCtl :=
  let own := (s.core k).ctl
  let up := s.clusterCtl (clusterOfCore k)
  { own with upd := up.upd, hold := own.hold || up.hold, fence := own.fence || up.fence, drain := own.drain || up.drain,
             enable := own.enable && up.enable }

/-- The rows of R31 and R32 that follow at once from the control bits in effect and a device hold. -/
def settleState (eff : UnitCtl) (dev : Bool) (st : UState) (drained : Bool) : UState × Bool :=
  match st with
  | .ready =>
    if eff.drain || !eff.enable then (.draining, false)
    else if eff.hold || dev then (.held, false)
    else (.ready, drained)
  | .held =>
    if !eff.enable && drained && !dev then (.off, true)
    else if (eff.drain || !eff.enable) && !drained && !dev then (.draining, false)
    else if !eff.hold && !eff.drain && eff.enable && !dev then (.ready, false)
    else (.held, drained)
  | other => (other, drained)

/-- Both rows that can follow one another at once (HELD to READY to DRAINING). -/
def settleCtl (own eff : UnitCtl) (dev : Bool) : UnitCtl :=
  let (st, d) := settleState eff (dev || eff.upd) own.st own.drained
  { own with st := st, drained := d }

/-- Where a completed drain leads (R31): OFF, or HELD with DRAINED, from which the unit goes on at once where nothing asks for a
drain or a hold any more. -/
def drainedCtl (own eff : UnitCtl) (dev : Bool) : UnitCtl :=
  if eff.enable then settleCtl { own with st := .held, drained := true } eff dev else { own with st := .off, drained := true }

/-- A tray settled after a change of its control or of a device hold. -/
def settleTray (t : Tray) : Tray := { t with ctl := settleCtl t.ctl t.ctl t.light.devHold }

/-- The clusters and cores of a tray settled after a change of the control in effect for them. -/
def State.settleBelow (s : State) (t : Nat) : State :=
  s.each ((List.range 20).map fun i => t * 20 + i) fun s c =>
    let s := s.modCluster c fun cl => { cl with ctl := settleCtl cl.ctl (s.clusterCtl c) false }
    s.each (coresOfCluster c) fun s k =>
      if (SMap.find s.cores k).isSome then
        s.modCore k fun co => { co with ctl := settleCtl co.ctl (s.coreCtl k) false }
      else s

/-- UCB_STATUS.DRAINED (R28). -/
def shownDrained (c : UnitCtl) : Bool :=
  match c.st with
  | .off => true
  | .failed => true
  | .mappedOut => true
  | .held => c.drained
  | _ => false

/-! ### Operating points (R28, R29, R179, R180, R205, R420) -/

/-- The power-cap step in force: the higher of the two demands (R420). -/
def State.capStep (s : State) : Nat := max s.mem.step s.mem.thermal

/-- FINE mode by the power cap on a tray (R205, steps 1 to 8: bay b of every site). -/
def State.capFine (s : State) (t : Nat) : Bool := decide (bayOfTray t % 8 < s.capStep)

/-- The clock step of the power cap (R205, steps 9 to 11). -/
def State.capClk (s : State) : Nat := if 11 ≤ s.capStep then 3 else if 10 ≤ s.capStep then 2 else if 9 ≤ s.capStep then 1 else 0

/-- The largest VSTEP of the tray ladder's actions 1 to 4 in force (R179). -/
def ladVstep (l : Ladder) : Nat := (l.acts.filter fun n => 1 ≤ n && n ≤ 4).foldl max 0

/-- FINE by the tray ladder (R179, action 5). -/
def ladFine (l : Ladder) : Bool := l.acts.contains 5

/-- The clock step of the tray ladder (R179, actions 6 to 8). -/
def ladClk (l : Ladder) : Nat := ((l.acts.filter fun n => 6 ≤ n && n ≤ 8).map fun n => n - 5).foldl max 0

/-- The clock step of the cluster ladder (R180, actions 1 to 3). -/
def clLadClk (l : Ladder) : Nat := (l.acts.filter fun n => 1 ≤ n && n ≤ 3).foldl max 0

/-- VSTEP that the tray is heading for. -/
def Tray.vGoal (t : Tray) : BitVec 3 := BitVec.ofNat 3 (max t.floorV.toNat (ladVstep t.lad))

/-- MODE that the tray is heading for: true for FINE. -/
def State.fineGoal (s : State) (k : Nat) : Bool :=
  (s.tray k).floorFine || ladFine (s.tray k).lad || s.capFine k

/-- CLK that a cluster is heading for. -/
def State.clkGoal (s : State) (c : Nat) : BitVec 2 :=
  BitVec.ofNat 2 (max (max (s.cluster c).floorClk.toNat s.capClk)
    (max (clLadClk (s.cluster c).lad) (ladClk (s.tray (trayOfCluster c)).lad)))

/-- The score in whole points (R178). -/
def Ladder.points (l : Ladder) : Nat := l.score / 2 ^ 32

/-- UCB_SUSPECT.LEVEL of a tray (R179). -/
def trayLevel (l : Ladder) : Nat :=
  if l.acts.contains 9 then 5
  else if l.acts.any fun n => 6 ≤ n && n ≤ 8 then 4
  else if l.acts.contains 5 then 3
  else if l.acts.any fun n => 1 ≤ n && n ≤ 4 then 2
  else if l.points = 0 then 0 else 1

/-- UCB_SUSPECT.LEVEL of a cluster (R180). -/
def clusterLevel (l : Ladder) : Nat :=
  if l.acts.contains 4 then 5
  else if l.acts.any fun n => 1 ≤ n && n ≤ 3 then 4
  else if l.points = 0 then 0 else 1

/-! ### Work in flight -/

/-- Work in flight on a tray: exposures made and not settled, queued work, and a load or a refresh. -/
def Tray.busy (t : Tray) : Bool :=
  t.pend ≠ [] || t.expQ ≠ [] || t.loadQ ≠ [] || t.load.isSome || t.refSwap || t.inplace.isSome

/-- Work in flight on a core: threads bound to it. -/
def Core.busy (c : Core) : Bool := c.slots ≠ []

/-- Work in flight on a tray with the threads bound below it: a drained tray has none of either (R30, R31, R114). -/
def State.trayBusy (s : State) (t : Nat) : Bool :=
  (s.tray t).busy || s.cores.any fun e => trayOfCore e.1 == t && e.2.busy

/-- Work in flight on a cluster. -/
def State.clusterBusy (s : State) (c : Nat) : Bool :=
  (s.cluster c).inflight ≠ [] || (coresOfCluster c).any fun k => (s.core k).busy

/-- The state of one unit of its own (trays, clusters, cores). -/
def State.unitState (s : State) : URef → UState
  | .tray t => (s.tray t).ctl.st
  | .cluster c => (s.cluster c).ctl.st
  | .core k => (s.core k).ctl.st
  | _ => .off

/-! ### Aggregates over trays (R28, R31, R37) -/

/-- The aggregate state of R31 over the states of logical children. -/
def aggState (l : List UState) : UState :=
  if l = [] then .off
  else if l.all (· == .failed) then .failed
  else if l.any (· == .resetting) then .resetting
  else if l.any (· == .starting) then .starting
  else if l.any (· == .draining) then .draining
  else if l.any (· == .held) then .held
  else if l.all (· == .off) then .off
  else .ready

/-- The state of a bay, from its logical trays. -/
def State.bayState (s : State) (b : Nat) : UState := aggState ((s.traysOfBay b).map fun t => (s.tray t).ctl.st)

/-- The state of a site, from its bays. -/
def State.siteState (s : State) (p : Nat) : UState := aggState ((List.range 8).map fun b => s.bayState (p * 8 + b))

/-- The state of the module, from its sites. -/
def State.moduleState (s : State) : UState := aggState (s.fuse.sites.map s.siteState)

/-- The state that UCB_STATUS shows for any unit. -/
def State.shownState (s : State) : URef → UState
  | .module => s.moduleState
  | .site p => s.siteState p
  | .bay b => s.bayState b
  | u => s.unitState u

/-- The aggregate state over the member trays of a partition (R37). -/
def State.pidState (s : State) (pid : Pid) : UState := aggState ((s.traysOfPid pid).map fun t => (s.tray t).ctl.st)

/-- The states of all logical units under a tray, itself included. -/
def State.statesInTray (s : State) (t : Nat) : List UState :=
  (s.tray t).ctl.st :: (s.clustersOfTray t).flatMap fun c =>
    (s.cluster c).ctl.st :: (coresOfCluster c).map fun k => (s.core k).ctl.st

/-- The states of all logical units below a unit. -/
def State.statesBelow (s : State) : URef → List UState
  | .core _ => []
  | .cluster c => (coresOfCluster c).map fun k => (s.core k).ctl.st
  | .tray t => (s.clustersOfTray t).flatMap fun c =>
      (s.cluster c).ctl.st :: (coresOfCluster c).map fun k => (s.core k).ctl.st
  | u => (s.traysUnder u).flatMap s.statesInTray

/-- The spare tray of a bay is unused and usable (R34, R35). -/
def State.spareTrayFree (s : State) (b : Nat) : Bool :=
  (SMap.find s.map b).isNone && !(s.tray (b * 9 + 8)).defective

/-- The spare cluster of a tray is unused and usable (R34, R35). -/
def State.spareClusterFree (s : State) (t : Nat) : Bool :=
  (SMap.find s.cmap t).isNone && !(s.cluster (t * 20 + 19)).defective

/-- The bays below a unit. -/
def State.baysUnder (s : State) : URef → List Nat
  | .module => s.fuse.sites.flatMap fun p => (List.range 8).map fun b => p * 8 + b
  | .site p => (List.range 8).map fun b => p * 8 + b
  | .bay b => [b]
  | _ => []

/-- Saturating sum into a word. -/
def satSum (l : List Word) : Word := satNat 32 (l.foldl (fun a w => a + w.toNat) 0)

/-- The highest of signed readings, or 0 of none. -/
def maxTemp : List (BitVec 16) → BitVec 16
  | [] => 0
  | [x] => x
  | x :: r => let y := maxTemp r; if x.toInt < y.toInt then y else x

end Sys2Proof.Machine
end

