-- ==== Sys2Proof/Machine/RegUnit.lean ====
section
/-! DEFINITION. What the unit window shows (R24-R37): the UCB of the selected unit, and the level extension
registers of a tray (R74, R188, R259), a cluster (R115) and a core (R116). -/

set_option Elab.async false

namespace Sys2Proof.Machine

/-! ### Selection (R24-R26, R37) -/

/-- What the unit window of a path names: nothing valid, a partition, one unit, or every unit that a wildcard
matches. -/
inductive Sel where
  | bad
  | part (pid : Pid)
  | one (u : URef)
  | wild (us : List URef)
deriving DecidableEq, Repr

/-- The fields of UNIT_SEL_MODE. -/
def modeWild (m : Word) : Bool := m.getLsbD 0
def modePart (m : Word) : Bool := m.getLsbD 1
def modePid (m : Word) : Pid := BitVec.ofNat 6 (bitsOf m 13 8)

/-- The outcome code of a selection (R25). -/
def State.selectionCode (s : State) (sel mode : Word) : BitVec 4 :=
  if modePart mode then 0 else s.selCode sel (modeWild mode)

/-- The sites, bays, trays and clusters that the fields of a wildcard selection name (R26). -/
def State.wildSites (s : State) (u : UnitAddr) : List Nat :=
  if wildSite u then s.fuse.sites else (s.physSite false (uSite u)).toList
def State.wildBays (s : State) (u : UnitAddr) : List Nat :=
  (s.wildSites u).flatMap fun p => if wildBay u then (List.range 8).map fun b => p * 8 + b else [p * 8 + uBay u]
def State.wildTrays (s : State) (u : UnitAddr) : List Nat :=
  (s.wildBays u).flatMap fun b => if wildTray u then s.traysOfBay b else [b * 9 + s.trayIdx b (uTray u)]
def State.wildClusters (s : State) (u : UnitAddr) : List Nat :=
  (s.wildTrays u).flatMap fun t =>
    if wildCluster u then s.clustersOfTray t else [t * 20 + s.clusterIdx t (uCluster u)]
def State.wildCores (s : State) (u : UnitAddr) : List Nat :=
  (s.wildClusters u).flatMap fun c => if wildCore u then coresOfCluster c else [c * 16 + uCore u]

/-- The units that a wildcard selection reaches; units in FAILED are skipped (R26). -/
def State.wildUnits (s : State) (u : UnitAddr) : List URef :=
  let all : List URef :=
    if uLevel u = 0 then [.module]
    else if uLevel u = 1 then (s.wildSites u).map .site
    else if uLevel u = 2 then (s.wildBays u).map .bay
    else if uLevel u = 3 then (s.wildTrays u).map .tray
    else if uLevel u = 4 then (s.wildClusters u).map .cluster
    else (s.wildCores u).map .core
  all.filter fun r => s.shownState r ≠ .failed

/-- What the window of a path names. -/
def State.selOf (s : State) (p : Path) : Sel :=
  let q := s.path p
  if modePart q.mode then .part (modePid q.mode)
  else if s.selCode q.unitSel (modeWild q.mode) ≠ 0 then .bad
  else if modeWild q.mode && anyWild q.unitSel then .wild (s.wildUnits q.unitSel)
  else match s.resolve q.unitSel with
    | some u => .one u
    | none => .bad

/-- The logical trays that a selection covers. -/
def State.selTrays (s : State) : Sel → List Nat
  | .bad => []
  | .part pid => s.traysOfPid pid
  | .one u => s.traysUnder u
  | .wild us => us.flatMap s.traysUnder

/-! ### The UCB (R28) -/

/-- UCB_CTL of a unit that stores its own. -/
def ctlWord (c : UnitCtl) : Word :=
  packW [(4, nb c.hold), (3, nb c.fence), (2, nb (c.st == .resetting)), (1, nb c.drain), (0, nb c.enable)]

/-- UCB_CTL over trays: each bit set in every tray; RESET while any is RESETTING; no tray reads 0. -/
def State.ctlOver (s : State) (ts : List Nat) : Word :=
  let all (f : UnitCtl → Bool) : Nat := nb (ts ≠ [] && ts.all fun t => f (s.tray t).ctl)
  packW [(4, all (·.hold)), (3, all (·.fence)), (2, nb (ts.any fun t => (s.tray t).ctl.st == .resetting)),
    (1, all (·.drain)), (0, all (·.enable))]

/-- UCB_STATUS from its fields. -/
def statusWord (src : Nat) (mappedOut busy drained : Bool) (st : UState) : Word :=
  packW [(8, src), (6, nb mappedOut), (5, nb busy), (4, nb drained), (0, st.code)]

/-- HOLD_SRC from a HOLD bit in effect and a device hold. -/
def holdSrc (hold dev : Bool) : Nat := nb hold + 2 * nb dev

/-- UCB_STATUS of a tray, a cluster and a core. -/
def State.trayStatus (s : State) (t : Nat) : Word :=
  let x := s.tray t
  statusWord (holdSrc x.ctl.hold x.light.devHold) (x.ctl.st == .mappedOut) (s.trayBusy t) (shownDrained x.ctl) x.ctl.st
def State.clusterStatus (s : State) (c : Nat) : Word :=
  let x := (s.cluster c).ctl
  statusWord (holdSrc (s.clusterCtl c).hold false) (x.st == .mappedOut) (s.clusterBusy c) (shownDrained x) x.st
def State.coreStatus (s : State) (k : Nat) : Word :=
  let x := (s.core k).ctl
  statusWord (holdSrc (s.coreCtl k).hold false) (x.st == .mappedOut) (s.core k).busy (shownDrained x) x.st

/-- UCB_STATUS over trays (aggregates and partitions); HOLD_SRC shows every source below (log entry 69). -/
def State.statusOver (s : State) (ts : List Nat) (st : UState) : Word :=
  statusWord (holdSrc (ts.any fun t => (s.tray t).ctl.hold) (ts.any fun t => (s.tray t).light.devHold)) false
    (ts.any fun t => s.trayBusy t) (ts.all fun t => shownDrained (s.tray t).ctl) st

/-- UCB_MAP of a logically or physically addressed unit, from the entry of its bay or tray, its own physical
index, the spare index and its logical index. -/
def mapWord (phys : Bool) (entry : Option (Nat × Bool × Bool)) (own spare : Nat) (log : Option Nat) : Word :=
  let sub := match entry with
    | some (l, sv, ps) => if own = spare && log == some l then (nb sv, nb ps) else (0, 0)
    | none => (0, 0)
  packW [(31, sub.1), (30, sub.2), (15, nb (phys && log.isSome)), (8, log.getD 0), (0, own)]

/-- UCB_MAP (R28, R34, R35). Sites, bays and cores carry a logical index always: a site the one that the fuses bind it to, bays
and cores their own. -/
def State.mapReg (s : State) (u : URef) (addr : UnitAddr) : Word :=
  match u with
  | .module => 0
  | .site p => packW [(15, nb (uPhys addr)), (8, s.logSite p), (0, p)]
  | .bay b => packW [(15, nb (uPhys addr)), (8, b % 8), (0, b % 8)]
  | .tray t => mapWord (uPhys addr) (SMap.find s.map (bayOfTray t)) (t % 9) 8 (s.logTray t)
  | .cluster c => mapWord (uPhys addr) (SMap.find s.cmap (trayOfCluster c)) (c % 20) 19 (s.logCluster c)
  | .core k => packW [(15, nb (uPhys addr)), (8, k % 16), (0, k % 16)]

/-- UCB_VF from its parts. -/
def vfWord (esc cap fine : Bool) (clk : Nat) (v : Nat) : Word :=
  packW [(31, nb esc), (30, nb cap), (8, nb fine), (4, clk), (0, v)]

/-- UCB_VF of a cluster and of its cores: MODE and VSTEP of the tray, CLK of the cluster (R29). ESC and CAP judge CLK only, the
one field that the unit has of its own: DESIGN CHOICE, log entry 70. -/
def State.clusterVf (s : State) (c : Nat) : Word :=
  let t := trayOfCluster c
  let x := s.cluster c
  let lad := max (clLadClk x.lad) (ladClk (s.tray t).lad)
  vfWord (decide (x.floorClk.toNat < lad)) (decide (x.floorClk.toNat < s.capClk)) (s.fineGoal t)
    (s.clkGoal c).toNat (s.tray t).vGoal.toNat

/-- UCB_VF of a tray (R28, R29). -/
def State.trayVf (s : State) (t : Nat) : Word :=
  let x := s.tray t
  let clks := (s.clustersOfTray t).map fun c => (s.clkGoal c).toNat
  let esc := (ladFine x.lad && !x.floorFine) || decide (x.floorV.toNat < ladVstep x.lad) ||
    (s.clustersOfTray t).any fun c => (s.cluster c).floorClk.toNat < max (clLadClk (s.cluster c).lad) (ladClk x.lad)
  let cap := (s.capFine t && !x.floorFine) ||
    (s.clustersOfTray t).any fun c => (s.cluster c).floorClk.toNat < s.capClk
  vfWord esc cap (s.fineGoal t) (clks.foldl max 0) x.vGoal.toNat

/-- UCB_VF over trays: the maximum of each field. -/
def State.vfOver (s : State) (ts : List Nat) : Word :=
  let ws := ts.map s.trayVf
  let m (hi lo : Nat) : Nat := (ws.map fun w => bitsOf w hi lo).foldl max 0
  packW [(31, m 31 31), (30, m 30 30), (8, m 8 8), (4, m 5 4), (0, m 2 0)]

/-- UCB_SUSPECT. -/
def suspectWord (l : Ladder) (level : Nat) : Word := packW [(16, l.points), (4, l.lastStep.toNat), (0, level)]

/-- UCB_SUSPECT over trays: the maximum of each field. -/
def State.suspectOver (s : State) (ts : List Nat) : Word :=
  let m (f : Tray → Nat) : Nat := (ts.map fun t => f (s.tray t)).foldl max 0
  packW [(16, m fun t => t.lad.points), (4, m fun t => t.lad.lastStep.toNat), (0, m fun t => trayLevel t.lad)]

/-- UCB_TEMP from readings. -/
def tempWord (t : Temp) : Word := packW [(16, t.peak.toNat), (0, t.now.toNat)]

/-- UCB_TEMP over trays. -/
def State.tempOver (s : State) (ts : List Nat) : Word :=
  tempWord ⟨maxTemp (ts.map fun t => (s.tray t).temp.now), maxTemp (ts.map fun t => (s.tray t).temp.peak)⟩

/-- UCB_HEALTH (R28): counts over the units below, at all levels. -/
def healthWord (below : List UState) (own : UState) (spT spC : Nat) (spareUsed oor : Bool) : Word :=
  let failed := (below.filter (· == .failed)).length
  let held := below.any (· == .held)
  let grade := if own = .failed then 3 else if failed ≠ 0 || held then 2 else if spareUsed then 1 else 0
  packW [(24, min failed 255), (16, min spT 255), (4, min spC 4095), (2, grade), (1, nb held), (0, nb oor)]

/-- A spare stands in for one of these logical trays or for a cluster of one (R28, R37). -/
def State.spareUsed (s : State) (ts : List Nat) : Bool := ts.any fun t => t % 9 == 8 || (SMap.find s.cmap t).isSome

/-- UCB_HEALTH of a unit. SPARE_CLUSTERS counts those of the logical trays below and of the unused spare trays, which is at most
1,152; the spare cluster of a tray that is MAPPED_OUT or defective can no longer serve and is not counted (log entry 70). OOR of a
tray is its own clamped set (R76, R248). -/
def State.health (s : State) (u : URef) : Word :=
  let free := (s.baysUnder u).filter s.spareTrayFree
  let trays := s.traysUnder u
  let spC := ((trays ++ free.map fun b => b * 9 + 8).filter s.spareClusterFree).length
  healthWord (s.statesBelow u) (s.shownState u) free.length spC (s.spareUsed trays) (trays.any fun t => (s.tray t).cal.clamped)

/-- UCB_HEALTH of a partition (R37). -/
def State.healthPid (s : State) (pid : Pid) : Word :=
  let ts := s.traysOfPid pid
  let bays := (ts.map bayOfTray).dedup
  healthWord (ts.flatMap s.statesInTray) (s.pidState pid) (bays.filter s.spareTrayFree).length
    (ts.filter s.spareClusterFree).length (s.spareUsed ts) (ts.any fun t => (s.tray t).cal.clamped)

/-- UCB_OWNER over trays: MIXED when the PIDs differ, PID then the lowest. -/
def State.ownerOver (s : State) (ts : List Nat) : Word :=
  let ps := ts.map fun t => (s.tray t).owner.toNat
  packW [(31, nb (ps.any fun x => ps.any fun y => x ≠ y)), (0, (ps.foldl min 63))]

/-- A register of the UCB of one unit, by offset. `addr` is the address that named it. -/
def State.ucb (s : State) (u : URef) (addr : UnitAddr) (off : Nat) : Word :=
  let ts := s.traysUnder u
  if off = 0x00 then (addr &&& 0xFFFFFFC0) ||| fld 4 s.fuse.variant
  else if off = 0x04 then
    match u with
    | .tray t => ctlWord (s.tray t).ctl
    | .cluster c => ctlWord (s.cluster c).ctl
    | .core k => ctlWord (s.core k).ctl
    | _ => s.ctlOver ts
  else if off = 0x08 then
    match u with
    | .tray t => s.trayStatus t
    | .cluster c => s.clusterStatus c
    | .core k => s.coreStatus k
    | _ => s.statusOver ts (s.shownState u)
  else if off = 0x0C then s.mapReg u addr
  else if off = 0x10 then
    match u with
    | .tray t => s.trayVf t
    | .cluster c => s.clusterVf c
    | .core k => s.clusterVf (clusterOfCore k)
    | _ => s.vfOver ts
  else if off = 0x14 then
    match u with
    | .cluster c => (s.cluster c).lad.misses
    | .core _ => 0
    | _ => satSum (ts.map fun t => (s.tray t).lad.misses)
  else if off = 0x18 then
    match u with
    | .tray t => suspectWord (s.tray t).lad (trayLevel (s.tray t).lad)
    | .cluster c => suspectWord (s.cluster c).lad (clusterLevel (s.cluster c).lad)
    | .core _ => 0
    | _ => s.suspectOver ts
  else if off = 0x1C then
    match u with
    | .cluster c => tempWord (s.cluster c).temp
    | .core k => tempWord (s.cluster (clusterOfCore k)).temp
    | _ => s.tempOver ts
  else if off = 0x20 then s.health u
  else if off = 0x24 then
    match u with
    | .cluster c => fld 0 (s.tray (trayOfCluster c)).owner
    | .core k => fld 0 (s.tray (trayOfCore k)).owner
    | _ => s.ownerOver ts
  else 0

/-- A register of the virtual UCB of a partition (R37). -/
def State.ucbPid (s : State) (pid : Pid) (off : Nat) : Word :=
  let ts := s.traysOfPid pid
  if off = 0x00 then fld 4 s.fuse.variant ||| 0x8
  else if off = 0x04 then s.ctlOver ts
  else if off = 0x08 then s.statusOver ts (s.pidState pid)
  else if off = 0x10 then s.vfOver ts
  else if off = 0x14 then satSum (ts.map fun t => (s.tray t).lad.misses)
  else if off = 0x18 then s.suspectOver ts
  else if off = 0x1C then s.tempOver ts
  else if off = 0x20 then s.healthPid pid
  else if off = 0x24 then fld 0 pid
  else 0

/-! ### Tray registers (R74) -/

/-- The word of a 64-bit counter at offset `base`, if `off` names it. -/
def wide (off base : Nat) (v : BitVec 64) : Option Word :=
  if off = base then some (lo64 v) else if off = base + 4 then some (hi64 v) else none

/-- The first of several readings. -/
def firstOf : List (Option Word) → Word
  | [] => 0
  | some w :: _ => w
  | none :: r => firstOf r

/-- Age of a plane in 0.1 µs (R74). -/
def planeAge (up : Nat) (p : Plane) : Nat :=
  match p.st with
  | .empty => 0
  | .invalid => 0
  | _ => min 0xFFFF ((up - p.written) / 100)

/-- TRAY_ROW_A or TRAY_ROW_B of row `i`. -/
def rowWord (p : Plane) (i : Nat) : Word :=
  match p.st with
  | .empty => 0
  | .loading => 0
  | .invalid => 0
  | _ => packW [(24, (BitVec.ofInt 8 (p.data.exps.getD i 0)).toNat), (0, (BitVec.ofInt 13 (p.data.sums.getD i 0)).toNat)]

/-- Loads queued or running. -/
def Tray.loads (t : Tray) : Nat := t.loadQ.length + nb (t.load.any fun l => l.kind == .user)

/-- The exposure unit registers of a tray. -/
def State.trayReg (s : State) (k off : Nat) : Word :=
  let t := s.tray k
  let c := t.cnt
  if off = 0x40 then packW [(24, 32), (16, 32), (12, 10), (0, 512)]
  else if off = 0x44 then
    packW [(31, nb t.activeB), (24, t.b.st.code), (20, t.a.st.code), (8, t.b.gen.toNat), (0, t.a.gen.toNat)]
  else if off = 0x48 then packW [(16, planeAge s.up t.b), (0, planeAge s.up t.a)]
  else if off = 0x4C then packW [(16, t.cal.gen.toNat), (8, nb t.fineUse), (0, t.vUse.toNat)]
  else if off = 0x50 then
    packW [(16, (t.staged.map fun c => c.gen.toNat).getD 0), (2, nb t.staged.isSome), (1, nb (t.vGoal != t.vUse)),
      (0, nb (s.fineGoal k != t.fineUse))]
  else if off = 0x54 then fld 0 t.flags
  else if off = 0x58 then packW [(16, t.loads), (0, t.expQ.length)]
  else if 0x100 ≤ off && off < 0x180 then (if off % 4 = 0 then rowWord t.a ((off - 0x100) / 4) else 0)
  else if 0x180 ≤ off && off < 0x200 then (if off % 4 = 0 then rowWord t.b ((off - 0x180) / 4) else 0)
  else firstOf [wide off 0x60 c.exposures, wide off 0x68 c.beats, wide off 0x70 c.dead, wide off 0x78 c.loadwait,
    wide off 0x80 c.idle, wide off 0x88 c.swaps, wide off 0x90 c.refreshes, wide off 0x98 c.clips,
    wide off 0xA0 c.rejects]

/-! ### Proof registers of a tray (R188) -/

/-- A sum in units of 2^-12 product units as ppm of FS, towards zero. -/
def ppmFs (x : Int) : Int := Int.tdiv (x * 1000000) (4096 * 520192)

/-- SPREAD: RMS of D over the evaluations held, in units of 2^-12 product units (R171). -/
def spreadOf (ds : List Int) : Int :=
  if ds = [] then 0 else (isqrt ((ds.foldl (fun a d => a + d * d) 0).toNat / ds.length) : Nat)

/-- MON_T in units of 2^-12 product units, times 16 x 10^6 (R171): exact. -/
def State.monT16 (s : State) (spread : Int) : Int :=
  (s.monK : Int) * spread * 1000000 + (s.monFloor : Int) * 520192 * 4096 * 16

/-- LEARNING: fewer than 256 evaluations since learning restarted (R171). -/
def Monitor.learning (m : Monitor) : Bool := decide (m.evals < 256)

/-- A pending exposure awaits a referee (R173). -/
def Pend.awaits (p : Pend) : Bool := (p.phase == .awaitRef && p.out1 == []) || p.phase == .secondRef

/-- A referee works on a pending exposure. -/
def Pend.refereed (p : Pend) : Bool := (p.phase == .awaitRef && p.out1 == [] && p.ref1.isSome) || (p.phase == .secondRef && p.ref2.isSome)

/-- Pending exposures that await referees. -/
def Tray.awaitRef (t : Tray) : Nat := (t.pend.filter Pend.awaits).length

/-- The partner of a tray: the logical tray with the next index in the bay (R166). -/
def State.partnerIdx (s : State) (k : Nat) : Nat := ((s.logTray k).getD 0 + 1) % 8
def State.partnerTray (s : State) (k : Nat) : Nat :=
  bayOfTray k * 9 + s.trayIdx (bayOfTray k) (s.partnerIdx k)

/-- The words of a journal entry (R174); `acc` says that every exposure of the run has reached the accumulator. -/
def JEntry.word (j : JEntry) (acc : Bool) (w : Nat) : Word :=
  if w = 0 then j.run
  else if w = 1 then lo64 j.first
  else if w = 2 then hi64 j.first
  else if w = 3 then packW [(31, nb j.isB), (23, j.gen.toNat), (0, j.count.toNat)]
  else if w = 4 then packW [(16, j.calGen.toNat), (13, nb j.fine), (10, j.vstep.toNat), (0, j.misses.toNat)]
  else if w = 5 then j.epoch
  else if w = 6 then j.pattern
  else if w = 7 then j.crc
  else if w = 8 then j.startNs
  else if w = 9 then j.startS
  else if w = 10 then j.endNs
  else if w = 11 then packW [(16, j.replays.toNat), (0, j.refereed.toNat)]
  else if w = 12 then packW [(22, j.origin.expSrc.toNat), (0, j.origin.image.toNat)]
  else if w = 13 then fld 0 j.origin.expsOff
  else if w = 14 then fld 0 j.flags ||| packW [(3, nb acc)]
  else packW [(12, j.origin.pid.toNat), (0, j.origin.ctx.toNat)]

/-- A run of the tray's own is closed, and no exposure made in it is still to reach the accumulator (R174). -/
def Tray.accumulated (t : Tray) (j : JEntry) : Bool :=
  !j.flags.getLsbD 1 && !(t.proof.runOpen && j.run + 1 == t.proof.runs) && !(t.pend.any fun p => p.runs.contains j.run.toNat)

/-- The per-tray proof registers. -/
def State.proofReg (s : State) (k off : Nat) : Word :=
  let t := s.tray k
  let p := t.proof
  let sp := if 256 ≤ p.mon.ds.length || p.mon.ds ≠ [] then spreadOf p.mon.ds else 0
  if off = 0x200 then
    packW [(5, nb (!p.mon.learning && decide (ppmFs sp ≤ 650))),
      (4, nb (decide (s.proofK ≤ 96) && p.allow != 0 && decide (p.allow.toNat ≤ 4000))), (3, nb p.mon.learning), (2, nb p.mon.alarm),
      (1, nb (t.pend.any Pend.refereed)), (0, nb (decide (16 < t.awaitRef)))]
  else if off = 0x204 then packW [(16, p.sumRes.toNat), (0, p.allow.toNat)]
  else if off = 0x208 then p.epoch
  else if off = 0x20C then p.pattern
  else if off = 0x210 then packW [(16, (satInt 16 (ppmFs p.mon.d)).toNat), (0, min 0xFFFF (ppmFs sp).toNat)]
  else if off = 0x214 then if p.mon.base.isNone then 0 else packW [(0, min 0xFFFF (Int.tdiv (s.monT16 sp) (16 * 520192 * 4096)).toNat)]
  else if off = 0x218 then packW [(16, p.rateLast.toNat), (0, p.rateNow.toNat)]
  else if off = 0x21C then packW [(28, s.partnerIdx k), (24, p.partnerLast.toNat), (0, p.guests.toNat)]
  else if off = 0x220 then packW [(16, t.awaitRef), (0, t.pend.length)]
  else if off = 0x224 then fld 0 p.jsel
  else if off = 0x228 then p.runCount
  else if off = 0x230 then lo64 p.reruns
  else if off = 0x234 then hi64 p.reruns
  else if off = 0x240 then p.wrong
  else if off = 0x244 then p.checker
  else if off = 0x248 then p.patterns
  else if off = 0x24C then p.bias
  else if off = 0x250 then p.rateExcess
  else if 0x280 ≤ off && off ≤ 0x2BC && off % 4 = 0 then
    match p.journal[p.jsel.toNat]? with
    | some j => j.word (t.accumulated j) ((off - 0x280) / 4)
    | none => 0
  else 0

/-! ### Lock and calibration registers of a tray (R259) -/

/-- A ring of a tray. -/
def Tray.ring (t : Tray) (i : Nat) : Ring := SMap.get t.light.rings i t.light.ringBase

/-- Linear interpolation in the sets stored at 40, 55, 70, 85 and 100 °C, rounded down, at a temperature in 1/16 °C; outside them the
nearest stored value stands (R247, R248; the rounding is log entry 77). -/
def interp (x : Int) (f : Nat → Int) : Int :=
  if x < 640 then f 0
  else if 1600 ≤ x then f 4
  else
    let j := ((x - 640) / 240).toNat
    f j + (f (j + 1) - f j) * (x - 640 - 240 * j) / 240

/-- The heater code that the interpolated table of a tray, or of transceiver `k - 1152`, gives a ring (R240, R241, R243). -/
def heaterAt (k : Nat) (x : Int) (i : Nat) : BitVec 12 := BitVec.ofInt 12 (interp x fun j => (Config.storedHeater k j i).toNat)

/-- The tone of a ring of a transceiver by its channel (R239). -/
def ltTone (rx : Bool) (k : Nat) : Nat := if rx then 16 + k else k

/-- The tone of a ring of a tray by its index (R239). -/
def toneOf (i : Nat) : Nat := if i < 1024 then (i / 32 + i % 32) % 32 else 32 + (i - 1024)

/-- The age of the calibration set in ns, if a strip has run (R249). -/
def State.calAge (s : State) (t : Tray) : Option Nat := t.cal.stamp.map fun x => s.up - x

/-- LK_STATUS.STALE (R252, R76): interim, or past 3.0 K or 600 s or the lower of the settings. -/
def State.stale (s : State) (t : Tray) : Bool :=
  t.cal.interim ||
    decide ((min 30 s.calDelta : Nat) * 16 < 10 * (t.temp.now.toInt - t.cal.tCal).natAbs) ||
    (match s.calAge t with
      | none => true
      | some a => decide (min 600 s.calMaxAge * 1000000000 < a)) ||
    decide (t.temp.now.toInt < 640) || decide (1600 < t.temp.now.toInt)

/-- A number for LK_LASERS of group `g`. -/
def laserGroup (l : LightSt) (g : Nat) : Nat :=
  let x := (l.spares.getD g none)
  2 ^ (8 * g) * ((if x.isSome then 128 else 0) + (if l.exhausted.getLsbD g then 64 else 0) + (x.map (·.toNat)).getD 0)

/-- The lock and calibration registers. -/
def State.lockReg (s : State) (p : Path) (k off : Nat) : Word :=
  let t := s.tray k
  let l := t.light
  if off = 0x300 then
    packW [(8, l.cause.toNat), (6, nb t.cal.interim), (5, nb (s.stale t)), (4, nb t.cal.clamped), (3, nb l.stripRun.isSome),
      (2, nb l.req.isSome), (1, nb l.acquiring), (0, nb l.locked)]
  else if off = 0x304 then
    packW [(16, (satInt 16 t.cal.tCal).toNat),
      (0, match s.calAge t with | none => 0xFFFF | some a => min 0xFFFF (a / 1000000000))]
  else if off = 0x308 then packW [(16, l.resStd.toNat), (0, l.resFine.toNat)]
  else if off = 0x30C then packW [(16, l.randStd.toNat), (0, l.randFine.toNat)]
  else if off = 0x310 then packW [(16, l.slewPeak.toNat), (0, l.slewNow.toNat)]
  else if off = 0x314 then
    BitVec.ofNat 32 (laserGroup l 0 + laserGroup l 1 + laserGroup l 2 + laserGroup l 3)
  else if off = 0x318 then l.failed.setWidth 32
  else if off = 0x31C then (l.failed >>> 32).setWidth 32
  else if off = 0x320 then packW [(16, l.mislocks.toNat), (0, l.lastRing.toNat)]
  else if off = 0x324 then packW [(1, nb l.relock), (0, nb l.stripBit)]
  else if off = 0x328 then fld 0 (s.path p).ringSel
  else if off = 0x32C then
    let i := (s.path p).ringSel.toNat
    let r := t.ring i
    packW [(30, r.lock.toNat), (29, nb r.tagOk), (28, nb r.mislock), (22, toneOf i), (12, r.pn.toNat),
      (0, (if r.lock = 1 then heaterAt k l.acqT i else r.heater).toNat)]
  else if off = 0x330 then l.strips
  else if off = 0x334 then packW [(16, l.tempHolds.toNat), (0, l.substs.toNat)]
  else 0

/-! ### Cluster and core registers (R115, R116) -/

/-- The value of a thread state (R93). -/
def ThState.code : ThState → Nat
  | .ready => 1 | .waitTally => 2 | .waitQueue => 3 | .waitData => 4 | .held => 5 | .ending => 6

/-- The threads of a cluster. -/
def State.clusterThreads (s : State) (c : Nat) : List Thread :=
  (coresOfCluster c).flatMap fun k => (s.core k).slots.map (·.2)

/-- The cluster registers. -/
def State.clusterReg (s : State) (c off : Nat) : Word :=
  let x := s.cluster c
  if off = 0x40 then packW [(24, 16), (20, 8), (12, 64), (0, 16)]
  else if off = 0x44 then packW [(4, nb (s.clkGoal c != x.clkUse)), (0, x.clkUse.toNat)]
  else if off = 0x48 then
    let ths := s.clusterThreads c
    let n (f : ThState → Bool) : Nat := (ths.filter fun t => f t.st).length
    packW [(16, n fun st => st == .waitTally || st == .waitQueue || st == .waitData), (8, n (· == .ready)), (0, ths.length)]
  else if off = 0x4C then fld 0 x.flags
  else if 0x100 ≤ off && off < 0x200 && off % 4 = 0 then SMap.get x.tallies ((off - 0x100) / 4) 0
  else firstOf [wide off 0x50 x.issue, wide off 0x58 x.device, wide off 0x60 x.stall]

/-- The granules that a core's windows take, as a bit mask (R96). -/
def Core.granules (c : Core) : Nat :=
  c.slots.foldl (fun m e => m ||| ((2 ^ e.2.size - 1) * 2 ^ e.2.base)) 0

/-- The number of set bits among the low `n`. -/
def popCount (m : Nat) (n : Nat) : Nat := ((List.range n).filter fun i => m.testBit i).length

/-- The core registers. -/
def State.coreReg (s : State) (k off : Nat) : Word :=
  let c := s.core k
  if off = 0x40 then packW (c.slots.map fun e => (4 * e.1, e.2.st.code))
  else if off = 0x44 then packW [(16, 16 - popCount c.granules 16), (0, c.granules)]
  else if off = 0x50 then lo64 c.issue
  else if off = 0x54 then hi64 c.issue
  else if 0x60 ≤ off && off < 0x80 && off % 4 = 0 then
    match SMap.find c.slots ((off - 0x60) / 4) with
    | some t => packW [(30, t.prio.toNat), (24, t.pid.toNat), (20, t.base), (15, t.size), (0, t.ctx.toNat)]
    | none => 0
  else if 0x80 ≤ off && off < 0xC0 && off % 4 = 0 then
    match SMap.find c.slots ((off - 0x80) / 8) with
    | some t => if off % 8 = 0 then t.pc.setWidth 32 else (t.pc >>> 32).setWidth 32
    | none => 0
  else 0

/-! ### The window -/

/-- The level extension registers of a tray and of a cluster; one that is MAPPED_OUT reads what it held when it was mapped out
(R73, R115). -/
def State.trayWindow (s : State) (p : Path) (t off : Nat) : Word :=
  if off < 0x200 then s.trayReg t off else if off < 0x300 then s.proofReg t off else if off < 0x400 then s.lockReg p t off else 0
def State.clusterWindow (s : State) (c off : Nat) : Word := if off < 0x200 then s.clusterReg c off else 0

/-- A register of the unit window, by offset from 0x100_1000. -/
def State.windowReg (s : State) (p : Path) (off : Nat) : Word :=
  match s.selOf p with
  | .bad => 0
  | .wild _ => 0
  | .part pid => if off < 0x40 then s.ucbPid pid off else 0
  | .one u =>
    if off < 0x40 then s.ucb u (s.path p).unitSel off
    else match u with
      | .tray t => match SMap.find (s.tray t).shot off with
                   | some w => if (s.tray t).ctl.st = .mappedOut then w else s.trayWindow p t off
                   | none => s.trayWindow p t off
      | .cluster c => match SMap.find (s.cluster c).shot off with
                      | some w => if (s.cluster c).ctl.st = .mappedOut then w else s.clusterWindow c off
                      | none => s.clusterWindow c off
      | .core k => if off < 0x200 then s.coreReg k off else 0
      | _ => 0

/-- The registers of 0x100_0000 to 0x100_1FFF (R24). -/
def State.unitReg (s : State) (p : Path) (a : Nat) : Word :=
  if a = 0x1000000 then (s.path p).unitSel
  else if a = 0x1000004 then (s.path p).mode
  else if a = 0x1000008 then packW [(8, nb (s.path p).busy), (0, (s.path p).code.toNat)]
  else if 0x1001000 ≤ a && a < 0x1002000 then s.windowReg p (a - 0x1001000)
  else 0

end Sys2Proof.Machine
end

