-- ==== Sys2Proof/Machine/RegCore.lean ====
section
/-! DEFINITION. What the registers of MOD (R361), TIME (R373), CSHEET and MGMT (R413), LIGHT (R258) and PROOF (R187)
read. -/

namespace Sys2Proof.Machine

/-- A word of a 48-bit or wider number: word `i`, low word first. -/
def wordOf (n i : Nat) : Word := BitVec.ofNat 32 (n / 2 ^ (32 * i))

/-- The physical sites of logical sites `8 h` to `8 h + 7`, four bits each (R361). -/
def State.siteMap (s : State) (h : Nat) : Word :=
  packW ((List.range 8).map fun n => (4 * n, s.fuse.sites.getD (8 * h + n) 0))

/-- The boot mode in force (R343). -/
abbrev ModSt.modeNow (m : ModSt) : BitVec 2 := m.mode

/-- The MOD block (R361). -/
def State.modReg (s : State) (a : Nat) : Word :=
  let m := s.mod
  if a = 0x00 then packW [(16, 0x16), (8, s.fuse.stepping.toNat), (0, s.fuse.variant.toNat)]
  else if a = 0x04 then packW [(16, s.fuse.sites.foldl (fun x i => x ||| 2 ^ i) 0), (8, s.siteCount)]
  else if a = 0x08 then s.siteMap 0
  else if a = 0x0C then s.siteMap 1
  else if 0x10 ≤ a && a ≤ 0x1C && a % 4 = 0 then wordOf s.fuse.serial.toNat ((a - 0x10) / 4)
  else if a = 0x20 then
    packW [(30, m.mode.toNat), (28, m.next.toNat), (27, s.polF 0x20 27 27), (26, nb m.imageB), (25, nb m.fallback)]
  else if a = 0x24 then
    packW [(28, m.stage.toNat), (26, m.st.toNat), (24, m.mode.toNat), (16, m.code.toNat),
      (0, min 0xFFFF ((s.up - m.since) / 1000000))]
  else if a = 0x28 then packW [(31, nb m.goBit), (8, nb m.goRecs), (0, m.goStage.toNat)]
  else if a = 0x2C then s.pol 0x2C
  else if a = 0x30 then packW [(24, m.table.toNat), (16, m.repairs.toNat), (0, m.leftOut.toNat)]
  else if a = 0x38 then packW [(28, m.cause.toNat), (0, m.count.toNat)]
  else if a = 0x3C then packW [(24, m.holdup.toNat), (12, m.vinA.toNat), (0, m.vinB.toNat)]
  else if 0x40 ≤ a && a ≤ 0x64 && a % 4 = 0 then SMap.get m.times ((a - 0x40) / 4) 0
  else 0

/-- The TIME block (R373), by offset. -/
def State.timeReg (s : State) (a : Nat) : Word :=
  let t := s.time
  let sec := t.now.s.toNat
  if a = 0x00 then t.now.ns
  else if a = 0x04 then wordOf sec 0
  else if a = 0x08 then wordOf sec 1
  else if a = 0x0C then
    packW [(29, t.st.toNat), (28, nb t.set), (27, nb t.refused), (26, nb (t.heldSet || t.heldForce)), (25, nb t.slewing),
      (0, if t.st = 3 || t.st = 4 then min 0xFFFF ((s.up - t.since) / 1000000000) else 0)]
  else if a = 0x10 then s.pol 0x200010
  else if a = 0x14 then packW [(1, nb (t.forceArm || t.heldForce)), (0, nb t.heldSet)]
  else if a = 0x18 then fld 0 t.setNs
  else if a = 0x1C then t.setS.setWidth 32
  else if a = 0x20 then (t.setS >>> 32).setWidth 32
  else if a = 0x24 then satInt 32 t.offset
  else if a = 0x28 then satInt 32 t.freq
  else if a = 0x2C then packW [(16, t.utc.toNat), (0, (t.master.map fun m => m.port.toNat).getD 0)]
  else if a = 0x30 then wordOf ((t.master.map fun m => m.clock.toNat).getD 0) 0
  else if a = 0x34 then wordOf ((t.master.map fun m => m.clock.toNat).getD 0) 1
  else if a = 0x38 then packW [(16, t.overflow.toNat), (0, t.txq.length)]
  else if a = 0x3C then t.markSrc
  else if a = 0x40 then t.markSkew
  else if 0x100 ≤ a && a < 0x200 then
    let tt := s.trigger ((a - 0x100) / 0x20)
    let o := (a - 0x100) % 0x20
    if o = 0x00 then packW [(24, tt.action.toNat), (16, nb tt.periodic), (0, tt.dst.toNat)]
    else if o = 0x04 then fld 0 tt.ns
    else if o = 0x08 then tt.s.setWidth 32
    else if o = 0x0C then (tt.s >>> 32).setWidth 32
    else if o = 0x10 then tt.period
    else if o = 0x14 then packW [(29, tt.st.toNat), (28, nb (tt.steer || ((s.steer.phase == 1 || s.steer.phase == 2) && (a - 0x100) / 0x20 == s.steerTT))), (20, tt.missed.toNat), (0, tt.fires.toNat)]
    else 0
  else 0

/-- The mode of the contact sheet (R407): 0 NORMAL, 1 START, 2 TEST, 3 RECOVERY. -/
def State.csMode (s : State) : Nat :=
  if s.mod.mode = 2 then 3
  else if s.mod.st ≠ 2 then 1
  else if (s.pol 0x301000).getLsbD 31 then 2
  else 0

/-- The bytes of a record (R405). -/
def CsRec.bytes (r : CsRec) : List Byte :=
  leBytes 2 r.code.toNat ++ leBytes 2 r.rep.toNat ++ leBytes 4 r.index.toNat ++ DevTime.bytes r.t ++ [r.source] ++
    leBytes 1 r.snaps.length ++ leBytes 4 r.unit.toNat ++ leBytes 4 r.lastUs.toNat ++ leBytes 2 r.flags.toNat ++
    leBytes 2 (if r.valid then 0xA55A else 0) ++ r.snaps.flatMap fun x => leBytes 8 x.toNat

/-- Word `i` of a record. -/
def CsRec.word (r : CsRec) (i : Nat) : Word :=
  BitVec.ofNat 32 (leNat ((List.range 4).map fun j => r.bytes.getD (4 * i + j) 0))

/-- The record that a path's CS_AREA and CS_SEL choose (R409). -/
def State.csSelected (s : State) (p : Path) : Option CsRec :=
  let q := s.path p
  let pick (l : List CsRec) := l.find? fun r => r.index == q.csSel
  if q.csArea = 0 then
    match SMap.find s.cs.recs (q.csSel.toNat % 8192) with
    | some r => if r.index = q.csSel then some r else none
    | none => none
  else if q.csArea = 1 then (s.cs.p0.map pick).getD none
  else (s.cs.p1.map pick).getD none

/-- The snapshot list that CSHEET_SNAP_SEL shows. -/
def State.snapList (s : State) : SnapList := SMap.get s.cs.lists s.mgmt.snapSel.toNat {}

/-- The CSHEET block (R413), by offset; the offsets below 0x200 are those of page 2. -/
def State.csReg (s : State) (p : Path) (a : Nat) : Word :=
  if a = 0x00 then
    packW [(30, s.csMode), (29, nb s.cs.p1.isSome), (28, nb s.cs.p0.isSome), (0, s.cs.dropped.toNat)]
  else if a = 0x04 then s.cs.next
  else if a = 0x08 then (s.path p).csSel
  else if a = 0x0C then fld 0 (s.path p).csArea
  else if a = 0x10 then s.cs.upto
  else if 0x100 ≤ a && a < 0x200 && a % 4 = 0 then
    match s.csSelected p with
    | some r => r.word ((a - 0x100) / 4)
    | none => 0
  else if a = 0x1000 then s.pol 0x301000
  else if a = 0x1004 then packW [(0, nb s.cs.persistBit)]
  else if a = 0x1008 then fld 0 s.mgmt.snapSel
  else if a = 0x100C then packW [(31, nb s.snapList.en), (16, s.snapList.count.toNat), (0, s.snapList.code.toNat)]
  else if 0x1100 ≤ a && a ≤ 0x116C && a % 4 = 0 then fld 0 (SMap.get s.snapList.addrs ((a - 0x1100) / 4) 0)
  else 0

/-- The station that MGMT_STN_SEL shows. -/
def State.station (s : State) : Station := SMap.get s.mgmt.stns s.mgmt.stnSel.toNat {}

/-- The MGMT block (R413), by offset. -/
def State.mgmtReg (s : State) (a : Nat) : Word :=
  let m := s.mgmt
  if a = 0x00 then packW [(31, nb m.link), (30, nb m.relaying), (27, m.sess.length), (0, min 256 m.notices.length)]
  else if a = 0x08 then wordOf s.fuse.macMp.toNat 0
  else if a = 0x0C then wordOf s.fuse.macMp.toNat 1
  else if a = 0x40 then fld 0 m.stnSel
  else if a = 0x44 then packW [(31, nb s.station.en), (0, s.station.port.toNat)]
  else if 0x50 ≤ a && a ≤ 0x5C && a % 4 = 0 then s.station.addr.getD ((a - 0x50) / 4) 0
  else if a = 0x60 then packW [(16, m.givenUp.toNat), (0, m.overflow.toNat)]
  else if a = 0x68 then lo64 m.drop
  else if a = 0x6C then hi64 m.drop
  else if (polStore (0xB00000 + a) 0).isSome then s.pol (0xB00000 + a)
  else 0

/-- The combs of a quadrant. -/
def combsOf (q : Nat) : List Nat := (List.range 14).map fun c => 14 * q + c

/-- The state of a comb: at manufacture 0 ACTIVE, and 1 SPARE for the quadrant's last one (R258). -/
def State.combSt (s : State) (c : Nat) : BitVec 2 := ((s.comb c).st).getD (if c % 14 = 13 then 1 else 0)

/-- Lines of a quadrant in the pool and lines lit (R235, R258). -/
def State.quadAvail (s : State) (q : Nat) : Nat := 16 * ((combsOf q).filter fun c => s.combSt c == 0 || s.combSt c == 3).length
def State.quadLit (s : State) (q : Nat) : Nat :=
  ((combsOf q).map fun c => popCount (s.comb c).lit.toNat 16).foldl (· + ·) 0

/-- LIGHT_QUAD and FAB_QUAD show these (R258). -/
def State.quadWord (s : State) (q : Nat) : Word :=
  packW [(20, ((combsOf q).filter fun c => s.combSt c == 0).length),
    (16, ((combsOf q).filter fun c => s.combSt c == 1).length), (8, s.quadLit q), (0, s.quadAvail q)]

/-- The LIGHT block (R258), by offset. -/
def State.lightReg (s : State) (a : Nat) : Word :=
  let l := s.light
  let mins := (s.up - l.since) / 60000000000
  if a = 0x00 then packW [(24, 36), (16, 56), (8, 64), (0, 5)]
  else if a = 0x04 then s.pol 0x700004
  else if a = 0x08 then s.pol 0x700008
  else if a = 0x10 then packW [(30, l.refSt.toNat), (8, l.power.toNat), (0, l.offset.toNat)]
  else if a = 0x14 then
    if l.refSt = 2 then 0
    else packW [(16, min 0xFFFF (15 * mins / 60)),
      (0, if l.refSt = 0 || l.refSt = 3 then min 0xFFFF mins else 0)]
  else if 0x20 ≤ a && a ≤ 0x2C && a % 4 = 0 then s.quadWord ((a - 0x20) / 4)
  else if a = 0x40 then lo64 l.mislocks
  else if a = 0x44 then hi64 l.mislocks
  else if a = 0x48 then lo64 l.holds
  else if a = 0x4C then hi64 l.holds
  else if a = 0x50 then lo64 l.strips
  else if a = 0x54 then hi64 l.strips
  else if 0x100 ≤ a && a < 0x1E0 && a % 4 = 0 then
    let c := (a - 0x100) / 4
    packW [(30, (s.combSt c).toNat), (28, c / 14), (0, (s.comb c).lit.toNat)]
  else 0

/-- Trays that failed a Wokor pattern in their last strip (R187). -/
def State.wokorFailing (s : State) : Nat := (s.allTrays.filter fun t => (s.tray t).light.wokorBad).length

/-- The PROOF block (R187), by offset. -/
def State.proofBlock (s : State) (a : Nat) : Word :=
  if a = 0x00 then packW [(16, 512), (4, 256), (0, 2)]
  else if a = 0x24 then packW [(0, nb (s.seedsOwed != []))]
  else if a = 0x28 then packW [(16, s.fw.patterns.length), (8, min 255 s.fw.packs.length), (0, min 255 s.wokorFailing)]
  else if a = 0x40 then lo64 s.proofMisses
  else if a = 0x44 then hi64 s.proofMisses
  else if a = 0x48 then lo64 s.proofRefereed
  else if a = 0x4C then hi64 s.proofRefereed
  else if a = 0x50 then lo64 s.proofNomaj
  else if a = 0x54 then hi64 s.proofNomaj
  else if (polStore (0xA00000 + a) 0).isSome then s.pol (0xA00000 + a)
  else 0

end Sys2Proof.Machine
end

