-- ==== Sys2Proof/Machine/RegNet.lean ====
section
/-! DEFINITION. What the registers of MEM (R207), HOST (R229), FAB (R287), STEER (R315), GOV (R316), the plan
registers (R337) and FW (R394) read, and the read of any register (R13, R16, R38-R40). -/

set_option Elab.async false

namespace Sys2Proof.Machine

/-! ### The active plan (R318-R323) -/

/-- A plan slot. -/
def PlanSt.slot (p : PlanSt) (n : BitVec 2) : PlanSlot :=
  if n = 0 then p.s0 else if n = 1 then p.s1 else if n = 2 then p.s2 else p.s3

/-- The plan state with slot `n` replaced. -/
def PlanSt.setSlot (p : PlanSt) (n : BitVec 2) (v : PlanSlot) : PlanSt :=
  if n = 0 then { p with s0 := v } else if n = 1 then { p with s1 := v }
  else if n = 2 then { p with s2 := v } else { p with s3 := v }

/-- The slot that is ACTIVE, if any (R322). -/
def State.activeSlot (s : State) : Option (BitVec 2) :=
  [(0 : BitVec 2), 1, 2, 3].find? fun n => (s.plan.slot n).st == 3

/-- The active plan. -/
def State.activePlan (s : State) : Option Plan :=
  match s.activeSlot with
  | some n => (s.plan.slot n).plan
  | none => none

/-- The index of a module entry by serial or by node. -/
def Plan.bySerial (p : Plan) (x : BitVec 128) : Option Nat := p.modules.findIdx? fun m => m.serial == x && m.role != 3
def Plan.byNode (p : Plan) (n : Node) : Option Nat := p.modules.findIdx? fun m => m.node == n

/-- This module's entry in the active plan. -/
def State.selfIdx (s : State) : Option Nat := s.activePlan.bind fun p => p.bySerial s.fuse.serial
def State.selfEntry (s : State) : Option PModule :=
  s.activePlan.bind fun p => (p.bySerial s.fuse.serial).bind fun i => p.modules[i]?

/-- The fabric node ID, 0xFFFE if none (R318). -/
def State.node (s : State) : Node := (s.selfEntry.map fun m => m.node).getD 0xFFFE

/-- The entry of port `p` of module entry `i` (R319). -/
def Plan.port (pl : Plan) (i : Nat) (p : PortNo) : Option PPort := pl.ports[i]?.bind fun l => l[p.toNat]?

/-- This module's entry of a port in the active plan. -/
def State.planPort (s : State) (p : PortNo) : Option PPort :=
  s.activePlan.bind fun pl => (pl.bySerial s.fuse.serial).bind fun i => pl.port i p

/-- This module's logical links in a plan (R320). -/
def Plan.linksOf (pl : Plan) (i : Nat) : List PLink := pl.links.getD i []

/-- The lender of this module, if any (R318, R200). -/
def State.lender (s : State) : Option Node :=
  s.selfEntry.bind fun m => if m.lender = 0xFFFF then none else some m.lender

/-- The fabric domain of the configuration image (R338). -/
def State.domain (s : State) : BitVec 16 := (s.mod.image.map fun i => i.domain).getD 0

/-! ### Device memory capacity (R189, R195) -/

/-- The pages of the last frame that hold the translation tables: its last 32 (log entry 8). -/
def tableBits : BitVec 512 := BitVec.ofNat 512 ((2 ^ 32 - 1) * 2 ^ 480)

/-- A frame of a site. -/
def Site.frame (x : Site) (f : Nat) : Option Frame :=
  match SMap.find x.frames f with
  | some v => some v
  | none => if f = 127 then some (.small tableBits) else none

/-- The 2 MiB pages that a frame takes up, the tables aside. -/
def Site.frameUsed (x : Site) (f : Nat) : Nat :=
  match x.frame f with
  | none => 0
  | some .big => 512
  | some (.small u) => popCount u.toNat 512 - (if f = 127 then 32 else 0)

/-- Free 2 MiB pages of a site (R189, R207; a FAILED site reads 0, R348). -/
def Site.free (x : Site) : Nat :=
  if x.failed then 0 else 65504 - ((x.frames.map (·.1)).map x.frameUsed).foldl (· + ·) 0

/-- A page lies at the lender. -/
def PageAt.remote : PageAt → Bool
  | .lender _ => true
  | .here _ _ => false

/-- 2 MiB pages of a region, all and remote. -/
def Region.pages2 (r : Region) : Nat := r.size / 2097152
def Region.remote2 (r : Region) : Nat := (r.pages.filter PageAt.remote).length * (if r.big then 512 else 1)

/-- 2 MiB pages that a context uses, all and remote (R207). -/
def Ctx.used (c : Ctx) : Nat := (c.regions.map fun e => e.2.pages2).foldl (· + ·) 0
def Ctx.remUsed (c : Ctx) : Nat := (c.regions.map fun e => e.2.remote2).foldl (· + ·) 0

/-- The hardware threads of the module (R1). -/
def State.threadCount (s : State) : Nat := s.siteCount * 8 * 8 * 19 * 16 * 8

/-- A context's thread quota; the image default is the module's thread count (R341). -/
def State.tquota (s : State) (c : Ctx) : Nat := (c.tquota.map (·.toNat)).getD s.threadCount

/-- The sequence slots that a context holds (R110). -/
def State.seqHeld (s : State) (c : CtxNo) : Nat :=
  (s.seqs.filter fun e => e.2.st ≠ 0 && e.2.ctx == c).length

/-- The threads that a context holds, ENDING included (R105). -/
def State.ctxThreads (s : State) (c : CtxNo) : Nat :=
  (s.cores.map fun e => (e.2.slots.filter fun x => x.2.ctx == c).length).foldl (· + ·) 0

/-! ### MEM (R207) -/

/-- A register of site `i`, by offset. -/
def State.siteReg (s : State) (i o : Nat) : Word :=
  let x := s.site i
  if s.siteCount ≤ i then 0
  else if o = 0x00 then
    packW [(24, 128 - (x.spare.map (·.2)).foldl max 0), (18, (x.erased[0]?.map (·.val)).getD 63),
      (12, (x.erased[1]?.map (·.val)).getD 63), (6, (x.training.map (·.val)).getD 63)]
  else if o = 0x04 then BitVec.ofNat 32 x.free
  else if o = 0x08 then
    packW [(16, match x.lastEnd with | none => 0 | some t => min 0xFFFF ((s.up - t) / 60000000000)),
      (0, 256 * x.passPos / 2147483648)]
  else if o = 0x0C then packW [(16, x.windows.toNat), (0, x.longest.toNat)]
  else firstOf [wide o 0x10 x.corr, wide o 0x18 x.uncorr, wide o 0x20 x.stall]

/-- The context that a path's window shows (R207). -/
def State.shownCtx (s : State) : Path → CtxNo
  | .page c => c
  | p => (s.path p).ctxSel

/-- A context command of a path, named by its key, is at work or waits (R201). -/
def State.ctxBusy (s : State) (key : Nat) : Bool :=
  s.mem.ctxs.any fun e => (e.2.busy.any fun b => b.2 == key) || e.2.waiting.any fun b => b.2 == key

/-- A region command of a path is at work (R199). -/
def State.regionBusy (s : State) (key : Nat) : Bool :=
  s.mem.ctxs.any fun e => e.2.regions.any fun r => r.2.path == key && (r.2.st == .allocating || r.2.st == .releasing)

/-- A register of the context window, by offset from 0x090_2400. -/
def State.ctxReg (s : State) (p : Path) (o : Nat) : Word :=
  let n := s.shownCtx p
  let c := s.ctx n
  let q := s.path p
  if o = 0x00 then packW [(8, c.pid.toNat), (0, c.st.toNat)]
  else if o = 0x04 then c.quota
  else if o = 0x08 then BitVec.ofNat 32 c.used
  else if o = 0x0C then packW [(31, nb c.remEn), (0, c.remCap.toNat)]
  else if o = 0x10 then BitVec.ofNat 32 c.remUsed
  else if o = 0x14 then packW [(24, c.prio.toNat), (0, s.tquota c)]
  else if o = 0x18 then packW [(16, s.seqHeld n), (0, c.squota.toNat)]
  else if o = 0x1C then packW [(16, c.gbase.toNat), (0, c.gsize.toNat)]
  else if o = 0x20 then packW [(31, nb (s.regionBusy (pathKey p)))] ||| q.rcmd
  else if o = 0x34 then q.rresult
  else if o = 0x38 then q.rremote
  else if o = 0x3C then fld 0 q.seqSel
  else if 0x40 ≤ o && o ≤ 0x54 && o % 4 = 0 then
    let x := s.seq q.seqSel.toNat
    if x.st = 0 || x.ctx ≠ n then 0
    else if o = 0x40 then packW [(16, x.gen.toNat), (14, x.st.toNat), (0, x.ctx.toNat)]
    else if o = 0x44 then x.base.setWidth 32
    else if o = 0x48 then packW [(16, x.units.toNat), (0, x.base.toNat / 2 ^ 32)]
    else if o = 0x4C then fld 0 x.cap
    else if o = 0x50 then fld 0 x.reserved
    else fld 0 x.valid
  else if 0x80 ≤ o && o < 0x180 && o % 4 = 0 then SMap.get c.peers ((o - 0x80) / 4) 0
  else firstOf [wide o 0x24 q.rbase, wide o 0x2C q.rsize, wide o 0x60 c.remBytes]

/-- The MEM block, by offset. -/
def State.memReg (s : State) (p : Path) (a : Nat) : Word :=
  let q := s.path p
  if a = 0x00 then packW [(20, 4095), (12, 64), (0, 128)]
  else if a = 0x04 then s.pol 0x900004
  else if a = 0x08 then packW [(16, min 15 s.capStep), (15, nb (s.mem.exhausted && s.powerHigh)), (0, s.mem.avg.toNat)]
  else if a = 0x0C then fld 0 q.ctxSel
  else if a = 0x10 then packW [(31, nb (s.ctxBusy (pathKey p)))] ||| q.ctxCmd
  else if a = 0x14 then packW [(31, nb (s.ctxBusy (pathKey p))), (16, q.ctxOf.toNat), (0, q.ctxStatus.toNat)]
  else if a = 0x18 then s.pol 0x900018
  else if 0x1000 ≤ a && a < 0x1400 then s.siteReg ((a - 0x1000) / 0x40) ((a - 0x1000) % 0x40)
  else if 0x2400 ≤ a && a < 0x2600 then s.ctxReg p (a - 0x2400)
  else 0

/-! ### HOST (R229) -/

/-- A register of host port `p`, by offset. -/
def State.portReg (s : State) (p : BitVec 1) (o : Nat) : Word :=
  let x := s.hport p
  let mac := (if p = 0 then s.fuse.mac0 else s.fuse.mac1).toNat
  if o = 0x00 then packW [(2, nb x.fec), (1, nb (x.paused || x.pausing)), (0, nb x.link)]
  else if o = 0x08 then wordOf mac 0
  else if o = 0x0C then wordOf mac 1
  else if o < 0x40 then
    let a := 0x601000 + 0x100 * p.toNat + o
    if (polStore a 0).isSome then s.pol a else 0
  else firstOf [wide o 0x40 x.rxBytes, wide o 0x48 x.txBytes, wide o 0x50 x.drop, wide o 0x58 x.cnpRx,
    wide o 0x60 x.cnpTx, wide o 0x68 x.retx]

/-- A ring of a context. -/
def Ctx.ring (c : Ctx) (r : Nat) : SubRing := SMap.get c.rings r {}

/-- A register of the context's host window, by offset from 0x060_2600. -/
def State.hostCtxReg (s : State) (p : Path) (o : Nat) : Word :=
  let c := s.ctx (s.shownCtx p)
  if o < 0x20 && o % 4 = 0 then
    let b := (c.ring (o / 8)).base
    if o % 8 = 0 then lo64 b else hi64 b
  else if 0x20 ≤ o && o < 0x30 && o % 4 = 0 then
    let r := c.ring ((o - 0x20) / 4)
    packW [(31, nb r.en), (30, nb r.stopped), (29, nb r.idle), (8, r.code.toNat), (0, r.log2.toNat)]
  else if o = 0x38 then fld 0 c.scount
  else if o = 0x48 then c.mkey
  else if o = 0x4C then fld 0 c.mmode
  else firstOf [wide o 0x30 c.sbase, wide o 0x40 c.mbase, wide o 0x50 c.submits]

/-- The HOST block, by offset. -/
def State.hostReg (s : State) (p : Path) (a : Nat) : Word :=
  let x := s.qp (s.path p).qpSel.toNat
  if a = 0x00 then packW [(16, 4), (8, 16), (0, 12)]
  else if a = 0x04 || a = 0x08 || a = 0x0C then s.pol (0x600000 + a)
  else if a = 0x10 then fld 0 (s.path p).qpSel
  else if a = 0x100 then packW [(30, x.st.toNat), (29, nb x.auth), (0, x.reason.toNat)]
  else if a = 0x104 then fld 0 x.op
  else if a = 0x108 then x.cfg
  else if a = 0x10C then x.path
  else if a = 0x110 then fld 0 x.sqpsn
  else if a = 0x114 then fld 0 x.rqpsn
  else if a = 0x118 then fld 0 x.keytag
  else if 0x11C ≤ a && a ≤ 0x128 && a % 4 = 0 then x.raddr.getD ((a - 0x11C) / 4) 0
  else if 0x1000 ≤ a && a < 0x1100 then s.portReg 0 (a - 0x1000)
  else if 0x1100 ≤ a && a < 0x1200 then s.portReg 1 (a - 0x1100)
  else if 0x2600 ≤ a && a < 0x2800 then s.hostCtxReg p (a - 0x2600)
  else 0

/-! ### FAB (R287) -/

/-- The values of R275 and R276. -/
def FState.code : FState → Nat
  | .dark => 0 | .discovering => 1 | .absent => 2 | .quarantined => 3 | .transit => 4 | .linked => 5 | .shutdown => 6
def CState.code : CState → Nat
  | .unlit => 0 | .waitLine => 1 | .locking => 2 | .training => 3 | .up => 4 | .retrain => 5 | .refused => 6 | .failed => 7

/-- All ports (and transceivers). -/
def allPorts : List PortNo := (List.range 64).map (BitVec.ofNat 6)
/-- All grid channels. -/
def allChans : List ChanNo := (List.range 16).map (BitVec.ofNat 4)


/-- The transceiver joined to a port. -/
def State.ltOf (s : State) (p : PortNo) : Option PortNo := allPorts.find? fun x => (s.lt x).port == some p

/-- The logical link of a port. -/
def State.linkOf (s : State) (p : PortNo) : Option (BitVec 6) := allPorts.find? fun l => (s.link l).ports.contains p

/-- The flits in the replay store of a port: without acknowledgement on its transceiver's channels, and those of its channels that left
UP until they are sent again (R267). -/
def State.stored (s : State) (p x : PortNo) : Nat :=
  (allChans.map fun k => (s.chan x k).unacked.length).foldl (· + ·) 0 +
    ((s.linkOf p).map fun l => (s.link l).resend.countP fun t => t.home == p).getD 0

/-- The channels of a link in a direction that are UP. -/
def State.txUp (s : State) (l : BitVec 6) : Nat :=
  ((s.link l).ports.map fun p => match s.ltOf p with
    | none => 0
    | some x => (allChans.filter fun k => (s.chan x k).tx == .up).length).foldl (· + ·) 0
def State.rxUp (s : State) (l : BitVec 6) : Nat :=
  ((s.link l).ports.map fun p => match s.ltOf p with
    | none => 0
    | some x => (allChans.filter fun k => (s.chan x k).rx == .up).length).foldl (· + ·) 0

/-- Combs of a quadrant that give lines (R272, R235). -/
def State.usableCombs (s : State) (q : Nat) : List Nat := (combsOf q).filter fun c => s.combSt c == 0

/-- Free lines of a channel in a quadrant. -/
def State.freeLines (s : State) (q : Nat) (k : ChanNo) : Nat :=
  ((s.usableCombs q).filter fun c => !(s.comb c).lit.getLsbD k.toNat).length

/-- A line is routed to the transmit ring of a channel. -/
def Chan.hasLine (c : Chan) : Bool := c.line.isSome

/-- FAB_QUAD. -/
def State.fabQuad (s : State) (q : Nat) : Word :=
  packW [(24, min 255 (s.fab.waiting.filter fun r => r.lt.toNat / 16 == q).length), (16, s.quadLit q),
    (0, (allChans.map fun k => if s.freeLines q k = 0 then 2 ^ k.toNat else 0).foldl (· + ·) 0)]

/-- A register of port `p`, by offset below 0x800. -/
def State.fpReg (s : State) (p : PortNo) (o : Nat) : Word :=
  let x := s.fport p
  if o = 0x000 then
    let lk := match s.linkOf p, s.ltOf p with
      | some l, some t => if x.st = .linked then packW [(15, 1), (8, l.toNat), (0, t.toNat)] else 0
      | _, _ => 0
    packW [(28, x.st.code), (27, nb x.shutter), (26, nb x.light)] ||| lk
  else if o = 0x004 then packW [(0, nb x.probeBit)]
  else if o = 0x008 then packW [(16, x.rxPow.toNat), (0, x.txPow.toNat)]
  else if o = 0x00C then packW [(16, x.shutdowns.toNat), (0, x.probes.toNat)]
  else 0

/-- A register of transceiver `x`, by offset from 0x800. -/
def State.ltReg (s : State) (p : Path) (x : PortNo) (o : Nat) : Word :=
  let t := s.lt x
  let sel := SMap.get (s.path p).chSel x.toNat 0
  let c := s.chan x (BitVec.ofNat 4 sel)
  if o = 0x00 then
    packW [(31, nb t.port.isSome), (24, (t.port.map (·.toNat)).getD 0), (22, x.toNat / 16),
      (16, ((t.port.bind s.linkOf).map (·.toNat)).getD 0),
      (0, (allChans.map fun k => if (s.chan x k).hasLine then 2 ^ k.toNat else 0).foldl (· + ·) 0)]
  else if o = 0x04 then BitVec.ofNat 32 sel
  else if o = 0x18 then c.uncorr
  else if o = 0x1C then c.replays
  else if o = 0x20 then
    let fp := (t.port.map s.fport).getD {}
    packW [(16, min 3072 (fp.rxUsed0 + fp.rxUsed1)),
      (0, min 3072 ((t.port.map fun p => s.stored p x).getD 0))]
  else if 0x100 ≤ o && o < 0x140 && o % 4 = 0 then
    let c := s.chan x (BitVec.ofNat 4 ((o - 0x100) / 4))
    packW [(28, c.tx.code), (24, c.rx.code), (20, max c.attempts.toNat c.rxAttempts.toNat), (8, c.offset.toNat), (0, c.retrains.toNat)]
  else if 0x140 ≤ o && o < 0x180 && o % 4 = 0 then
    let c := s.chan x (BitVec.ofNat 4 ((o - 0x140) / 4))
    packW [(16, c.height.toNat), (0, c.width.toNat)]
  else if 0x180 ≤ o && o < 0x1C0 && o % 4 = 0 then
    let c := s.chan x (BitVec.ofNat 4 ((o - 0x180) / 4))
    packW [(31, nb c.readyOk), (30, nb c.degraded), (0, c.nlog.toNat)]
  else firstOf [wide o 0x08 c.bits, wide o 0x10 c.errs]

/-- The FAB block, by offset. -/
def State.fabReg (s : State) (p : Path) (a : Nat) : Word :=
  let ln := (s.path p).llSel
  let l := s.link ln
  if a < 0x40000 then
    let x : PortNo := BitVec.ofNat 6 (a / 0x1000)
    if a % 0x1000 < 0x800 then s.fpReg x (a % 0x1000) else s.ltReg p x (a % 0x1000 - 0x800)
  else if a = 0x40000 then packW [(24, 64), (16, 16), (8, 64), (0, 4)]
  else if a = 0x40004 then fld 0 ln
  else if a = 0x40008 then packW [(30, l.prio.toNat), (16, l.max.toNat), (0, l.min.toNat)]
  else if a = 0x4000C then
    let tx := s.txUp ln
    let rx := s.rxUp ln
    packW [(16, l.peer.toNat),
      (14, if !l.used then 0 else if tx = 0 && rx = 0 then 1 else if tx = 0 || rx = 0 then 2 else 3),
      (7, rx), (0, tx)]
  else if a = 0x40010 then
    BitVec.ofNat 32 (((List.range 4).map fun n => match l.ports[n]? with
      | some q => (128 + q.toNat) * 2 ^ (8 * n)
      | none => 0).foldl (· + ·) 0)
  else if 0x40020 ≤ a && a ≤ 0x4002C && a % 4 = 0 then s.fabQuad ((a - 0x40020) / 4)
  else firstOf [wide a 0x40018 l.txBytes]

/-! ### STEER and GOV (R315, R316) -/

/-- A switch is PREPARING or COMMITTED. -/
def State.swPending (s : State) : Bool := s.steer.phase == 1 || s.steer.phase == 2

/-- A committed T lies within 10 s. -/
def State.within10 (s : State) : Bool :=
  match s.steer.sw with
  | some w => s.steer.phase == 2 && w.committed && decide (DevTime.toNs w.t ≤ DevTime.toNs s.now + 10000000000)
  | none => false

/-- The output that an input is connected to, and the input of an output. -/
def SteerSt.outOf (x : SteerSt) (i : Nat) : Option Nat := (x.conn.find? fun e => e.1 == i).map (·.2)
def SteerSt.inOf (x : SteerSt) (o : Nat) : Option Nat := (x.conn.find? fun e => e.2 == o).map (·.1)

/-- The class of a connection (R289): 0 TRANSIT, 1 LINK_TX, 2 LINK_RX, 3 LOOPBACK. -/
def connClass (i o : Nat) : Nat := if i < 64 then (if o < 64 then 0 else 2) else (if o < 64 then 1 else 3)

/-- The most-moved element and its moves. -/
def SteerSt.worn (x : SteerSt) : Nat × Nat := x.moves.foldl (fun a e => if a.2 < e.2 then e else a) (0, 0)

/-- The STEER block below 0x2000, by offset. -/
def State.steerReg (s : State) (p : Path) (a : Nat) : Word :=
  let x := s.steer
  if a = 0x00 then packW [(24, 128), (16, 128), (4, 1200), (0, 2)]
  else if a = 0x04 then
    packW [(30, if x.moving then 2 else if x.frozen then 3 else if x.inBypass then 0 else 1), (27, x.src.toNat),
      (26, nb s.swPending), (25, nb s.within10), (24, nb x.latchOpen), (16, min 255 x.failed.length),
      (0, (s.activeSlot.map (·.toNat)).getD 0)]
  else if a = 0x0C then packW [(2, nb x.restoreBit), (1, nb x.bypassBit)]
  else if a = 0x10 then packW [(31, nb (x.phase == 1 && x.swCoord)), (0, s.polF 0x400010 1 0)]
  else if a = 0x08 || a = 0x14 || a = 0x18 || a = 0x1C then s.pol (0x400000 + a)
  else if a = 0x20 then
    match x.goCode with
    | some c => packW [(28, 7), (27, nb x.swCoord), (0, c.toNat)]
    | none => packW [(28, x.phase.toNat), (27, nb x.swCoord), (0, x.code.toNat)]
  else if a = 0x24 then packW [(16, x.failNode.toNat), (0, x.failCount.toNat)]
  else if a = 0x28 then packW [(16, x.resume.toNat), (0, x.switches.toNat)]
  else if a = 0x2C then fld 0 (s.path p).xsel
  else if a = 0x30 then
    let o := (s.path p).xsel.toNat
    let fl := nb (x.failed.any fun e => e.2 == o && x.conn.contains e)
    match x.inOf o with
    | some i => packW [(31, 1), (30, fl), (28, connClass i o), (0, i)]
    | none => packW [(30, fl)]
  else if a = 0x34 then packW [(18, x.worn.1), (0, min 262143 (x.worn.2 / 4096))]
  else if 0x1000 ≤ a && a < 0x1400 then
    let q := s.slPort (BitVec.ofNat 6 ((a - 0x1000) / 0x10))
    let o := (a - 0x1000) % 0x10
    if o = 0x0 then packW [(30, q.st.toNat), (0, q.peer.toNat)]
    else if o = 0x4 then q.rx
    else if o = 0x8 then q.tx
    else if o = 0xC then packW [(16, q.crc.toNat), (0, q.dropped.toNat)]
    else 0
  else firstOf [wide a 0x38 x.total, wide a 0x40 x.bad]

/-- The GOV block, by offset. -/
def State.govReg (s : State) (a : Nat) : Word :=
  let g := s.gov
  if a = 0x00 then packW [(30, g.roleA.toNat), (28, g.roleB.toNat), (26, g.split.toNat), (25, nb g.simplex)]
  else if a = 0x04 then packW [(31, nb (g.swapAsked || g.resyncing))] ||| s.pol 0x100004
  else if a = 0x08 then g.seq
  else if a = 0x0C then fld 0 g.epoch
  else if a = 0x10 then
    packW [(28, g.cause.toNat), (24, g.receiver.toNat), (20, g.resultC.toNat), (0, g.node.toNat)]
  else if a = 0x14 then g.splitSeq
  else if a = 0x20 then packW [(16, g.splits.toNat), (0, g.swaps.toNat)]
  else firstOf [wide a 0x18 g.dups]

/-! ### Plans (R337) -/

/-- Outcomes of PLAN_PORT.OUTCOME that count as MISSING or as QUARANTINED. -/
def outMissing (o : BitVec 4) : Bool := o == 3 || o == 4
def State.quarantinedPorts (s : State) : Nat := (allPorts.filter fun p => (s.fport p).st == .quarantined).length
def State.missingPorts (s : State) : Nat := (allPorts.filter fun p => outMissing (s.disc p).outcome).length

/-- The plan registers, by offset from 0x040_2000. -/
def State.planReg (s : State) (a : Nat) : Word :=
  let x := s.plan
  if a = 0x00 then packW [(24, 4), (16, 32), (0, 4096)]
  else if a = 0x04 then
    packW [(31, nb x.degraded), (16, s.quarantinedPorts), (2, s.missingPorts), (0, (s.activeSlot.map (·.toNat)).getD 0)]
  else if a = 0x08 then packW [(31, nb x.loading.isSome), (0, s.polF 0x402008 3 0)]
  else if a = 0x0C then fld 0 x.result
  else if a = 0x10 then packW [(16, s.node.toNat), (0, s.domain.toNat)]
  else if a = 0x14 then packW [(30, (s.selfEntry.map fun m => m.role.toNat % 4).getD 0), (0, s.mem.pool.length)]
  else if a = 0x18 then fld 0 (s.lender.getD 0xFFFF)
  else if a = 0x1C then
    match x.offer with
    | some (n, sl) => packW [(16, n.toNat), (0, sl.toNat)]
    | none => 0xFFFF0000
  else if a = 0x20 then packW [(31, nb (x.acceptHeld != [])), (16, s.polF 0x402020 21 16), (0, x.acceptCode.toNat)]
  else if 0x40 ≤ a && a < 0x80 then
    let sl := x.slot (BitVec.ofNat 2 ((a - 0x40) / 0x10))
    let o := (a - 0x40) % 0x10
    let d := (sl.plan.map fun p => p.digest.toNat).getD 0
    if o = 0x0 then fld 0 sl.st
    else if o = 0x4 then (sl.plan.map fun p => p.planId).getD 0
    else if o = 0x8 then wordOf d 0
    else if o = 0xC then wordOf d 1
    else 0
  else if 0x100 ≤ a && a < 0x200 && a % 4 = 0 then
    let p : PortNo := BitVec.ofNat 6 ((a - 0x100) / 4)
    let d := s.disc p
    let pp := s.planPort p
    packW [(28, (pp.map fun e => e.kind.toNat).getD 0), (24, d.outcome.toNat), (18, d.swapPort.toNat),
      (10, (d.heard.map fun h => h.1.sport.toNat).getD 0),
      (0, match pp with | some e => if e.kind = 1 then e.pid.toNat % 128 else 0x7F | none => 0x7F)]
  else if 0x400 ≤ a && a < 0xC00 then
    let d := s.disc (BitVec.ofNat 6 ((a - 0x400) / 0x20))
    let o := (a - 0x400) % 0x20
    if o < 0x10 then (d.heard.map fun h => wordOf h.2.serial.toNat (o / 4)).getD 0
    else if o = 0x10 then
      match d.heard with
      | some (h, x) => packW [(16, h.src.toNat), (2, nb x.quarantined), (1, nb x.bypass), (0, nb x.heardValid)]
      | none => 0xFFFE0000
    else if o = 0x14 then (d.heard.map fun h => h.2.planId).getD 0
    else 0
  else 0

/-! ### FW (R394) -/

/-- The boot header in use: the rows of R378. -/
def FwSt.sel (f : FwSt) : BootSel :=
  if f.h1.ok && f.h2.ok && f.h1.seq == f.h2.seq && f.h1.sel == f.h2.sel then f.h1.sel
  else if f.h1.ok then f.h1.prev
  else f.h2.sel

/-- A slot by its number (R394), and the state with it replaced. -/
def FwSt.slot (f : FwSt) (n : BitVec 2) : FwSlot :=
  if n = 0 then f.fa else if n = 1 then f.fb else if n = 2 then f.ca else f.cb
def FwSt.setSlot (f : FwSt) (n : BitVec 2) (v : FwSlot) : FwSt :=
  if n = 0 then { f with fa := v } else if n = 1 then { f with fb := v }
  else if n = 2 then { f with ca := v } else { f with cb := v }

/-- The slots that are active by the header in use, and the others. -/
def FwSt.activeFw (f : FwSt) : BitVec 2 := if f.runB then 1 else 0
def FwSt.otherFw (f : FwSt) : BitVec 2 := if f.runB then 0 else 1
def State.activeCfg (s : State) : BitVec 2 := if s.fw.sel.cfgB then 3 else 2
def State.otherCfg (s : State) : BitVec 2 := if s.fw.sel.cfgB then 2 else 3

/-- FW_SLOT_STATE.STATE: ACTIVE where the boot header names the slot (R378). -/
def State.slotShown (s : State) (n : BitVec 2) : BitVec 4 :=
  if n = s.fw.activeFw || n = s.activeCfg then (if (s.fw.slot n).st = 0 then 0 else 6) else (s.fw.slot n).st

/-- The conditions of R380. -/
def State.updMoving (s : State) : Bool := s.within10 || s.steer.latchOpen
def State.updHoldup (s : State) : Bool := decide (s.mod.holdup.toNat < 90)
def State.updLocked (s : State) : Bool := s.fw.ownerLock

/-- SAVE is refused (R387). -/
def State.saveLocked (s : State) : Bool := s.fw.foreign || s.fw.sel.trial

/-- The bank in use, or the foreign bank. -/
def FwSt.bank (f : FwSt) : Option Bank :=
  match f.useB with
  | some true => some f.bankB
  | some false => some f.bankA
  | none => none
def FwSt.foreignBank (f : FwSt) : Option Bank :=
  if f.bankA.ok && f.bankB.ok then some (if f.bankA.seq.toNat < f.bankB.seq.toNat then f.bankB else f.bankA)
  else if f.bankA.ok then some f.bankA else if f.bankB.ok then some f.bankB else none

/-- The FW block, by offset. -/
def State.fwReg (s : State) (a : Nat) : Word :=
  let f := s.fw
  if a = 0x00 then packW [(28, 2), (24, 3), (16, 1), (0, 256)]
  else if a = 0x04 then
    packW [(28, f.phase.toNat), (27, nb f.runB), (26, nb f.sel.trial), (24, f.sel.tries.toNat), (20, f.site.toNat),
      (2, nb s.updMoving), (1, nb s.updHoldup), (0, nb s.updLocked)]
  else if 0x08 ≤ a && a < 0x28 && a % 4 = 0 then
    let n : BitVec 2 := BitVec.ofNat 2 ((a - 0x08) / 8)
    let x := f.slot n
    if a % 8 = 0 then packW [(28, (s.slotShown n).toNat), (27, nb x.h4), (26, nb x.hitless), (0, x.svn.toNat)]
    else if x.st = 0 then 0 else x.version
  else if a = 0x28 then s.pol 0x800028
  else if a = 0x2C then packW [(16, (f.slot f.target).next.toNat), (0, (f.slot f.target).blocks.toNat)]
  else if a = 0x30 then packW [(31, nb (f.op != .idle))] ||| s.pol 0x800030
  else if a = 0x34 then packW [(31, nb (f.op != .idle)), (0, f.status.toNat)]
  else if a = 0x38 then
    packW [(31, nb f.foreign), (30, nb s.saveLocked), (29, nb (f.useB == some true)), (28, nb f.useB.isNone),
      (16, (f.bank.map fun b => b.entries.length).getD 0),
      (0, ((if f.foreign then f.foreignBank else f.bank).map fun b => b.schema.toNat).getD 0)]
  else if a = 0x3C then s.pol 0x80003C
  else if a = 0x40 then packW [(31, nb f.ownerLock), (0, f.minSvn.toNat)]
  else if a = 0x44 then
    packW [(8, nb (f.keys = [])), (4, s.fuse.revoked.toNat),
      (0, (f.keys.map fun e => 2 ^ (e.1 % 4)).foldl (· ||| ·) 0)]
  else if a = 0x48 then packW [(31, nb f.reporting), (30, nb f.valid), (0, f.reports.toNat)]
  else if 0x50 ≤ a && a < 0x70 && a % 4 = 0 then s.pol (0x800000 + a)
  else if 0x70 ≤ a && a < 0x80 && a % 4 = 0 then ((SMap.find f.keys ((a - 0x70) / 4)).map keyId).getD 0
  else if 0x1000 ≤ a && a < 0x1260 && a % 4 = 0 then
    BitVec.ofNat 32 (leNat ((List.range 4).map fun j => f.report.getD (a - 0x1000 + j) 0))
  else 0

/-! ### Any register -/

/-- The CSR space of a privileged path (R38): the current value, before latches and clears. -/
def State.csrNow (s : State) (p : Path) (a : Nat) : Word :=
  if a % 4 ≠ 0 then 0
  else if a < 0x100000 then s.modReg a
  else if a < 0x200000 then s.govReg (a - 0x100000)
  else if a < 0x300000 then s.timeReg (a - 0x200000)
  else if a < 0x400000 then s.csReg p (a - 0x300000)
  else if a < 0x402000 then s.steerReg p (a - 0x400000)
  else if a < 0x402C00 then s.planReg (a - 0x402000)
  else if a < 0x500000 then 0
  else if a < 0x600000 then s.fabReg p (a - 0x500000)
  else if a < 0x700000 then s.hostReg p (a - 0x600000)
  else if a < 0x800000 then s.lightReg (a - 0x700000)
  else if a < 0x900000 then s.fwReg (a - 0x800000)
  else if a < 0xA00000 then s.memReg p (a - 0x900000)
  else if a < 0xB00000 then s.proofBlock (a - 0xA00000)
  else if a < 0xC00000 then s.mgmtReg (a - 0xB00000)
  else s.unitReg p a

/-- The three pages of a context (R39, R40, R207, R229, R413). -/
def State.pageNow (s : State) (c : CtxNo) (a : Nat) : Word :=
  if a % 4 ≠ 0 then 0
  else if a < 0x40 then s.ucbPid (s.ctx c).pid a
  else if 0x400 ≤ a && a < 0x600 then s.ctxReg (.page c) (a - 0x400)
  else if 0x600 ≤ a && a < 0x800 then s.hostCtxReg (.page c) (a - 0x600)
  else if a < 0x1000 then 0
  else if a < 0x1040 then s.ucb .module 0 (a - 0x1000)
  else if a < 0x2000 then Config.pageInfo (a - 0x1000) s.fuse.variant s.siteCount s.fw.runVersion
  else if a < 0x2200 then s.csReg (.page c) (a - 0x2000)
  else 0

/-- The current value of the register that a path names by an address. -/
def State.regNow (s : State) (p : Path) (a : Nat) : Word :=
  match p with
  | .page c => s.pageNow c a
  | _ => s.csrNow p a

end Sys2Proof.Machine
end

