-- ==== Sys2Proof/Machine/Events.lean ====
section
/-! DEFINITION. Contact-sheet records, health notices, mode buckets and persistence (R401-R408), as one operation
that every meaning uses to record an event. -/

set_option Elab.async false

namespace Sys2Proof.Machine

/-- The events that are marked as health notices in their chapters' tables, and 0x0908 (R401). -/
def noticeCodes : List Nat :=
  [0x0B01, 0x0B02, 0x0B06, 0x0B07, 0x0903, 0x0905, 0x0906, 0x0908, 0x0909, 0x090A, 0x090B, 0x0801, 0x0802, 0x0805, 0x0808,
   0x0A04, 0x0A06, 0x0703, 0x0704, 0x0705, 0x0706, 0x0707, 0x0708, 0x070A] ++
  [0x0603, 0x0604, 0x0605, 0x0606, 0x0608, 0x0609, 0x0201, 0x0202, 0x0203, 0x0205, 0x0502, 0x0503, 0x0505, 0x0506, 0x0507,
   0x050A, 0x050B, 0x060A, 0x060B, 0x060C, 0x060D, 0x060E] ++
  [0x0102, 0x0103, 0x0104, 0x0105, 0x0106, 0x0107, 0x0108, 0x0302, 0x0303, 0x0304, 0x0402, 0x0403, 0x0404, 0x0405, 0x0406,
   0x0409, 0x040A, 0x0412, 0x0413, 0x010C, 0x010D, 0x010E, 0x010F, 0x0110, 0x0111, 0x0112, 0x0113]

/-- The next message number of the governor pair (R302). -/
def State.govSeq (s : State) : State := { s with gov := { s.gov with seq := s.gov.seq + 1 } }

/-- The payload of a notice (R401). -/
def State.noticePayload (s : State) (r : CsRec) : List Byte :=
  leBytes 2 s.node.toNat ++ leBytes 2 s.gov.epoch.toNat ++ leBytes 2 r.code.toNat ++ leBytes 2 s.mgmt.lost.toNat ++
    leBytes 4 r.index.toNat ++ leBytes 4 r.unit.toNat ++ DevTime.bytes r.t ++ leBytes 6 0 ++
    ((List.range 4).flatMap fun i => leBytes 8 (r.snaps.getD i 0).toNat)

/-- The governors whose copies of a message go out: both, or the one that runs in simplex (R402, R305). -/
def State.govCopies (s : State) : List Bool :=
  if s.gov.simplex then [decide (s.gov.roleA = 2)] else [false, true]

/-- The logical link toward a node in the active plan's route table, if it has one (R269). -/
def State.routeTo (s : State) (n : Node) : Option (BitVec 6) :=
  s.activePlan.bind fun pl => (pl.bySerial s.fuse.serial).bind fun i => (pl.byNode n).bind fun j =>
    ((pl.routes.getD i [])[j]?).bind fun b => if b.toNat < 64 then some (BitVec.ofNat 6 b.toNat) else none

/-- The lowest-numbered port of a logical link. -/
def LLink.lowPort (l : LLink) : Option PortNo := allPorts.find? fun p => l.ports.contains p

/-- The ports whose safelight is UP. -/
def State.slUpPorts (s : State) : List PortNo := allPorts.filter fun p => (s.slPort p).st == 2

/-- The ports a frame for a node goes out on (R310), other than `not`. -/
def State.slPorts (s : State) (dst : Node) (not : Option PortNo) : List PortNo :=
  let flood := s.slUpPorts.filter fun p => some p ≠ not
  if dst = 0xFFFF then flood
  else match (s.routeTo dst).bind fun l => (s.link l).lowPort with
    | some p => if (s.slPort p).st = 2 then [p] else flood
    | none => flood

/-- The bytes of a safelight frame before its CRC (R308); `h.sport` is the sending port. -/
def slBytes (h : SlHead) (kind : Nat) (body : List Byte) : List Byte :=
  [BitVec.ofNat 8 kind, BitVec.ofNat 8 (nb h.govB + 2 * nb h.simplex + 4 * nb h.isLocal)] ++ leBytes 2 body.length ++
    leBytes 2 h.src.toNat ++ leBytes 2 h.dst.toNat ++ leBytes 4 h.seq.toNat ++ leBytes 2 h.epoch.toNat ++
    [h.hops, BitVec.ofNat 8 h.sport.toNat] ++ body

/-- The CRC of a frame holds. -/
def slGood (h : SlHead) (kind : Nat) (body : List Byte) : Bool := h.crc == crc32c (slBytes h kind body)

/-- A whole frame. -/
def slWhole (h : SlHead) (kind : Nat) (body : List Byte) : List Byte :=
  slBytes h kind body ++ leBytes 4 (crc32c (slBytes h kind body)).toNat

/-- A frame put on one port, counted in SL_TX. -/
def State.slPut (s : State) (h : SlHead) (p : PortNo) (kind : Nat) (body : List Byte) : State :=
  let q := s.slPort p
  (s.setSlPort p { q with tx := satAdd q.tx 1 }).send (.slFrame p (slWhole { h with sport := p } kind body))

/-- The header of a frame that a governor of this module issues (R302, R308). -/
def State.slHead (s : State) (govB : Bool) (dst : Node) (near : Bool) : SlHead :=
  { port := 0, src := s.node, dst := dst, seq := s.gov.seq, epoch := s.gov.epoch, hops := 32, sport := 0, govB := govB,
    simplex := s.gov.simplex, isLocal := near, crc := 0 }

/-- A safelight frame that the governors of this module issue: both copies (R302, R310). It takes the next SEQ. -/
def State.slSend (s : State) (kind : Nat) (dst : Node) (body : List Byte) : State :=
  let s := s.govSeq
  s.govCopies.foldl (fun s g => (s.slPorts dst none).foldl (fun s p => s.slPut (s.slHead g dst false) p kind body) s) s

/-- A frame for the neighbour on one port only (FLAGS.LOCAL), in both copies. It takes the next SEQ. -/
def State.slLocal (s : State) (p : PortNo) (kind : Nat) (body : List Byte) : State :=
  let s := s.govSeq
  s.govCopies.foldl (fun s g => s.slPut (s.slHead g 0xFFFF true) p kind body) s

/-- The stations enabled in MGMT_STN_CFG (R402). -/
def State.stations (s : State) : List Nat := (List.range 4).filter fun n => (SMap.get s.mgmt.stns n {}).en

/-- The relay node of MGMT_CFG. -/
def State.relayNode (s : State) : Node := BitVec.ofNat 16 (bitsOf (s.pol 0xB00004) 15 0)

/-- An HMP message (R396): the header and the payload. -/
def hmpBytes (ty : Byte) (reply govB simplex : Bool) (sess seq : Word) (st : Code) (data : List Byte) : List Byte :=
  leBytes 2 0x4D48 ++ [ty, BitVec.ofNat 8 (nb reply + 2 * nb govB + 4 * nb simplex)] ++ leBytes 4 sess.toNat ++ leBytes 4 seq.toNat ++
    leBytes 2 data.length ++ leBytes 2 st.toNat ++ data

/-- The ACTIVE governor is GOV B. -/
def State.activeB (s : State) : Bool := s.gov.roleA != 0 && s.gov.roleB == 0

/-- A reply. Of the two copies the management port passes on one (R402); here it is that of the ACTIVE governor (DESIGN CHOICE, log entry
97). -/
def State.hmpReply (s : State) (ip : BitVec 128) (port : BitVec 16) (ty : Byte) (sess seq : Word) (st : Code) (data : List Byte) : State :=
  s.send (.hmp ip port (hmpBytes ty true s.activeB s.gov.simplex sess seq st data))

/-- A message to a station that MGMT_STN_CFG enables (R402, R404). -/
def State.toStation (s : State) (k : Nat) (ty : Byte) (govB simplex : Bool) (seq : Word) (data : List Byte) : State :=
  let x := SMap.get s.mgmt.stns k {}
  s.send (.hmp (BitVec.ofNat 128 (leNat (x.addr.flatMap fun w => leBytes 4 w.toNat))) x.port (hmpBytes ty false govB simplex 0 seq 0 data))

/-- Every copy of a notice sent to every enabled station, or relayed as safelight frames (R402, R403). -/
def State.sendNotice (s : State) (n : Notice) : State :=
  if s.mgmt.relaying then
    if s.relayNode = 0xFFFE then s
    else s.govCopies.foldl (fun s g => (s.slPorts s.relayNode none).foldl (fun s p =>
      s.slPut { s.slHead g s.relayNode false with src := n.node, seq := n.seq, epoch := n.epoch } p 0x30 n.payload) s) s
  else if s.mgmt.link then
    s.govCopies.foldl (fun s g => s.stations.foldl (fun s k => s.toStation k 0x40 g s.gov.simplex n.seq n.payload) s) s
  else s

/-- The part of a record's writing that no mode stops: the record takes its slot and the counter moves on (R405). -/
def State.putRecord (s : State) (r : CsRec) : State :=
  { s with cs := { s.cs with next := s.cs.next + 1, recs := SMap.put s.cs.recs (r.index.toNat % 8192) r },
           mgmt := { s.mgmt with counts := s.mgmt.counts.modify 5 (satAdd · 1) } }

/-- The configured snapshots of a code (R405): the registers at a and a + 4 of each list entry. -/
def State.listSnaps (s : State) (code : Nat) : List (BitVec 64) :=
  match s.cs.lists.find? fun e => e.2.en && e.2.code.toNat == code with
  | some (_, l) => (List.range l.count.toNat).map fun i =>
      let a := (SMap.get l.addrs i 0).toNat
      (s.regNow .image (a + 4)).setWidth 64 <<< 32 ||| (s.regNow .image a).setWidth 64
  | none => []

/-- The newest record, if it still stands and takes merges (R406). -/
def State.mergeTarget (s : State) (code : Nat) : Option CsRec :=
  match SMap.find s.cs.recs ((s.cs.next - 1).toNat % 8192) with
  | some r =>
    if r.index = s.cs.next - 1 ∧ r.code.toNat = code ∧ r.valid ∧ r.flags.getLsbD 1 = false ∧ code ≠ 0x0109 then some r
    else none
  | none => none

/-- A repeat merged into the newest record (R406). -/
def State.merge (s : State) (r : CsRec) : State :=
  let r' := { r with rep := satAdd r.rep 1, lastUs := satNat 32 ((s.up - r.up) / 1000) }
  { s with cs := { s.cs with recs := SMap.put s.cs.recs (r.index.toNat % 8192) r' } }

/-- The last 1,024 records (R408). -/
def State.lastRecords (s : State) : List CsRec :=
  (s.cs.recs.map (·.2)).filter fun r => (s.cs.next - r.index).toNat ≤ 1024 && r.index ≠ s.cs.next

/-- A persist started into the older area (R408). -/
def State.startPersist (s : State) (powerFail : Bool) : State :=
  { s with cs := { s.cs with writing := some (!s.cs.newerP1, s.lastRecords), lastPersist := some s.up, noted := !powerFail } }

/-- A fatal event (R408): within 10 s of the last persist, and while one is being written, it writes nothing. -/
def State.fatal (s : State) : State :=
  match s.cs.writing, s.cs.lastPersist with
  | some _, _ => s
  | none, some t => if s.up - t < 10000000000 then s else s.startPersist false
  | none, none => s.startPersist false

/-- The fatal event codes (R408). -/
def fatalCode (code : Nat) : Bool := code == 0x0102 || code == 0x0105 || code == 0x0203

/-- A record with its built-in and configured snapshots (R405). -/
def State.mkRecord (s : State) (code src : Nat) (unit : UnitAddr) (snaps : List (BitVec 64)) (capture : Bool)
    (rep : BitVec 16) : CsRec :=
  { code := BitVec.ofNat 16 code, rep := rep, index := s.cs.next, t := s.now, source := BitVec.ofNat 8 src, unit := unit,
    flags := packWide [(1, nb capture), (0, nb (noticeCodes.contains code))],
    snaps := (snaps ++ s.listSnaps code).take 28, up := s.up }
where
  /-- A 16-bit word from numbers at bit positions. -/
  packWide (l : List (Nat × Nat)) : BitVec 16 := (packW l).setWidth 16

/-- An event judged by the mode of the contact sheet (R406, R407): merged into the newest record, dropped where its bucket is empty, or
written by `put`, which is given what REPEAT starts at: the events of its code that were dropped before it. -/
def State.judged (s : State) (code : Nat) (capture : Bool) (put : State → BitVec 16 → State) : State :=
  let carry (s : State) : State :=
    put { s with cs := { s.cs with owed := SMap.del s.cs.owed code } } (satNat 16 (SMap.get s.cs.owed code 0))
  if s.csMode = 0 then
    match if capture then none else s.mergeTarget code with
    | some r => s.merge r
    | none => carry s
  else
    let taken := SMap.get s.cs.taken code 0
    if taken < s.polF 0x301000 15 8 then carry { s with cs := { s.cs with taken := SMap.put s.cs.taken code (taken + 1) } }
    else
      { s with cs := { s.cs with dropped := satAdd s.cs.dropped 1,
                                 owed := SMap.put s.cs.owed code (SMap.get s.cs.owed code 0 + 1) },
               mgmt := { s.mgmt with counts := s.mgmt.counts.modify 6 (satAdd · 1) } }

/-- Event 0x010B (R402), which is never a notice. -/
def State.noticeLost (s : State) : State :=
  s.judged 0x010B false fun s rep => s.putRecord (s.mkRecord 0x010B 1 0 [] false rep)

/-- A notice queued and sent; a full queue drops its oldest (R402). -/
def State.queueNotice (s : State) (payload : List Byte) (node : Node) (epoch : BitVec 16) (seq : Word) : State :=
  let n : Notice := { seq := seq, node := node, epoch := epoch, payload := payload, sends := 1 }
  if s.mgmt.notices.length < 256 then
    ({ s with mgmt := { s.mgmt with notices := s.mgmt.notices ++ [n], lost := 0 } }).sendNotice n
  else
    (({ s with mgmt := { s.mgmt with notices := s.mgmt.notices.drop 1 ++ [n], lost := 1,
                                     overflow := satAdd s.mgmt.overflow 1 } }).sendNotice n).noticeLost

/-- A notice made for a record of this module (R401, R402). -/
def State.notify (s : State) (r : CsRec) : State :=
  let s := s.govSeq
  s.queueNotice (s.noticePayload r) s.node s.gov.epoch s.gov.seq

/-- A record written with its notice, and the persist of a fatal event. -/
def State.writeRecord (s : State) (code src : Nat) (unit : UnitAddr) (snaps : List (BitVec 64)) (capture : Bool)
    (rep : BitVec 16) : State :=
  let r := s.mkRecord code src unit snaps capture rep
  let s := s.putRecord r
  let s := if noticeCodes.contains code then s.notify r else s
  if fatalCode code then s.fatal else s

/-- An event judged by the mode of the contact sheet and recorded, merged or dropped (R405-R408). -/
def State.event (s : State) (code src : Nat) (unit : UnitAddr) (snaps : List (BitVec 64) := [])
    (capture : Bool := false) : State :=
  s.judged code capture fun s rep => s.writeRecord code src unit snaps capture rep

/-- A 64-bit snapshot from numbers at bit positions. -/
def snap (l : List (Nat × Nat)) : BitVec 64 := BitVec.ofNat 64 ((l.map fun e => e.2 * 2 ^ e.1).foldl (· + ·) 0)

/-- A number of a context on a path as 0x0109 and like snapshots name it (R410). -/
def pathSnap : Path → BitVec 64
  | .page c => snap [(32, c.toNat), (0, 1)]
  | _ => 0

end Sys2Proof.Machine
end

