-- ==== Sys2Proof/Machine/Matrix.lean ====
section
/-! DEFINITION. The steering matrix: its connections, its bypass state, and the moves of its elements (11, R288-R296). -/

set_option Elab.async false

namespace Sys2Proof.Machine

/-- The bypass state (R290). -/
def bypassConn : List (Nat × Nat) := (List.range 64).map fun p => (p, if p % 2 = 0 then p + 1 else p - 1)

/-- What the matrix connects when it is driven to a target: failed elements that stay closed keep their input and output, and
a failed element is never closed (R296). -/
def SteerSt.aim (x : SteerSt) (target : List (Nat × Nat)) : List (Nat × Nat) :=
  let stuck := x.conn.filter fun e => x.failed.contains e
  stuck ++ target.filter fun e => !x.failed.contains e && stuck.all fun f => f.1 != e.1 && f.2 != e.2

/-- The elements that a drive moves: those released and those latched. -/
def movedElements (old new : List (Nat × Nat)) : List (Nat × Nat) :=
  (old.filter fun e => !new.contains e) ++ new.filter fun e => !old.contains e

/-- The matrix driven to a target: every move is counted at its element and in all (R288, R315). -/
def SteerSt.drive (x : SteerSt) (target : List (Nat × Nat)) : SteerSt :=
  let new := x.aim target
  let moved := movedElements x.conn new
  { x with
    old := x.conn, conn := new, retried := [], moving := true, total := satAdd x.total moved.length,
    moves := moved.foldl (fun (m : SMap Nat) e => SMap.put m (128 * e.1 + e.2) (SMap.get m (128 * e.1 + e.2) 0 + 1)) x.moves }

/-- The ports whose connections a drive changes: an external input or output of theirs. -/
def changedPorts (old new : List (Nat × Nat)) : List PortNo :=
  let m := movedElements old new
  allPorts.filter fun p => m.any fun e => e.1 == p.toNat || e.2 == p.toNat

/-- Event 0x0506 where the most-moved element has reached 9 x 10^8 moves (R296); `before` is what the most-moved element had. -/
def State.wearEvent (s : State) (before : Nat) : State :=
  if before < 900000000 ∧ 900000000 ≤ s.steer.worn.2 then s.event 0x0506 0 0 else s

end Sys2Proof.Machine
end

