-- ==== Sys2Proof/Machine/Link.lean ====
section
/-! DEFINITION. The sending side of the logical links: flits, credits, the replay store and the spreading over channels
(R264, R266-R270). -/

set_option Elab.async false

namespace Sys2Proof.Machine

/-! ### Flits (R264) -/

/-- The fields of a flit. -/
structure FlitF where
  kind : Nat
  vc : Bool
  cseq : BitVec 12
  cack : BitVec 12
  credVc : Bool
  credit : BitVec 12
  lseq : BitVec 24
  payload : List Byte
deriving DecidableEq, Repr

/-- The bytes 0x00 to 0xFB of a flit. -/
def FlitF.body (f : FlitF) : List Byte :=
  [BitVec.ofNat 8 (128 * nb f.vc + f.kind), BitVec.ofNat 8 ((f.payload.length + 15) / 16)] ++ leBytes 2 f.cseq.toNat ++
    leBytes 2 f.cack.toNat ++ leBytes 2 (32768 * nb f.credVc + f.credit.toNat) ++ leBytes 4 f.lseq.toNat ++
    f.payload ++ List.replicate (240 - f.payload.length) 0

/-- A flit with its CRC-32C. -/
def FlitF.bits (f : FlitF) : BitVec 2048 := BitVec.ofNat 2048 (leNat (f.body ++ leBytes 4 (crc32c f.body).toNat))

/-- The flit of 256 bytes, if its CRC holds. Bits that the layout reserves are not judged. -/
def readFlit (w : BitVec 2048) : Option FlitF :=
  let b := leBytes 256 w.toNat
  let at_ (o n : Nat) : Nat := leNat ((b.drop o).take n)
  if at_ 0xFC 4 = (crc32c (b.take 0xFC)).toNat then
    some { kind := at_ 0 1 % 16, vc := decide (128 ≤ at_ 0 1), cseq := BitVec.ofNat 12 (at_ 2 2), cack := BitVec.ofNat 12 (at_ 4 2),
           credVc := decide (32768 ≤ at_ 6 2), credit := BitVec.ofNat 12 (at_ 6 2), lseq := BitVec.ofNat 24 (at_ 8 4),
           payload := (b.drop 12).take (16 * (at_ 1 1 % 16)) }
  else none

/-- The units of 256 B that a port has left at its peer for a virtual channel: 256 of its own, and of the 2,560 that both share (R266). -/
def FPort.free (f : FPort) (vc : Bool) : Nat :=
  (256 - (if vc then f.out1 else f.out0)) + (2560 - ((f.out0 - 256) + (f.out1 - 256)))

/-- The credit that a port returns with its next flit: virtual channel and units. -/
def FPort.credit (f : FPort) : Bool × BitVec 12 :=
  if f.owe0 < f.owe1 then (true, BitVec.ofNat 12 (min 4095 f.owe1)) else (false, BitVec.ofNat 12 (min 4095 f.owe0))

/-- The port after that credit has been returned. -/
def FPort.paid (f : FPort) : FPort :=
  if f.owe0 < f.owe1 then { f with owe1 := f.owe1 - min 4095 f.owe1 } else { f with owe0 := f.owe0 - min 4095 f.owe0 }

/-- The transmit tables of a transceiver take a new interpolation at the boundary before a flit (R253). -/
def Lt.txBoundary (t : Lt) : Lt := match t.staged with
  | some a => { t with txTab := a }
  | none => t

/-- A flit of a kind on a channel, with its acknowledgement and its credit return; `ack` is its CACK. -/
def State.putFlit (s : State) (x : PortNo) (k : ChanNo) (kind : Nat) (ack : BitVec 12) (t : TxFlit) : State :=
  match (s.lt x).port with
  | none => s
  | some p =>
    let f := s.fport p
    ((s.setLt x (s.lt x).txBoundary).setFport p f.paid).send (.flit x k
      { kind := kind, vc := t.vc, cseq := t.cseq, cack := ack, credVc := f.credit.1, credit := f.credit.2, lseq := t.lseq,
        payload := t.payload : FlitF }.bits)

/-- An IDLE or a NAK flit, which advances no sequence: the last CSEQ received in order, or the first one to resend. -/
def State.putEmpty (s : State) (x : PortNo) (k : ChanNo) (kind : Nat) (ack : BitVec 12) : State :=
  s.putFlit x k kind ack { cseq := (s.chan x k).nextSeq, vc := false, lseq := 0, payload := [], sends := 0 }

/-- A NAK for the CSEQ that a channel expects. -/
def State.sendNak (s : State) (x : PortNo) (k : ChanNo) : State := s.putEmpty x k 2 (s.chan x k).expect

/-- An IDLE flit on a channel that is UP: it carries what the reverse channel and the port owe. An UP channel sends nothing but IDLE flits
between others (R262); the model shows the one that follows a DATA flit (log entry 94). -/
def State.sendIdle (s : State) (x : PortNo) (k : ChanNo) : State :=
  if (s.chan x k).tx = .up then s.putEmpty x k 0 ((s.chan x k).expect - 1) else s

/-! ### Spreading over channels (R267, R270) -/

/-- The UP channels of a link that take new flits: port, transceiver, channel; none while the link is quiesced (R298). -/
def State.sendChans (s : State) (l : BitVec 6) : List (PortNo × PortNo × ChanNo) :=
  if (s.link l).quiesced then [] else (s.link l).ports.flatMap fun p => match s.ltOf p with
    | none => []
    | some x => (allChans.filter fun k => (s.chan x k).tx == .up && !(s.chan x k).releasing).map fun k => (p, x, k)

/-- A channel as a key of its link's turns. -/
def turnKey (c : PortNo × PortNo × ChanNo) : Nat := c.2.1.toNat * 16 + c.2.2.toNat

/-- The channel that takes the next flit of a virtual channel, and the turns after it. Of the channels on a port with credit and room, each is
owed one flit in proportion to the free credit of its port, and the one that is owed the most takes it: with equal credit they take
turns (R270). -/
def State.nextChan (s : State) (l : BitVec 6) (vc : Bool) : Option ((PortNo × PortNo × ChanNo) × SMap Int) :=
  let free (c : PortNo × PortNo × ChanNo) : Nat := (s.fport c.1).free vc
  let able := (s.sendChans l).filter fun c => decide (0 < free c) && decide (s.stored c.1 c.2.1 < 3072)
  let owed (c : PortNo × PortNo × ChanNo) : Int := SMap.get (s.link l).turn (turnKey c) 0 + free c
  match able with
  | [] => none
  | a :: r =>
    let best := r.foldl (fun b c => if owed b < owed c then c else b) a
    let total : Int := (able.map free).foldl (· + ·) 0
    some (best, able.foldl (fun m c => SMap.put m (turnKey c) (if c = best then owed c - total else owed c)) [])

/-- A DATA flit put on a channel: it holds its place in the replay store until it is acknowledged. -/
def State.place1 (s : State) (c : PortNo × PortNo × ChanNo) (t : TxFlit) : State :=
  let ch := s.chan c.2.1 c.2.2
  let t := { t with cseq := ch.nextSeq, sends := 1, home := c.1 }
  let f := s.fport c.1
  let s := s.setFport c.1 (if t.vc then { f with out1 := f.out1 + 1 } else { f with out0 := f.out0 + 1 })
  (s.setChan c.2.1 c.2.2 { ch with nextSeq := ch.nextSeq + 1, unacked := ch.unacked ++ [t] }).putFlit c.2.1 c.2.2 1
    (ch.expect - 1) t

/-- The first flit still to be sent on a virtual channel of a link: one to resend, or the next 240 bytes of its first message. Every message
starts a flit and ends with a flit of less than 240 bytes, be it empty, so that its end can be told (R264 and R265 give no
length; DESIGN CHOICE, log entry 94). -/
def LLink.headFlit (l : LLink) (vc : Bool) : Option TxFlit :=
  match l.resend.find? fun t => t.vc == vc, l.queue.find? fun m => m.vc == vc with
  | some t, _ => some t
  | none, some m =>
    if m.bytes.length < 240 ∧ !m.done then none
    else some { cseq := 0, vc := vc, lseq := if vc then l.txL1 else l.txL0, payload := m.bytes.take 240, sends := 0 }
  | none, none => none

/-- The link without that flit. -/
def LLink.popFlit (l : LLink) (vc : Bool) : LLink :=
  match l.resend.find? fun t => t.vc == vc, l.queue.find? fun m => m.vc == vc with
  | some t, _ => { l with resend := l.resend.erase t }
  | none, some m =>
    { l with
      txL0 := if vc then l.txL0 else l.txL0 + 1, txL1 := if vc then l.txL1 + 1 else l.txL1,
      txBytes := satAdd l.txBytes (m.bytes.take 240).length,
      queue := if m.bytes.length < 240 then l.queue.erase m else l.queue.replace m { m with bytes := m.bytes.drop 240 } }
  | none, none => l

/-- The first flit of a virtual channel sent, if a channel takes it. -/
def State.sendHead (s : State) (l : BitVec 6) (vc : Bool) : Option State :=
  match (s.link l).headFlit vc, s.nextChan l vc with
  | some t, some c => some ((s.setLink l { (s.link l).popFlit vc with turn := c.2 }).place1 c.1 t)
  | _, _ => none

/-- The virtual channel of what has waited longest. -/
def LLink.firstVc (l : LLink) : Bool := match l.resend, l.queue with
  | t :: _, _ => t.vc
  | [], m :: _ => m.vc
  | [], [] => false

/-- Flits of a link sent while a channel takes them, at most as many as the number given: in order of arrival, but that a virtual channel
without credit does not hold up the other one. -/
def State.pumpN (l : BitVec 6) : Nat → State → State
  | 0, s => s
  | n + 1, s =>
    let v := (s.link l).firstVc
    match s.sendHead l v with
    | some t => pumpN l n t
    | none =>
      match s.sendHead l !v with
      | some t => pumpN l n t
      | none => s

/-- Everything that a link can send now. -/
def State.pump (s : State) (l : BitVec 6) : State :=
  State.pumpN l ((s.link l).resend.length + ((s.link l).queue.map fun m => m.bytes.length / 240 + 1).foldl (· + ·) 0) s

/-- A message put on a link. -/
def State.enqueue (s : State) (l : BitVec 6) (m : TxMsg) : State :=
  (s.setLink l { s.link l with queue := (s.link l).queue ++ [m] }).pump l

/-- A message toward its node, on the link of the route table and on VC1 from a dateline on; without a route it waits (R266, R269). -/
def State.route (s : State) (m : TxMsg) : State :=
  match s.routeTo m.dst with
  | some l => s.enqueue l { m with vc := m.vc || (s.link l).dateline }
  | none => { s with fab := { s.fab with stuck := s.fab.stuck ++ [m] } }

/-- The bytes that wait on a link: its transmit backlog (R271). -/
def LLink.backlog (l : LLink) : Nat :=
  (l.queue.map fun m => m.bytes.length).foldl (· + ·) 0 + (l.resend.map fun t => t.payload.length).foldl (· + ·) 0

/-- A flit to resend comes before another: the one further behind the next LSEQ of its virtual channel. -/
def LLink.older (l : LLink) (a b : TxFlit) : Bool :=
  let age (t : TxFlit) : Nat := ((if t.vc then l.txL1 else l.txL0) - t.lseq).toNat
  decide (age b ≤ age a)

/-- A channel leaves UP: its flits without acknowledgement go to the other UP channels, in LSEQ order (R267). `f` sets
its state. -/
def State.dropChan (s : State) (x : PortNo) (k : ChanNo) (f : Chan → Chan) : State :=
  let c := s.chan x k
  let s := s.setChan x k { f c with unacked := [], nextSeq := 1 }
  match (s.lt x).port with
  | none => s
  | some p =>
    let n0 := (c.unacked.filter fun t => !t.vc).length
    let n1 := (c.unacked.filter fun t => t.vc).length
    let f := s.fport p
    let s := s.setFport p { f with out0 := f.out0 - n0, out1 := f.out1 - n1 }
    match s.linkOf p with
    | none => s
    | some l =>
      let r := c.unacked ++ (s.link l).resend
      (s.setLink l { s.link l with resend := r.mergeSort (s.link l).older }).pump l

end Sys2Proof.Machine
end

