-- ==== Sys2Proof/Machine/Mem.lean ====
section
/-! DEFINITION. Device memory as contexts reach it: regions and translation (R195-R199), sectors, poison and held
writes (R190, R194), remote pages (R200), and the messages of the fabric as they are sent (R265, R269). -/

set_option Elab.async false

namespace Sys2Proof.Machine

/-! ### Messages (R265, R269) -/

/-- A message with nothing set. -/
def FabMsg.blank : FabMsg :=
  { link := 0, vc := false, rtEn := false, tag := 0, srcCtx := 0, dstCtx := 0, srcNode := 0, dstNode := 0, addr := 0,
    len := 0, rtIndex := 0, rtUnit := 0, status := 0, data := [] }

/-- The messages that carry a range, a length, a tally or a status behind their header: PUT_OPEN, GET_REQ, REFUSE and the pages. -/
def hasParams (op : Nat) : Bool := [1, 3, 6, 8, 9, 10].contains op

/-- The bytes of a message (R265): its header of 16 bytes, for some the high 16 bits of the address and what else they tell (R265 gives
this block no layout but for its first bits; DESIGN CHOICE, log entry 94), and the data, filled up to 16 bytes with zeros. -/
def msgBytes (op : Nat) (m : FabMsg) : List Byte :=
  let b := [BitVec.ofNat 8 op, BitVec.ofNat 8 (nb m.rtEn)] ++ leBytes 2 m.tag.toNat ++ leBytes 2 m.srcCtx.toNat ++
    leBytes 2 m.dstCtx.toNat ++ leBytes 2 m.srcNode.toNat ++ leBytes 2 m.dstNode.toNat ++ leBytes 4 m.addr.toNat ++
    (if hasParams op then leBytes 2 (m.addr.toNat / 4294967296) ++ leBytes 2 m.status.toNat ++ leBytes 4 m.len.toNat ++
      leBytes 4 m.rtIndex.toNat ++ leBytes 4 m.rtUnit.toNat else []) ++ m.data
  b ++ List.replicate ((16 - b.length % 16) % 16) 0

/-- A message sent toward its destination on the link of the route table; without a route it waits (R269). -/
def State.sendMsg (s : State) (op : Nat) (m : FabMsg) : State :=
  let m := { m with srcNode := s.node }
  let s := match s.routeTo m.dstNode with
    | some l => s.send (.msg l.toNat (BitVec.ofNat 8 op) { m with link := l, vc := (s.link l).dateline })
    | none => s
  s.route { vc := false, dst := m.dstNode, bytes := msgBytes op m }

/-! ### Translation (R196) -/

/-- The region of a context that holds an address, with its number. -/
def Ctx.regionOf (c : Ctx) (va : Nat) : Option (Nat × Region) :=
  c.regions.find? fun e => decide (e.2.base ≤ va) && decide (va < e.2.base + e.2.size)

/-- The bytes of a page of a region. -/
def Region.pageBytes (r : Region) : Nat := if r.big then 1073741824 else 2097152

/-- A range of `n` bytes lies within one region of the context (check 5 of R127). -/
def Ctx.inRegion (c : Ctx) (va n : Nat) : Bool :=
  match c.regionOf va with
  | some (_, r) => decide (va + n ≤ r.base + r.size)
  | none => false

/-- Every page of the range translates (check 6 of R127): the region is MAPPED, or LOST (R200). -/
def Ctx.translates (c : Ctx) (va : Nat) : Bool :=
  match c.regionOf va with
  | some (_, r) => r.st == .mapped || r.st == .lost
  | none => false

/-- Where a byte lies: its page and the offset in it, and whether the region is LOST. -/
def Ctx.locate (c : Ctx) (va : Nat) : Option (PageAt × Nat × Bool) :=
  match c.regionOf va with
  | some (_, r) =>
    match r.pages[(va - r.base) / r.pageBytes]? with
    | some p => some (p, (va - r.base) % r.pageBytes, r.st == .lost)
    | none => none
  | none => none

/-! ### Bytes of a site (R190, R194) -/

/-- A byte of a site: from the held writes first, else from the dies. -/
def Site.byte (x : Site) (a : Nat) : Byte :=
  match x.heldW.find? fun e => e.1 == a with
  | some e => e.2.1
  | none => Memory.read x.mem a

/-- A byte written to a site: held while a die retrains (R194). -/
def Site.putByte (x : Site) (b : Writer) (a : Nat) (v : Byte) : Site :=
  if x.training.isSome then { x with heldW := (a, v, b) :: x.heldW.filter fun e => e.1 != a }
  else { x with mem := Memory.write x.mem a v }

/-- The sector of a byte is poisoned (R190). -/
def Site.poisoned (x : Site) (a : Nat) : Bool := x.poison.contains (a / 64)

/-- A site holds a write of a writer (R194); one of a thread counts with the thread's earlier ones. -/
def State.heldFor (s : State) (b : Writer) : Bool := s.mem.sites.any fun e => e.2.heldW.any fun h =>
  match b, h.2.2 with
  | .thread i n, .thread j m => i == j && decide (m ≤ n)
  | x, y => x == y

/-! ### Sectors that are read (R190-R192) -/

/-- Symbols in error that the code still corrects, by the dies that it decodes as erased (R191, R194). -/
def Site.corrects (x : Site) : Nat := if x.erased.length + nb x.training.isSome ≤ 1 then 1 else 0

/-- A row of a die as one number. -/
def rowKey (die row : Nat) : Nat := die * 4294967296 + row

/-- A corrected row: a second correction in another pass has it remapped (R192). -/
def Site.rowHit (x : Site) (die : Fin 36) (row : Nat) : Site :=
  match x.rowHits.find? fun e => e.1 == rowKey die.val row with
  | some e => if e.2 = x.pass then x else { x with toRemap := x.toRemap ++ [(die.val, row)] }
  | none => { x with rowHits := (rowKey die.val row, x.pass) :: x.rowHits }

/-- A sector poisoned: the row that holds it on every die that is not erased waits for a remap (R192). -/
def Site.spoil (x : Site) (sector : Nat) : Site :=
  { x with uncorr := satAdd x.uncorr 1, poison := if x.poison.contains sector then x.poison else sector :: x.poison,
           toRemap := x.toRemap ++ ((List.finRange 36).filter fun d => !x.erased.contains d).map fun d => (d.val, Config.rowOf sector) }

/-- A sector read whose symbols on the dies `bad` are in error: corrected and counted, or poisoned with event 0x0801 (R190); `pass` says
that the scrubber reads it. -/
def State.readSector (s : State) (i sector : Nat) (bad : List (Fin 36)) (pass : Bool) : State :=
  let x := s.site i
  let wrong := bad.eraseDups.filter fun d => !x.erased.contains d && x.training != some d
  if wrong = [] then s
  else if wrong.length ≤ x.corrects then
    let y := if pass then wrong.foldl (fun (x : Site) (d : Fin 36) => x.rowHit d (Config.rowOf sector)) x else x
    s.setSite i { y with corr := satAdd y.corr 1 }
  else (s.setSite i (x.spoil sector)).event 0x0801 2 (mkUnit false 1 i 0 0 0 0)

/-- The sectors that a command reads, where symbols of them are in error. -/
def State.meet (s : State) (errs : List MemErr) : State :=
  errs.foldl (fun s e =>
    if s.siteCount ≤ e.site.toNat ∨ (s.site e.site.toNat).failed then s
    else s.readSector e.site.toNat e.sector.toNat e.bad false) s

/-! ### Bytes of a context -/

/-- A byte of a context's space; an address that does not translate reads 0 and is never used. -/
def State.devByte (s : State) (c : CtxNo) (va : Nat) : Byte :=
  match (s.ctx c).locate va with
  | some (.here site off, o, _) => (s.site site.toNat).byte (off + o)
  | some (.lender n, o, _) => Memory.read s.mem.remote (n * 1073741824 + o)
  | none => 0

/-- `n` bytes of a context's space. -/
def State.devRead (s : State) (c : CtxNo) (va n : Nat) : List Byte := (List.range n).map fun i => s.devByte c (va + i)

/-- A byte lies at the lender. -/
def State.isRemote (s : State) (c : CtxNo) (va : Nat) : Bool :=
  match (s.ctx c).locate va with
  | some (.lender _, _, _) => true
  | _ => false

/-- A byte of a lender's page lies in a sector that the lender has refused as uncorrectable (R190, R200). -/
def State.remoteBad (s : State) (a : Nat) : Bool := s.mem.remBad.contains (a / 64)

/-- A byte lies in a poisoned sector that the write of `lo` to `hi - 1` does not cover whole (R190);
a read covers nothing. -/
def State.blocked (s : State) (c : CtxNo) (va lo hi : Nat) : Bool :=
  let cut := !(decide (lo ≤ va / 64 * 64) && decide (va / 64 * 64 + 64 ≤ hi))
  match (s.ctx c).locate va with
  | some (.here site off, o, _) => (s.site site.toNat).poisoned (off + o) && cut
  | some (.lender n, o, _) => s.remoteBad (n * 1073741824 + o) && cut
  | none => false

/-- A read of a range is held: a die retrains in a site with two erased dies (R194). -/
def State.readHeld (s : State) (c : CtxNo) (va n : Nat) : Bool :=
  (List.range n).any fun i => match (s.ctx c).locate (va + i) with
    | some (.here site _, _, _) =>
      (s.site site.toNat).training.isSome && decide (2 ≤ (s.site site.toNat).erased.length)
    | _ => false

/-- The first error that a read of a range meets: REMOTE_LOST (R200) or UNCORRECTABLE (R190). -/
def State.readFault (s : State) (c : CtxNo) (va n : Nat) : Option Code :=
  if (List.range n).any fun i => s.isRemote c (va + i) && (((s.ctx c).locate (va + i)).map (·.2.2)).getD false then
    some 0x0207
  else if (List.range n).any fun i => s.blocked c (va + i) 0 0 then some 0x0203
  else none

/-- The first error that `n` bytes from `va` on meet, as part of a write of `lo` to `hi - 1`. -/
def State.partFault (s : State) (c : CtxNo) (lo hi va n : Nat) : Option Code :=
  if (List.range n).any fun i => s.isRemote c (va + i) && (((s.ctx c).locate (va + i)).map (·.2.2)).getD false then
    some 0x0207
  else if (List.range n).any fun i => s.blocked c (va + i) lo hi then some 0x0203
  else none

/-- The first error that a write of a range meets. -/
def State.writeFault (s : State) (c : CtxNo) (va n : Nat) : Option Code := s.partFault c va (va + n) va n

/-- One byte of a write that covers `lo` to `hi - 1`: a sector that is poisoned and not covered whole keeps its
bytes and its mark; one that is covered loses the mark (R190). -/
def State.devPut (s : State) (b : Writer) (c : CtxNo) (lo hi va : Nat) (v : Byte) : State :=
  match (s.ctx c).locate va with
  | some (.here site off, o, _) =>
    if s.blocked c va lo hi then s
    else
      let x := s.site site.toNat
      s.setSite site.toNat ({ x with poison := x.poison.filter (· != (off + o) / 64) }.putByte b (off + o) v)
  | some (.lender n, o, lost) =>
    if lost || s.blocked c va lo hi then s
    else { s with mem := { s.mem with remote := Memory.write s.mem.remote (n * 1073741824 + o) v,
                                      remBad := s.mem.remBad.filter (· != (n * 1073741824 + o) / 64) } }
  | none => s

/-- Bytes written to a context's space from `va` on. -/
def State.devPutL (s : State) (b : Writer) (c : CtxNo) (lo hi : Nat) : Nat → List Byte → State
  | _, [] => s
  | va, v :: r => (s.devPut b c lo hi va v).devPutL b c lo hi (va + 1) r

/-- The parts of a range that lie on pages of the lender: the lender's address, the offset in the range and the length of each. -/
def Ctx.remoteRuns (c : Ctx) (va n : Nat) : List (Nat × Nat × Nat) :=
  match if n = 0 then none else c.regionOf va with
  | none => []
  | some (_, r) =>
    let z := r.pageBytes
    let first := (va - r.base) / z
    (List.range ((va + n - 1 - r.base) / z + 1 - first)).filterMap fun j =>
      let start := r.base + (first + j) * z
      let lo := max va start
      match r.pages[first + j]? with
      | some (.lender k) => some (k * 1073741824 + (lo - start), lo - va, min (va + n) (start + z) - lo)
      | _ => none

/-- Remote bytes of a range, counted in CTX_REMOTE_BYTES (R200). -/
def State.countRemote (s : State) (c : CtxNo) (va n : Nat) : State :=
  let k := (((s.ctx c).remoteRuns va n).map fun r => r.2.2).foldl (· + ·) 0
  if k = 0 then s else s.setCtx c { s.ctx c with remBytes := satAdd (s.ctx c).remBytes k }

/-- A message to the lender for `n` bytes of its pages from address `a` on (R200, R265): 8 PAGE_READ, 9 PAGE_WRITE. -/
def State.askLender (s : State) (op : Nat) (c : CtxNo) (a n : Nat) (data : List Byte) : State :=
  match s.lender with
  | some l => s.sendMsg op { FabMsg.blank with
      srcCtx := c, dstCtx := c, dstNode := l, addr := BitVec.ofNat 48 a, len := BitVec.ofNat 32 n, data := data }
  | none => s

/-- The messages of an access to remote pages, one for every page that it touches. -/
def State.pageMsg (s : State) (op : Nat) (c : CtxNo) (va n : Nat) (data : List Byte) : State :=
  ((s.ctx c).remoteRuns va n).foldl (fun s r => s.askLender op c r.1 r.2.2 ((data.drop r.2.1).take r.2.2)) s

/-- Bytes from `va` on written, as part of a write of `lo` to `hi - 1`, with the traffic that they cause at the lender. -/
def State.devWritePart (s : State) (b : Writer) (c : CtxNo) (lo hi va : Nat) (data : List Byte) : State :=
  ((s.devPutL b c lo hi va data).countRemote c va data.length).pageMsg 9 c va data.length data

/-- A write of a writer to a context's space, with what it sends to the lender. -/
def State.devWriteBy (s : State) (b : Writer) (c : CtxNo) (va : Nat) (data : List Byte) : State :=
  s.devWritePart b c va (va + data.length) va data

/-- A write of the block itself. -/
def State.devWrite (s : State) (c : CtxNo) (va : Nat) (data : List Byte) : State := s.devWriteBy .block c va data

/-- The traffic that a read of a context's space causes at the lender. -/
def State.devTouch (s : State) (c : CtxNo) (va n : Nat) : State := (s.countRemote c va n).pageMsg 8 c va n []

end Sys2Proof.Machine
end

