-- ==== Sys2Proof/Machine/Spaces.lean ====
section
/-! DEFINITION. Descriptor fields, operand addresses and the spaces behind them (R117-R120), and what an absorbed movement
leaves (R158). -/

set_option Elab.async false

namespace Sys2Proof.Machine

/-! ### Descriptor fields (R117-R120) -/

/-- `n` bytes of a descriptor from offset `o`, as a number. -/
def dN (d : BitVec 512) (o n : Nat) : Nat := (d.toNat / 2 ^ (8 * o)) % 2 ^ (8 * n)

/-- A bit of the FLAGS byte. -/
def dFlag (d : BitVec 512) (b : Nat) : Bool := d.getLsbD (8 + b)

/-- The opcode of a descriptor. -/
def opcode (d : BitVec 512) : Nat := dN d 0 1

/-! ### Operand addresses (R120) -/

/-- An operand address: its space, its reserved bits and its offset. -/
structure Opnd where
  sp : Nat
  rsv : Nat
  off : Nat
deriving DecidableEq, Repr

/-- The operand address at offset `o` of a descriptor. -/
def opnd (d : BitVec 512) (o : Nat) : Opnd := ⟨dN d o 8 / 2 ^ 60, dN d o 8 / 2 ^ 48 % 2 ^ 12, dN d o 8 % 2 ^ 48⟩

/-- The address is well formed and lies in one of the spaces. -/
def Opnd.among (a : Opnd) (l : List Nat) : Bool := a.rsv == 0 && l.contains a.sp

/-- DEV, LS and TB; LS and TB. -/
def anySp : List Nat := [0, 1, 2]
def nearSp : List Nat := [1, 2]

/-- The address `n` bytes on. -/
def Opnd.plus (a : Opnd) (n : Nat) : Opnd := { a with off := a.off + n }

/-- Where a thread's spaces lie: context, core, first byte of the window, tray, first byte of the grant. -/
structure Seat where
  ctx : CtxNo
  core : Nat
  win : Nat
  tray : Nat
  grant : Nat
  writer : Writer := .block
deriving DecidableEq, Repr

def State.seat (s : State) (k : Nat) (t : Thread) : Seat :=
  { ctx := t.ctx, core := k, win := 1024 * t.base, tray := trayOfCore k, grant := 65536 * (s.ctx t.ctx).gbase.toNat,
    writer := .thread t.id s.nextId }

def State.moverSeat (s : State) (m : MoverOp) : Seat :=
  { ctx := m.ctx, core := m.core, win := 1024 * m.base, tray := m.tray, grant := 65536 * (s.ctx m.ctx).gbase.toNat,
    writer := .thread m.thread m.desc }

/-- `n` bytes of an operand. -/
def State.getL (s : State) (w : Seat) (a : Opnd) (n : Nat) : List Byte :=
  if a.sp = 0 then s.devRead w.ctx a.off n
  else if a.sp = 1 then Memory.readN (s.core w.core).ls (w.win + a.off) n
  else Memory.readN (s.tray w.tray).tb (w.grant + a.off) n

/-- A read of an operand is held by its site (R194). -/
def State.getHeld (s : State) (w : Seat) (a : Opnd) (n : Nat) : Bool := a.sp == 0 && s.readHeld w.ctx a.off n

/-- The traffic of a read at a lender. -/
def State.touchOp (s : State) (w : Seat) (a : Opnd) (n : Nat) : State := if a.sp = 0 then s.devTouch w.ctx a.off n else s

/-- Bytes written to an operand. -/
def State.putL (s : State) (w : Seat) (a : Opnd) (l : List Byte) : State :=
  if a.sp = 0 then s.devWriteBy w.writer w.ctx a.off l
  else if a.sp = 1 then s.modCore w.core fun c => { c with ls := Memory.writeL c.ls (w.win + a.off) l }
  else s.modTray w.tray fun t => { t with tb := Memory.writeL t.tb (w.grant + a.off) l }

/-- The first error of a read, and of a write (R130, R190, R200). -/
def State.getFault (s : State) (w : Seat) (a : Opnd) (n : Nat) : Option Code :=
  if a.sp = 0 then s.readFault w.ctx a.off n else none
def State.putFault (s : State) (w : Seat) (a : Opnd) (n : Nat) : Option Code :=
  if a.sp = 0 then s.writeFault w.ctx a.off n else none

/-- The offsets of the operand addresses that a descriptor names (R133-R154). -/
def operandsAt (d : BitVec 512) : List Nat :=
  let op := opcode d
  if op = 0x10 || op = 0x28 then [0x10, 0x18]
  else if op = 0x29 then [0x10, 0x18, 0x20]
  else if op = 0x40 then [0x10, 0x20]
  else if op = 0x42 then (if dN d 0x11 1 % 2 = 1 then [0x18, 0x20] else [0x18])
  else if op = 0x43 then [0x18]
  else if op = 0x24 && dN d 0x1C 1 = 1 then []
  else [0x10]

/-- The device addresses among them. -/
def devOperands (d : BitVec 512) : List Nat := ((operandsAt d).map (opnd d)).filterMap fun a => if a.sp = 0 then some a.off else none

/-- A movement reads or writes the window of its thread. -/
def usesWindow (d : BitVec 512) : Bool := (operandsAt d).any fun o => (opnd d o).sp == 1

/-- The extent of rows (R129). -/
def rowsExtent (rows stride bytes : Nat) : Nat := (rows - 1) * stride + bytes

/-- Undefined bytes for use `f`, from index `i` on (R130, R150, R158). -/
def freeBytes (f i n : Nat) : List Byte := (List.range n).map fun j => Config.byte f (i + j)

/-- The size of a format in bytes. -/
def fmtSize (f : Nat) : Nat := if f = 0 ∨ f = 6 then 4 else if f = 1 ∨ f = 2 then 2 else 1

/-- A vector element: 0 entries are not listed. -/
def accPut (m : SMap Word) (i : Nat) (v : Word) : SMap Word := if v = 0 then SMap.del m i else SMap.put m i v

/-! ### Absorbed movements (R158) -/

/-- The destination rows of a movement that writes to a space. -/
def moverRows (d : BitVec 512) : List (Opnd × Nat) :=
  let op := opcode d
  if op = 0x10 then (List.range (dN d 0x24 4)).map fun r => ((opnd d 0x18).plus (r * dN d 0x2C 4), dN d 0x20 4)
  else if op = 0x11 || op = 0x19 then [(opnd d 0x10, dN d 0x20 4)]
  else if op = 0x23 then
    (List.range (dN d 0x1A 2)).map fun v => ((opnd d 0x10).plus (v * dN d 0x20 4), 32 * fmtSize (dN d 0x1D 1))
  else []

/-- Undefined bytes left at an operand, without any traffic; a local store window is cleared anyway (R93). -/
def State.scrapAt (s : State) (w : Seat) (a : Opnd) (l : List Byte) : State :=
  if a.sp = 0 then s.devPutL w.writer w.ctx a.off (a.off + l.length) a.off l
  else if a.sp = 1 then s else s.putL w a l

/-- The destination of an absorbed movement is undefined: its rows, or the accumulators of an ACC_WRITE. -/
def State.scrapMover (s : State) (m : MoverOp) : State :=
  let w := s.moverSeat m
  let f := s.fv
  let s := (moverRows m.d).zipIdx.foldl (fun s x => s.scrapAt w x.1.1 (freeBytes f (4294967296 * x.2) x.1.2)) s
  let s := if opcode m.d = 0x24 then
      let vals := (List.range (32 * dN m.d 0x1A 2)).map (Config.number f)
      s.modTray m.tray fun x =>
        { x with acc := vals.zipIdx.foldl (fun acc v => accPut acc (32 * dN m.d 0x18 2 + v.2) v.1) x.acc }
    else s
  s.draw

/-- Movements absorbed: they are gone and their destinations undefined. -/
def State.scrapMovers (s : State) (gone : MoverOp → Bool) : State :=
  let s' := (s.movers.filter gone).foldl State.scrapMover s
  { s' with movers := s'.movers.filter fun m => !gone m }

/-- The range of an absorbed append is undefined (R158). -/
def State.scrapAppend (s : State) (slot first : Nat) : State :=
  let q := s.seq slot
  match q.inflight.find? fun e => e.1 == first with
  | some (_, cnt, _) =>
    let n := cnt * q.units.toNat * 64
    let a := q.base.toNat + first * q.units.toNat * 64
    (s.devPutL .block q.ctx a (a + n) a (freeBytes s.fv 0 n)).draw
  | none => s

end Sys2Proof.Machine
end

