-- ==== Sys2Proof/Machine/Work.lean ====
section
/-! DEFINITION. What every descriptor, thread and submission shares: status records (R222-R226), completion-ADD points
and the end of submissions (R123-R126, R156), threads and their ends (R93, R122, R133), sequence ranges (R109-R111),
and absorption by a reset (R158, R355, R356). -/

set_option Elab.async false

namespace Sys2Proof.Machine

/-! ### Status records (R222-R226) -/

/-- The key of a record: its context and its slot. -/
def subKey (c : CtxNo) (slot : BitVec 16) : Nat := c.toNat * 65536 + slot.toNat

/-- The 64 bytes of a record (R222). -/
def Sub.bytes (x : Sub) : List Byte :=
  let head := x.gen.toNat * 65536 + x.seq.toNat
  leBytes 4 head ++ leBytes 1 x.st.toNat ++ leBytes 1 x.ring.toNat ++ leBytes 2 x.status.toNat ++ leBytes 4 x.done.toNat ++
    leBytes 4 x.total.toNat ++ leBytes 4 x.valid.toNat ++ leBytes 4 x.entry.toNat ++ leBytes 8 x.user.toNat ++
    leBytes 4 x.start.ns.toNat ++ leBytes 4 x.start.s.toNat ++ leBytes 2 (x.start.s.toNat / 2 ^ 32) ++
    leBytes 2 (x.finish.s.toNat / 2 ^ 32) ++ leBytes 4 x.finish.s.toNat ++ leBytes 4 x.finish.ns.toNat ++ leBytes 8 0 ++
    leBytes 4 head

/-- A copy of a record sent to host memory, where the mirror mode selects it and the queue pair is in RTS (R226). -/
def State.mirrorCopy (s : State) (x : Sub) : State :=
  let c := s.ctx x.ctx
  let n := x.ctx.toNat
  let q := s.qp n
  if q.st = 1 ∧ (c.mmode = 1 ∨ c.mmode = 2 ∧ (x.st = 0 ∨ x.st = 4 ∨ x.st = 5)) then
    let m : MirrorCopy := { slot := x.slot, psn := q.sendPsn, va := c.mbase.toNat + 64 * x.slot.toNat, key := c.mkey, data := x.bytes }
    (s.setQp n { q with mirror := q.mirror ++ [m], sendPsn := q.sendPsn + 1 }).roce n (.mirror m.psn m.va m.key m.data)
  else s

/-- The address of a record (R222). -/
def State.recordAt (s : State) (c : CtxNo) (slot : BitVec 16) : Nat := (s.ctx c).sbase.toNat + 64 * slot.toNat

/-- A record rewritten in device memory and mirrored (R224, R226). Its bytes before and the time stay with it: a READ of the host may fall
between the three writes. -/
def State.rewrite (s : State) (x : Sub) : State :=
  let a := s.recordAt x.ctx x.slot
  let x := { x with prev := s.devRead x.ctx a 64, at_ := s.up }
  ((s.setSub (subKey x.ctx x.slot) x).devWrite x.ctx a x.bytes).mirrorCopy x

/-- The bytes of a record whose last rewrite has made its first write, GEN_HEAD, and where `body` its second. -/
def Sub.torn (x : Sub) (body : Bool) : List Byte :=
  let n := if body then 60 else 4
  x.bytes.take n ++ x.prev.drop n

/-- Byte `a` of a context as a READ finds it that falls within the last rewrite of the records of `mid`. A rewrite lasts less than 0.5 µs, the
least time from one to the next (R224). -/
def State.midByte (s : State) (c : CtxNo) (mid : List (BitVec 16 × Bool)) (a : Nat) (b : Byte) : Byte :=
  (mid.findSome? fun e => do
    let x ← s.sub? (subKey c e.1)
    let r := s.recordAt c e.1
    if r ≤ a ∧ a < r + 64 ∧ s.up - x.at_ < 500 then (x.torn e.2)[a - r]? else none).getD b

/-- The submission has not ended: QUEUED, RUNNING or PARTIAL. -/
def Sub.live (x : Sub) : Bool := x.st == 1 || x.st == 2 || x.st == 3

/-- The first failure of a submission stands (R126). -/
def State.subFail (s : State) (k : Nat) (code : Code) : State :=
  match s.sub? k with
  | some x => if x.live && x.fail.isNone then s.setSub k { x with fail := some code } else s
  | none => s

/-- An exposure of the submission was re-run or replayed, or settled by a referee (R126). -/
def State.subReplayed (s : State) (k : Option Nat) : State :=
  match k.bind s.sub? with
  | some x => s.setSub (subKey x.ctx x.slot) { x with replayed := true }
  | none => s
def State.subRefereed (s : State) (k : Option Nat) : State :=
  match k.bind s.sub? with
  | some x => s.setSub (subKey x.ctx x.slot) { x with refereed := true }
  | none => s

/-- The final status code of a submission (R126). -/
def Sub.code (x : Sub) : Code :=
  match x.fail with
  | some c => c
  | none => if x.refereed then 0x0302 else if x.replayed then 0x0301 else 0

/-- A submission ends once its threads have ended, no start request of it waits, and every descriptor has reached
its completion-ADD point (R126, R223). -/
def State.subSettle (s : State) (k : Nat) : State :=
  match s.sub? k with
  | some x =>
    if x.live && x.threads == 0 && !(s.outst.any fun o => o.sub == k) && !(s.starts.any fun r => r.sub == k) then
      s.rewrite { x with st := if x.fail.isSome then 5 else 4, status := x.code, finish := s.now, seq := x.seq + 1 }
    else s
  | none => s

/-! ### Threads -/

/-- The thread in a slot of a core. -/
def State.thread? (s : State) (k n : Nat) : Option Thread := SMap.find (s.core k).slots n

/-- A thread put into a slot. -/
def State.setThread (s : State) (k n : Nat) (t : Thread) : State :=
  s.modCore k fun c => { c with slots := SMap.put c.slots n t }

/-- The place of a thread by its number. -/
def State.threadAt (s : State) (id : Nat) : Option (Nat × Nat) :=
  (s.cores.flatMap fun e => (e.2.slots.filter fun x => x.2.id == id).map fun x => (e.1, x.1)).head?

/-- A thread whose wait is over: READY. -/
def State.wake (s : State) (k n : Nat) : State :=
  match s.thread? k n with
  | some t => s.setThread k n { t with st := .ready, wait := .none }
  | none => s

/-! ### Tallies and completion-ADD points (R98-R100, R123, R124, R156) -/

/-- A tally operation on its way to a cluster. -/
def State.tallySend (s : State) (c : Nat) (op : TallyOp) : State :=
  s.modCluster c fun cl => { cl with inflight := cl.inflight ++ [op] }

/-- A descriptor reaches its completion-ADD point: it leaves the list and its ADD is on its way. -/
def State.finishRaw (s : State) (o : Outst) : State :=
  let s := { s with outst := s.outst.filter fun (x : Outst) => x.id ≠ o.id }
  match o.ct with
  | some (c, t) => s.tallySend c { tally := t, isSet := false, v := 1, thread := o.thread, mark := o.id }
  | none => s

/-- END's completion-ADD point, and the tally of a child's end: once every earlier descriptor of the thread has
reached its own (R132, R133). -/
def State.sweepEnds (s : State) (thread : Nat) : State :=
  if s.outst.any fun o => o.thread == thread && !o.isEnd then s
  else (s.outst.filter fun o => o.thread == thread).foldl State.finishRaw s

/-- A thread that waits under ORDER, or for room among its ASYNC descriptors, goes on where it may (R119, R124). -/
def State.wakeOrder (s : State) (thread : Nat) : State :=
  match s.threadAt thread with
  | some (k, n) =>
    match s.thread? k n with
    | some t =>
      if t.wait = .order ∧ !(s.outst.any fun o => o.thread == thread) then s.wake k n
      else if t.wait = .asyncRoom ∧ (s.outst.filter fun o => o.thread == thread && o.isAsync).length < 64 then s.wake k n
      else s
    | none => s
  | none => s

/-- The ASYNC descriptors of a thread that have landed, up to the first that has not (R124). -/
def State.landedFirst (s : State) (thread : Nat) : List Outst :=
  (s.outst.filter fun o => o.thread == thread && o.isAsync).takeWhile fun o => o.landed

/-- The effects of a descriptor are visible: it reaches its completion-ADD point, in issue order among the ASYNC
descriptors of its thread; what waited for it goes on (R123-R126). -/
def State.land (s : State) (d : Nat) : State :=
  match s.outst.find? fun o => o.id == d with
  | none => s
  | some o =>
    let s := { s with outst := s.outst.map fun (x : Outst) => if x.id = d then { x with landed := true } else x }
    let s := if o.isAsync then (s.landedFirst o.thread).foldl State.finishRaw s else s.finishRaw o
    ((s.sweepEnds o.thread).wakeOrder o.thread).subSettle o.sub

/-- One more exposure of a descriptor has reached the accumulator, or is lost; the last one lands it (R102). -/
def State.expDone (s : State) (d : Option Nat) : State :=
  match d.bind fun i => s.outst.find? fun o => o.id == i with
  | none => s
  | some o =>
    if o.left ≤ 1 then s.land o.id
    else { s with outst := s.outst.map fun (x : Outst) => if x.id = o.id then { x with left := x.left - 1 } else x }

/-- A deferred status counts for the submission (R125). -/
def State.deferred (s : State) (sub : Option Nat) (code : Code) : State :=
  match sub with
  | some k => s.subFail k code
  | none => s

/-! ### Sequence ranges (R109-R111) -/

/-- VALID moves over the leading ranges that are written or released. -/
def SeqSlot.settle (q : SeqSlot) : SeqSlot :=
  let run := q.inflight.takeWhile fun e => e.2.2
  let v := match run.getLast? with
    | some e => BitVec.ofNat 24 (e.1 + e.2.1)
    | none => q.valid
  let q := { q with valid := v, inflight := q.inflight.drop run.length }
  if q.st = 2 ∧ q.valid = q.reserved then { q with st := 0 } else q

/-- The range that begins at `first` is written, or released. -/
def State.seqDone (s : State) (slot first : Nat) : State :=
  let q := s.seq slot
  s.setSeq slot ({ q with inflight := q.inflight.map fun (e : Nat × Nat × Bool) => if e.1 = first then (e.1, e.2.1, true) else e }).settle

/-! ### Tallies that a descriptor names (R99, R123) -/

/-- The cluster whose logical address `u` is, if its tray belongs to partition `pid` (R99). -/
def State.clusterIn (s : State) (u : UnitAddr) (pid : Pid) : Option Nat :=
  if uPhys u then none
  else match s.clusterAt u with
    | some c => if (s.tray (trayOfCluster c)).owner = pid then some c else none
    | none => none

/-- The completion tally of a descriptor: `none` where its cluster is outside the partition (R123). -/
def State.ctOf (s : State) (k : Nat) (t : Thread) (d : BitVec 512) : Option (Option (Nat × BitVec 6)) :=
  if dFlag d 6 then
    let i := BitVec.ofNat 6 (dN d 2 1)
    if dFlag d 5 then (s.clusterIn (BitVec.ofNat 32 (dN d 8 4)) t.pid).map fun c => some (c, i)
    else some (some (clusterOfCore k, i))
  else some none

/-! ### The course of a thread (R122, R125, R132, R133) -/

/-- A thread waits for the fetch of the descriptor at `pc`. -/
def State.fetchAt (s : State) (k n : Nat) (pc : BitVec 48) (keep : Bool) : State :=
  match s.thread? k n with
  | some t => s.setThread k n { t with
      pc := pc, cur := none, nxt := if keep then t.nxt else none, st := .waitData, wait := .fetch, waited := false, prog := 0,
      desc := none }
  | none => s

/-- A thread ends: its slot is ENDING, its end tally follows its last descriptor, and its submission counts it out. -/
def State.threadEnd (s : State) (k n : Nat) (fail : Option Code) : State :=
  match s.thread? k n with
  | none => s
  | some t =>
    let s := match fail with
      | some c => s.subFail t.sub c
      | none => s
    let s := s.setThread k n { t with st := .ending, wait := .none, cur := none, nxt := none }
    let s := match t.ended with
      | some e =>
        let o : Outst := { id := s.nextId, thread := t.id, sub := t.sub, cluster := clusterOfCore k, ct := some e, left := 0,
                           isEnd := true }
        { s.fresh with outst := s.outst ++ [o] }
      | none => s
    let s := match s.sub? t.sub with
      | some x => s.setSub t.sub { x with threads := x.threads - 1 }
      | none => s
    (s.sweepEnds t.id).subSettle t.sub

/-- The boundary after a descriptor: the thread ends with LAST, or with FENCED where its context is fenced (R158), or goes on with the
descriptor at `pc`; past the end of the space lies no region (R122). -/
def State.advanceTo (s : State) (k n : Nat) (d : BitVec 512) (pc : Nat) (keep : Bool) : State :=
  match s.thread? k n with
  | none => s
  | some t =>
    if dFlag d 1 then s.threadEnd k n none
    else if (s.ctx t.ctx).st = 2 then s.threadEnd k n (some 0x0501)
    else if pc < 2 ^ 48 then s.fetchAt k n (BitVec.ofNat 48 pc) keep
    else s.threadEnd k n (some 0x0102)

/-- The boundary before the next descriptor of the chain. -/
def State.advance (s : State) (k n : Nat) (d : BitVec 512) : State :=
  match s.thread? k n with
  | none => s
  | some t => s.advanceTo k n d (t.pc.toNat + 64) true

/-- The completion ADD of a thread's current descriptor goes on its way. -/
def State.addOut (s : State) (k n : Nat) (ct : Option (Nat × BitVec 6)) : State :=
  match s.thread? k n, ct with
  | some t, some (c, i) => (s.tallySend c { tally := i, isSet := false, v := 1, thread := t.id, mark := s.nextId }).fresh
  | _, _ => s

/-- A descriptor that has completed and reached its completion-ADD point at once. -/
def State.completeNow (s : State) (k n : Nat) (d : BitVec 512) (ct : Option (Nat × BitVec 6)) : State := (s.addOut k n ct).advance k n d

/-- A descriptor that fails: its completion ADD is made, and it ends its thread unless CONT is set (R123, R125). -/
def State.failDesc (s : State) (k n : Nat) (d : BitVec 512) (ct : Option (Nat × BitVec 6)) (code : Code) : State :=
  match s.thread? k n with
  | none => s
  | some t =>
    let s := s.addOut k n ct
    if dFlag d 2 then (s.subFail t.sub code).advance k n d else s.threadEnd k n (some code)

/-- A tally wait of a thread, or the pre-wait of its descriptor, ends with a failure (R100, R114). -/
def State.endWait (s : State) (k n : Nat) (code : Code) : State :=
  match s.thread? k n with
  | none => s
  | some t =>
    let waits : Bool := match t.wait with
      | .tally _ _ _ => true
      | .pre _ _ => true
      | _ => false
    match t.cur with
    | some d => if waits then s.failDesc k n d ((s.ctOf k t d).getD none) code else s
    | none => s

/-- The tally waits of the threads of cores whose unit is fenced (R100). -/
def State.fenceWaits (s : State) (ks : List Nat) : State :=
  ks.foldl (fun s k => ((s.core k).slots.map (·.1)).foldl (fun s n => s.endWait k n 0x0501) s) s

/-- A descriptor that has been accepted and whose completion-ADD point lies ahead: it joins the list, under the number
that `nextId` held. -/
def State.openDesc (s : State) (k n : Nat) (ct : Option (Nat × BitVec 6)) (left : Nat) (isAsync : Bool) (dev : List (CtxNo × Nat)) :
    State :=
  match s.thread? k n with
  | none => s
  | some t =>
    let o : Outst := { id := s.nextId, thread := t.id, sub := t.sub, cluster := clusterOfCore k, ct := ct, left := left,
                       isAsync := isAsync, dev := dev }
    { s.fresh with outst := s.outst ++ [o] }

/-! ### Absorption (R158, R355, R356) -/

/-- A fabric transfer ended by ABORT (R265). -/
def State.abortXfer (s : State) (x : Xfer) : State :=
  ({ s with fab := { s.fab with xfers := s.fab.xfers.filter fun (y : Xfer) => y.id ≠ x.id } }).sendMsg 11
    { FabMsg.blank with tag := x.tag, srcCtx := x.ctx, dstCtx := x.peerCtx, dstNode := x.peerNode }

/-- A PUT that this module serves for a context that is reset: its range is undefined, and its sender has PEER_DENIED (R138, R158). -/
def State.denyXfer (s : State) (x : Xfer) : State :=
  let s := { s with fab := { s.fab with xfers := s.fab.xfers.filter fun (y : Xfer) => y.id ≠ x.id } }
  ((s.devWrite x.ctx x.addr (freeBytes s.fv 0 x.len)).draw).sendMsg 6
    { FabMsg.blank with tag := x.tag, srcCtx := x.ctx, dstCtx := x.peerCtx, dstNode := x.peerNode, status := 0x0402 }

/-- A thread absorbed: its slot is free, its window cleared, its descriptors gone without completion ADDs, its appends
released, its transfers aborted; the tally of its end is added (R133), and its submission counts RESET. -/
def State.absorb (s : State) (k n : Nat) (code : Code) : State :=
  match s.thread? k n with
  | none => s
  | some t =>
    let owes := s.outst.any fun o => o.thread == t.id && o.isEnd
    let ids := (s.outst.filter fun o => o.thread == t.id).map (fun o => o.id) ++
      (s.movers.filter fun m => m.thread == t.id).map fun m => m.desc
    let s := s.scrapMovers fun m => m.thread == t.id
    let s := s.modCore k fun c =>
      { c with slots := SMap.del c.slots n, ls := Memory.zero c.ls (1024 * t.base) (1024 * t.size) }
    let s := { s with
      outst := s.outst.filter (fun (o : Outst) => o.thread ≠ t.id),
      starts := s.starts.filter (fun (r : StartReq) => r.parent ≠ some (k, BitVec.ofNat 3 n)) }
    let s := (s.fab.xfers.filter fun x => x.mine && match x.op with
      | some d => ids.contains d
      | none => false).foldl State.abortXfer s
    let s := match t.wait with
      | .append slot first => (s.scrapAppend slot.toNat first.toNat).seqDone slot.toNat first.toNat
      | _ => s
    let s := match t.ended with
      | some (c, i) => if t.st = ThState.ending ∧ !owes then s else
          (s.tallySend c { tally := i, isSet := false, v := 1, thread := t.id, mark := s.nextId }).fresh
      | none => s
    if t.st = ThState.ending then s.subSettle t.sub
    else
      let s := s.subFail t.sub code
      let s := match s.sub? t.sub with
        | some x => s.setSub t.sub { x with threads := x.threads - 1 }
        | none => s
      s.subSettle t.sub

/-- Every thread of a core absorbed. -/
def State.absorbCore (s : State) (k : Nat) : State :=
  ((s.core k).slots.map (·.1)).foldl (fun s n => s.absorb k n 0x0502) s

/-- A start request that ends with a failure code (R106). -/
def State.refuseStart (s : State) (r : StartReq) (code : Code) : State :=
  let s := { s with starts := s.starts.filter fun (x : StartReq) => x.id ≠ r.id }
  match r.parent with
  | none => (s.subFail r.sub code).subSettle r.sub
  | some (k, n) =>
    match s.thread? k n.toNat with
    | some t =>
      match t.cur with
      | some d => s.failDesc k n.toNat d ((s.ctOf k t d).getD none) code
      | none => s
    | none => s

end Sys2Proof.Machine
end

