-- ==== Sys2Proof/Machine/Reset.lean ====
section
/-! DEFINITION. What resets share (R72, R201, R355-R358): the absorption and the clearing of trays, clusters, cores and
contexts, the start and the end of a reset, unit failures (R33), and the module reset (R345, R355). -/

set_option Elab.async false

namespace Sys2Proof.Machine

/-! ### Clearing (R355) -/

/-- A coefficient set that no strip has measured: nominal offsets, gains and crosstalk (R53). -/
def FixCoef.nominal : FixCoef :=
  ⟨List.replicate 32 0, List.replicate 32 (1016 * 4096), List.replicate 32 0, List.replicate 32 0⟩

/-! ### Sign patterns (R162) -/

/-- A table sent, as MOD_TABLES shows the last one (R352, R361). -/
def State.sendTable (s : State) (n : Byte) : State := { s with mod := { s.mod with table := n, repairs := 0 } }

/-- One draw of the pattern generator (R162). -/
def xorshift (x : BitVec 64) : BitVec 64 :=
  let x := x ^^^ (x <<< 13)
  let x := x ^^^ (x >>> 7)
  x ^^^ (x <<< 17)

/-- Draws until the pattern holds 8 to 24 ones; the draws are limited to 1,000 (log entry 10). -/
def drawPattern : Nat → BitVec 64 → BitVec 64
  | 0, x => x
  | n + 1, x =>
    let y := xorshift x
    let c := popCount (y.toNat % 4294967296) 32
    if 8 ≤ c ∧ c ≤ 24 then y else drawPattern n y

/-- The next epoch's pattern, drawn from the seed, or from a new one that waits (R162, R186). -/
def ProofSt.nextPattern (p : ProofSt) : ProofSt :=
  let seed := drawPattern 1000 (p.newSeed.getD p.seed)
  { p with seed := seed, newSeed := none, pattern := seed.setWidth 32 }

/-- A seed drawn at random, never 0. -/
def drawSeed (f : Nat) : BitVec 64 :=
  let x : BitVec 64 := (Config.wide f).setWidth 64
  if x = 0 then 1 else x

/-- A tray after a tray reset (R72, R188, R259, R355): buffer, accumulators, planes, queues, journal, stores and counters
cleared; lasers, rings, owner, settings, suspect score, temperature, calibration, seed and PT_A kept. Epoch 0 begins, with a pattern of its
own (R162). -/
def Tray.cleared (t : Tray) : Tray :=
  { ctl := t.ctl, owner := t.owner, defective := t.defective, floorV := t.floorV, floorFine := t.floorFine, lad := t.lad,
    temp := t.temp, vUse := t.vGoal, fineUse := t.fineUse, cal := t.cal,
    proof := ProofSt.nextPattern
      { seed := t.proof.seed, newSeed := t.proof.newSeed, sumRes := t.proof.sumRes, allow := t.proof.allow,
        guestDone := t.proof.guestDone },
    gam := t.gam, shot := t.shot,
    light := { t.light with stripRun := none, mislocks := 0, lastRing := 0, slewPeak := 0, slewNow := 0, strips := 0,
                            tempHolds := 0, substs := 0, goodRun := 0, ringBase := { t.light.ringBase with mislock := false },
                            rings := t.light.rings.map fun (e : Nat × Ring) => (e.1, { e.2 with mislock := false }) } }

/-- A cluster after a cluster reset: tallies and registers cleared (R115, R355). -/
def Cluster.cleared (c : Cluster) : Cluster :=
  { ctl := c.ctl, defective := c.defective, floorClk := c.floorClk, clkUse := c.clkUse, lad := c.lad, temp := c.temp,
    inflight := c.inflight }

/-- A core after a core reset: slots and local store cleared. -/
def Core.cleared (c : Core) : Core := { ctl := c.ctl }

/-- The cores of a tray that something has acted on. -/
def State.storedCores (s : State) (t : Nat) : List Nat := (s.cores.map (·.1)).filter fun k => trayOfCore k == t

/-- The cores of a cluster that something has acted on. -/
def State.storedCoresOf (s : State) (c : Nat) : List Nat := (s.cores.map (·.1)).filter fun k => clusterOfCore k == c

/-- Queued, loading and pending work of a tray absorbed: its descriptors are gone without completion ADDs and its
submissions count RESET (R355, R356). What of a thread waited for those descriptors goes on, and the tally of its end is added (R133). -/
def State.absorbWork (s : State) (t : Nat) : State :=
  let x := s.tray t
  let ofQ (e : QEntry) : List (Option Nat × Option Nat) := match e with
    | .expo _ _ _ _ _ d u => [(d, u)]
    | .swap _ d u => [(d, u)]
  let work := x.expQ.flatMap ofQ ++ x.loadQ.map (fun l => (l.desc, l.sub)) ++
    (match x.load with | some r => [(r.req.desc, r.req.sub)] | none => []) ++ x.pend.map fun p => (p.desc, p.sub)
  let descs := work.filterMap (·.1)
  let subs := work.filterMap (·.2)
  let threads := (s.outst.filter fun o => descs.contains o.id).map fun o => o.thread
  let s := { s with outst := s.outst.filter fun (o : Outst) => !descs.contains o.id }
  let s := subs.foldl (fun s k => s.subFail k 0x0502) s
  let s := s.modTray t fun x =>
    { x with expQ := [], loadQ := [], load := none, refSwap := false, inplace := none, pend := [] }
  let s := threads.foldl (fun s i => (s.sweepEnds i).wakeOrder i) s
  subs.foldl (fun s k => s.subSettle k) s

/-- Every thread on the cores of a list absorbed. -/
def State.absorbCores (s : State) (ks : List Nat) : State := ks.foldl State.absorbCore s

/-- The start requests aimed at a place that satisfies `f` end with a code. -/
def State.refuseStarts (s : State) (f : StartReq → Bool) (code : Code) : State :=
  (s.starts.filter f).foldl (fun s r => s.refuseStart r code) s

/-! ### Unit states under a reset (R31) -/

/-- A control in RESETTING, or STARTING, or FAILED. -/
def UnitCtl.to (c : UnitCtl) (st : UState) : UnitCtl :=
  { c with st := st, drained := st == .failed || st == .off || st == .mappedOut }

/-- RESETTING for all but MAPPED_OUT. -/
def UnitCtl.resetting (c : UnitCtl) : UnitCtl := if c.st = .mappedOut then c else c.to .resetting

/-- A unit whose stop phase has ended goes to STARTING (R31). -/
def UnitCtl.restart (c : UnitCtl) : UnitCtl := if c.st = .resetting then c.to .starting else c

/-- The units of a target, by trays, clusters and cores: a level includes every unit below it (R355). A bay is its nine
physical trays. -/
def State.resetUnits (s : State) : URef → List Nat × List Nat × List Nat
  | .module => let ts := s.allTrays; (ts, ts.flatMap fun t => (List.range 20).map fun i => t * 20 + i, [])
  | .site p => let ts := (List.range 72).map fun i => p * 72 + i
               (ts, ts.flatMap fun t => (List.range 20).map fun i => t * 20 + i, [])
  | .bay b => let ts := (List.range 9).map fun i => b * 9 + i
              (ts, ts.flatMap fun t => (List.range 20).map fun i => t * 20 + i, [])
  | .tray t => ([t], (List.range 20).map fun i => t * 20 + i, [])
  | .cluster c => ([], [c], [])
  | .core k => ([], [], [k])

/-- The level of a target as R356 names it, with its address. -/
def State.targetUnit (_ : State) : ResetTarget → UnitAddr
  | .unit u => u
  | .partition pid => fld 0 pid

/-- The level of a target in an event: 0 to 5, or 8 for a partition. -/
def targetLevel : ResetTarget → Nat
  | .unit u => uLevel u
  | .partition _ => 8

/-- The state of the cores below set, where they have acted. -/
def State.setBelow (s : State) (cs ks : List Nat) (f : UnitCtl → UnitCtl) : State :=
  let s := cs.foldl (fun s c => s.modCluster c fun x => { x with ctl := f x.ctl }) s
  let ks := ks ++ (s.cores.map (·.1)).filter fun k => cs.contains (clusterOfCore k)
  ks.foldl (fun s k => s.modCore k fun x => { x with ctl := f x.ctl }) s

/-- A reset starts (R355, R356): the units read RESETTING, threads and queued work are absorbed, and event 0x0B04 is
recorded. A reset of units that are all RESETTING joins the one in progress (R359). -/
def State.startReset (s : State) (target : ResetTarget) (ts cs ks : List Nat) (ctxs : List CtxNo) : State :=
  let s := s.event 0x0B04 4 (s.targetUnit target) [snap [(0, targetLevel target)]]
  let cores := ks ++ (s.cores.map (·.1)).filter fun k => cs.contains (clusterOfCore k)
  let s := s.absorbCores cores
  let s := ts.foldl State.absorbWork s
  let s := ts.foldl (fun s t => s.modTray t fun x => { x with ctl := x.ctl.resetting }) s
  let s := s.setBelow cs ks UnitCtl.resetting
  { s with mod := { s.mod with resets := s.mod.resets ++ [{ target, trays := ts, clusters := cs, cores := ks, ctxs }] } }

/-- The units of a reset whose stop phase has ended are cleared and go to STARTING, and their tables are sent again, the activation
tables last (R352, R355). A tray whose partner's
guest exposure still runs on it is cleared once that has drained. -/
def State.clearUnits (s : State) (ts cs ks : List Nat) : State :=
  let now := s.now
  let s := ts.foldl (fun s t => s.modTray t fun x =>
    let y := x.cleared
    { y with ctl := x.ctl.restart, fineUse := s.fineGoal t, proof := { y.proof with mon := { since := now } } }) s
  let cores := ks ++ (s.cores.map (·.1)).filter fun k => cs.contains (clusterOfCore k)
  let s := cores.foldl (fun s k => s.modCore k fun x => { x.cleared with ctl := x.ctl.restart }) s
  let s := cs.foldl (fun s c => s.modCluster c fun x => { x.cleared with ctl := x.ctl.restart }) s
  if cs = [] then s else s.sendTable 4

/-- A reset whose units have all left STARTING is over: event 0x0B05 (R356). -/
def State.endResets (s : State) : State :=
  let leaves (st : UState) : Bool := st != .starting && st != .resetting
  let isOver (j : ResetJob) : Bool := j.stopped && (j.trays.all fun t => leaves (s.tray t).ctl.st) &&
    (j.clusters.all fun c => leaves (s.cluster c).ctl.st) && j.cores.all fun k => leaves (s.core k).ctl.st
  let done := s.mod.resets.filter isOver
  let s' := { s with mod := { s.mod with resets := s.mod.resets.filter fun (j : ResetJob) => !isOver j } }
  done.foldl (fun s j => s.event 0x0B05 0 (s.targetUnit j.target) [snap [(0, targetLevel j.target)]]) s'

/-! ### Failures (R33, R106) -/

/-- The start requests whose named unit lies in a tray, or in a cluster. -/
def State.startsAt (s : State) (t : Nat) (r : StartReq) : Bool :=
  match s.resolve r.place with
  | some (.tray x) => x == t
  | some (.cluster c) => trayOfCluster c == t
  | some (.core k) => trayOfCore k == t
  | _ => false
def State.startsAtCluster (s : State) (c : Nat) (r : StartReq) : Bool :=
  match s.resolve r.place with
  | some (.cluster x) => x == c
  | some (.core k) => clusterOfCore k == c
  | _ => false

/-- A tray enters FAILED: requests that wait for it end FENCED, and event 0x0B01 is recorded (R33, R106). -/
def State.failTray (s : State) (t : Nat) : State :=
  let s := s.modTray t fun x => { x with ctl := x.ctl.to .failed }
  (s.refuseStarts (s.startsAt t) 0x0501).event 0x0B01 0 (s.trayUnit t)

/-- A cluster enters FAILED. -/
def State.failCluster (s : State) (c : Nat) : State :=
  let s := s.modCluster c fun x => { x with ctl := x.ctl.to .failed }
  (s.refuseStarts (s.startsAtCluster c) 0x0501).event 0x0B01 0 (s.clusterUnit c)

/-- A core enters FAILED. -/
def State.failCore (s : State) (k : Nat) : State :=
  let s := s.modCore k fun x => { x with ctl := x.ctl.to .failed }
  (s.refuseStarts (fun r => s.resolve r.place == some (.core k)) 0x0501).event 0x0B01 0 (s.coreUnit k)

/-! ### The retouch map in service (R34-R36) -/

/-- A ring acquires again (R240, R241). -/
def Ring.acquire (r : Ring) : Ring := if r.lock = 3 then r else { r with lock := 1, tagOk := false, attempts := 0 }

/-- The tray acquires lock from the start (R240): every ring that has not failed is ACQUIRING. -/
def State.acquire (s : State) (t : Nat) : State :=
  (s.modTray t fun x =>
    { x with light := { x.light with
        lit := true, acquiring := true, locked := false, checking := false, acqT := x.temp.now.toInt, ringBase := x.light.ringBase.acquire,
        rings := x.light.rings.map fun (e : Nat × Ring) => (e.1, e.2.acquire) } })

/-- The spare of a bay bound to a logical tray: the old tray is MAPPED_OUT, its owner and settings pass to the spare,
and event 0x0B02 is recorded. The spare tray's clusters keep their own UCB_CTL bits and CLK floors (DESIGN CHOICE, log
entry 70). -/
def State.bindTray (s : State) (bay i : Nat) : State :=
  let old := bay * 9 + s.trayIdx bay i
  let x := s.tray old
  let s := ({ s with map := SMap.put s.map bay (i, true, false) }).sendTable 1
  let s := s.modTray old fun t => { t with ctl := t.ctl.to .mappedOut }
  let s := s.modTray (bay * 9 + 8) fun t =>
    { t with owner := x.owner, floorV := x.floorV, floorFine := x.floorFine, ctl := { x.ctl with st := .off, drained := true } }
  let s := if (s.tray (bay * 9 + 8)).light.lit then s.acquire (bay * 9 + 8) else s
  s.event 0x0B02 1 (s.trayUnit (bay * 9 + 8))

/-- The spare of a tray bound to a logical cluster. -/
def State.bindCluster (s : State) (t i : Nat) : State :=
  let old := t * 20 + s.clusterIdx t i
  let x := s.cluster old
  let s := ({ s with cmap := SMap.put s.cmap t (i, true, false) }).sendTable 1
  let s := s.modCluster old fun c => { c with ctl := c.ctl.to .mappedOut }
  let s := s.modCluster (t * 20 + 19) fun c =>
    { c with floorClk := x.floorClk, ctl := { x.ctl with st := .off, drained := true } }
  s.event 0x0B02 1 (s.clusterUnit (t * 20 + 19))

/-- The logical clusters of a tray go from OFF to STARTING where ENABLE is in effect (R31, R350). -/
def State.startClusters (s : State) (t : Nat) : State :=
  (s.clustersOfTray t).foldl (fun s c =>
    if (s.cluster c).ctl.st = .off ∧ (s.clusterCtl c).enable then s.modCluster c fun x => { x with ctl := x.ctl.to .starting } else s) s

/-! ### Contexts (R201) -/

/-- An accumulator vector of a tray that is undefined. -/
def State.looseVector (s : State) (t a : Nat) : State :=
  let f := s.fv
  (s.modTray t fun x => { x with acc := (List.range 32).foldl (fun m i =>
    SMap.put m (32 * a + i) (Config.number f (32 * a + i))) x.acc }).draw

/-- Exposures that absorbed descriptors `ids` have admitted to a tray drain to the accumulator (R355), where their vectors are undefined
(R158): each adds to what they hold now, which is free (log entry 35). -/
def State.spoilVectors (s : State) (ids : List Nat) (t : Nat) : State :=
  let x := s.tray t
  let hit (d : Option Nat) : Bool := d.any fun i => ids.contains i
  let vs := x.expQ.filterMap (fun e => match e with
    | .expo _ _ _ a _ d _ => if hit d then some a else none
    | .swap _ _ _ => none) ++ (x.pend.filter fun p => hit p.desc).map fun p => p.acc
  let s := s.modTray t fun x =>
    { x with
      expQ := x.expQ.map fun e => match e with
        | .expo n g v a add d u => .expo n g v a (add || hit d) d u
        | .swap n d u => .swap n d u,
      pend := x.pend.map fun (p : Pend) => { p with add := p.add || hit p.desc } }
  vs.foldl (fun s a => s.looseVector t a) s

/-- Every thread of a context absorbed, its waiting start requests ended with RESET, its sequence slots closed, its
transfers ended, and its open submissions settled (R110, R158, R201, R356). -/
def State.absorbCtx (s : State) (c : CtxNo) : State :=
  let places := s.cores.flatMap fun e => (e.2.slots.filter fun x => x.2.ctx == c).map fun x => (e.1, x.1)
  let owners := places.filterMap fun p => (s.thread? p.1 p.2).map fun t => t.id
  let ids := (s.outst.filter fun o => owners.contains o.thread).map fun o => o.id
  let s := places.foldl (fun s p => s.absorb p.1 p.2 0x0502) s
  let s := s.refuseStarts (fun r => r.ctx == c) 0x0502
  let s := (s.fab.xfers.filter fun x => x.ctx == c).foldl (fun s x => if x.mine then s.abortXfer x else s.denyXfer x) s
  let s := s.scrapMovers fun m => m.ctx == c
  let keys := (s.subs.filter fun e => e.2.ctx == c && e.2.live).map (·.1)
  let ids := ids ++ (s.outst.filter fun o => keys.contains o.sub).map fun o => o.id
  let s := (s.trays.map (·.1)).foldl (fun s t => s.spoilVectors ids t) s
  let s := keys.foldl (fun s k => (s.subFail k 0x0502)) s
  let s := { s with outst := s.outst.filter fun (o : Outst) => !keys.contains o.sub }
  let s := keys.foldl (fun s k => match s.sub? k with
    | some x => (s.setSub k { x with threads := 0 }).subSettle k
    | none => s) s
  { s with seqs := s.seqs.map fun (e : Nat × SeqSlot) =>
      if e.2.st ≠ 0 ∧ e.2.ctx = c then (e.1, { e.2 with st := 0, inflight := [] }) else e }

/-! ### The module reset (R291, R345, R355) -/

/-- Two lasers of one group have failed (R233). -/
def LightSt.noGrid (l : LightSt) : Bool :=
  (List.range 4).any fun g => decide (2 ≤ ((List.range 9).filter fun i => l.failed.getLsbD (9 * g + i)).length)

/-- What a tray, a cluster and a site keep through a module reset: what manufacture, the retouch map and erasures
fix, and the lasers, which are in flash (R259). -/
def Tray.rebooted (t : Tray) (out : Bool) : Tray :=
  let l := t.light
  { defective := t.defective, ctl := { st := if out then .mappedOut else .off },
    light := { failed := l.failed, spares := l.spares, exhausted := l.exhausted, gridFailed := l.noGrid } }
def Cluster.rebooted (c : Cluster) (out : Bool) : Cluster :=
  { defective := c.defective, ctl := { st := if out then .mappedOut else .off } }

/-- Unit `i` of a bay or a tray is the one that its retouch-map entry replaces. -/
def replaces (m : SMap (Nat × Bool × Bool)) (key i : Nat) : Bool := (SMap.find m key).any fun e => e.1 == i
def Site.rebooted (x : Site) : Site := { erased := x.erased, spare := x.spare }

/-- The matrix through a module reset: what it connects, its wear and its failed elements. It is driven to bypass, or without
power it has been already (R291). -/
def SteerSt.rebooted (x : SteerSt) (lost : Bool) : SteerSt :=
  let k : SteerSt := { conn := x.conn, failed := x.failed, moves := x.moves, total := x.total, bad := x.bad, latchOpen := x.latchOpen,
                       src := if lost then x.src else 1 }
  if lost then k else k.drive bypassConn

/-- A plan slot at the next boot: ACTIVE where the flash mark names it, and EMPTY where power failed during its write (R322, R323). A
load that a module reset ends leaves the slot what it held before (DESIGN CHOICE, log entry 96). -/
def PlanSlot.kept (x : PlanSlot) (lost : Bool) (n : BitVec 2) (mark : Option (BitVec 2)) : PlanSlot :=
  if lost ∧ x.st = 1 then {} else { x with st := if x.plan.isNone then 0 else if mark = some n then 3 else 2 }

/-- The plan slots and their mark at the next boot: a rewrite of the mark that is due completes before a module reset, and is lost with
power (R323, R355). -/
def PlanSt.rebooted (x : PlanSt) (lost : Bool) (active : Option (BitVec 2)) : PlanSt :=
  let mark := if lost then x.mark else active
  { s0 := x.s0.kept lost 0 mark, s1 := x.s1.kept lost 1 mark, s2 := x.s2.kept lost 2 mark, s3 := x.s3.kept lost 3 mark, mark := mark }

/-- A firmware or configuration slot at the next boot: a verification is done again, and an H4 download starts again (R383). -/
def FwSlot.kept (x : FwSlot) : FwSlot :=
  if x.st = 3 then { x with st := 2 } else if x.st = 1 ∧ x.h4 then { x with next := 0xFFFF, buf := [] } else x

/-- The flash of firmware, settings and keys through a reset; BOOTS counts on (R391). -/
def FwSt.rebooted (f : FwSt) (lost : Bool) : FwSt :=
  { h1 := f.h1, h2 := f.h2, fa := f.fa.kept, fb := f.fb.kept, ca := f.ca.kept, cb := f.cb.kept, bankA := f.bankA, bankB := f.bankB,
    ownerLock := f.ownerLock, minSvn := f.minSvn, keys := f.keys, reports := if lost then 0 else f.reports, boots := f.boots + 1,
    packs := f.packs, patterns := f.patterns }

/-- The state after a module reset, or after a loss of power, which drops every entry of the retouch map that is not yet in flash, so
that its old unit is OFF again and is judged by its self-test (R35): everything cleared but flash contents, fuses, the model's own clock and counters,
the queue of commands, and what light and power hold. `lost` says that power was lost. -/
def State.rebooted (s : State) (lost : Bool) : State :=
  let kept (e : Nat × Nat × Bool × Bool) : Bool := !lost || e.2.2.2 || !e.2.2.1
  let map := s.map.filter kept
  let cmap := s.cmap.filter kept
  { pending := s.pending, fuse := s.fuse, fv := s.fv, sent := s.sent, nextId := s.nextId,
    map := map, cmap := cmap,
    trays := s.trays.map fun e => (e.1, e.2.rebooted (replaces map (bayOfTray e.1) (e.1 % 9))),
    clusters := s.clusters.map fun e => (e.1, e.2.rebooted (replaces cmap (trayOfCluster e.1) (e.1 % 20))),
    mem := { sites := s.mem.sites.map fun e => (e.1, e.2.rebooted) },
    steer := s.steer.rebooted lost,
    gov := { sl := if lost then [] else s.gov.sl.map fun (e : Nat × SlPort) => (e.1, { st := e.2.st }) },
    plan := s.plan.rebooted lost s.activeSlot,
    mod := { on := !lost, since := s.up, next := if lost then 0 else s.mod.next, vinA := s.mod.vinA, vinB := s.mod.vinB,
             lostA := s.mod.lostA, lostB := s.mod.lostB, holdup := s.mod.holdup },
    light := { combs := (s.light.combs.filter fun e => e.2.st == some 2).map fun (e : Nat × Comb) => (e.1, { st := some 2 }),
               since := s.up },
    time := { up := s.up },
    fw := s.fw.rebooted lost,
    cs := { p0 := s.cs.p0, p1 := s.cs.p1, newerP1 := s.cs.newerP1, writing := s.cs.writing,
            lastPersist := s.cs.lastPersist, noted := s.cs.noted },
    mgmt := { link := s.mgmt.link && !lost } }

/-- A module reset with its cause (R361): the boot starts again at S0, and event 0x0107 names the cause. -/
def State.moduleReset (s : State) (cause : BitVec 4) : State :=
  let n := satAdd s.mod.count 1
  let worn := s.steer.worn.2
  let s := s.rebooted false
  let s := { s with mod := { s.mod with cause := cause, count := n } }
  (s.event 0x0107 0 0 [snap [(0, cause.toNat)]]).wearEvent worn

/-- Stage S6 has started (R358). -/
def State.unitsStarted (s : State) : Bool := decide (7 ≤ s.mod.stage.toNat) || (s.mod.stage == 6 && s.mod.begun)

end Sys2Proof.Machine
end

