-- ==== Sys2Proof/Machine/Analog.lean ====
section
/-! DEFINITION. The analogue path of an exposure: modulator codes, the row currents with the error classes of the error budget, the
ADC, and the fix stage (R43, R44, R50-R54, R75-R81). Values are integers in units of 2^-12 product units unless said otherwise. -/

set_option Elab.async false

namespace Sys2Proof.Machine

/-- A sum over pairs. -/
def dot (a b : List Int) : Int := (List.zipWith (· * ·) a b).foldl (· + ·) 0

/-- The exact sums of a plane's rows with an input: s_i (R47). -/
def Shadow.exact (w : Shadow) (m : List Int) : List Int := w.rows.map fun r => dot m r

/-- The code c_j that drives modulator `j`: m_j + 128, 0 to 255; the block exponent never reaches the optics (R50). -/
def modCodes (m : List Int) : List Int := m.map (· + 128)

/-- r_i, the exact sum that row `i` forms of codes and weights (R44). -/
def Shadow.analog (w : Shadow) (m : List Int) : List Int := w.rows.map fun r => dot (modCodes m) r

/-! ### The classes of error (R78, R79) -/

/-- `n` ppm of FS. -/
def ppmUnits (n : Nat) : Int := ((n * 520192 * 4096 / 1000000 : Nat) : Int)

/-- A number held within a range. -/
def holdIn (lo hi x : Int) : Int := max lo (min hi x)

/-- An error component: held to its bound while the bounds are promised, and free otherwise (R76, R77). -/
def budget (promised : Bool) (lim x : Int) : Int := if promised then holdIn (-lim) lim x else x

/-- How far a row gain may have moved after `n` ns: 0.001 %, in parts per 10^9, within any 1 ms (R79). -/
def gainSlew (n : Nat) : Int := 10000 * max 1 (((n + 999999) / 1000000 : Nat) : Int)

/-- The drift of a row's gain: at most 0.038 %, and no further from its value at any earlier exposure than 0.001 % for each 1 ms
(R79, R87). -/
def gainAt (hist : List (Nat × List Int)) (up : Nat) (i : Nat) (x : Int) : Int :=
  hist.foldl (fun x e => holdIn (e.2.getD i 0 - gainSlew (up - e.1)) (e.2.getD i 0 + gainSlew (up - e.1)) x) (holdIn (-380000) 380000 x)

/-- What an exposure is made with: the physical tray, its calibration set and mode, whether R76 promises the bounds, the draw of the
plane load (R78), the drift of the row gains, the codes' operands, and the use number of the exposure's own free values. -/
structure Shot where
  tray : Nat
  set : CalSet
  fine : Bool
  promised : Bool
  hold : Nat
  gam : List Int
  m : List Int
  w : Shadow
  use : Nat
deriving DecidableEq, Repr

/-- The corrected value of row `i` that the light gives: r_i with the fixed, the proportional and the pattern error and the
weight-hold part of the random one. The bounds are those of R79: 15 ppm and 25 ppm, 0.024 % of r_i and the drift, 0.05 %. -/
def Shot.light (x : Shot) (i : Nat) : Int :=
  let r := (x.w.analog x.m).getD i 0
  let c := x.set.tables
  let fixed := budget x.promised (ppmUnits 15) (Config.fixedError x.tray c i) +
    budget x.promised (ppmUnits 25) (Config.fixedDrift x.use i)
  let g := budget x.promised 240000 (Config.gain x.tray c i) + x.gam.getD i 0
  let pat := budget x.promised (ppmUnits 500) (Config.pattern x.tray c i x.m x.w.rows)
  4096 * r + fixed + 4096 * g * r / 1000000000 + pat + Config.weightHold x.hold i

/-- A sum of row `i` with its neighbours' by the crosstalk coefficients. -/
def crosstalk (k : FixCoef) (v : List Int) (i : Nat) : Int :=
  (if i = 0 then 0 else k.kLo.getD i 0 * v.getD (i - 1) 0 / 4096) + (if i = 31 then 0 else k.kHi.getD i 0 * v.getD (i + 1) 0 / 4096)

/-- The row values before output crosstalk is corrected: step 4 of R53 undone, by three rounds of substitution (log entry 71). -/
def unmix (k : FixCoef) (v : List Int) : List Int :=
  let go (z : List Int) : List Int := (List.range 32).map fun i => v.getD i 0 + crosstalk k z i
  go (go (go v))

/-- The analogue value of each row at its ADC, in units of 2^-12 half-LSB: steps 2 to 4 of R53 undone, since the coefficients of a set
are what a strip measured of this path (log entry 71). -/
def Shot.current (x : Shot) (k : FixCoef) : List Int :=
  let z := unmix k ((List.range 32).map x.light)
  (List.range 32).map fun i => k.o.getD i 0 + (if 0 < k.g.getD i 0 then 4096 * z.getD i 0 / k.g.getD i 0 else 0)

/-! ### The ADC (R51) -/

/-- A sample: its code, rounded to the nearest, and whether it saturated at an end of the span. -/
def adcSample (v : Int) : Int × Bool :=
  let n := (v + 4096) / 8192
  (holdIn (-512) 511 n, decide (n < -512) || decide (511 < n))

/-- The codes of a row in half-LSB units (R53 step 1), and whether a sample of it clipped; the second sample of FINE mode is taken with
half an LSB more, which is in the set's offset. -/
def adcRow (fine : Bool) (use i : Nat) (v : Int) : Int × Bool :=
  if fine then
    let a := adcSample (v - 2048 + Config.noise use i)
    let b := adcSample (v + 2048 + Config.noise use (32 + i))
    (a.1 + b.1, a.2 || b.2)
  else
    let a := adcSample (v + Config.noise use i)
    (2 * a.1, a.2)

/-- The coefficients of a set in a mode. -/
def CalSet.coef (c : CalSet) (fine : Bool) : FixCoef := if fine then c.fine else c.std

/-- The codes and clips of an exposure. -/
def Shot.codes (x : Shot) : List (Int × Bool) :=
  ((x.current (x.set.coef x.fine)).zipIdx).map fun e => adcRow x.fine x.use e.2 e.1

/-! ### The fix stage (R52-R54) -/

/-- A value of steps 2 to 5 in signed 40 bits (R54); what a value past them becomes no rule says. -/
def fix40 (x : Int) : Int := if -549755813888 ≤ x ∧ x < 549755813888 then x else (Config.past40 x).toInt

/-- A product in units of 2^-24 brought to 2^-12 (the rounding of products is a free value). -/
def fixProd (x : Int) : Int := if x % 4096 = 0 then x / 4096 else x / 4096 + (if Config.fixUp x then 1 else 0)

/-- Steps 1 to 6 of R53 for every row, from codes in half-LSB units, the coefficients and the row sums S_i of the plane. -/
def fixStage (k : FixCoef) (sums codes : List Int) : List Int :=
  let y := (List.range 32).map fun i => fix40 (fixProd (k.g.getD i 0 * fix40 (codes.getD i 0 * 4096 - k.o.getD i 0)))
  (List.range 32).map fun i =>
    let lo := if i = 0 then 0 else fix40 (fixProd (k.kLo.getD i 0 * y.getD (i - 1) 0))
    let hi := if i = 31 then 0 else fix40 (fixProd (k.kHi.getD i 0 * y.getD (i + 1) 0))
    roundSig (fix40 (fix40 (fix40 (y.getD i 0 - lo) - hi) - 128 * 4096 * sums.getD i 0))

/-- The 32 values s_i of an exposure after step 6. -/
def Shot.outs (x : Shot) : List Int := fixStage (x.set.coef x.fine) x.w.sums (x.codes.map (·.1))

/-- The rows of an exposure that clipped; a clip in either sample counts once (R51). -/
def Shot.clips (x : Shot) : Nat := (x.codes.filter (·.2)).length

/-! ### Exposures of a tray -/

/-- The bounds of R75 are promised of an exposure that the tray makes now (R76). -/
def State.promised (s : State) (t : Nat) : Bool :=
  let x := s.tray t
  !x.cal.clamped && decide (s.calDelta ≤ 30) && decide (s.calMaxAge ≤ 600) && !s.stale x &&
    (x.ctl.st == .ready || x.ctl.st == .draining)

/-- The drift of the row gains at an exposure made now. -/
def State.gains (s : State) (t : Nat) : List Int :=
  (List.range 32).map fun i =>
    if s.promised t then gainAt (s.tray t).gam s.up i (Config.gainDrift s.fv i) else Config.gainDrift s.fv i

/-- An exposure of `m` on a plane with data `w`, written by load `hold`, on a tray. -/
def State.shot (s : State) (t : Nat) (m : List Int) (w : Shadow) (hold : Nat) : Shot :=
  { tray := t, set := (s.tray t).cal, fine := (s.tray t).fineUse, promised := s.promised t, hold := hold, gam := s.gains t,
    m := m, w := w, use := s.fv }

/-- The drift kept for the exposures to come: those of the last 76 ms bound them, where the bounds were promised. -/
def State.keepGains (s : State) (t : Nat) : List (Nat × List Int) :=
  if s.promised t then (s.up, s.gains t) :: (s.tray t).gam.filter fun e => decide (s.up - e.1 ≤ 76000000)
  else (s.tray t).gam.filter fun e => decide (s.up - e.1 ≤ 76000000)

end Sys2Proof.Machine
end

