-- ==== Sys2Proof/Machine/TrayOps.lean ====
section
/-! DEFINITION. What the rows of a tray share: scores and the ladder (R178-R181), map-outs (R36, R177), run
boundaries (R63-R66), the journal (R174), the checks of a proof (R159, R163), and the
settling of an exposure (R55, R170). -/

set_option Elab.async false

namespace Sys2Proof.Machine

/-! ### Run boundaries (R63-R66) -/

/-- The active plane, and the idle one. -/
def Tray.active (t : Tray) : Plane := if t.activeB then t.b else t.a
def Tray.idlePlane (t : Tray) : Plane := if t.activeB then t.a else t.b
def Tray.setActive (t : Tray) (p : Plane) : Tray := if t.activeB then { t with b := p } else { t with a := p }
def Tray.setIdle (t : Tray) (p : Plane) : Tray := if t.activeB then { t with a := p } else { t with b := p }

/-- A plane is ACTIVE, or is being refreshed in place (R57). -/
def Tray.hasActive (t : Tray) : Bool := t.active.st == .active || t.active.st == .refreshing

/-- The monitor learns afresh (R171). -/
def Monitor.restart (m : Monitor) : Monitor := { m with base := none, ds := [], evals := 0, alarm := false }

/-- A of a set with SUM_RES, in ppm FS (R164). -/
def State.allowOf (s : State) (sum : Nat) : BitVec 16 :=
  BitVec.ofNat 16 (clampN (min s.aFloor s.aCap) s.aCap (s.aMult * sum))

/-- STALE judged again: each rise records event 0x070B (R252). -/
def State.noteStale (s : State) (t : Nat) : State :=
  let v := s.stale (s.tray t)
  let rise := v && !(s.tray t).light.staleWas
  let s := s.modTray t fun x => { x with light := { x.light with staleWas := v } }
  if rise then s.event 0x070B 0 (s.trayUnit t) else s

/-- A staged calibration set adopted: its A takes effect with it, the monitor learns, and a clamped set is recorded
(R66, R164, R171, R248). -/
def State.adopt (s : State) (t : Nat) : State :=
  match (s.tray t).staged with
  | none => s
  | some c =>
    let s := s.modTray t fun x =>
      { x with cal := c, staged := none,
               proof := { x.proof with mon := x.proof.mon.restart,
                                       sumRes := if c.interim then x.proof.sumRes else c.sumRes,
                                       allow := if c.interim then x.proof.allow else s.allowOf c.sumRes.toNat } }
    let s := if c.clamped then s.event 0x070A 0 (s.trayUnit t) else s
    s.noteStale t

/-- Beats of dead time that a VSTEP pause of 1 µs takes in a mode. -/
def pauseBeats (fine : Bool) : Nat := if fine then 4000 else 8000

/-- A run boundary (R63, R64): the run in the journal closes, pending MODE and VSTEP changes apply and settle, and
a staged set is adopted where the active plane was written under it (R66). -/
def State.boundary (s : State) (t : Nat) : State :=
  let x := s.tray t
  let fine := s.fineGoal t
  let dv := x.vGoal != x.vUse
  let dm := fine != x.fineUse
  let dead := if dv then pauseBeats fine else if dm then 8 else 0
  let s := s.modTray t fun x =>
    { x with fineUse := fine, vUse := x.vGoal, vPause := x.vPause || dv, settle := x.settle || dm,
             proof := { x.proof with runOpen := false, mon := if dm then x.proof.mon.restart else x.proof.mon },
             cnt := { x.cnt with dead := satAdd x.cnt.dead dead, beats := satAdd x.cnt.beats dead } }
  let x := s.tray t
  match x.staged with
  | some c => if !x.hasActive || x.active.calGen == c.gen then s.adopt t else s
  | none => s

/-- FLAGS bits of an entry. -/
def JEntry.flag (j : JEntry) (b : Nat) : JEntry := { j with flags := j.flags ||| BitVec.ofNat 6 (2 ^ b) }

/-! ### Map-outs (R36, R177, R180, R181) -/

/-- What a map-out makes of a thread (R177): it starts again at its current descriptor, with a zeroed window. One whose chain has
ended only waits for its window, and one that waits for room in a queue goes on with the entries not yet admitted (log entry 72). -/
def Thread.moved (t : Thread) : Thread :=
  if t.st = .ending ∨ t.wait = .queue then t
  else { t with cur := none, nxt := none, st := .waitData, wait := .fetch, waited := false, prog := 0, desc := none }

/-- The level extension registers of a cluster as they read now, kept for its map-out (R115). -/
def State.keepClusterShot (s : State) (c : Nat) : State :=
  let w : SMap Word := (List.range 112).map fun i => (0x40 + 4 * i, s.clusterReg c (0x40 + 4 * i))
  s.modCluster c fun x => { x with shot := w }

/-- A sequence append that a map-out cuts short is released, and made again from its start (R111, R177). -/
def State.releaseAppend (s : State) (t : Thread) : State :=
  match t.wait with
  | .append slot first => (s.scrapAppend slot.toNat first.toNat).seqDone slot.toNat first.toNat
  | _ => s

/-- The threads of a cluster restart on another at their current descriptors with zeroed windows, each with the
deferred status MIGRATED; operations on their way to its tallies, and completion tallies, follow (R177). -/
def State.moveCluster (s : State) (c c' : Nat) : State :=
  let s := s.keepClusterShot c
  let s := (coresOfCluster c).foldl (fun s k =>
    let slots := (s.core k).slots
    let s := slots.foldl (fun s e => (s.deferred (some e.2.sub) 0x0508).releaseAppend e.2) s
    let moved := slots.map fun e => (e.1, e.2.moved)
    if slots = [] then s
    else (s.modCore k fun x => { x with slots := [], ls := [] }).modCore (k - 16 * c + 16 * c') fun x =>
      { x with slots := moved, ls := [] }) s
  let fly := (s.cluster c).inflight
  let s := (s.modCluster c fun x => { x with inflight := [] }).modCluster c' fun x =>
    { x with inflight := x.inflight ++ fly }
  let gone (m : MoverOp) : Bool := clusterOfCore m.core == c && !m.isAsync
  let ids := (s.movers.filter gone).map fun m => m.desc
  let s := (s.fab.xfers.filter fun x => x.mine && match x.op with
    | some d => ids.contains d
    | none => false).foldl State.abortXfer s
  { s with
    movers := (s.movers.filter fun (m : MoverOp) => !gone m).map fun (m : MoverOp) =>
      if clusterOfCore m.core = c then { m with core := m.core - 16 * c + 16 * c', tray := trayOfCluster c' } else m,
    starts := s.starts.filter (fun (r : StartReq) => match r.parent with
      | some p => clusterOfCore p.1 != c
      | none => true),
    outst := s.outst.map fun (o : Outst) =>
      { o with ct := o.ct.map fun x => if x.1 = c then (c', x.2) else x,
               cluster := if o.cluster = c then c' else o.cluster } }

/-- Queued and pending work of a tray that fails without a spare: the deferred status FENCED, and undefined
accumulator vectors (R181). -/
def State.fenceWork (s : State) (t : Nat) : State :=
  let x := s.tray t
  let exps := x.expQ.filterMap (fun e => match e with
    | .expo _ _ _ a _ d u => some (a, d, u)
    | .swap _ _ _ => none) ++ x.pend.map fun p => (p.acc, p.desc, p.sub)
  let planes := x.expQ.filterMap (fun e => match e with
    | .expo _ _ _ _ _ _ _ => none
    | .swap _ d u => some (d, u)) ++ ((x.load.map fun r => r.req).toList ++ x.loadQ).map fun r => (r.desc, r.sub)
  let s := s.modTray t fun x => { x with expQ := [], loadQ := [], load := none, refSwap := false, inplace := none, pend := [] }
  let s := exps.foldl (fun s w => ((s.looseVector t w.1).deferred w.2.2 0x0501).expDone w.2.1) s
  planes.foldl (fun s w => (s.deferred w.2 0x0501).expDone w.1) s

/-- The level extension registers of a tray as they read now, kept for its map-out (R73). -/
def State.keepShot (s : State) (t : Nat) : State :=
  let regs (lo n : Nat) (f : Nat → Word) : SMap Word := (List.range n).map fun i => (lo + 4 * i, f (lo + 4 * i))
  let w := regs 0x40 112 (s.trayReg t) ++ (regs 0x200 21 (s.proofReg t)).filter fun (e : Nat × Word) => e.1 != 0x224
  s.modTray t fun x => { x with shot := w }

/-- An exposure of the pending store on the spare (R175, R186): it is replayed, unless it waits for a referee, which goes on. -/
def Pend.moved (p : Pend) : Pend :=
  if p.phase = .awaitRef ∨ p.phase = .secondRef then p else { p with phase := .replay, isReplay := true, res := [], resE1 := none }

/-- What step 2 of R177 restores into the spare `y`, which has been reset, of the old tray `x`: tray buffer, accumulator file, queues,
planes, and the journal, pending and shadow stores. The numbers of runs and admissions go on with the journal (log entry 72). -/
def Tray.restored (y x : Tray) : Tray :=
  { y with
    tb := x.tb, acc := x.acc, a := x.a, b := x.b, activeB := x.activeB, expQ := x.expQ, refSwap := x.refSwap,
    loadQ := ((x.load.filter fun r => r.kind == .user).map fun r => r.req).toList ++ x.loadQ, adm := x.adm,
    pend := x.pend.map Pend.moved, restoring := true, lad := {}, light := { y.light with goodRun := x.proof.runs.toNat },
    proof := { y.proof with runs := x.proof.runs, shadows := x.proof.shadows, journal := x.proof.journal.map fun j => j.flag 4 } }

/-- Guest requests of a tray, which its spare takes over. -/
def ProofSt.regarded (p : ProofSt) (t spare : Nat) : ProofSt :=
  { p with guestQ := p.guestQ.map fun g => if g.1 = t then (spare, g.2) else g,
           guestDone := p.guestDone.map fun g => if g.1 = t then (spare, g.2) else g }

/-- The spare, reset, takes over from the old tray `x` and starts (R36, R177). -/
def State.spareTakes (s : State) (x : Tray) (spare : Nat) : State :=
  s.modTray spare fun y =>
    { (y.cleared.restored x) with ctl := { y.ctl with st := .starting, drained := false }, fineUse := s.fineGoal spare }

/-- The old tray keeps none of its work, and guest requests of it are the spare's (R177). -/
def State.emptied (s : State) (t spare : Nat) : State :=
  let s := s.modTray t fun z => { z with expQ := [], loadQ := [], load := none, refSwap := false, inplace := none, pend := [] }
  { s with trays := s.trays.map fun (e : Nat × Tray) => (e.1, { e.2 with proof := e.2.proof.regarded t spare }) }

/-- A ladder map-out of a tray (R36, R177), or FAILED where no spare is usable (R181). The spare starts with its 19 logical
clusters. -/
def State.mapOutTray (s : State) (t : Nat) : State :=
  let bay := bayOfTray t
  match s.logTray t with
  | none => s
  | some i =>
    if s.spareTrayFree bay then
      let x := s.tray t
      let spare := bay * 9 + 8
      let s := ((((s.keepShot t).bindTray bay i).adopt spare).spareTakes x spare).emptied t spare
      let s := (List.range 19).foldl (fun s j =>
        s.moveCluster (t * 20 + s.clusterIdx t j) (spare * 20 + s.clusterIdx spare j)) (s.startClusters spare)
      s.event 0x090B 0 (s.trayUnit spare)
    else (s.fenceWork t).failTray t

/-- A ladder map-out of a cluster (R180), or FAILED. -/
def State.mapOutCluster (s : State) (c : Nat) : State :=
  let t := trayOfCluster c
  match s.logCluster c with
  | none => s
  | some j =>
    if s.spareClusterFree t then
      let s := s.bindCluster t j
      let spare := t * 20 + 19
      let s := s.modCluster spare fun x => { x with ctl := { x.ctl with st := .starting, drained := false }, lad := {} }
      (s.moveCluster c spare).event 0x090B 0 (s.clusterUnit spare)
    else s.failCluster c

/-! ### Scores and ladders (R178-R180) -/

/-- One point of a score. -/
def pointUnit : Nat := 2 ^ 32

/-- A score raised by whole points, saturating at 65,535 (R178); out of 0 it sets LAST_STEP 1. -/
def Ladder.raise (l : Ladder) (w : Nat) : Ladder :=
  { l with score := min (l.score + w * pointUnit) (65535 * pointUnit),
           lastStep := if l.points = 0 ∧ 0 < w then 1 else l.lastStep }

/-- An event 0x0908 for an action taken or withdrawn, and its count for telemetry (R182, R404). -/
def State.ladderEvent (s : State) (u : UnitAddr) (n : Nat) (taken : Bool) : State :=
  let s := { s with mgmt := { s.mgmt with counts := s.mgmt.counts.modify 4 (satAdd · 1) } }
  s.event 0x0908 0 u [snap [(0, n), (8, nb taken)]]

/-- The enable of an action of the tray ladder (R179). -/
def State.actionOn (s : State) (n : Nat) : Bool :=
  if n ≤ 4 then s.vstepEn else if n = 5 then s.fineEn else if n ≤ 8 then s.clkEn else s.mapoutEn

/-- LAST_STEP of an action of the tray ladder (R28). -/
def stepCode (n : Nat) : BitVec 4 := if n ≤ 4 then 2 else if n = 5 then 3 else if n ≤ 8 then 4 else 5

/-- Action `n` of a tray judged against the score (R179). -/
def State.trayAction (s : State) (t n : Nat) : State :=
  let l := (s.tray t).lad
  if l.acts.contains n then
    if n ≠ 9 ∧ l.score < (2 * n - 1) * s.ladderStep * 2 ^ 31 then
      (s.modTray t fun x => { x with lad := { x.lad with acts := x.lad.acts.filter (· != n) } }).ladderEvent (s.trayUnit t) n false
    else s
  else if s.actionOn n ∧ n * s.ladderStep * pointUnit ≤ l.score then
    let u := s.trayUnit t
    let s := (s.modTray t fun x =>
      { x with lad := { x.lad with acts := x.lad.acts ++ [n], lastStep := stepCode n } }).ladderEvent u n true
    if n = 9 then s.mapOutTray t else s
  else s

/-- The tray ladder judged in order (R179). -/
def State.trayLadder (s : State) (t : Nat) : State := ((List.range 9).map (· + 1)).foldl (fun s n => s.trayAction t n) s

/-- Action `n` of a cluster judged against the score (R180). -/
def State.clusterAction (s : State) (c n : Nat) : State :=
  let l := (s.cluster c).lad
  if l.acts.contains n then
    if n ≠ 4 ∧ l.score < (2 * n - 1) * s.ladderStep * 2 ^ 31 then
      (s.modCluster c fun x => { x with lad := { x.lad with acts := x.lad.acts.filter (· != n) } }).ladderEvent
        (s.clusterUnit c) n false
    else s
  else if (if n ≤ 3 then s.clkEn else s.mapoutEn) ∧ n * s.ladderStep * pointUnit ≤ l.score then
    let u := s.clusterUnit c
    let s := (s.modCluster c fun x =>
      { x with lad := { x.lad with acts := x.lad.acts ++ [n], lastStep := if n ≤ 3 then 4 else 5 } }).ladderEvent u n true
    if n = 4 then s.mapOutCluster c else s
  else s

/-- The cluster ladder (R180). -/
def State.clusterLadder (s : State) (c : Nat) : State :=
  ((List.range 4).map (· + 1)).foldl (fun s n => s.clusterAction c n) s

/-- A tray's score raised, and its ladder judged. -/
def State.scoreTray (s : State) (t w : Nat) : State :=
  (s.modTray t fun x => { x with lad := x.lad.raise w }).trayLadder t

/-- A referee dissent against a cluster (R169, R178, R180): UCB_MISS, LAST_STEP 6, W_DISSENT. -/
def State.dissent (s : State) (c : Nat) : State :=
  let w := s.wDissent
  (s.modCluster c fun x =>
    { x with lad := { (x.lad.raise w) with misses := satAdd x.lad.misses 1, lastStep := 6 } }).clusterLadder c

/-- `x * 2^(-a/b)` rounded down, bit by bit from bit `k`: the largest `y` with `y^b * 2^a ≤ x^b`. -/
def decayFrom (x a b : Nat) : Nat → Nat → Nat
  | 0, r => r
  | k + 1, r => decayFrom x a b k (if (r + 2 ^ k) ^ b * 2 ^ a ≤ x ^ b then r + 2 ^ k else r)

/-- A score after `sec` seconds (R178): below one point it is 0. -/
def Ladder.decay (l : Ladder) (sec half : Nat) : Ladder :=
  let y := decayFrom l.score sec half 49 0
  { l with score := if y < pointUnit then 0 else y }

/-! ### The proof (R159, R163) -/

/-- The sign of output `i` in a pattern (R162). -/
def rho (p : Word) (i : Nat) : Int := if p.getLsbD i then -1 else 1

/-- The signs of all outputs. -/
def rhos (p : Word) : List Int := (List.range 32).map (rho p)

/-- P1 and P2 of the checker (R159): from the column sums of the companion data, and from D_j of the pattern. -/
def Shadow.p1 (w : Shadow) (m : List Int) : Int := dot m w.cols
def Shadow.p2 (w : Shadow) (m : List Int) (p : Word) : Int :=
  dot m ((List.range 32).map fun j => dot (rhos p) (w.rows.map fun r => r.getD j 0))

/-- The residuals e1 and e2 of outputs in units of 2^-12 product units. -/
def residuals (w : Shadow) (m outs : List Int) (p : Word) : Int × Int :=
  (outs.foldl (· + ·) 0 - 4096 * w.p1 m, dot (rhos p) outs - 4096 * w.p2 m p)

/-- A residual in units of 2^-12 beyond T (R163): T = k * sqrt(32) * sigma * FS + A, judged exactly. -/
def beyondT (e : Int) (k : Nat) (fine : Bool) (a : Nat) : Bool :=
  let l : Int := (e.natAbs : Int) * 1000000 - (a : Int) * 520192 * 4096
  let sg : Int := if fine then 14 else 20
  decide (0 < l) && decide (32 * ((k : Int) * sg * 520192 * 25600) * ((k : Int) * sg * 520192 * 25600) < l * l)

/-- T in whole product units, rounded down, for R184. -/
def tolUnits (k : Nat) (fine : Bool) (a : Nat) : Nat :=
  isqrt (32 * (k * (if fine then 14 else 20) * 520192) * (k * (if fine then 14 else 20) * 520192)) / 160000 +
    a * 520192 / 1000000

/-! ### The accumulator file (R53-R55) -/


/-- Steps 8 and 9 for one element: SET or ADD. -/
def accStep (m : SMap Word) (i : Nat) (add : Bool) (x : Word × FFlags) : SMap Word × FFlags :=
  if add then
    let r := accAdd (SMap.get m i 0) x.1
    (accPut m i r.1, x.2.or r.2)
  else (accPut m i x.1, x.2)

/-- All 32 elements of vector `v`. -/
def accAll (m : SMap Word) (v : Nat) (add : Bool) (xs : List (Word × FFlags)) : SMap Word × FFlags :=
  (xs.zipIdx).foldl (fun a x => let r := accStep a.1 (32 * v + x.2) add x.1; (r.1, a.2.or r.2)) (m, {})

/-- TRAY_FLAGS with the flags of a result: NAN, OVF, UFL. -/
def flagBits (f : FFlags) : BitVec 7 := (packW [(5, nb f.nan), (4, nb f.ovf), (3, nb f.ufl)]).setWidth 7

/-- Outputs in units of 2^-12 scaled by the exponents of the exposure and of the rows (R53 step 8). -/
def scaled (outs exps : List Int) (e : Int) : List (Word × FFlags) :=
  (List.range 32).map fun i => scaleOut (outs.getD i 0) (e + exps.getD i 0)

/-! ### The journal (R174) -/

/-- The entry of run `n` changed. -/
def ProofSt.modRun (p : ProofSt) (n : Nat) (f : JEntry → JEntry) : ProofSt :=
  { p with journal := p.journal.map fun j => if j.run.toNat = n % 4294967296 then f j else j }

/-- A new journal entry for a run's first exposure, on a plane with data `sh`; a guest's run is marked (R166). -/
def State.openRun (s : State) (t : Nat) (sh : Shadow) (origin : Origin) (guest : Bool) : State :=
  let now := s.now
  s.modTray t fun x =>
    let j : JEntry :=
      { run := x.proof.runs, first := x.cnt.exposures, isB := sh.isB, gen := sh.gen, calGen := x.cal.gen,
        fine := x.fineUse, vstep := x.vUse, epoch := x.proof.epoch, pattern := x.proof.pattern,
        crc := crc32c ((sh.rows.flatMap fun r => r.map (BitVec.ofInt 8)) ++ sh.exps.map (BitVec.ofInt 8)),
        startNs := now.ns, startS := now.s.setWidth 32, endNs := now.ns, origin := origin,
        flags := (packW [(1, nb guest), (2, nb (origin.expSrc == 3 && !guest))]).setWidth 6 }
    { x with proof := { x.proof with runs := x.proof.runs + 1, runCount := satAdd x.proof.runCount 1, runOpen := true,
                                     journal := (j :: x.proof.journal).take 512,
                                     shadows := (sh :: x.proof.shadows.filter (· != sh)).take 4 } }

/-- The number of the open run. -/
def Tray.run (t : Tray) : Nat := (t.proof.runs - 1).toNat

/-! ### Settling an exposure (R55, R165, R170) -/

/-- Exposures of an attempt counted (R70, R161, R178). -/
def Tray.countExp (t : Tray) (clips : Nat) : Tray :=
  { t with
    cnt := { t.cnt with exposures := satAdd t.cnt.exposures 1, beats := satAdd t.cnt.beats 1, clips := satAdd t.cnt.clips clips },
    flags := if clips = 0 then t.flags else t.flags ||| 0x40,
    proof := { t.proof with inEpoch := t.proof.inEpoch + 1, rateExp := t.proof.rateExp + 1 } }

/-- A pending exposure by its number. -/
def Tray.pending? (t : Tray) (x : Nat) : Option Pend := t.pend.find? fun p => p.id == x

/-- A pending exposure changed. -/
def Tray.modPend (t : Tray) (x : Nat) (f : Pend → Pend) : Tray :=
  { t with pend := t.pend.map fun p => if p.id = x then f p else p }

/-- The exposure's result reaches the accumulator, once (R55, R170): its vector, its flags, its
descriptor; where the analogue result `e1` stands it enters the monitor (R171). -/
def State.accumulateNow (s : State) (t : Nat) (p : Pend) (xs : List (Word × FFlags)) (e1 : Option Int) : State :=
  let s := s.modTray t fun x =>
    let r := accAll x.acc p.acc p.add xs
    { x with acc := r.1, flags := x.flags ||| flagBits r.2, pend := x.pend.filter fun q => q.id != p.id,
             proof := { x.proof with mon := match e1 with
               | some e => { x.proof.mon with cur := (x.proof.mon.cur.1 + e, x.proof.mon.cur.2 + 1) }
               | none => x.proof.mon } }
  s.expDone p.desc

/-- The accumulator vectors that an ACC_READ or ACC_WRITE names (R142, R143). -/
def accNames (d : BitVec 512) (v : Nat) : Bool := decide (dN d 0x18 2 ≤ v) && decide (v < dN d 0x18 2 + dN d 0x1A 2)

/-- A thread's read or write of a vector that was accepted before the exposure was admitted is still to be served
(R56, R103). -/
def State.accHeld (s : State) (t : Nat) (p : Pend) : Bool :=
  s.movers.any fun m => m.tray == t && (dN m.d 0 1 == 0x23 || dN m.d 0 1 == 0x24) && accNames m.d p.acc && decide (m.adm ≤ p.adm)

/-- A settled exposure reaches the accumulator, after the reads and writes of its vector that come before it; until then it stays
in the pending store (R173). -/
def State.accumulate (s : State) (t : Nat) (p : Pend) (xs : List (Word × FFlags)) (e1 : Option Int) : State :=
  if s.accHeld t p then
    s.modTray t fun x => x.modPend p.id fun q =>
      { q with acc := p.acc, add := p.add, phase := .settled, res := xs.map fun y => (y.1, y.2.nan, y.2.ovf, y.2.ufl), resE1 := e1 }
  else s.accumulateNow t p xs e1

/-- The settled exposures of a tray whose reads and writes have been served. -/
def State.flushLate (s : State) (t : Nat) : State :=
  ((s.tray t).pend.filter fun p => p.phase == .settled).foldl (fun s p =>
    if s.accHeld t p then s
    else s.accumulateNow t p (p.res.map fun y => (y.1, ⟨y.2.1, y.2.2.1, y.2.2.2⟩)) p.resE1) s

/-- One attempt at an exposure: the outputs that it gave are kept in the pending store. A re-run is checked under the pattern in
force and the T of its first attempt (R165, R186). -/
def State.attempt (s : State) (t : Nat) (p : Pend) : Pend :=
  let x := s.tray t
  let p := if p.first.isSome then p else { p with fine := x.fineUse, k := s.proofK, allow := x.proof.allow, run0 := x.run,
                                                  expNo0 := x.cnt.exposures.toNat }
  { p with outs := (s.shot t p.m p.sh p.hold).outs, pat := x.proof.pattern, epoch := x.proof.epoch, phase := .piped, run := x.run,
           expNo := x.cnt.exposures.toNat, runs := x.run :: p.runs.filter (· != x.run) }

/-! ### Referees (R167, R169) -/

/-- The lowest READY logical cluster of a READY tray whose LEVEL is 0. -/
def State.refereeIn (s : State) (t : Nat) (no : Option Nat) : Option Nat :=
  if (s.tray t).ctl.st = .ready then
    (s.clustersOfTray t).find? fun c =>
      (s.cluster c).ctl.st == .ready && clusterLevel (s.cluster c).lad == 0 && some c != no
  else none

/-- The trays in the order of R167 from logical index `i` of a bay on, but for the missing tray `t`: round that bay, then the site's
other bays, then the other sites from the next one. -/
def State.refereeOrder (s : State) (t bay i : Nat) : List Nat :=
  let ps := siteOfBay bay
  let inBay := (List.range 8).map fun j => bay * 9 + s.trayIdx bay ((i + j) % 8)
  let bays := ((List.range 8).filter fun b => ps * 8 + b != bay).flatMap fun b => s.traysOfBay (ps * 8 + b)
  let n := s.siteCount
  let sites := ((List.range n).drop 1).flatMap fun j => s.traysOfSite (s.fuse.sites.getD ((s.logSite ps + j) % n) 0)
  (inBay ++ bays ++ sites).filter (· != t)

/-- The first referee, or the second (R169), from logical index `i` of a bay on; `no` is the first. -/
def State.referee (s : State) (t bay i : Nat) (no : Option Nat) : Option Nat :=
  (s.refereeOrder t bay i).findSome? fun y => s.refereeIn y no

/-- The second referee: the search starts at the tray after the first one's (R169). -/
def State.secondReferee (s : State) (t : Nat) (ref1 : Option Nat) : Option Nat :=
  match ref1 with
  | some c => s.referee t (bayOfTray (trayOfCluster c)) (((s.logTray (trayOfCluster c)).getD 0 + 1) % 8) (some c)
  | none => s.referee t (bayOfTray t) (s.partnerIdx t) none

/-- The product of a referee is device work of 128 cycles on one core of its cluster (R94, R167). -/
def State.refereeWork (s : State) (c : Option Nat) : State :=
  match c with
  | some c => s.modCore (c * 16) fun x => { x with devWork := x.devWork + 128 }
  | none => s

/-- The choice made again for exposures that await a referee (R167, R186): one that has none, or whose referee's
cluster no longer works. -/
def State.chooseRefs (s : State) (t : Nat) : State :=
  (s.tray t).pend.foldl (fun s p =>
    let gone (c : Option Nat) : Bool := match c with
      | some c => (s.cluster c).ctl.st == .held || (s.cluster c).ctl.st == .failed || (s.cluster c).ctl.st == .resetting ||
          (s.cluster c).ctl.st == .mappedOut || (s.cluster c).ctl.st == .off || (s.cluster c).ctl.st == .starting
      | none => true
    if p.phase = .awaitRef ∧ gone p.ref1 ∧ p.out1 = [] then
      let c := s.referee t (bayOfTray t) (s.partnerIdx t) none
      (s.modTray t fun x => x.modPend p.id fun q => { q with ref1 := c }).refereeWork c
    else if p.phase = .secondRef ∧ gone p.ref2 then
      let c := s.secondReferee t p.ref1
      (s.modTray t fun x => x.modPend p.id fun q => { q with ref2 := c }).refereeWork c
    else s) s

/-- A request for a strip on a tray (R249): it raises the priority of one that waits, and then counts from now, so that requests of a
priority are served oldest first. -/
def State.askStrip (s : State) (t prio : Nat) : State :=
  let now := s.up
  s.modTray t fun x =>
    { x with light := { x.light with req := match x.light.req with
        | some r => if prio < r.prio then some ⟨prio, now⟩ else some r
        | none => some ⟨prio, now⟩ } }

/-- A running strip abandoned, to start again from its beginning (R251). -/
def State.dropStrip (s : State) (t : Nat) : State :=
  match (s.tray t).light.stripRun with
  | some r => (s.modTray t fun x => { x with light := { x.light with stripRun := none } }).askStrip t r.prio
  | none => s

/-- An exposure or a swap that completes with PLANE_EMPTY: SWAP_REJECT is set and TRAY_REJECTS counts it (R60, R74). -/
def Tray.rejected (t : Tray) : Tray :=
  { t with flags := t.flags ||| 2, cnt := { t.cnt with rejects := satAdd t.cnt.rejects 1 } }

end Sys2Proof.Machine
end

