-- ==== Sys2Proof/Machine/Threads.lean ====
section
/-! DEFINITION. The rows of cores and threads (04): issue, dispatch, tallies, clock steps and chain fetches. -/

set_option Elab.async false

namespace Sys2Proof.Machine

/-! ### Issue (R93, R94, R96, R114) -/

/-- A core issues in READY and DRAINING. -/
def issues (st : UState) : Bool := st == .ready || st == .draining

/-- The slot whose turn comes after slot `n`: the next READY one above it, else the first, which begins a new round. -/
def Core.nextTurn (c : Core) (n : Nat) : Option Nat :=
  let rdy := (List.range 8).filter fun i => (SMap.find c.slots i).any fun t => t.st == .ready
  match rdy.find? fun i => decide (n < i) with
  | some i => some i
  | none => rdy.head?

/-- The thread that has the turn keeps it for up to 2^p cycles while it stays READY (R94). -/
def Core.keepsTurn (c : Core) : Bool :=
  match SMap.find c.slots c.turn with
  | some t => t.st == .ready && decide (0 < c.used) && decide (c.used < 2 ^ t.prio.toNat)
  | none => false

/-- The slots whose turns a full round takes, from the one after slot `n` on (R94). -/
def roundFrom (n : Nat) : List Nat := (List.range 8).map fun i => (n + 1 + i) % 8

/-- The part of the round after the last burst of device work that is still to come: the turn that has just ended is past. -/
def Core.owes (c : Core) : List Nat := if c.owed.head? = some c.turn ∧ !c.keepsTurn then c.owed.tail else c.owed

/-- A thread is READY whose turn that round still owes. -/
def Core.owesTurn (c : Core) : Bool := c.owes.any fun n => (SMap.find c.slots n).any fun t => t.st == .ready

/-- A cycle of device work, in bursts of at most 128; after a burst the threads are owed a full round (R94). -/
def State.deviceCycle (s : State) (k : Nat) : State :=
  (s.modCore k fun c =>
    let ends := c.burst == 127 || c.devWork == 1
    { c with devWork := c.devWork - 1, burst := if ends then 0 else c.burst + 1, owed := if ends then roundFrom c.turn else [] }).modCluster
      (clusterOfCore k) fun x => { x with device := satAdd x.device 1 }

/-- A cycle of a thread, which ends a burst of device work: counted where the core issues; where a HOLD is in effect the thread goes to
HELD instead. -/
def State.threadCycle (s : State) (k n : Nat) (used : Nat) (owed : List Nat) : State :=
  let s := s.modCore k fun c => { c with turn := n, used := used, owed := owed, burst := 0 }
  if issues (s.core k).ctl.st then
    (s.modCore k fun c => { c with issue := satAdd c.issue 1 }).modCluster (clusterOfCore k) fun x =>
      { x with issue := satAdd x.issue 1 }
  else if (s.core k).ctl.st = .held then
    match s.thread? k n with
    | some t => s.setThread k n { t with st := .held }
    | none => s
  else s

/-- One cycle of the issue stage. -/
def State.issueCycle (s : State) (k : Nat) : State :=
  let c := s.core k
  let rdy := c.slots.any fun e => e.2.st == .ready
  let s := if c.slots ≠ [] ∧ !rdy then
      s.modCluster (clusterOfCore k) fun x => { x with stall := satAdd x.stall 1 }
    else s
  if 0 < c.devWork ∧ !c.owesTurn ∧ (issues c.ctl.st ∨ c.ctl.st = .held) then s.deviceCycle k
  else if c.keepsTurn then s.threadCycle k c.turn (c.used + 1) c.owed
  else match c.nextTurn c.turn with
    | some n => s.threadCycle k n 1 (c.owes.dropWhile (· ≠ n))
    | none => s

/-- What the current descriptor of a thread holds is given up (R96, R111): its queue entries not yet admitted, its
movement, its request, its range. -/
def State.dropCurrent (s : State) (k n : Nat) : State :=
  match s.thread? k n with
  | none => s
  | some t =>
    match t.wait with
    | .mover id =>
      let s := (s.fab.xfers.filter fun x => x.mine && x.op == some id).foldl State.abortXfer s
      s.scrapMovers fun m => m.id == id
    | .child r => { s with starts := s.starts.filter fun (x : StartReq) => x.id ≠ r }
    | .append slot first => (s.scrapAppend slot.toNat first.toNat).seqDone slot.toNat first.toNat
    | .queue =>
      match t.desc, t.cur with
      | some d, some w =>
        let rest := if dN w 0 1 = 0x20 then dN w 0x18 4 - t.prog else 1
        match s.outst.find? fun o => o.id == d with
        | some o =>
          if o.left ≤ rest then s.land d
          else { s with outst := s.outst.map fun (x : Outst) => if x.id = d then { x with left := x.left - rest } else x }
        | none => s
      | _, _ => s
    | _ => s

/-- The completion tally that a thread's current descriptor still owes, if its operation has not been opened. -/
def State.curCt (s : State) (k : Nat) (t : Thread) : Option (Nat × BitVec 6) :=
  if t.desc.isSome then none else t.cur.bind fun d => (s.ctOf k t d).getD none

/-- An uncorrectable local store error ends the thread: its descriptor completes with UNCORRECTABLE (R96). -/
def State.lsUncorr (s : State) (k n : Nat) : State :=
  match s.thread? k n with
  | none => s
  | some t =>
    let s := s.modCluster (clusterOfCore k) fun x => { x with flags := x.flags ||| 8 }
    if t.st = ThState.ending then s
    else
      let ct := s.curCt k t
      let s := s.dropCurrent k n
      let s := match ct with
        | some (c, i) => (s.tallySend c { tally := i, isSet := false, v := 1, thread := t.id, mark := s.nextId }).fresh
        | none => s
      s.threadEnd k n (some 0x0203)

def State.coreCycle (s : State) (k : Nat) (ecc : LsEcc) : State :=
  let s := s.issueCycle k
  match ecc with
  | .clean => s
  | .corrected => s.modCluster (clusterOfCore k) fun x => { x with flags := x.flags ||| 4 }
  | .uncorrectable n => s.lsUncorr k n.toNat

/-- A command at the core that an address names. -/
def State.onCore (s : State) (u : UnitAddr) (f : State → Nat → State) : State :=
  match s.coreAt u with
  | some k => f s k
  | none => s

def execCoreIssueCycle (c : UnitAddr) (ecc : LsEcc) (s : State) : Out := .next (s.onCore c fun s k => s.coreCycle k ecc)

/-! ### Dispatch (R105-R107, R223) -/

/-- A range of bytes from `pc` that the thread reaches for execution (R122). -/
def State.fetchFault (s : State) (c : CtxNo) (pc : Nat) : Option Code :=
  if !(s.ctx c).inRegion pc 64 then some 0x0102
  else if !(s.ctx c).translates pc then some 0x0202
  else s.readFault c pc 64

/-- The tray of a unit of level 3, 4 or 5. -/
def placeTray : URef → Option Nat
  | .tray t => some t
  | .cluster c => some (trayOfCluster c)
  | .core k => some (trayOfCore k)
  | _ => none

/-- A unit is FAILED or fenced, by itself or by the unit that it lies in (R33, R106, R433). -/
def State.closed (s : State) : URef → Bool
  | .tray t => (s.tray t).ctl.st == .failed || (s.tray t).ctl.fence
  | .cluster c => (s.cluster c).ctl.st == .failed || (s.tray (trayOfCluster c)).ctl.st == .failed || (s.clusterCtl c).fence
  | .core k => (s.core k).ctl.st == .failed || (s.cluster (clusterOfCore k)).ctl.st == .failed ||
      (s.tray (trayOfCore k)).ctl.st == .failed || (s.coreCtl k).fence
  | _ => false

/-- The judgement of a start request (R106), for a context that is not in RESETTING: the code it ends with, if any. -/
def State.judgeStart (s : State) (c : CtxNo) (place : UnitAddr) (ls : Nat) : Option Code :=
  let x := s.ctx c
  if x.st = 2 then some 0x0501
  else
    let u := if uPhys place then none else s.resolve place
    match u, u.bind placeTray with
    | some u, some t =>
      if (s.tray t).owner ≠ x.pid then some 0x0505
      else if ls = 0 ∨ 16 < ls then some 0x0104
      else if s.tquota x = 0 then some 0x0504
      else if s.closed u then some 0x0501
      else none
    | _, _ => some 0x0505

/-- The lowest free slot of a core, with the lowest window of `n` granules that fits. -/
def Core.room (c : Core) (n : Nat) : Option (Nat × Nat) :=
  let taken (g : Nat) : Bool := c.slots.any fun e => decide (e.2.base ≤ g) && decide (g < e.2.base + e.2.size)
  match (List.range 8).find? fun i => (SMap.find c.slots i).isNone,
        (List.range (17 - n)).find? fun b => (List.range n).all fun i => !taken (b + i) with
  | some i, some b => some (i, b)
  | _, _ => none

/-- Where a READY core takes a thread: core, slot, first granule. -/
def State.coreTakes (s : State) (n k : Nat) : Option (Nat × Nat × Nat) :=
  if (s.core k).ctl.st = .ready then ((s.core k).room n).map fun x => (k, x.1, x.2) else none

/-- The lowest-numbered core of a READY cluster that can take a thread (R107). -/
def State.clusterTakes (s : State) (n c : Nat) : Option (Nat × Nat × Nat) :=
  if (s.cluster c).ctl.st = .ready then (coresOfCluster c).findSome? (s.coreTakes n) else none

/-- Where a unit takes a thread (R107): at tray level the lowest-numbered logical cluster that can. -/
def State.unitTakes (s : State) (n : Nat) : URef → Option (Nat × Nat × Nat)
  | .tray t => (s.clustersOfTray t).findSome? (s.clusterTakes n)
  | .cluster c => s.clusterTakes n c
  | .core k => if (s.cluster (clusterOfCore k)).ctl.st = .ready then s.coreTakes n k else none
  | _ => none

/-- An earlier START of the same ring has not ended (R218, SERIAL). -/
def State.serialHeld (s : State) (k : Nat) : Bool :=
  match s.sub? k with
  | some x => s.subs.any fun e => e.2.live && e.2.ctx == x.ctx && e.2.ring == x.ring && e.2.entry != x.entry &&
      decide ((x.entry - e.2.entry).toNat < 2147483648)
  | none => false

/-- Where a waiting request can go now: quota, order and room allow (R105, R106). -/
def State.placeOf (s : State) (r : StartReq) : Option (Nat × Nat × Nat) :=
  if (s.ctx r.ctx).st = 1 ∧ s.ctxThreads r.ctx < s.tquota (s.ctx r.ctx) ∧ !(r.serial && s.serialHeld r.sub) then
    (s.resolve r.place).bind (s.unitTakes r.lsKib)
  else none

/-- A request turned into a thread, which waits for its first fetch; a submission's first dispatch writes its record
RUNNING (R223); a THREAD_START that asked for it completes (R133). -/
def State.startThread (s : State) (r : StartReq) (k n b : Nat) : State :=
  let t : Thread := { id := s.nextId, ctx := r.ctx, pid := (s.ctx r.ctx).pid, sub := r.sub, prio := (s.ctx r.ctx).prio, base := b,
                      size := r.lsKib, pc := r.chain, ended := r.ended }
  let s := { s with starts := s.starts.filter fun (x : StartReq) => x.id ≠ r.id }
  let s := s.fresh.setThread k n t
  let now := s.now
  let s := match s.sub? r.sub with
    | some x =>
      let x := { x with threads := x.threads + 1 }
      if x.st = 1 then s.rewrite { x with st := 2, start := now, seq := x.seq + 1 } else s.setSub r.sub x
    | none => s
  match r.parent with
  | some (pk, pn) =>
    match s.thread? pk pn.toNat with
    | some p =>
      match p.cur with
      | some d => s.completeNow pk pn.toNat d ((s.ctOf pk p d).getD none)
      | none => s
    | none => s
  | none => s

/-- A request dispatched: the failure of a submission's first fetch ends it from QUEUED (R221). -/
def State.dispatch (s : State) (r : StartReq) (k n b : Nat) : State :=
  match if r.first then s.fetchFault r.ctx r.chain.toNat else none with
  | some code => s.refuseStart r code
  | none => s.startThread r k n b

/-- The requests that cluster `c` can take now, in order of arrival, with their places. One that finds no room or quota holds none back
(R107 says which is served first and not whether it may be passed: DESIGN CHOICE, log entry 82). -/
def State.ableAt (s : State) (c : Nat) : List (StartReq × Nat × Nat × Nat) :=
  s.starts.filterMap fun r => match s.placeOf r with
    | some p => if clusterOfCore p.1 = c then some (r, p) else none
    | none => none

/-- The first of the highest priority (R107). -/
def State.topStart (s : State) (l : List (StartReq × Nat × Nat × Nat)) : Option (StartReq × Nat × Nat × Nat) :=
  l.foldl (fun a x => match a with
    | some y => if (s.ctx y.1.ctx).prio.toNat < (s.ctx x.1.ctx).prio.toNat then some x else a
    | none => some x) none

/-- A dispatch at a cluster. -/
def State.dispatchAt (s : State) (c : Nat) : State :=
  match s.topStart (s.ableAt c) with
  | some (r, k, n, b) => s.dispatch r k n b
  | none => s

/-- A command at the cluster that an address names. -/
def State.onCluster (s : State) (u : UnitAddr) (f : State → Nat → State) : State :=
  match s.clusterAt u with
  | some c => f s c
  | none => s

def execThreadDispatch (u : UnitAddr) (s : State) : Out := .next (s.onCluster u State.dispatchAt)

/-! ### The end of a thread (R93, R96) -/

/-- The window of an ended thread is clear and its slot FREE. The window is not clear while an ASYNC movement of the thread still reads or
writes it (R96, R125; log entry 81). -/
def State.windowDone (s : State) (k n : Nat) : State :=
  match s.thread? k n with
  | some t =>
    if t.st = ThState.ending ∧ !(s.movers.any fun m => m.thread == t.id && usesWindow m.d) then
      s.modCore k fun c => { c with slots := SMap.del c.slots n, ls := Memory.zero c.ls (1024 * t.base) (1024 * t.size) }
    else s
  | none => s

def execWindowCleared (c : UnitAddr) (k : SlotNo) (s : State) : Out := .next (s.onCore c fun s x => s.windowDone x k.toNat)

/-! ### Tallies (R98-R100, R134) -/

/-- The value of a tally of a cluster. -/
def State.tally (s : State) (c : Nat) (i : BitVec 6) : Word := SMap.get (s.cluster c).tallies i.toNat 0

/-- The descriptor of a thread whose wait is over completes, with its completion ADD. -/
def State.completeCur (s : State) (k n : Nat) : State :=
  match s.thread? k n with
  | some t =>
    match t.cur with
    | some d => s.completeNow k n d ((s.ctOf k t d).getD none)
    | none => s
  | none => s

/-- A wait that its tally satisfies ends (R100): a pre-wait leaves the thread READY, a WAIT completes. -/
def State.judgeWait (s : State) (k n : Nat) : State :=
  match s.thread? k n with
  | none => s
  | some t =>
    match t.wait with
    | .pre i v =>
      if v.toNat ≤ (s.tally (clusterOfCore k) i).toNat then
        s.setThread k n { t with st := .ready, wait := .none, waited := true }
      else s
    | .tally i v _ => if v.toNat ≤ (s.tally (clusterOfCore k) i).toNat then s.completeCur k n else s
    | _ => s

/-- The waits of the threads of a cluster, evaluated after a change of a tally. -/
def State.judgeWaits (s : State) (c : Nat) : State :=
  (s.storedCoresOf c).foldl (fun s k => ((s.core k).slots.map (·.1)).foldl (fun s n => s.judgeWait k n) s) s

/-- An ADD, saturating, or a SET (R98). -/
def Cluster.tallyOp (c : Cluster) (op : TallyOp) : Cluster :=
  let old := SMap.get c.tallies op.tally.toNat 0
  let v := if op.isSet then op.v else satAdd old op.v.toNat
  { c with tallies := if v = 0 then SMap.del c.tallies op.tally.toNat else SMap.put c.tallies op.tally.toNat v,
           flags := if !op.isSet && decide (2 ^ 32 ≤ old.toNat + op.v.toNat) then c.flags ||| 1 else c.flags }

/-- A thread's writes before number `mark` are visible: no movement of it is on its way, and no site holds one (R100, R194). -/
def State.seen (s : State) (thread mark : Nat) : Bool :=
  !(s.movers.any fun m => m.thread == thread && decide (m.desc < mark)) && !s.heldFor (.thread thread mark)

/-- The first operation on its way whose thread's earlier writes are visible. -/
def State.arrives (s : State) (l : List TallyOp) : Option TallyOp := l.find? fun op => s.seen op.thread op.mark

/-- An operation arrives at its cluster: it is applied, its TALLY descriptor completes, and the waits are evaluated. One whose thread a
reset has absorbed on its way is applied all the same (R158 leaves its destination undefined: DESIGN CHOICE, log entry 83). -/
def State.tallyArrive (s : State) (c : Nat) : State :=
  match s.arrives (s.cluster c).inflight with
  | none => s
  | some op =>
    let s := s.modCluster c fun x => { (x.tallyOp op) with inflight := x.inflight.erase op }
    let s := match op.desc, s.threadAt op.thread with
      | some d, some (k, n) =>
        if (s.thread? k n).any fun (t : Thread) => t.wait == Wait.opArrive d then s.completeCur k n else s
      | _, _ => s
    s.judgeWaits c

def execTallyApply (u : UnitAddr) (s : State) : Out := .next (s.onCluster u State.tallyArrive)

/-- A WAIT with a timeout reaches it (R134). -/
def State.waitTimeout (s : State) (k n : Nat) : State :=
  match s.thread? k n with
  | some t =>
    match t.wait with
    | .tally _ _ us => if us = 0 then s else s.endWait k n 0x0106
    | _ => s
  | none => s

def execTallyWaitTimeout (c : UnitAddr) (k : SlotNo) (s : State) : Out := .next (s.onCore c fun s x => s.waitTimeout x k.toNat)

/-! ### Clock steps (R112) -/

/-- The step that a cluster is heading for comes into use. -/
def State.clockStep (s : State) (c : Nat) : State :=
  let v := s.clkGoal c
  s.modCluster c fun x => { x with clkUse := v }

def execClockStepApply (u : UnitAddr) (s : State) : Out := .next (s.onCluster u State.clockStep)

/-! ### Priority and quota (R105, R108) -/

/-- A write of CTX_THREADS of the context that a privileged path shows: quota and priority, and the priority of its running
threads. -/
def State.threadsWrite (s : State) (p : Path) (v : Word) : State :=
  if !s.priv p then s
  else
    let c := s.shownCtx p
    let pr := BitVec.ofNat 2 (bitsOf v 25 24)
    let s := s.setCtx c { s.ctx c with prio := pr, tquota := some (BitVec.ofNat 22 (min (bitsOf v 21 0) s.threadCount)) }
    { s with cores := s.cores.map fun (e : Nat × Core) =>
        (e.1, { e.2 with slots := e.2.slots.map fun x => if x.2.ctx = c then (x.1, { x.2 with prio := pr }) else x }) }

def execCtxThreadsWrite (p : Path) (v : Word) (s : State) : Out := .next (s.threadsWrite p v)

/-! ### Chain fetches (R122) -/

/-- The descriptor at an address of a context's space. -/
def State.descAt (s : State) (c : CtxNo) (pc : Nat) : BitVec 512 := BitVec.ofNat 512 (leNat (s.devRead c pc 64))

/-- The descriptor after `pc`, read ahead where it can be. -/
def State.ahead (s : State) (c : CtxNo) (pc : BitVec 48) : Option (BitVec 512) :=
  let a := pc.toNat + 64
  if (s.fetchFault c a).isNone then some (s.descAt c a) else none

/-- The fetch that a thread waits for completes, or fails and ends the thread. -/
def State.fetched (s : State) (k n : Nat) : State :=
  match s.thread? k n with
  | none => s
  | some t =>
    if t.wait ≠ .fetch then s
    else
      let next := s.ahead t.ctx t.pc
      match t.nxt with
      | some d => s.setThread k n { t with cur := some d, nxt := next, st := .ready, wait := .none }
      | none =>
        if s.readHeld t.ctx t.pc.toNat 64 then s else
        match s.fetchFault t.ctx t.pc.toNat with
        | some code => s.threadEnd k n (some code)
        | none =>
          let d := s.descAt t.ctx t.pc.toNat
          (s.setThread k n { t with cur := some d, nxt := next, st := .ready, wait := .none }).devTouch t.ctx t.pc.toNat 64

def execChainFetchDone (c : UnitAddr) (k : SlotNo) (errs : List MemErr) (s : State) : Out :=
  .next ((s.meet errs).onCore c fun s x => s.fetched x k.toNat)

end Sys2Proof.Machine
end

