-- ==== Sys2Proof/Machine/Tray.lean ====
section
/-! DEFINITION. The rows of the exposure unit (02): exposures, loads, swaps, refreshes, run boundaries and settling. -/

set_option Elab.async false

namespace Sys2Proof.Machine

/-- The tray works on its queues: READY or DRAINING, with no device hold and no restore (R31, R71, R177). -/
def Tray.works (t : Tray) : Bool :=
  (t.ctl.st == .ready || t.ctl.st == .draining) && !t.light.devHold && !t.restoring

/-- The weight DACs are free for a load to start: an in-place refresh and the VSTEP pause take them (R58). -/
def Tray.dacsFree (t : Tray) : Bool := t.works && !t.vPause && t.inplace.isNone

/-- The tray makes exposures and swaps: it works, and no pause, settling or in-place refresh lasts (R62, R64). -/
def Tray.runs (t : Tray) : Bool := t.dacsFree && !t.settle

/-- A change of a tray named by an address, where it names one. -/
def State.onTray (s : State) (u : UnitAddr) (f : State → Nat → State) : State :=
  match s.trayAt u with
  | some t => f s t
  | none => s

/-! ### Exposures (R60, R61, R67, R70, R173) -/

/-- A beat with nothing to expose. -/
def State.idleBeat (s : State) (t : Nat) : State :=
  s.modTray t fun x => { x with cnt := { x.cnt with beats := satAdd x.cnt.beats 1, idle := satAdd x.cnt.idle 1 } }

/-- A beat in which a swap waits for a load. -/
def State.waitBeat (s : State) (t : Nat) : State :=
  s.modTray t fun x => { x with cnt := { x.cnt with beats := satAdd x.cnt.beats 1, loadwait := satAdd x.cnt.loadwait 1 } }

/-- The input vector of an exposure: mantissas and block exponent of vector `v` of the group at `g` (R48). -/
def Tray.vector (t : Tray) (g v : Nat) : List Int × Int :=
  ((List.range 32).map fun j => (Memory.read t.tb (g + 32 * v + j)).toInt, (Memory.read t.tb (g + 2048 + v)).toInt)

/-- The plane that made an exposure is still ACTIVE (R165). -/
def Tray.samePlane (t : Tray) (p : Pend) : Bool :=
  t.hasActive && t.activeB == p.sh.isB && t.active.data.gen == p.sh.gen

/-- An attempt made, counted, journalled and put into the pending store as `p`. It counts in the run of the plane now ACTIVE; where
that is another plane than made the exposure, the attempt is made from the exposure's shadow, under its plane's last draw, and loads
nothing (DESIGN CHOICE, log entry 73). -/
def State.expose (s : State) (t : Nat) (p : Pend) : State :=
  let x := s.tray t
  let s := if x.proof.runOpen then s else s.openRun t x.active.data x.active.origin false
  let p := if x.samePlane p then { p with hold := x.active.hold } else p
  let clips := (s.shot t p.m p.sh p.hold).clips
  let gam := s.keepGains t
  let q := s.attempt t p
  let now := s.now
  (s.modTray t fun x =>
    let x := x.countExp clips
    { x with
      pend := (x.pend.filter fun r => r.id != q.id) ++ [q], idleAt := false, gam := gam,
      proof := x.proof.modRun q.run fun j =>
        { j with count := satAdd j.count 1, endNs := now.ns,
                 replays := if q.isReplay then satAdd j.replays 1 else j.replays,
                 flags := if clips = 0 then j.flags else j.flags ||| 0x20 } }).draw

/-- A replay, from its copy and its plane shadow: a fresh first attempt (R175). -/
def State.replay (s : State) (t : Nat) (p : Pend) : State :=
  (s.expose t { p with first := none, rerun := none, isReplay := true }).subReplayed p.sub

/-- The pending exposure that is replayed next: replays run in admission order (R175). -/
def Tray.nextReplay (t : Tray) : Option Pend :=
  (t.pend.filter fun p => p.phase == .replay).foldl (fun b p => match b with
    | some q => if p.adm < q.adm then some p else b
    | none => some p) none

/-- The exposure at the head of the queue, or its PLANE_EMPTY where no plane is ACTIVE (R60, R139). -/
def State.exposeHead (s : State) (t adm g v a : Nat) (add : Bool) (d u : Option Nat) (rest : List QEntry) : State :=
  let s := s.modTray t fun x => { x with expQ := rest }
  if (s.tray t).hasActive then
    let x := s.tray t
    let w := x.vector g v
    s.fresh.expose t
      { id := s.nextId, m := w.1, e := w.2, acc := a, add := add, desc := d, sub := u, sh := x.active.data, adm := adm,
        hold := x.active.hold }
  else ((s.modTray t Tray.rejected).deferred u 0x0105).expDone d

/-- One beat of the exposure path (R67, R70). A swap-refresh that is due is made before it (R62). -/
def State.exposureBeat (s : State) (t : Nat) : State :=
  let x := s.tray t
  if !x.runs || x.refSwap then s
  else match x.nextReplay with
    | some p => if 16 < x.awaitRef then s.idleBeat t else s.replay t p
    | none =>
      if 16 < x.awaitRef || 256 ≤ x.pend.length then s.idleBeat t
      else match x.expQ with
        | .expo adm g v a add d u :: rest => s.exposeHead t adm g v a add d u rest
        | .swap _ _ _ :: _ => s.waitBeat t
        | [] => s.idleBeat t

def execExposureIssue (u : UnitAddr) (s : State) : Out := .next (s.onTray u fun s t => (s.flushLate t).exposureBeat t)

/-! ### Loads (R58, R59, R61, R140) -/

/-- The generation of the set whose lookups a load that starts now uses (R66). -/
def Tray.loadGen (t : Tray) : BitVec 16 := (t.staged.map fun c => c.gen).getD t.cal.gen

/-- The row exponents that a load starts from, by its source: MEMORY reads them row by row, KEEP takes those that the plane held, which
are zeros after a reset, and OTHER those of the ACTIVE plane (R58, R140). -/
def Tray.loadExps (t : Tray) (src : BitVec 2) : List Int :=
  if src = 1 then (if t.idlePlane.exps = [] then List.replicate 32 0 else t.idlePlane.exps)
  else if src = 2 then (if t.hasActive then t.active.data.exps else List.replicate 32 0)
  else []

/-- A load of the idle plane begins. -/
def Tray.beginLoad (t : Tray) (r : LoadRun) (st : PState) : Tray := { t with load := some r }.setIdle { t.idlePlane with st := st }

/-- A load at the head of the load queue starts on the idle plane: no load runs, no swap admitted before it waits, no swap-refresh is
due, and the weight DACs are free. -/
def State.startLoad (s : State) (t : Nat) : State :=
  let x := s.tray t
  match x.loadQ, x.load with
  | r :: rest, none =>
    let earlier := x.expQ.any fun e => match e with
      | .swap adm _ _ => decide (adm < r.adm)
      | .expo _ _ _ _ _ _ _ => false
    if x.dacsFree && !earlier && !x.refSwap then
      s.modTray t fun x => { x with loadQ := rest }.beginLoad
        { kind := .user, req := r, toB := !x.activeB, exps := x.loadExps r.src, calGen := x.loadGen } .loading
    else s
  | _, _ => s

def execLoadStart (u : UnitAddr) (s : State) : Out := .next (s.onTray u State.startLoad)

/-- The target plane of a running load, and the tray with it replaced. -/
def Tray.target (t : Tray) (r : LoadRun) : Plane := if r.toB then t.b else t.a
def Tray.setTarget (t : Tray) (r : LoadRun) (p : Plane) : Tray := if r.toB then { t with b := p } else { t with a := p }

/-- A load rejected at a row that holds -128 (R59). -/
def State.rejectLoad (s : State) (t : Nat) (r : LoadRun) : State :=
  let s := s.modTray t fun x =>
    ({ x with load := none, flags := x.flags ||| 4, cnt := { x.cnt with rejects := satAdd x.cnt.rejects 1 } }).setTarget r
      { x.target r with st := .invalid }
  (s.deferred r.req.sub 0x0104).expDone r.req.desc

/-- The row sums and the column sums of a plane (R52, R159). -/
def Shadow.ofRows (rows : List (List Int)) (exps : List Int) (gen : Byte) (isB : Bool) : Shadow :=
  { rows := rows, exps := exps, sums := rows.map fun r => r.foldl (· + ·) 0,
    cols := (List.range 32).map fun j => (rows.map fun r => r.getD j 0).foldl (· + ·) 0, gen := gen, isB := isB }

/-- A reload of the LOADED idle plane from its shadow in the background (R62). -/
def State.reload (s : State) (t : Nat) : State :=
  s.modTray t fun x => x.beginLoad
    { kind := .background, toB := !x.activeB, calGen := x.loadGen,
      req := { adm := x.adm, src := 3, image := 0, expsOff := 0, desc := none, sub := none, pid := 0, ctx := 0 } } .refreshing

/-- An idle plane that is LOADED under a set that is neither in use nor staged is rewritten from its shadow under the set in use, so
that no exposure mixes two sets (R66; after a set adopted while a plane is ACTIVE: log entry 74). -/
def State.rewriteIdle (s : State) (t : Nat) : State :=
  let x := s.tray t
  if x.idlePlane.st == .loaded && x.load.isNone && x.idlePlane.calGen != x.cal.gen && x.idlePlane.calGen != x.loadGen then s.reload t
  else s

/-- The plane that a load has completed, with the draw of its weight-hold error (R78). -/
def LoadRun.plane (r : LoadRun) (x : Tray) (now hold : Nat) : Plane :=
  let p := x.target r
  match r.kind with
  | .user =>
    { st := .loaded, gen := p.gen + 1, data := Shadow.ofRows r.rows r.exps (p.gen + 1) r.toB, exps := r.exps, written := now,
      calGen := r.calGen, hold := hold,
      origin := { expSrc := BitVec.ofNat 2 r.req.src.toNat, image := BitVec.ofNat 22 r.req.image,
                  expsOff := BitVec.ofNat 22 r.req.expsOff, pid := r.req.pid, ctx := r.req.ctx } }
  | .swapRefresh =>
    { x.active with st := .loaded, written := now, calGen := r.calGen, hold := hold,
                    data := { x.active.data with isB := r.toB }, origin := { x.active.origin with expSrc := 3 } }
  | .background => { p with st := .loaded, written := now, calGen := r.calGen, hold := hold }

/-- A load whose descriptor has been absorbed by a reset leaves its plane undefined (R158): its rows and exponents are free. -/
def LoadRun.loose (r : LoadRun) (f : Nat) : LoadRun :=
  { r with rows := (List.range 32).map fun i => (freeBytes f (32 * i) 32).map fun b => if b = 0x80 then 0 else b.toInt,
           exps := (freeBytes f 1024 32).map BitVec.toInt }

/-- A descriptor that admitted work of a tray is gone: a reset has absorbed it. -/
def State.gone (s : State) (d : Option Nat) : Bool := d.any fun i => !s.outst.any fun o => o.id == i

/-- The end of the 32nd row (R58, R62): a user load commits a new generation; a refresh keeps its source's, and a swap-refresh
follows it ahead of queued exposures, unless a user swap falls due in the same beat (R71). -/
def State.commitLoad (s : State) (t : Nat) (r : LoadRun) : State :=
  let now := s.up
  let hold := s.fv
  let r := if s.gone r.req.desc then r.loose hold else r
  let s := (s.modTray t fun (x : Tray) =>
    let swapDue : Bool := match x.expQ with
      | .swap _ _ _ :: _ => true
      | _ => false
    { x with load := none, refSwap := x.refSwap || (decide (r.kind = LoadKind.swapRefresh) && !swapDue),
             cnt := { x.cnt with refreshes := if r.kind = LoadKind.user then x.cnt.refreshes else satAdd x.cnt.refreshes 1 } }.setTarget r
      (r.plane x now hold)).draw
  (s.rewriteIdle t).expDone r.req.desc

/-- The next weight row of a load: from the tray buffer, or from the shadow that a refresh rewrites. -/
def Tray.nextRow (t : Tray) (r : LoadRun) : List Int :=
  let i := r.rows.length
  match r.kind with
  | .user => (List.range 32).map fun j => (Memory.read t.tb (r.req.image + 32 * i + j)).toInt
  | .swapRefresh => t.active.data.rows.getD i []
  | .background => (t.target r).data.rows.getD i []

/-- A row of an in-place refresh: the active plane is rewritten from its shadow over 32 dead beats, which count while the tray is READY or
DRAINING; the 32nd ends it with a run boundary (R62, R66, R70). -/
def State.inplaceRow (s : State) (t n : Nat) : State :=
  let now := s.up
  let hold := s.fv
  let s := s.modTray t fun x =>
    let on := x.ctl.st == .ready || x.ctl.st == .draining
    { x with inplace := some (n + 1),
             cnt := if on then { x.cnt with dead := satAdd x.cnt.dead 1, beats := satAdd x.cnt.beats 1 } else x.cnt }.setActive
      { x.active with written := now }
  if n + 1 < 32 then s
  else
    let s := (s.modTray t fun x =>
      { x with inplace := none, flags := x.flags ||| 1, cnt := { x.cnt with refreshes := satAdd x.cnt.refreshes 1 } }.setActive
        { x.active with st := .active, calGen := x.loadGen, hold := hold, origin := { x.active.origin with expSrc := 3 } }).draw
    (s.boundary t).rewriteIdle t

/-- The weight DACs write a row: of an in-place refresh, for which a running load rests, or of the load; they rest during a VSTEP
pause (R58). -/
def State.loadRow (s : State) (t : Nat) : State :=
  let x := s.tray t
  if x.vPause then s
  else match x.inplace, x.load with
    | some n, _ => s.inplaceRow t n
    | none, none => s
    | none, some r =>
      let row := x.nextRow r
      if row.contains (-128) then s.rejectLoad t r
      else
        let exps := if r.kind = .user ∧ r.req.src = 0 then
          r.exps ++ [(Memory.read x.tb (r.req.expsOff + r.rows.length)).toInt] else r.exps
        let r := { r with rows := r.rows ++ [row], exps := exps }
        if r.rows.length = 32 then s.commitLoad t r
        else
          let now := s.up
          s.modTray t fun x => { x with load := some r }.setTarget r { x.target r with written := now }

def execLoadRowWrite (u : UnitAddr) (s : State) : Out := .next (s.onTray u State.loadRow)

/-! ### Swaps (R60) -/

/-- The planes exchange roles over 3 dead beats, at a run boundary; the former ACTIVE plane is EMPTY. -/
def State.exchange (s : State) (t : Nat) : State :=
  let s := s.modTray t fun x =>
    let old := x.active
    let new := x.idlePlane
    let x := { x with idleAt := false,
                      cnt := { x.cnt with swaps := satAdd x.cnt.swaps 1, dead := satAdd x.cnt.dead 3,
                                          beats := satAdd x.cnt.beats 3 } }
    let x := x.setActive { old with st := if old.st = .active then .empty else old.st }
    { x with activeB := !x.activeB }.setActive { new with st := .active }
  s.boundary t

/-- A load for which a swap waits: one admitted before it, or a refresh or a rewrite of the idle plane (R60, R66). -/
def Tray.swapWaits (t : Tray) (adm : Nat) : Bool :=
  (match t.load with
    | some r => r.kind != .user || decide (r.req.adm < adm)
    | none => false) || t.loadQ.any fun r => decide (r.adm < adm)

/-- A swap is executed (R60): a swap-refresh that is due, else the one at the head of the queue, which waits for its loads. -/
def State.swapHead (s : State) (t : Nat) : State :=
  let x := s.tray t
  if !x.runs then s
  else if x.refSwap then (s.modTray t fun x => { x with refSwap := false }).exchange t
  else match x.expQ with
    | .swap adm d u :: rest =>
      if x.swapWaits adm then s
      else
        let s := s.modTray t fun x => { x with expQ := rest }
        if x.idlePlane.st = .loaded then (s.exchange t).expDone d
        else ((s.modTray t Tray.rejected).deferred u 0x0105).expDone d
    | _ => s

def execSwapExecute (u : UnitAddr) (s : State) : Out := .next (s.onTray u State.swapHead)

/-! ### Refreshes (R62, R66) -/

/-- The ACTIVE plane reaches 48 µs with the idle plane EMPTY and no load queued. -/
def State.swapRefresh (s : State) (t : Nat) : State :=
  let x := s.tray t
  if x.dacsFree && x.active.st == .active && x.idlePlane.st == .empty && x.load.isNone && x.loadQ == [] && !x.refSwap then
    s.modTray t fun x => x.beginLoad
      { kind := .swapRefresh, toB := !x.activeB, calGen := x.loadGen,
        req := { adm := x.adm, src := 3, image := 0, expsOff := 0, desc := none, sub := none, pid := 0, ctx := 0 } } .loading
  else s

def execSwapRefreshDue (u : UnitAddr) (s : State) : Out := .next (s.onTray u State.swapRefresh)

/-- An in-place refresh of the active plane begins: exposures pause until its 32 rows are written (R57, R62, R66). -/
def State.rewriteActive (s : State) (t : Nat) : State :=
  s.modTray t fun x => { x with inplace := some 0 }.setActive { x.active with st := .refreshing }

/-- The ACTIVE plane reaches 49 µs without having been replaced: an in-place refresh. -/
def State.inplaceRefresh (s : State) (t : Nat) : State :=
  if (s.tray t).dacsFree && (s.tray t).active.st == .active && !(s.tray t).refSwap then s.rewriteActive t else s

def execInplaceRefreshDue (u : UnitAddr) (s : State) : Out := .next (s.onTray u State.inplaceRefresh)

/-- A background reload of a LOADED idle plane from its shadow, where no load is queued. -/
def State.backgroundReload (s : State) (t : Nat) : State :=
  let x := s.tray t
  if x.idlePlane.st == .loaded && x.load.isNone && x.loadQ == [] && !x.refSwap then s.reload t else s

/-- A LOADED idle plane reaches 48 µs. -/
def State.backgroundDue (s : State) (t : Nat) : State := if (s.tray t).dacsFree then s.backgroundReload t else s

def execBackgroundReloadDue (u : UnitAddr) (s : State) : Out := .next (s.onTray u State.backgroundDue)

/-- The refreshes that a tray makes on leaving HELD (R71): of both planes after a device hold, else of those past 48 µs. The active plane
is rewritten in place (at 48 µs to 49 µs too, log entry 74), the idle one in the background. -/
def State.refreshHeld (s : State) (t : Nat) (dev : Bool) : State :=
  let x := s.tray t
  let due (p : Plane) : Bool := dev || decide (48000 ≤ s.up - p.written)
  let s := if x.active.st == .active && due x.active && !x.refSwap then s.rewriteActive t else s
  if due x.idlePlane then s.backgroundReload t else s

/-- What a tray's state becomes by `f`, with the refreshes of a tray that leaves HELD by it. -/
def State.unheld (s : State) (t : Nat) (dev : Bool) (f : State → State) : State :=
  let s' := f s
  if (s.tray t).ctl.st = .held ∧ ((s'.tray t).ctl.st = .ready ∨ (s'.tray t).ctl.st = .draining) then s'.refreshHeld t dev else s'

/-! ### Boundaries (R63, R64, R66) -/

/-- The idle boundary: a staged set is adopted by rewriting the active plane in place, which ends in the boundary. -/
def State.idleBound (s : State) (t : Nat) : State :=
  let x := s.tray t
  if x.runs && x.expQ == [] && !x.refSwap && !x.idleAt && !(x.pend.any fun p => p.phase == .piped || p.phase == .replay) then
    let s := s.modTray t fun x => { x with idleAt := true }
    if x.staged.isSome && x.hasActive then s.rewriteActive t else s.boundary t
  else s

def execIdleBoundary (u : UnitAddr) (s : State) : Out := .next (s.onTray u State.idleBound)

/-- The pause of a VSTEP change ends, and with it a MODE settling that ran within it. -/
def State.pauseEnd (s : State) (t : Nat) : State :=
  if (s.tray t).vPause then s.modTray t fun x => { x with vPause := false, settle := false } else s

def execVstepPauseEnd (u : UnitAddr) (s : State) : Out := .next (s.onTray u State.pauseEnd)

/-- The 8 dead beats of a MODE change end. -/
def State.settleEnd (s : State) (t : Nat) : State :=
  if (s.tray t).settle && !(s.tray t).vPause then s.modTray t fun x => { x with settle := false } else s

def execModeSettleEnd (u : UnitAddr) (s : State) : Out := .next (s.onTray u State.settleEnd)

end Sys2Proof.Machine
end

