-- ==== Sys2Proof/Machine/Proof.lean ====
section
/-! DEFINITION. The rows of the proof path (06): verdicts, partners, referees, epochs, the monitor, scores and restores. -/

set_option Elab.async false

namespace Sys2Proof.Machine

/-! ### Captures (R184) -/

/-- A residual in units of 2^-12 as two's complement in units of 1/16, saturating; it is rounded towards zero, as is A in snapshot 4
(R184 states no rounding: DESIGN CHOICE, log entry 75). -/
def sixteenth (e : Int) : Nat := (satInt 32 (Int.tdiv e 256)).toNat

/-- The output with the largest difference from the exact values. -/
def worstRow (outs exact : List Int) : Nat :=
  ((List.range 32).foldl (fun (b : Nat × Nat) i =>
    let d := (outs.getD i 0 - 4096 * exact.getD i 0).natAbs
    if b.2 < d then (i, d) else b) (0, 0)).1

/-- Bytes packed into a snapshot. -/
def snapBytes (l : List Int) : BitVec 64 := BitVec.ofNat 64 (leNat (l.map (BitVec.ofInt 8)))

/-- The 18 snapshots of a capturing event, against the exact values `ex`; with CAPTURE = 0 snapshots 7 to 15 read 0. -/
def State.captureSnaps (s : State) (t : Nat) (p : Pend) (ex : List Int) : List (BitVec 64) :=
  let i := worstRow p.outs ex
  let first := p.first.getD (0, 0)
  let operands := (List.range 4).map (fun k => snapBytes ((List.range 8).map fun j => p.m.getD (8 * k + j) 0)) ++
    [snap [(0, (BitVec.ofInt 8 p.e).toNat), (8, (BitVec.ofInt 8 (p.sh.exps.getD i 0)).toNat), (16, nb p.sh.isB),
      (24, p.sh.gen.toNat)]] ++
    (List.range 4).map fun k => snapBytes ((List.range 8).map fun j => (p.sh.rows.getD i []).getD (8 * k + j) 0)
  [snap [(0, (mkUnit true 3 (siteOfTray t) (bayOfTray t % 8) (t % 9) 0 0).toNat), (32, (s.trayUnit t).toNat)],
   snap [(0, p.run0 % 4294967296), (32, p.expNo0 % 4294967296)],
   snap [(0, sixteenth first.1), (32, sixteenth first.2)],
   (match p.rerun with
     | some r => snap [(0, sixteenth r.1), (32, sixteenth r.2)]
     | none => 0),
   snap [(0, tolUnits p.k p.fine p.allow.toNat % 4294967296), (32, p.allow.toNat * 520192 / 1000000)],
   snap [(0, p.epoch.toNat), (32, p.pat.toNat)],
   snap [(0, (BitVec.ofNat 32 (fixRound (decide (p.outs.getD i 0 < 0)) (p.outs.getD i 0).natAbs (-12)).1.toNat).toNat),
     (32, (BitVec.ofInt 21 (ex.getD i 0)).toNat), (53, i)]] ++
  (if s.capture then operands else List.replicate 9 0) ++
  [snap [(0, ((p.ref1.map s.clusterUnit).getD 0).toNat), (32, ((p.ref2.map s.clusterUnit).getD 0).toNat)],
   snap [(0, p.partner.toNat), (32, if p.partner = 3 then 0 else sixteenth p.partnerE1)]]

/-! ### Misses (R165, R170, R178) -/

/-- A first-attempt miss counted in the interval; the one that passes the limit gives RATE_EXCESS (R178). -/
def State.rateMiss (s : State) (t : Nat) : State :=
  let s := s.modTray t fun x => { x with proof := { x.proof with rateNow := satAdd x.proof.rateNow 1 } }
  let x := s.tray t
  if s.rateLimit < x.proof.rateNow.toNat && !x.proof.rateHit then
    let s := s.modTray t fun x => { x with proof := { x.proof with rateHit := true, rateExcess := satAdd x.proof.rateExcess 1 } }
    (s.event 0x0901 0 (s.trayUnit t)).scoreTray t s.wRate
  else s

/-- An attempt that misses: UCB_MISS, the module's count, and the journal (R170, R174). -/
def State.countMiss (s : State) (t : Nat) (p : Pend) : State :=
  let s := { s with proofMisses := satAdd s.proofMisses 1,
                    mgmt := { s.mgmt with counts := s.mgmt.counts.modify 2 (satAdd · 1) } }
  s.modTray t fun x =>
    { x with lad := { x.lad with misses := satAdd x.lad.misses 1 },
             proof := x.proof.modRun p.run fun j => { j with misses := satAdd j.misses 1 } }

/-- The partner run and the referee requested at once (R166, R167). -/
def State.request (s : State) (t : Nat) (p : Pend) : State :=
  let k := s.partnerTray t
  let ready := (s.tray k).ctl.st == .ready
  let s := s.modTray t fun x =>
    { x.modPend p.id fun q => { q with phase := .awaitRef, partner := if ready then 0 else 3 } with
      proof := if ready then x.proof else { x.proof with partnerLast := 3 } }
  let s := if ready then s.modTray k fun x => { x with proof := { x.proof with guestQ := x.proof.guestQ ++ [(t, p.id)] } }
    else s
  s.chooseRefs t

/-- A verdict of the proof unit on the attempt `p` (R159, R165): passed, accumulated; a first miss on a plane still ACTIVE,
re-exposed in the next beat; otherwise the partner and the referee. -/
def State.judge (s : State) (t : Nat) (p : Pend) : State :=
  let e := residuals p.sh p.m p.outs p.pat
  let miss := beyondT e.1 p.k p.fine p.allow.toNat || beyondT e.2 p.k p.fine p.allow.toNat
  if !miss then
    let s := if p.first.isSome then
        (s.modTray t fun x => { x with proof := { x.proof with reruns := satAdd x.proof.reruns 1 } }).subReplayed p.sub
      else s
    s.accumulate t p (scaled p.outs p.sh.exps p.e) (some e.1)
  else
    let s := s.countMiss t p
    let s := if p.first.isNone then s.rateMiss t else s
    if (s.tray t).light.devHold then
      s.modTray t fun x => x.modPend p.id fun q => { q with phase := .replay, isReplay := true }
    else if p.first.isNone && (s.tray t).samePlane p then s.expose t { p with first := some e }
    else
      let p := if p.first.isSome then { p with rerun := some e } else { p with first := some e }
      (s.modTray t fun x => x.modPend p.id fun _ => p).request t p

/-- The oldest attempt in the pipeline reaches its verdict (R67, R165). -/
def State.proofVerdict (s : State) (t : Nat) : State :=
  match (s.tray t).pend.find? fun p => p.phase == .piped with
  | some p => s.judge t p
  | none => s

/-! ### Verdicts of referees (R168-R170) -/

/-- The two sums of a referee under the pattern of the attempt. -/
def refSums (p : Pend) (outs : List Int) : Int × Int := (outs.foldl (· + ·) 0, dot (rhos p.pat) outs)

/-- The referee's sums equal the checker's. -/
def sameSums (p : Pend) (outs : List Int) : Bool := refSums p outs == (p.sh.p1 p.m, p.sh.p2 p.m p.pat)

/-- The referee's sums lie within T of the analogue result's. -/
def withinT (p : Pend) (outs : List Int) : Bool :=
  let r := refSums p outs
  let q1 := p.outs.foldl (· + ·) 0
  let q2 := dot (rhos p.pat) p.outs
  !beyondT (q1 - 4096 * r.1) p.k p.fine p.allow.toNat && !beyondT (q2 - 4096 * r.2) p.k p.fine p.allow.toNat

/-- A referee verdict counted (R182, R187). -/
def State.countVerdict (s : State) (t : Nat) (p : Pend) : State :=
  let s := { s with proofRefereed := satAdd s.proofRefereed 1,
                    mgmt := { s.mgmt with counts := s.mgmt.counts.modify 3 (satAdd · 1) } }
  (s.modTray t fun x => { x with proof := x.proof.modRun p.run fun j => { j with refereed := satAdd j.refereed 1 } }).subRefereed
    p.sub

/-- Exact outputs in units of 2^-12, as steps 6 and 8 take them (R170). -/
def exactOuts (p : Pend) (outs : List Int) : List (Word × FFlags) :=
  scaled (outs.map fun x => roundSig (4096 * x)) p.sh.exps p.e

/-- ANALOGUE_WRONG, or PATTERN where the partner missed too (R168): the exact result stands. -/
def State.analogueWrong (s : State) (t : Nat) (p : Pend) (outs : List Int) : State :=
  let snaps := s.captureSnaps t p (p.sh.exact p.m)
  let s := (s.countVerdict t p).accumulate t p (exactOuts p outs) none
  if p.partner = 2 then
    let s := s.modTray t fun x => { x with proof := { x.proof with patterns := satAdd x.proof.patterns 1 } }
    let s := s.event 0x0904 0 (s.trayUnit t) snaps true
    (s.scoreTray t s.wPattern).scoreTray (s.partnerTray t) s.wPattern
  else
    let s := s.modTray t fun x => { x with proof := { x.proof with wrong := satAdd x.proof.wrong 1 } }
    (s.event 0x0902 0 (s.trayUnit t) snaps true).scoreTray t s.wWrong

/-- The companion data of a shadow recomputed from its rows. -/
def Shadow.again (w : Shadow) : Shadow := Shadow.ofRows w.rows w.exps w.gen w.isB

/-- Two shadows of one load. -/
def Shadow.same (a b : Shadow) : Bool := a.gen == b.gen && a.isB == b.isB

/-- An exposure of the pending store whose row sums have changed: its outputs are those of the new sums (R168). -/
def Pend.resummed (p : Pend) : Pend :=
  let w := p.sh.again
  { p with sh := w, outs := p.outs.zipIdx.map fun e => e.1 - 128 * 4096 * (w.sums.getD e.2 0 - p.sh.sums.getD e.2 0) }

/-- A checker fault of a tray (R168): counted, C, D and S recomputed from the shadow, for the exposures of that plane that are still
pending too, and event 0x0903. -/
def State.checkerFault (s : State) (t : Nat) (p : Pend) : State :=
  let s := s.modTray t fun x =>
    let fix (q : Plane) : Plane := if q.data.same p.sh then { q with data := q.data.again } else q
    { x with a := fix x.a, b := fix x.b, proof := { x.proof with checker := satAdd x.proof.checker 1 },
             pend := x.pend.map fun (q : Pend) => if q.sh.same p.sh && q.phase != .settled then q.resummed else q }
  (s.event 0x0903 0 (s.trayUnit t)).scoreTray t s.wCheck

/-- The verdict once the referee has reported and the partner has reported or been skipped (R168). -/
def State.verdict (s : State) (t : Nat) (p : Pend) : State :=
  if p.phase ≠ .awaitRef ∨ p.out1 = [] ∨ p.partner = 0 then s
  else if sameSums p p.out1 then s.analogueWrong t p p.out1
  else if withinT p p.out1 then
    let e := residuals p.sh p.m p.outs p.pat
    ((s.countVerdict t p).accumulate t p (scaled p.outs p.sh.exps p.e) (some e.1)).checkerFault t p
  else (s.modTray t fun x => x.modPend p.id fun q => { q with phase := .secondRef }).chooseRefs t

/-- The verdict on a pending exposure by its number. -/
def State.verdictOn (s : State) (t x : Nat) : State :=
  match (s.tray t).pending? x with
  | some p => s.verdict t p
  | none => s

/-- The 32 outputs that a referee computes in INT32 from the pending input and the shadow (R83, R167), with the deviation `err` of a
referee at fault: none, or one for each output. -/
def Pend.referee (p : Pend) (err : List Int) : List Int := (p.sh.exact p.m).zipIdx.map fun e => e.1 + err.getD e.2 0

/-- The verdicts of exposures whose referee has reported and whose partner has been skipped by a change of its unit's state. -/
def State.dueVerdicts (s : State) (t : Nat) : State :=
  ((s.tray t).pend.filter fun p => p.phase == .awaitRef && p.partner != 0 && p.out1 != []).foldl (fun s p => s.verdictOn t p.id) s

def execProofVerdict (u : UnitAddr) (s : State) : Out :=
  .next (s.onTray u fun s t => ((s.flushLate t).dueVerdicts t).proofVerdict t)

/-- The first referee's result (R168). -/
def State.refereeReport (s : State) (t x : Nat) (err : List Int) : State :=
  match (s.tray t).pending? x with
  | some p =>
    if p.phase = .awaitRef ∧ p.ref1.isSome ∧ p.out1 = [] then
      (s.modTray t fun y => y.modPend x fun q => { q with out1 := p.referee err }).verdictOn t x
    else s
  | none => s

def execRefereeReport (u : UnitAddr) (x : Nat) (err : List Int) (s : State) : Out :=
  .next (s.onTray u fun s t => s.refereeReport t x err)

/-- The vote among the checker and two referees (R169). -/
def State.vote (s : State) (t : Nat) (p : Pend) (outs : List Int) : State :=
  if outs = p.out1 then
    let snaps := s.captureSnaps t p (p.sh.exact p.m)
    let s := (s.countVerdict t p).accumulate t p (exactOuts p outs) none
    let s := s.checkerFault t p
    let s := s.modTray t fun x => { x with proof := { x.proof with wrong := satAdd x.proof.wrong 1 } }
    (s.event 0x0902 0 (s.trayUnit t) snaps true).scoreTray t s.wWrong
  else
    let r1 := p.ref1.getD 0
    if sameSums p outs then
      let s := s.dissent r1
      let s := s.event 0x0905 0 (s.clusterUnit r1)
      s.analogueWrong t p outs
    else
      let snaps := s.captureSnaps t p (p.sh.exact p.m)
      let nan : Word × FFlags := (BitVec.ofNat 32 fp32.nanBits, ⟨true, false, false⟩)
      let s := { s with proofNomaj := satAdd s.proofNomaj 1 }
      let s := (s.countVerdict t p).accumulate t { p with add := false } (List.replicate 32 nan) none
      let s := (s.dissent r1).dissent (p.ref2.getD 0)
      s.event 0x0906 0 (s.trayUnit t) snaps true

/-- The second referee's result. -/
def State.secondReport (s : State) (t x : Nat) (err : List Int) : State :=
  match (s.tray t).pending? x with
  | some p => if p.phase = .secondRef ∧ p.ref2.isSome then s.vote t p (p.referee err) else s
  | none => s

def execSecondRefereeReport (u : UnitAddr) (x : Nat) (err : List Int) (s : State) : Out :=
  .next (s.onTray u fun s t => s.secondReport t x err)

/-! ### Partners (R166) -/

/-- The attempt of a guest exposure on tray `t`: its outputs, and whether its own proof misses, under that tray's pattern, mode and A. -/
def State.guestShot (s : State) (t : Nat) (p : Pend) (sh : Shadow) : Shot := s.shot t p.m sh s.fv

/-- A partner serves the guest request at the head of its list once a load in progress has finished: it loads the missing tray's shadow
into its idle plane, swaps, makes the exposure in a run of its own with its own proof, swaps back, and reloads an idle plane that
was LOADED. The swaps take 6 dead beats, and the load at most 32 load-wait beats (R63, R166). The guest plane adopts no set (log entry
76). A request whose exposure is gone is dropped. -/
def State.guest (s : State) (t : Nat) : State :=
  let x := s.tray t
  match x.proof.guestQ with
  | g :: rest =>
    match (s.tray g.1).pending? g.2 with
    | none => s.modTray t fun x => { x with proof := { x.proof with guestQ := rest } }
    | some p =>
      if x.ctl.st = .ready && x.runs && x.load.isNone && !x.refSwap then
        let sh := { p.sh with isB := !x.activeB }
        let waits := Config.choice s.fv % 33
        let s := ((s.boundary t).openRun t sh { expSrc := 3 } true)
        let shot := s.guestShot t p sh
        let e := residuals sh p.m shot.outs x.proof.pattern
        let a := (s.tray t).proof.allow.toNat
        let miss := beyondT e.1 s.proofK (s.tray t).fineUse a || beyondT e.2 s.proofK (s.tray t).fineUse a
        let gam := s.keepGains t
        let now := s.now
        let s := (s.modTray t fun x =>
          let run := x.run
          let x := x.countExp shot.clips
          { x with
            gam := gam, idleAt := false,
            cnt := { x.cnt with dead := satAdd x.cnt.dead 6, loadwait := satAdd x.cnt.loadwait waits,
                                beats := satAdd x.cnt.beats (6 + waits) },
            proof := { x.proof.modRun run fun j => { j with count := satAdd j.count 1, endNs := now.ns,
                                                            flags := if shot.clips = 0 then j.flags else j.flags ||| 0x20 } with
              guestQ := rest, guests := satAdd x.proof.guests 1, guestDone := x.proof.guestDone ++ [(g.1, g.2, miss, e.1)] } }).draw
        let s := (s.boundary t).modTray t fun x =>
          if x.idlePlane.st = .loaded then x else x.setIdle { x.idlePlane with st := .empty }
        if (s.tray t).idlePlane.st = .loaded then s.reload t else s
      else s
  | [] => s

def execGuestExposure (u : UnitAddr) (s : State) : Out := .next (s.onTray u State.guest)

/-- The guest exposure of exposure `x` of tray `t` has been made, with its outcome. -/
def State.guestMade (s : State) (t x : Nat) : Option (Nat × Nat × Bool × Int) :=
  (s.tray (s.partnerTray t)).proof.guestDone.find? fun g => g.1 == t && g.2.1 == x

/-- Requests and outcomes of exposure `x` of tray `t` dropped from its partner. -/
def ProofSt.unasked (p : ProofSt) (t x : Nat) : ProofSt :=
  { p with guestQ := p.guestQ.filter (· != (t, x)), guestDone := p.guestDone.filter fun g => !(g.1 == t && g.2.1 == x) }

/-- The partner's outcome recorded: 1 passed, 2 missed, 3 skipped. -/
def State.partnerOutcome (s : State) (t x : Nat) (o : BitVec 4) (e1 : Int) : State :=
  let k := s.partnerTray t
  (s.modTray k fun y => { y with proof := y.proof.unasked t x }).modTray t fun y =>
    { y.modPend x fun q => { q with partner := o, partnerE1 := e1 } with proof := { y.proof with partnerLast := o } }

/-- The partner reports its proof of the guest exposure of exposure `x`; a miss counts on the partner (R170, R178). -/
def State.partnerReport (s : State) (t x : Nat) : State :=
  match (s.tray t).pending? x, s.guestMade t x with
  | some p, some g =>
    if p.partner = 0 ∧ (p.phase = .awaitRef ∨ p.phase = .secondRef) then
      let k := s.partnerTray t
      let s := if g.2.2.1 then
          let s := { s with proofMisses := satAdd s.proofMisses 1,
                            mgmt := { s.mgmt with counts := s.mgmt.counts.modify 2 (satAdd · 1) } }
          (s.modTray k fun y => { y with lad := { y.lad with misses := satAdd y.lad.misses 1 } }).rateMiss k
        else s
      (s.partnerOutcome t x (if g.2.2.1 then 2 else 1) g.2.2.2).verdictOn t x
    else s
  | _, _ => s

def execPartnerReport (u : UnitAddr) (x : Nat) (s : State) : Out := .next (s.onTray u fun s t => s.partnerReport t x)

/-- 10 µs without a report: the run is skipped, and a request not begun is dropped. -/
def State.partnerTimeout (s : State) (t x : Nat) : State :=
  match (s.tray t).pending? x with
  | some p =>
    if p.partner = 0 ∧ (p.phase = .awaitRef ∨ p.phase = .secondRef) then (s.partnerOutcome t x 3 0).verdictOn t x else s
  | none => s

def execPartnerTimeout (u : UnitAddr) (x : Nat) (s : State) : Out := .next (s.onTray u fun s t => s.partnerTimeout t x)

/-- What follows for an exposure that awaits its partner or a referee when units change their state (R167, R186): a partner that is no
longer at work is skipped, unless it is being reset and has made the guest exposure; a referee is chosen again. -/
def State.reproveTray (s : State) (t : Nat) : State :=
  let st := (s.tray (s.partnerTray t)).ctl.st
  let gone := st != .ready && st != .draining
  let s := (s.tray t).pend.foldl (fun s p =>
    if p.partner = 0 ∧ (p.phase = .awaitRef ∨ p.phase = .secondRef) ∧ gone ∧ !(st == .resetting && (s.guestMade t p.id).isSome) then
      s.partnerOutcome t p.id 3 0 else s) s
  s.chooseRefs t

/-- And for every such exposure. The verdicts that it leaves due are taken with the next beat of the tray's proof path. -/
def State.reprove (s : State) : State :=
  ((s.trays.filter fun e => e.2.pend.any fun p => p.phase == .awaitRef || p.phase == .secondRef).map (·.1)).foldl State.reproveTray s

/-! ### Epochs and the monitor (R161, R162, R171, R172) -/

/-- An evaluation at the end of an epoch (R171), from a window that holds an attempt: whether it raises an alarm, and the
monitor after it. Means are in units of 2^-12 product units, rounded towards zero (log entry 11). -/
def State.evaluate (s : State) (m : Monitor) : Bool × Monitor :=
  let sum : Int := m.win.foldl (fun a e => a + e.1) 0
  let n : Nat := m.win.foldl (fun a e => a + e.2) 0
  if n = 0 then (false, m)
  else
    let f := Int.tdiv sum n
    match m.base with
    | none => (false, { m with base := some f, d := 0, ds := if m.alarm then m.ds else (0 :: m.ds).take 256,
                                evals := m.evals + 1 })
    | some b =>
      let d := f - b
      if m.alarm then (false, { m with d := d })
      else if !m.learning && decide (s.monT16 (spreadOf m.ds) < (d.natAbs : Int) * 16000000) then
        (true, { m with d := d, alarm := true })
      else (false, { m with d := d, base := some (b + Int.tdiv d 256), ds := (d :: m.ds).take 256, evals := m.evals + 1 })

/-- A proof epoch ends once its exposures are made: the monitor evaluates, and the next pattern comes into force. Event 0x0907 gives the
start and the end of the monitor's window in device time (R172). -/
def State.epochEnd (s : State) (t : Nat) : State :=
  let x := s.tray t
  if x.proof.inEpoch < s.epochLen then s
  else
    let now := s.now
    let mon := x.proof.mon
    let m := { mon with win := (mon.cur :: mon.win).take 16, cur := (0, 0), begun := (mon.since :: mon.begun).take 16, since := now }
    let (alarm, m) := if s.monEn then s.evaluate m else (false, m)
    let n := s.epochLen
    let s := s.modTray t fun x =>
      let p := x.proof.nextPattern
      { x with proof := { p with
          mon := m, epoch := p.epoch + 1, inEpoch := p.inEpoch - n, bias := if alarm then satAdd p.bias 1 else p.bias } }
    let from_ := m.begun.getLastD now
    if alarm then
      ((s.event 0x0907 0 (s.trayUnit t) [snap [(0, from_.ns.toNat), (32, from_.s.toNat)],
        snap [(0, now.ns.toNat), (32, now.s.toNat)]]).scoreTray t s.wBias).askStrip t 2
    else s

def execEpochEnd (u : UnitAddr) (s : State) : Out := .next (s.onTray u State.epochEnd)

/-- The end of an interval of 2^24 exposures (R178). -/
def State.rateEnd (s : State) (t : Nat) : State :=
  if (s.tray t).proof.rateExp < 16777216 then s
  else s.modTray t fun x =>
    { x with proof := { x.proof with rateExp := x.proof.rateExp - 16777216, rateLast := x.proof.rateNow, rateNow := 0,
                                     rateHit := false } }

def execRateIntervalEnd (u : UnitAddr) (s : State) : Out := .next (s.onTray u State.rateEnd)

/-! ### Decay (R178-R180) -/

/-- A score decays over `sec` seconds; ladders are judged, and exposures that wait for a referee choose again. -/
def State.scoreDecay (s : State) (u : UnitAddr) (sec : BitVec 16) : State :=
  match s.resolve u with
  | some (.tray t) =>
    let h := s.halfLife
    (s.modTray t fun x => { x with lad := x.lad.decay sec.toNat h }).trayLadder t
  | some (.cluster c) =>
    let h := s.halfLife
    let s := (s.modCluster c fun x => { x with lad := x.lad.decay sec.toNat h }).clusterLadder c
    s.reprove
  | _ => s

def execScoreDecay (u : UnitAddr) (sec : BitVec 16) (s : State) : Out := .next (s.scoreDecay u sec)

/-! ### Restores (R177) -/

/-- The restore of a moved tray ends; 64 bytes that were not read are undefined (event 0x090A). -/
def State.restoreDone (s : State) (t : Nat) (lost : List (BitVec 16)) : State :=
  if (s.tray t).restoring then
    let f := s.fv
    let s := s.modTray t fun x =>
      { x with restoring := false, tb := lost.foldl (fun m a =>
          Memory.writeL m (64 * a.toNat) ((List.range 64).map fun i => Config.byte f (64 * a.toNat + i))) x.tb }
    if lost = [] then s else s.draw.event 0x090A 0 (s.trayUnit t)
  else s

def execSpareRestoreDone (u : UnitAddr) (lost : List (BitVec 16)) (s : State) : Out :=
  .next (s.onTray u fun s t => s.restoreDone t lost)

/-! ### Reseeding and relearning (R162, R171, R187) -/

/-- New seeds drawn for every physical tray that has acted; each takes effect at the tray's next epoch (R162, R186). -/
def State.newSeeds (s : State) : State :=
  (s.trays.map (·.1)).foldl (fun s t =>
    let f := s.fv
    (s.modTray t fun x => { x with proof := { x.proof with newSeed := some (drawSeed f) } }).draw) s

/-- The trays that are neither OFF nor FAILED. -/
def State.workingTrays (s : State) : List Nat :=
  (s.trays.filter fun (e : Nat × Tray) => e.2.ctl.st != UState.off && e.2.ctl.st != UState.failed).map (·.1)

/-- PROOF_CTL.RESEED. The bit reads 1 until every tray that works has acknowledged. -/
def State.reseed (s : State) (p : Path) : State :=
  if s.priv p then
    (({ s with seedsOwed := s.workingTrays }).sendTable 3).newSeeds
  else s

def execReseed (p : Path) (s : State) : Out := .next (s.reseed p)

/-- PROOF_CTL.RELEARN: learning starts again on every tray. -/
def State.relearn (s : State) (p : Path) : State :=
  if s.priv p then
    (s.trays.map (·.1)).foldl (fun s t => s.modTray t fun x =>
      { x with proof := { x.proof with mon := x.proof.mon.restart } }) s
  else s

def execRelearn (p : Path) (s : State) : Out := .next (s.relearn p)

end Sys2Proof.Machine
end

