-- ==== Sys2Proof/Machine/Units.lean ====
section
/-! DEFINITION. The rows of units (01): selection, the UCB, unit states, the retouch map, and the rows of resets (13). -/

set_option Elab.async false

namespace Sys2Proof.Machine

/-! ### The window (R24-R26) -/

/-- An access held behind a wildcard write on its path (R26). -/
def State.holdAcc (s : State) (p : Path) (c : Instr) : State :=
  let q := s.path p
  s.setPath p { q with heldAcc := q.heldAcc ++ [.cmd c] }

/-- A window or selection access that its path has carried: held while BUSY, else done (R26). -/
def State.behind (s : State) (p : Path) (c : Instr) (f : State → State) : State :=
  if (s.path p).busy then s.holdAcc p c else f s

/-- A window or selection access of a privileged path (R26, R39). -/
def State.windowed (s : State) (p : Path) (c : Instr) (f : State → State) : State := if s.priv p then s.behind p c f else s

/-- CODE of a path's window. -/
def State.setCode (s : State) (p : Path) (code : BitVec 4) : State := s.setPath p { s.path p with code := code }

/-- A write of UNIT_SEL, and of UNIT_SEL_MODE, evaluates the selection (R25). -/
def State.selWrite (s : State) (p : Path) (v : Word) : State :=
  let q := { s.path p with unitSel := v }
  s.setPath p { q with code := s.selectionCode q.unitSel q.mode }
def State.selModeWrite (s : State) (p : Path) (v : Word) : State :=
  let q := { s.path p with mode := v &&& 0x3F03 }
  s.setPath p { q with code := s.selectionCode q.unitSel q.mode }

def execUnitSelWrite (p : Path) (v : Word) (s : State) : Out :=
  .next (s.windowed p (.unitSelWrite p v) fun s => s.selWrite p v)
def execUnitSelModeWrite (p : Path) (v : Word) (s : State) : Out :=
  .next (s.windowed p (.unitSelModeWrite p v) fun s => s.selModeWrite p v)

/-- A write to the window that a wildcard may make (UCB_CTL, UCB_VF): to every unit it names, then BUSY; the units that the
selection names otherwise. `f` acts on one unit and `g` on a partition. -/
def State.wideWrite (s : State) (p : Path) (f : State → URef → State) (g : State → Pid → State) : State :=
  match s.selOf p with
  | .bad => s
  | .part pid => (g s pid).setCode p 0
  | .one u => (f s u).setCode p 0
  | .wild us => (us.foldl f s).setPath p { s.path p with busy := true, code := 0 }

/-- A write to any other register of the window: a wildcard is refused with WILD_ACCESS (R25, R26). -/
def State.narrowWrite (s : State) (p : Path) (f : State → URef → State) (g : State → Pid → State) : State :=
  match s.selOf p with
  | .bad => s
  | .part pid => (g s pid).setCode p 0
  | .one u => (f s u).setCode p 0
  | .wild _ => s.setCode p 6

/-! ### UCB_CTL (R28, R31, R32, R433) -/

/-- OFF units that ENABLE is in effect for start, once stage S6 has started them (R31). -/
def UnitCtl.start (c eff : UnitCtl) (started : Bool) : UnitCtl :=
  if started && c.st == .off && eff.enable then c.to .starting else c

/-- Threads in HELD go on where no HOLD is in effect (R114). -/
def State.freeThreads (s : State) (k : Nat) : State :=
  if (s.coreCtl k).hold || (s.coreCtl k).upd then s
  else s.modCore k fun c =>
    { c with slots := c.slots.map fun e => if e.2.st = .held then (e.1, { e.2 with st := .ready }) else e }

/-- Clusters and cores of a list judged against the control in effect for them. -/
def State.settleClusters (s : State) (cs : List Nat) : State :=
  let on := s.unitsStarted
  let s := cs.foldl (fun s c => s.modCluster c fun x =>
    { x with ctl := settleCtl (x.ctl.start (s.clusterCtl c) on) (s.clusterCtl c) false }) s
  ((s.cores.map (·.1)).filter fun k => cs.contains (clusterOfCore k)).foldl (fun s k =>
    (s.modCore k fun x =>
      { x with ctl := settleCtl (x.ctl.start (s.coreCtl k) on) (s.coreCtl k) false }).freeThreads k) s

/-- The control bits of a tray, a cluster or a core changed, and what follows at once. -/
def State.ctlTray (s : State) (f : UnitCtl → UnitCtl) (t : Nat) : State :=
  let on := s.unitsStarted
  let s := s.modTray t fun x => { x with ctl := f x.ctl }
  let was := (s.tray t).ctl.st
  let s := s.unheld t false fun s => s.modTray t fun x => settleTray { x with ctl := x.ctl.start x.ctl on }
  let s := if was = .off ∧ (s.tray t).ctl.st = .starting then s.acquire t else s
  let s := if (s.tray t).ctl.st ≠ .ready then s.dropStrip t else s
  let s := if (s.tray t).ctl.fence then (s.refuseStarts (s.startsAt t) 0x0501).fenceWaits (s.storedCores t) else s
  s.settleClusters ((List.range 20).map fun i => t * 20 + i)
def State.ctlCluster (s : State) (f : UnitCtl → UnitCtl) (c : Nat) : State :=
  let s := s.modCluster c fun x => { x with ctl := f x.ctl }
  let s := if (s.cluster c).ctl.fence then
      (s.refuseStarts (s.startsAtCluster c) 0x0501).fenceWaits (s.storedCoresOf c) else s
  s.settleClusters [c]
def State.ctlCore (s : State) (f : UnitCtl → UnitCtl) (k : Nat) : State :=
  let on := s.unitsStarted
  let s := s.modCore k fun x => { x with ctl := f x.ctl }
  let s := if (s.core k).ctl.fence then
      (s.refuseStarts (fun r => s.resolve r.place == some (.core k)) 0x0501).fenceWaits [k] else s
  (s.modCore k fun x => { x with ctl := settleCtl (x.ctl.start (s.coreCtl k) on) (s.coreCtl k) false }).freeThreads k

/-- A write of control bits to a unit: stored in the unit, or in every logical tray below it (R433). -/
def State.ctlUnit (f : UnitCtl → UnitCtl) (s : State) (u : URef) : State :=
  match u with
  | .cluster c => s.ctlCluster f c
  | .core k => s.ctlCore f k
  | u => (s.traysUnder u).foldl (fun s t => s.ctlTray f t) s
/-- And to a partition: stored in its member trays. -/
def State.ctlPid (f : UnitCtl → UnitCtl) (s : State) (pid : Pid) : State :=
  (s.traysOfPid pid).foldl (fun s t => s.ctlTray f t) s

/-- A write of one control bit through the window. -/
def State.ctlWrite (s : State) (p : Path) (f : UnitCtl → UnitCtl) : State :=
  (s.wideWrite p (State.ctlUnit f) (State.ctlPid f)).reprove

def State.holdBit (s : State) (p : Path) (on : Bool) : State := s.ctlWrite p fun c => { c with hold := on }
def State.fenceBit (s : State) (p : Path) (on : Bool) : State := s.ctlWrite p fun c => { c with fence := on }
def State.drainBit (s : State) (p : Path) (on : Bool) : State := s.ctlWrite p fun c => { c with drain := on }
def State.enableBit (s : State) (p : Path) (on : Bool) : State := s.ctlWrite p fun c => { c with enable := on }

def execUcbHold (p : Path) (on : Bool) (s : State) : Out :=
  .next (s.windowed p (.ucbHold p on) fun s => s.holdBit p on)
def execUcbFence (p : Path) (on : Bool) (s : State) : Out :=
  .next (s.windowed p (.ucbFence p on) fun s => s.fenceBit p on)
def execUcbDrain (p : Path) (on : Bool) (s : State) : Out :=
  .next (s.windowed p (.ucbDrain p on) fun s => s.drainBit p on)
def execUcbEnable (p : Path) (on : Bool) (s : State) : Out :=
  .next (s.windowed p (.ucbEnable p on) fun s => s.enableBit p on)

/-! ### Resets (R355-R358) -/

/-- UCB_CTL.RESET of a unit: ignored until stage S6 starts; at the module a module reset (R358, R361). -/
def State.resetUnit (s : State) (u : URef) : State :=
  if !s.unitsStarted then s
  else match u with
    | .module => s.moduleReset 1
    | u =>
      let r := s.resetUnits u
      s.startReset (.unit (s.unitAddr u)) r.1 r.2.1 r.2.2 []

/-- The contexts of a partition. -/
def State.ctxsOf (s : State) (pid : Pid) : List CtxNo :=
  (s.mem.ctxs.filter fun e => e.2.st ≠ 0 && e.2.pid == pid).map fun e => BitVec.ofNat 12 e.1

/-- UCB_CTL.RESET of a partition (R355): its contexts enter RESETTING with its member trays. -/
def State.resetPid (s : State) (pid : Pid) : State :=
  if !s.unitsStarted then s
  else
    let cs := s.ctxsOf pid
    let ts := s.traysOfPid pid
    let s := cs.foldl (fun s c =>
      let x := s.ctx c
      (s.setCtx c { x with st := 3, fenced := x.fenced || x.st == 2 })) s
    s.startReset (.partition pid) ts (ts.flatMap fun t => (List.range 20).map fun i => t * 20 + i) [] cs

def State.resetWrite (s : State) (p : Path) : State := (s.wideWrite p State.resetUnit State.resetPid).reprove

def execUcbReset (p : Path) (s : State) : Out := .next (s.windowed p (.ucbReset p) fun s => s.resetWrite p)

/-- Contexts after a reset: ACTIVE, or FENCED where they were (R201). -/
def State.freeCtx (s : State) (c : CtxNo) : State :=
  let x := s.ctx c
  if x.st = 3 then s.setCtx c { x with st := if x.fenced then 2 else 1 } else s

/-- The stop phase of a reset ends: its units still in RESETTING are cleared and go to STARTING (R355). Guest
exposures begun for a partner drain first: they are reported. -/
def State.stopDone (s : State) (r : ResetTarget) : State :=
  match s.mod.resets.find? fun j => j.target == r && !j.stopped with
  | none => s
  | some j =>
    let ts := j.trays.filter fun t => (s.tray t).ctl.st == .resetting
    if ts.any fun t => (s.tray t).proof.guestDone != [] then s
    else
      let s := j.ctxs.foldl (fun s c => (s.absorbCtx c).freeCtx c) s
      let s := (ts.foldl State.adopt s).clearUnits ts (j.clusters.filter fun c => (s.cluster c).ctl.st == .resetting)
        (j.cores.filter fun k => (s.core k).ctl.st == .resetting)
      ({ s with mod := { s.mod with resets := s.mod.resets.map fun (x : ResetJob) =>
          if x.target = r then { x with stopped := true } else x } }).reprove

def execResetStopDone (r : ResetTarget) (s : State) : Out := .next (s.stopDone r)

/-- 10 ms without an end of a partition's drain: what remains is discarded, event 0x0B08 (R357). -/
def State.endpointTimeout (s : State) (pid : Pid) : State :=
  match s.mod.resets.find? fun j => j.target == .partition pid && !j.stopped with
  | none => s
  | some j =>
    let s := { s with fab := { s.fab with xfers := s.fab.xfers.filter fun (x : Xfer) => !j.ctxs.contains x.ctx } }
    (s.event 0x0B08 0 (fld 0 pid)).stopDone (.partition pid)

def execEndpointDrainTimeout (pid : Pid) (s : State) : Out := .next (s.endpointTimeout pid)

/-! ### Self-test and drain (R31, R350) -/

/-- A unit leaves STARTING for READY, or HELD, and goes on by the control in effect. -/
def UnitCtl.started (own eff : UnitCtl) (dev : Bool) : UnitCtl := settleCtl { own with st := .ready, drained := false } eff dev

/-- A tray whose self-test passes, with its cores' clusters left to their own. -/
def State.trayStarted (s : State) (t : Nat) : State :=
  (s.modTray t fun x => { x with ctl := x.ctl.started x.ctl x.light.devHold }).askStrip t 1

/-- A cluster whose self-test passes, with the cores of it that stand in STARTING or that its start brings up from OFF; a core
whose ENABLE is not in effect stays OFF (R31). -/
def State.clusterStarted (s : State) (c : Nat) : State :=
  let s := s.modCluster c fun x => { x with ctl := x.ctl.started (s.clusterCtl c) false }
  (s.storedCoresOf c).foldl (fun s k => s.modCore k fun x =>
    if x.ctl.st = .starting ∨ (x.ctl.st = .off ∧ (s.coreCtl k).enable) then { x with ctl := x.ctl.started (s.coreCtl k) false }
    else x) s

/-- A tray that fails its start at S6 is bound to its spare with AUTOMAP, which starts with its clusters; else it is FAILED (R31,
R350), with the work that a map-out has brought it (R181). -/
def State.trayUnfit (s : State) (t : Nat) : State :=
  match s.logTray t with
  | some i =>
    if s.mod.stage = 6 && s.automap && s.spareTrayFree (bayOfTray t) then
      let s := s.bindTray (bayOfTray t) i
      let sp := bayOfTray t * 9 + 8
      ((s.modTray sp fun x => { x with ctl := x.ctl.to .starting }).startClusters sp).event 0x0B07 1 (s.trayUnit sp)
    else (s.fenceWork t).failTray t
  | none => (s.fenceWork t).failTray t
def State.clusterUnfit (s : State) (c : Nat) : State :=
  let t := trayOfCluster c
  match s.logCluster c with
  | some j =>
    if s.mod.stage = 6 && s.automap && s.spareClusterFree t then
      let s := s.bindCluster t j
      let sp := t * 20 + 19
      (s.modCluster sp fun x => { x with ctl := x.ctl.to .starting }).event 0x0B07 1 (s.clusterUnit sp)
    else s.failCluster c
  | none => s.failCluster c

/-- A STARTING unit finishes: self-test, table CRC and, for trays, lock and tag check (R31). A tray that has not passed its tag check
stays in STARTING (R240). -/
def State.selfTestDone (s : State) (u : UnitAddr) (passed crcOk lockOk : Bool) : State :=
  match s.resolve u with
  | some (.tray t) =>
    if (s.tray t).ctl.st = .starting then
      let l := (s.tray t).light
      if passed && crcOk && lockOk && !l.gridFailed then
        (if l.locked && !l.acquiring then s.trayStarted t else s).endResets
      else (s.trayUnfit t).endResets
    else s
  | some (.cluster c) =>
    if (s.cluster c).ctl.st = .starting then
      (if passed && crcOk then s.clusterStarted c else s.clusterUnfit c).endResets
    else s
  | some (.core k) =>
    if (s.core k).ctl.st = .starting then
      (if passed && crcOk then s.modCore k fun x => { x with ctl := x.ctl.started (s.coreCtl k) false }
       else s.failCore k).endResets
    else s
  | _ => s

def execSelfTestDone (u : UnitAddr) (passed crcOk lockOk : Bool) (s : State) : Out :=
  .next (s.selfTestDone u passed crcOk lockOk).reprove

/-- A DRAINING unit's last work in flight completes (R31); the final idle boundary of a tray applies what is pending (R71). -/
def State.drainDone (s : State) (u : UnitAddr) : State :=
  match s.resolve u with
  | some (.tray t) =>
    if (s.tray t).ctl.st = .draining ∧ !s.trayBusy t ∧ !(s.tray t).light.devHold then
      (s.boundary t).modTray t fun x => { x with ctl := drainedCtl x.ctl x.ctl x.light.devHold }
    else s
  | some (.cluster c) =>
    if (s.cluster c).ctl.st = .draining ∧ !s.clusterBusy c then
      let s := s.modCluster c fun x => { x with ctl := drainedCtl x.ctl (s.clusterCtl c) false }
      (s.storedCoresOf c).foldl (fun s k => s.modCore k fun x =>
        if x.ctl.st = .draining then { x with ctl := drainedCtl x.ctl (s.coreCtl k) false } else x) s
    else s
  | some (.core k) =>
    if (s.core k).ctl.st = .draining ∧ !(s.core k).busy then
      s.modCore k fun x => { x with ctl := drainedCtl x.ctl (s.coreCtl k) false }
    else s
  | _ => s

def execDrainComplete (u : UnitAddr) (s : State) : Out := .next (s.drainDone u).reprove

/-! ### The retouch map (R34, R35) -/

/-- OFF, FAILED, or HELD with DRAINED = 1. -/
def UnitCtl.movable (c : UnitCtl) : Bool := c.st == .off || c.st == .failed || (c.st == .held && c.drained)

/-- A bound unit is reset, once units have been started. -/
def State.resetBound (s : State) (u : URef) : State := if s.unitsStarted then s.resetUnit u else s

/-- A write of UCB_MAP.PHYSICAL through a logical or a physical address. -/
def State.mapWrite (phys : BitVec 6) (logical : Bool) (s : State) (u : URef) : State :=
  match u with
  | .tray t =>
    let bay := bayOfTray t
    match s.logTray t with
    | some i =>
      if logical && phys == 8 && s.spareTrayFree bay && (s.tray t).ctl.movable then
        (s.bindTray bay i).resetBound (.tray (bay * 9 + 8))
      else s.event 0x0B03 4 (s.trayUnit t)
    | none => s.event 0x0B03 4 (s.trayUnit t)
  | .cluster c =>
    let t := trayOfCluster c
    match s.logCluster c with
    | some j =>
      if logical && phys == 19 && s.spareClusterFree t && (s.cluster c).ctl.movable then
        (s.bindCluster t j).resetBound (.cluster (t * 20 + 19))
      else s.event 0x0B03 4 (s.clusterUnit c)
    | none => s.event 0x0B03 4 (s.clusterUnit c)
  | _ => s

/-- UCB_MAP.PHYSICAL written through the window; a partition's reads 0 and ignores the write (R37). -/
def State.mapField (s : State) (p : Path) (phys : BitVec 6) : State :=
  s.narrowWrite p (State.mapWrite phys (!uPhys (s.path p).unitSel)) fun s _ => s

def execUcbMapWrite (p : Path) (phys : BitVec 6) (s : State) : Out :=
  .next (s.windowed p (.ucbMapWrite p phys) fun s => s.mapField p phys)

/-- An entry made in service is in flash (R35). -/
def State.mapPersisted (s : State) (u : UnitAddr) : State :=
  match s.resolve u with
  | some (.tray t) =>
    match SMap.find s.map (bayOfTray t) with
    | some (i, true, _) => { s with map := SMap.put s.map (bayOfTray t) (i, true, true) }
    | _ => s
  | some (.cluster c) =>
    match SMap.find s.cmap (trayOfCluster c) with
    | some (i, true, _) => { s with cmap := SMap.put s.cmap (trayOfCluster c) (i, true, true) }
    | _ => s
  | _ => s

def execMapPersisted (u : UnitAddr) (s : State) : Out := .next (s.mapPersisted u)

/-! ### UCB_VF, UCB_OWNER, UCB_TEMP, UCB_MISS (R28-R30) -/

/-- The floors that a write of UCB_VF stores in a tray and in its 19 logical clusters, or in one cluster (R29). -/
def State.vfCluster (v : Word) (s : State) (c : Nat) : State :=
  s.modCluster c fun x => { x with floorClk := BitVec.ofNat 2 (bitsOf v 5 4) }
def State.vfTray (v : Word) (s : State) (t : Nat) : State :=
  let s := s.modTray t fun x => { x with floorV := BitVec.ofNat 3 (min 4 (bitsOf v 2 0)), floorFine := v.getLsbD 8 }
  (s.clustersOfTray t).foldl (State.vfCluster v) s
def State.vfUnit (v : Word) (s : State) (u : URef) : State :=
  match u with
  | .cluster c => s.vfCluster v c
  | .core _ => s
  | u => (s.traysUnder u).foldl (State.vfTray v) s
def State.vfPid (v : Word) (s : State) (pid : Pid) : State := (s.traysOfPid pid).foldl (State.vfTray v) s

/-- UCB_VF written through the window. -/
def State.vfField (s : State) (p : Path) (v : Word) : State := s.wideWrite p (State.vfUnit v) (State.vfPid v)

def execUcbVfWrite (p : Path) (v : Word) (s : State) : Out :=
  .next (s.windowed p (.ucbVfWrite p v) fun s => s.vfField p v)

/-- A write of UCB_OWNER to a tray (R30): it takes effect where the tray is OFF, or HELD with DRAINED = 1; the tallies
of its 19 logical clusters are then cleared (R101). -/
def State.ownTray (pid : Pid) (s : State) (t : Nat) : State :=
  let c := (s.tray t).ctl
  if (c.st = .off ∨ c.st = .held ∧ c.drained) ∧ (s.tray t).owner ≠ pid then
    let s := s.modTray t fun x => { x with owner := pid }
    (s.clustersOfTray t).foldl (fun s c => s.modCluster c fun x => { x with tallies := [] }) s
  else s
def State.ownUnit (pid : Pid) (s : State) (u : URef) : State :=
  match u with
  | .cluster _ => s
  | .core _ => s
  | u => (s.traysUnder u).foldl (State.ownTray pid) s

/-- UCB_OWNER written through the window; a partition's ignores it (R37). -/
def State.ownerField (s : State) (p : Path) (pid : Pid) : State := s.narrowWrite p (State.ownUnit pid) fun s _ => s

def execUcbOwnerWrite (p : Path) (pid : Pid) (s : State) : Out :=
  .next (s.windowed p (.ucbOwnerWrite p pid) fun s => s.ownerField p pid)

/-- UCB_MISS cleared where ones are written (RW1C), in a unit; a write to an aggregate or to a partition is a write of the same
value to every tray below it (R15, R28). -/
def State.missTray (v : Word) (s : State) (t : Nat) : State :=
  s.modTray t fun x => { x with lad := { x.lad with misses := x.lad.misses &&& ~~~v } }
def State.missUnit (v : Word) (s : State) (u : URef) : State :=
  match u with
  | .cluster c => s.modCluster c fun x => { x with lad := { x.lad with misses := x.lad.misses &&& ~~~v } }
  | .core _ => s
  | .tray t => s.missTray v t
  | u => (s.traysUnder u).foldl (State.missTray v) s
def State.missPid (v : Word) (s : State) (pid : Pid) : State := (s.traysOfPid pid).foldl (State.missTray v) s

/-- The peak readings that a read of UCB_TEMP clears. -/
def State.clearPeak (s : State) : Sel → State
  | .bad => s
  | .wild _ => s
  | .part pid => (s.traysOfPid pid).foldl (fun s t => s.modTray t fun x => { x with temp := { x.temp with peak := 0 } }) s
  | .one (.cluster c) => s.modCluster c fun x => { x with temp := { x.temp with peak := 0 } }
  | .one (.core k) => s.modCluster (clusterOfCore k) fun x => { x with temp := { x.temp with peak := 0 } }
  | .one u => (s.traysUnder u).foldl (fun s t => s.modTray t fun x => { x with temp := { x.temp with peak := 0 } }) s

/-- What a read of a window register leaves (R25): a wildcard read is refused with CODE 6, a valid one sets CODE to 0 and `f` is
done for what it names. Reads are not held behind a wildcard write, only writes are (R26). -/
def State.windowTouch (s : State) (p : Path) (f : State → Sel → State) : State :=
  match s.selOf p with
  | .wild _ => s.setCode p 6
  | .bad => s
  | sel => (f s sel).setCode p 0

/-- A read of UCB_TEMP (R28): the value is sent and PEAK is cleared. -/
def State.tempRead (s : State) (p : Path) : State :=
  (s.send (.csr p 0x100101C (s.regNow p 0x100101C))).windowTouch p State.clearPeak

def execUcbTempRead (p : Path) (s : State) : Out := .next (if s.priv p then s.tempRead p else s)

end Sys2Proof.Machine
end

