-- ==== Sys2Proof/Machine/Host.lean ====
section
/-! DEFINITION. The rows of the host side (08) but for RDMA requests: Ethernet ports, queue pairs, authentication,
submission rings and status records. -/

set_option Elab.async false

namespace Sys2Proof.Machine

/-! ### Ethernet frames (R208, R209, R395) -/

/-- Four stored words from an address on, low word first. -/
def State.words (s : State) (a : Nat) : BitVec 128 :=
  BitVec.ofNat 128 (((List.range 4).map fun i => (s.pol (a + 4 * i)).toNat * 2 ^ (32 * i)).foldl (· + ·) 0)

/-- The addresses of a port: IPv4, and IPv6 low word first. -/
def State.ip4 (s : State) (p : BitVec 1) : Word := s.pol (0x601010 + 0x100 * p.toNat)
def State.ip6 (s : State) : EthPort → BitVec 128
  | .hp0 => s.words 0x601020
  | .hp1 => s.words 0x601120
  | .mp => s.words 0xB00020

/-- An Ethernet frame received, and one sent. -/
def State.ethIn (s : State) : EthPort → State
  | .hp0 => s.frameIn 0
  | .hp1 => s.frameIn 1
  | .mp => s
def State.ethOut (s : State) : EthPort → State
  | .hp0 => s.frameOut 0
  | .hp1 => s.frameOut 1
  | .mp => s

/-- A frame dropped and counted. -/
def State.dropFrame (s : State) : EthPort → State
  | .hp0 => s.setHport 0 { s.hport 0 with drop := satAdd (s.hport 0).drop 1 }
  | .hp1 => s.setHport 1 { s.hport 1 with drop := satAdd (s.hport 1).drop 1 }
  | .mp => { s with mgmt := { s.mgmt with drop := satAdd s.mgmt.drop 1 } }

/-- A host port as an Ethernet port. -/
def ethOf (p : BitVec 1) : EthPort := if p = 0 then .hp0 else .hp1

/-- A port expects an 802.1Q tag on what it receives (R209, R229); the management port has no such setting. -/
def State.tagOn (s : State) : EthPort → Bool
  | .hp0 => (s.portCfg 0).getLsbD 31
  | .hp1 => (s.portCfg 1).getLsbD 31
  | .mp => false

/-- An ARP request: answered for the port's own address, with a tag exactly where the port is set to one. -/
def State.arp (s : State) (p : BitVec 1) (ip : BitVec 32) (tagged : Bool) : State :=
  if ip = s.ip4 p ∧ ip ≠ 0 ∧ tagged = s.tagOn (ethOf p) then
    (s.send (.arpReply p ip)).frameOut p
  else s.dropFrame (ethOf p)

def execArpRequest (port : BitVec 1) (ip : BitVec 32) (tagged : Bool) (s : State) : Out :=
  .next ((s.frameIn port).arp port ip tagged)

/-- A neighbour solicitation: answered for the port's own address. -/
def State.solicit (s : State) (p : EthPort) (ip : BitVec 128) (tagged : Bool) : State :=
  if ip = s.ip6 p ∧ ip ≠ 0 ∧ tagged = s.tagOn p then (s.send (.naReply p ip)).ethOut p else s.dropFrame p

def execNeighbourSolicitation (port : EthPort) (ip : BitVec 128) (tagged : Bool) (s : State) : Out :=
  .next ((s.ethIn port).solicit port ip tagged)

/-- The address that an echo request must name. -/
def State.echoAddr (s : State) (p : EthPort) (v6 : Bool) : BitVec 128 :=
  if v6 then s.ip6 p
  else match p with
    | .hp0 => (s.ip4 0).setWidth 128
    | .hp1 => (s.ip4 1).setWidth 128
    | .mp => 0

def State.echo (s : State) (p : EthPort) (v6 : Bool) (ip : BitVec 128) (tagged : Bool) : State :=
  if ip = s.echoAddr p v6 ∧ ip ≠ 0 ∧ tagged = s.tagOn p then (s.send (.echoReply p)).ethOut p else s.dropFrame p

def execIcmpEcho (port : EthPort) (v6 : Bool) (ip : BitVec 128) (tagged : Bool) (s : State) : Out :=
  .next ((s.ethIn port).echo port v6 ip tagged)

/-- Any other frame: dropped, and counted where R208 to R210, R212 and R395 count it; a packet to a queue pair that is
not in RTS is only dropped (R212). -/
def execFrameDropped (port : EthPort) (why : DropReason) (s : State) : Out :=
  .next (if why = .qpNotRts then s.ethIn port else (s.ethIn port).dropFrame port)

/-- A link up or down: event 0x0A06. The packets that waited behind PFC are lost with the link. -/
def State.hostLink (s : State) (p : BitVec 1) (up : Bool) : State :=
  let x := s.hport p
  if x.link = up then s
  else (s.setHport p { x with link := up, fec := up, paused := false, pausing := false, txq := [] }).event 0x0A06 0 0

def execHostLinkChange (port : BitVec 1) (up : Bool) (s : State) : Out := .next (s.hostLink port up)

/-- A PFC frame is honoured for the priority of PORT_CFG, where PFC is on (R211): that of the RoCEv2 packets alone. -/
def State.pfcOn (s : State) (p : BitVec 1) : Bool := (s.portCfg p).getLsbD 27
def State.pfcIn (s : State) (p : BitVec 1) (prio : BitVec 3) (pause : Bool) : State :=
  if s.pfcOn p ∧ prio.toNat = bitsOf (s.portCfg p) 30 28 then
    if pause then s.setHport p { s.hport p with paused := true } else s.resume p
  else s

def execPfcFrame (port : BitVec 1) (prio : BitVec 3) (pause : Bool) (s : State) : Out := .next (s.pfcIn port prio pause)

/-! ### Queue pairs (R211-R213) -/

/-- An update of a queue pair. -/
def State.modQp (s : State) (k : Nat) (f : Qp → Qp) : State := s.setQp k (f (s.qp k))

/-- A queue pair in RTS goes to ERROR: event 0x0A01. -/
def State.qpError (s : State) (k : Nat) (reason : Byte) : State :=
  let q := s.qp k
  if q.st = 1 then
    (s.setQp k { q with st := 2, reason := reason, auth := false, verifying := false, mirror := [], run := none, ackDue := none,
                        stalled := [] }).event 0x0A01 0 0
  else s

/-- A queue pair in RESET: its configuration, the reason of its last error and its refusals stay. -/
def Qp.cleared (q : Qp) : Qp :=
  { op := q.op, cfg := q.cfg, path := q.path, sqpsn := q.sqpsn, rqpsn := q.rqpsn, keytag := q.keytag, raddr := q.raddr,
    reason := q.reason, refusals := q.refusals, lockout := q.lockout }

/-- Four words as an address, low word first. -/
def addrOf (l : List Word) : BitVec 128 := BitVec.ofNat 128 (leNat (l.flatMap fun w => leBytes 4 w.toNat))

/-- The gateway of a port, by family. -/
def State.gateway (s : State) (p : BitVec 1) (v6 : Bool) : BitVec 128 :=
  let a := 0x601000 + 0x100 * p.toNat
  if v6 then s.words (a + 0x30) else (s.pol (a + 0x14)).setWidth 128

/-- The address whose link address a queue pair needs: its peer's, or the gateway's where the peer is off-link (R209). No register gives a
prefix: whether the peer is off-link is a free value, and a port without a gateway asks for the peer. -/
def State.nextHop (s : State) (k : Nat) : BitVec 128 :=
  let q := s.qp k
  let v6 := q.path.getLsbD 30
  let ip : BitVec 128 := if v6 then addrOf q.raddr else (q.raddr[0]?.getD 0).setWidth 128
  let gw := s.gateway q.port v6
  if gw ≠ 0 ∧ Config.onLink (if v6 then s.ip6 (ethOf q.port) else (s.ip4 q.port).setWidth 128) ip = false then gw else ip

/-- An ARP request or a neighbour solicitation for the link address of a queue pair. -/
def State.askLink (s : State) (k : Nat) : State :=
  let q := s.qp k
  let ip := s.nextHop k
  if ip = 0 then s
  else (s.send (if q.path.getLsbD 30 then .nsRequest (ethOf q.port) ip else .arpRequest q.port (ip.setWidth 32))).frameOut q.port

/-- CONNECT: from RESET to RTS; ignored for 60 s after AUTH_LIMIT. An admin queue pair draws a nonce (R216), and the port asks for the link
address (R209). -/
def State.connect (s : State) (k : Nat) : State :=
  let q := s.qp k
  if q.st ≠ 0 ∨ q.lockout then s
  else
    ((s.setQp k { q with st := 1, sendPsn := q.sqpsn, expPsn := q.rqpsn,
                         nonce := if 4096 ≤ k then Config.wide s.fv else 0 }).draw).askLink k

/-- OP of QP_CMD as a write leaves it (R229). -/
def State.qpOp (s : State) (k : Nat) (op : BitVec 2) : State := s.modQp k fun q => { q with op := op }

def execQpConnect (p : Path) (s : State) : Out :=
  let k := (s.path p).qpSel.toNat
  .next (if s.priv p then (s.qpOp k 1).connect k else s)
def execQpReset (p : Path) (s : State) : Out :=
  let k := (s.path p).qpSel.toNat
  .next (if s.priv p then (s.qpOp k 2).modQp k Qp.cleared else s)

/-- The smallest rate, in Mb/s. -/
def State.minRate (s : State) : Nat := 1000 * s.polF 0x600008 7 0

/-- A CNP: the rate is cut by 1 − α/2, then α moves towards 1 (R211). Rates are whole Mb/s and α is in units of 2^-32. -/
def State.cnp (s : State) (k : Nat) : State :=
  let q := s.qp k
  if q.st ≠ 1 then s
  else
    let g := 2 ^ s.polF 0x600008 31 28
    let s := s.setHport q.port { s.hport q.port with cnpRx := satAdd (s.hport q.port).cnpRx 1 }
    s.setQp k { q with rate := max s.minRate (q.rate * (8589934592 - q.alpha) / 8589934592),
                       alpha := q.alpha - q.alpha / g + 4294967296 / g }

def execCnpReceived (qp : BitVec 13) (s : State) : Out := .next (s.cnp qp.toNat)

/-- A recovery or an increase of a cut rate: no rule gives the amount, so that the new rate is a free value between the
old one and the line rate. -/
def State.rateUp (s : State) (k : Nat) : State :=
  let q := s.qp k
  if q.st ≠ 1 ∨ 400000 ≤ q.rate then s
  else (s.setQp k { q with rate := max q.rate (min 400000 (Config.rate s.fv)) }).draw

def execDcqcnRateTimer (qp : BitVec 13) (s : State) : Out := .next (s.rateUp qp.toNat)
def execDcqcnByteCounter (qp : BitVec 13) (s : State) : Out := .next (s.rateUp qp.toNat)

/-- An ACK timeout: go-back-N, or RETRY_EXCEEDED once the retry count is exhausted (R210, R213). -/
def State.ackTimeout (s : State) (k : Nat) : State :=
  let q := s.qp k
  if q.st ≠ 1 ∨ q.mirror = [] then s
  else if bitsOf q.cfg 31 29 ≤ q.retries then s.qpError k 1
  else
    let n := q.mirror.length
    let s := (s.setQp k { q with retries := q.retries + 1 }).setHport q.port
      { s.hport q.port with retx := satAdd (s.hport q.port).retx n }
    q.mirror.foldl (fun s m => s.roce k (.mirror m.psn m.va m.key m.data)) s

def execAckTimeout (qp : BitVec 13) (s : State) : Out := .next (s.ackTimeout qp.toNat)

/-- An ACK releases the oldest mirror write. -/
def State.mirrorAcked (s : State) (k : Nat) : State := s.modQp k fun q => { q with mirror := q.mirror.drop 1, retries := 0 }

def execMirrorAck (qp : BitVec 13) (s : State) : Out := .next (s.mirrorAcked qp.toNat)

/-- A NAK for a mirror write: the queue pair goes to ERROR, MODE to 0, and event 0x0A05 is recorded (R226). -/
def State.mirrorNaked (s : State) (k : Nat) : State :=
  let q := s.qp k
  if q.st = 1 ∧ q.mirror ≠ [] ∧ k < 4096 then
    let c := BitVec.ofNat 12 k
    let s := s.qpError k 5
    (s.setCtx c { s.ctx c with mmode := 0 }).event 0x0A05 0 0
  else s

def execMirrorNak (qp : BitVec 13) (s : State) : Out := .next (s.mirrorNaked qp.toNat)

/-- An answer to the request of a queue pair: the packets sent from now on use the address. When one that was to leave before it leaves, no
rule says: the model sends it without one (log entry 93). -/
def State.resolved (s : State) (k : Nat) (mac : BitVec 48) : State :=
  (s.frameIn (s.qp k).port).modQp k fun q => { q with mac := some mac }

def execLinkAddressResolved (qp : BitVec 13) (mac : BitVec 48) (s : State) : Out := .next (s.resolved qp.toNat mac)

/-! ### Authentication (R216) -/

/-- The queue pair of admin number `a`. -/
def adminQp (a : BitVec 4) : Nat := 4096 + a.toNat

/-- GO: the verification starts, and RESULT reads 0. -/
def State.authStart (s : State) (k : Nat) : State :=
  let q := s.qp k
  if q.st = 1 ∧ !q.verifying then s.setQp k { q with verifying := true, result := 0 } else s

def execAuthGo (a : BitVec 4) (s : State) : Out := .next (s.authStart (adminQp a))

/-- The signature on the authentication page verifies under the owner key that KEY_INDEX names (R216); `k` is the index of the queue
pair, whose local QPN R212 gives. -/
def State.authGood (s : State) (k : Nat) : Bool :=
  let q := s.qp k
  s.signed q.keyIdx.toNat (keyOf (Memory.readN q.sig 0 96)) (s.challenge q.nonce (k - 4096 + 0x100))

/-- The verification ends. A new nonce is drawn; the third refusal is AUTH_LIMIT. -/
def State.authEnd (s : State) (k : Nat) : State :=
  let q := s.qp k
  if q.st ≠ 1 ∨ !q.verifying then s
  else
    let n : BitVec 384 := Config.wide s.fv
    let good := s.authGood k
    let s := s.draw
    if good then s.setQp k { q with verifying := false, auth := true, result := 1, nonce := n }
    else
      let q := { q with verifying := false, result := 2, nonce := n, refusals := q.refusals + 1 }
      let s := (s.setQp k q).event 0x0A04 0 0
      if 3 ≤ q.refusals then (s.qpError k 7).modQp k fun q => { q with lockout := true } else s

def execAuthVerifyDone (a : BitVec 4) (s : State) : Out := .next (s.authEnd (adminQp a))

def execAuthLockoutEnd (a : BitVec 4) (s : State) : Out :=
  .next (if (s.qp (adminQp a)).lockout then s.modQp (adminQp a) fun q => { q with lockout := false, refusals := 0 } else s)

/-! ### Rings (R217-R221) -/

/-- A ring replaced. -/
def State.setRing (s : State) (c : CtxNo) (r : Nat) (x : SubRing) : State :=
  s.setCtx c { s.ctx c with rings := SMap.put (s.ctx c).rings r x }

/-- The words that the HX16 writes to a ring: CONSUMER, REJECTS, LAST_REJECT and zeros (R217). -/
def State.ringHead (s : State) (c : CtxNo) (x : SubRing) : State :=
  s.devWrite c (x.base.toNat + 0x40)
    (leBytes 4 x.consumer.toNat ++ leBytes 4 x.rejects.toNat ++ leBytes 4 x.lastReject.toNat ++ leBytes 52 0)

/-- PRODUCER of a ring, if it can be read. -/
def State.producer (s : State) (c : CtxNo) (x : SubRing) : Option Word :=
  if (s.ctx c).translates x.base.toNat ∧ (s.readFault c x.base.toNat 4).isNone then
    some (BitVec.ofNat 32 (leNat (s.devRead c x.base.toNat 4)))
  else none

/-- The context of a path's host window is one that the path may write. -/
def State.ringOf (s : State) (p : Path) (r : BitVec 2) : CtxNo × SubRing := (s.shownCtx p, (s.ctx (s.shownCtx p)).ring r.toNat)

/-- LOG2 as a write stores it. -/
def log2Of (v : Word) : BitVec 5 := BitVec.ofNat 5 (clampN 6 16 (bitsOf v 4 0))

/-- The checks of an enable (R219). -/
def State.ringFits (s : State) (c : CtxNo) (x : SubRing) : Bool :=
  x.base.toNat % 64 == 0 && (s.ctx c).inRegion x.base.toNat (128 + 64 * 2 ^ x.log2.toNat) && (s.ctx c).scount != 0

/-- CTX_RING_CFG written with EN = 1. -/
def State.ringOn (s : State) (p : Path) (r : BitVec 2) (v : Word) : State :=
  let (c, x) := s.ringOf p r
  if !s.carries p || x.en || !v.getLsbD 31 then s
  else
    let x := { x with log2 := log2Of v }
    match if s.ringFits c x then s.producer c x else none with
    | none => s.setRing c r.toNat { x with code := 0x0607 }
    | some k =>
      let y := { x with en := true, stopped := false, idle := false, code := 0, consumer := k, taken := [] }
      (s.setRing c r.toNat y).ringHead c y

def execRingEnable (p : Path) (r : BitVec 2) (v : Word) (s : State) : Out := .next (s.ringOn p r v)

/-- CTX_RING_CFG written with EN = 0. -/
def State.ringOff (s : State) (p : Path) (r : BitVec 2) (v : Word) : State :=
  let (c, x) := s.ringOf p r
  if !s.carries p || v.getLsbD 31 then s
  else if x.en then s.setRing c r.toNat { x with en := false, idle := false }
  else s.setRing c r.toNat { x with log2 := log2Of v }

def execRingDisable (p : Path) (r : BitVec 2) (v : Word) (s : State) : Out := .next (s.ringOff p r v)

/-- Entry `k` of a ring, copied. -/
def State.entryAt (s : State) (c : CtxNo) (x : SubRing) (k : Word) : Option (BitVec 512) :=
  let a := x.base.toNat + 0x80 + 64 * (k.toNat % 2 ^ x.log2.toNat)
  if (s.readFault c a 64).isNone then some (BitVec.ofNat 512 (leNat (s.devRead c a 64))) else none

/-- A visit of the scanner (R220): up to 64 entries taken, or an overrun. -/
def State.ringVisit (s : State) (c : CtxNo) (r : Nat) : State :=
  let x := (s.ctx c).ring r
  if !s.host.scanning ∨ !x.en ∨ (s.ctx c).st = 0 ∨ (s.ctx c).st = 3 ∨ x.taken ≠ [] ∨ s.readHeld c x.base.toNat 4 then s
  else match s.producer c x with
    | none => s
    | some k =>
      let n := (k - x.consumer).toNat
      let s := s.devTouch c x.base.toNat 4
      if 2 ^ x.log2.toNat < n then
        (s.setRing c r { x with en := false, stopped := true, idle := false, code := 0x0606 }).event 0x0A03 0 0
      else
        let new := (List.range (min 64 n)).map fun i =>
          (x.consumer + BitVec.ofNat 32 i, s.entryAt c x (x.consumer + BitVec.ofNat 32 i))
        s.setRing c r { x with taken := new, idle := x.idle && n == 0 }

def execRingScan (c : CtxNo) (r : BitVec 2) (s : State) : Out := .next (s.ringVisit c r.toNat)

/-- IDLE_PERIOD = 0 turns idling off: no ring is idle. -/
def State.noIdle (s : State) : State :=
  { s with mem := { s.mem with ctxs := s.mem.ctxs.map fun e =>
      (e.1, { e.2 with rings := e.2.rings.map fun r => (r.1, { r.2 with idle := false }) }) } }

/-- A ring without change for 1 ms becomes idle, unless IDLE_PERIOD is 0. -/
def State.ringRest (s : State) (c : CtxNo) (r : Nat) : State :=
  let x := (s.ctx c).ring r
  if x.en ∧ x.taken = [] ∧ s.polF 0x600004 31 16 ≠ 0 then s.setRing c r { x with idle := true } else s

def execRingIdle (c : CtxNo) (r : BitVec 2) (s : State) : Out := .next (s.ringRest c r.toNat)

/-- The record of a slot: one that nothing has used is FREE with GEN 0. -/
def State.record (s : State) (c : CtxNo) (slot : Nat) : Sub :=
  (s.sub? (subKey c (BitVec.ofNat 16 slot))).getD { ctx := c, ring := 0, slot := BitVec.ofNat 16 slot, entry := 0, gen := 0, st := 0,
                                                    status := 0 }

/-- The judgement of an entry (R221). The fields of a START are judged in a START alone. -/
def State.judgeEntry (s : State) (c : CtxNo) (e : BitVec 512) : Option Code :=
  let kind := dN e 0 1
  let x := s.record c (dN e 2 2)
  if 2 < kind then some 0x0601
  else if 2 ≤ dN e 1 1 ∨ dN e 6 2 ≠ 0 ∨ dN e 0x15 3 ≠ 0 ∨ dN e 0x20 32 ≠ 0 ∨
      (kind = 1 ∧ (dN e 4 2 ≠ 0 ∨ dN e 8 8 % 64 ≠ 0)) then some 0x0602
  else if (s.ctx c).scount.toNat ≤ dN e 2 2 then some 0x0603
  else if kind = 1 ∧ x.st ≠ 0 then some 0x0604
  else if kind = 2 ∧ (x.st ≠ 4 ∧ x.st ≠ 5 ∨ x.gen.toNat ≠ dN e 4 2) then some 0x0605
  else none

/-- The first entry taken is done: CONSUMER advances past it. -/
def State.entryDone (s : State) (c : CtxNo) (r : Nat) : State :=
  let x := (s.ctx c).ring r
  let y := { x with consumer := x.consumer + 1, taken := x.taken.drop 1 }
  (s.setRing c r y).ringHead c y

/-- The first entry taken is rejected: REJECTS, LAST_REJECT and event 0x0A02. -/
def State.entryRejected (s : State) (c : CtxNo) (r : Nat) (k : Word) (code : Code) : State :=
  let x := (s.ctx c).ring r
  ((s.setRing c r { x with rejects := satAdd x.rejects 1,
                           lastReject := packW [(16, code.toNat), (0, k.toNat % 65536)] }).event 0x0A02 0 0).entryDone c r

/-- The first entry taken, where `mine` holds of its KIND: rejected, or done by `f`. A context in RESETTING keeps its
entries waiting (R227). -/
def State.entryRun (s : State) (c : CtxNo) (r : Nat) (mine : Nat → Bool) (f : State → Word → BitVec 512 → State) : State :=
  if (s.ctx c).st = 0 ∨ (s.ctx c).st = 3 then s
  else match ((s.ctx c).ring r).taken.head? with
    | none => s
    | some (k, none) => if mine 0 then s.entryRejected c r k 0x0203 else s
    | some (k, some e) =>
      if !mine (dN e 0 1) then s
      else match s.judgeEntry c e with
        | some code => s.entryRejected c r k code
        | none => (f s k e).entryDone c r

/-- NOP; entries of no known KIND are rejected here too. -/
def execRingNop (c : CtxNo) (r : BitVec 2) (s : State) : Out :=
  .next (s.entryRun c r.toNat (fun k => k != 1 && k != 2) fun s _ _ => s)

/-- The GEN after `g`, skipping 0. -/
def nextGen (g : BitVec 16) : BitVec 16 := if g + 1 = 0 then 1 else g + 1

/-- START: the record is QUEUED, and the start request is judged (R106, R221). -/
def State.entryStart (s : State) (c : CtxNo) (r : Nat) (k : Word) (e : BitVec 512) : State :=
  let old := s.record c (dN e 2 2)
  let x : Sub := { ctx := c, ring := BitVec.ofNat 2 r, slot := BitVec.ofNat 16 (dN e 2 2), entry := k, gen := nextGen old.gen,
                   user := BitVec.ofNat 64 (dN e 0x18 8), serial := dN e 1 1 == 1 }
  let key := subKey c x.slot
  let q : StartReq := { id := s.nextId, ctx := c, sub := key, chain := BitVec.ofNat 48 (dN e 8 8),
                        place := BitVec.ofNat 32 (dN e 0x10 4), lsKib := dN e 0x14 1, serial := dN e 1 1 == 1, first := true }
  let s := (s.rewrite x).fresh
  let s := s.setCtx c { s.ctx c with submits := satAdd (s.ctx c).submits 1 }
  let s := { s with starts := s.starts ++ [q] }
  match s.judgeStart c q.place q.lsKib with
  | some code => s.refuseStart q code
  | none => if 281474976710656 ≤ dN e 8 8 then s.refuseStart q 0x0102 else s

def execRingStart (c : CtxNo) (r : BitVec 2) (s : State) : Out :=
  .next (s.entryRun c r.toNat (fun k => k == 1) fun s k e => s.entryStart c r.toNat k e)

/-- RELEASE: the record is FREE. -/
def State.entryRelease (s : State) (c : CtxNo) (e : BitVec 512) : State :=
  let x := s.record c (dN e 2 2)
  s.rewrite { x with st := 0, status := 0, seq := x.seq + 1 }

def execRingRelease (c : CtxNo) (r : BitVec 2) (s : State) : Out :=
  .next (s.entryRun c r.toNat (fun k => k == 2) fun s _ e => s.entryRelease c e)

/-! ### The status region (R222, R227) -/

/-- A ring of the context is enabled, or a record is not FREE. -/
def State.statusInUse (s : State) (c : CtxNo) : Bool :=
  ((s.ctx c).rings.any fun e => e.2.en) || s.subs.any fun e => e.2.ctx == c && e.2.st != 0

/-- The status region set to a base and a count: every record is zeroed, FREE and GEN 0; or the write is ignored. -/
def State.statusSet (s : State) (c : CtxNo) (base : BitVec 64) (count : Nat) : State :=
  if s.statusInUse c ∨ (count ≠ 0 ∧ !(s.ctx c).inRegion base.toNat (64 * count)) then s
  else
    let s := s.setCtx c { s.ctx c with sbase := base, scount := BitVec.ofNat 17 count }
    let s := { s with subs := s.subs.filter fun e => e.2.ctx ≠ c }
    if count = 0 then s else s.devWrite c base.toNat (List.replicate (64 * count) 0)

/-- A write of CTX_STATUS_CFG. -/
def execStatusRegionConfig (p : Path) (v : Word) (s : State) : Out :=
  .next (if s.carries p then s.statusSet (s.shownCtx p) (s.ctx (s.shownCtx p)).sbase (min 65536 (bitsOf v 16 0)) else s)

/-- What a destroyed context leaves on the host side: its queue pair goes to ERROR, then to RESET, and its records are
gone (R226, R227). -/
def State.hostDrop (s : State) (c : CtxNo) : State :=
  let s := (s.qpError c.toNat 6).modQp c.toNat Qp.cleared
  { s with subs := s.subs.filter fun e => e.2.ctx ≠ c }

end Sys2Proof.Machine
end

