-- ==== Sys2Proof/Machine/Operands.lean ====
section
/-! DEFINITION. Operands of descriptors (R117-R130): operand addresses, spaces, extents, element formats and their
conversions (R49, R121, R146), the checks of R127, and how a descriptor's results are written. -/

set_option Elab.async false

namespace Sys2Proof.Machine

/-! ### Extents (R127-R130) -/

/-- Check 5 of R127: the range lies within its space. -/
def State.fits (s : State) (t : Thread) (a : Opnd) (n : Nat) : Bool :=
  if a.sp = 0 then (s.ctx t.ctx).inRegion a.off n
  else if a.sp = 1 then decide (a.off + n ≤ 1024 * t.size)
  else decide (a.off + n ≤ 65536 * (s.ctx t.ctx).gsize.toNat)

/-- Check 6 of R127: every page translates. -/
def State.maps (s : State) (t : Thread) (a : Opnd) : Bool := a.sp != 0 || (s.ctx t.ctx).translates a.off

/-- Two ranges meet. -/
def meets (a : Opnd) (n : Nat) (b : Opnd) (m : Nat) : Bool :=
  a.sp == b.sp && decide (a.off < b.off + m) && decide (b.off < a.off + n)

/-! ### Header and body (R117-R119, R127) -/

/-- The header's reserved bits are 0, CT_UNIT is 0 without CT_REMOTE, and ASYNC is set only where it is accepted. -/
def hdrOk (d : BitVec 512) (async : Bool) : Bool :=
  !dFlag d 0 && decide (dN d 2 1 < 64) && decide (dN d 3 1 < 64) && dN d 0x0C 4 == 0 && (dFlag d 5 || dN d 8 4 == 0) &&
    (async || !dFlag d 3)

/-- Every body byte outside the named fields is 0. -/
def bodyOk (d : BitVec 512) (used : List (Nat × Nat)) : Bool :=
  (List.range 48).all fun i =>
    (used.any fun u => decide (u.1 ≤ 16 + i) && decide (16 + i < u.1 + u.2)) || dN d (16 + i) 1 == 0

/-- The outcomes of checks 2 to 6 of R127. -/
structure Checks where
  fmt : Bool
  align : Bool := true
  zero : Bool := false
  bound : Bool := true
  ext : Bool := true
  trans : Bool := true
deriving DecidableEq, Repr

/-- A tally operation aimed outside the partition: TALLY_REJECT in the thread's own cluster, PARTITION (R99, R123). -/
def State.rejectTally (s : State) (k n : Nat) (d : BitVec 512) (ct : Option (Nat × BitVec 6)) : State :=
  (s.modCluster (clusterOfCore k) fun x => { x with flags := x.flags ||| 2 }).failDesc k n d ct 0x0505

/-- The checks of R127 in their order, then the opcode's own (`own`), then its work. A completion tally outside the partition fails the
descriptor after check 6 and before the opcode's own check, ahead of the OK of a zero count, and an earlier check that fails sets no
TALLY_REJECT (R123 gives the check no place in that order: DESIGN CHOICE, log entry 84). `bound` is the binding of an append (R153). -/
def State.checked (s : State) (k n : Nat) (t : Thread) (d : BitVec 512) (c : Checks) (own : Option Code)
    (run : Option (Nat × BitVec 6) → State) : State :=
  let ct := s.ctOf k t d
  let bad (code : Code) : State := s.failDesc k n d (ct.getD none) code
  if !c.fmt then bad 0x0104
  else if !c.align then bad 0x0103
  else if c.zero then
    match ct with
    | some x => s.completeNow k n d x
    | none => s.rejectTally k n d none
  else if !c.bound then bad 0x0506
  else if !c.ext then bad 0x0102
  else if !c.trans then bad 0x0202
  else match ct, own with
    | none, _ => s.rejectTally k n d none
    | some x, some code => s.failDesc k n d x code
    | some x, none => run x

/-- A row of a descriptor: the thread is READY on a core that issues, `mine` holds of its current descriptor, and the waits
of the header are over (R93, R114, R123); then `f`. -/
def State.descStep (s : State) (c : UnitAddr) (n : SlotNo) (mine : BitVec 512 → Bool)
    (f : State → Nat → Nat → Thread → BitVec 512 → State) : State :=
  match s.coreAt c with
  | none => s
  | some k =>
    match s.thread? k n.toNat with
    | none => s
    | some t =>
      match t.cur with
      | none => s
      | some d =>
        if t.st ≠ .ready || !mine d then s
        else if (s.core k).ctl.st = .held then s.setThread k n.toNat { t with st := .held }
        else if !issues (s.core k).ctl.st then s
        else if dFlag d 4 && s.outst.any (fun o => o.thread == t.id) then
          s.setThread k n.toNat { t with st := .waitData, wait := .order }
        else
          let i := BitVec.ofNat 6 (dN d 3 1)
          let v := BitVec.ofNat 32 (dN d 4 4)
          if dFlag d 7 && !t.waited && decide ((s.tally (clusterOfCore k) i).toNat < v.toNat) then
            s.setThread k n.toNat { t with st := .waitTally, wait := .pre i v }
          else f s k n.toNat t d

/-! ### Results in place at once (R130, R150) -/

/-- A descriptor that has written as `w` ends: at once, or once its site no longer holds what it wrote (R156, R194). -/
def State.finish (s : State) (k n : Nat) (t : Thread) (d : BitVec 512) (ct : Option (Nat × BitVec 6)) (w : Seat) (code : Option Code) :
    State :=
  if s.heldFor w.writer then
    match w.writer with
    | .thread _ i => s.setThread k n { t with st := .waitData, wait := .visible i code }
    | _ => s
  else match code with
    | some x => s.failDesc k n d ct x
    | none => s.completeNow k n d ct

/-- The end of a descriptor that reads `srcs` and writes `writes` into the ranges `dsts`: an error of a read or a write
leaves the destination undefined; `undef` says that destination and source overlap; no writes say that the data do
not convert. -/
def State.produce (s : State) (k n : Nat) (t : Thread) (d : BitVec 512) (ct : Option (Nat × BitVec 6))
    (srcs dsts : List (Opnd × Nat)) (writes : Option (List (Opnd × List Byte))) (undef : Bool) : State :=
  let w := s.seat k t
  if srcs.any (fun r => s.getHeld w r.1 r.2) then s else
  let s := srcs.foldl (fun s r => s.touchOp w r.1 r.2) s
  let code := srcs.findSome? (fun r => s.getFault w r.1 r.2) <|>
    if writes.isSome then dsts.findSome? fun r => s.putFault w r.1 r.2 else none
  let f := s.fv
  if code.isSome || (undef && writes.isSome) then
    (dsts.zipIdx.foldl (fun s r => s.putL w r.1.1 (freeBytes f (65536 * r.2) r.1.2)) s).draw.finish k n t d ct w code
  else match writes with
    | none => s.failDesc k n d ct 0x0104
    | some l => (l.foldl (fun s r => s.putL w r.1 r.2) s).finish k n t d ct w none

/-! ### Element formats (R121) -/

/-- The floating-point formats. -/
def fmtOf (f : Nat) : FFmt :=
  if f = 0 then fp32 else if f = 1 then bf16 else if f = 2 then fp16 else if f = 3 then e4m3 else e5m2

/-- The integer formats. -/
def isInt (f : Nat) : Bool := f == 5 || f == 6

/-- A multiple of a format's natural alignment. -/
def alignedTo (n : Nat) (a : Nat) : Bool := a % n == 0

/-- The bytes of element `i` in a list of packed elements of size `z`. -/
def elemBytes (l : List Byte) (z i : Nat) : List Byte := (l.drop (z * i)).take z

/-- Element `i` as a floating-point value, and as an integer. -/
def elemF (l : List Byte) (f i : Nat) : FVal := (fmtOf f).decode (leNat (elemBytes l (fmtSize f) i))
def elemI (l : List Byte) (f i : Nat) : Int := sgn (8 * fmtSize f) (leNat (elemBytes l (fmtSize f) i))

/-- An integer as a floating-point value. -/
def ofInt (x : Int) : FVal := .num (decide (x < 0)) x.natAbs 0

/-- A value rounded to a floating-point format by the rules of R146: BF16 and FP16 overflow to infinity, the FP8 formats
saturate. -/
def toFmt (f : Nat) (v : FVal) : Nat :=
  let g := fmtOf f
  let r := g.encode v
  match v with
  | .num neg _ _ => if r.2 ∧ (f = 3 ∨ f = 4) then
      g.signBits neg + (if f = 3 then 126 else 123) else r.1
  | _ => r.1

/-- A value rounded to an integer of `w` bits: saturating, NaN gives 0 (R146). -/
def toIntFmt (w : Nat) (v : FVal) : Nat :=
  match v with
  | .nan => 0
  | .inf neg => (satInt w (if neg then -(2 ^ w : Nat) else (2 ^ w : Nat))).toNat
  | .num neg m e =>
    let x : Int := rneAt m e 0
    (satInt w (if neg then -x else x)).toNat

/-- A floating-point value in any format, as bytes. -/
def putFloat (f : Nat) (v : FVal) : List Byte :=
  leBytes (fmtSize f) (if isInt f then toIntFmt (8 * fmtSize f) v else toFmt f v)

/-- An integer in any format, as bytes: INT8 saturates. -/
def putInt (f : Nat) (x : Int) : List Byte :=
  leBytes (fmtSize f) (if isInt f then (satInt (8 * fmtSize f) x).toNat else toFmt f (ofInt x))

/-! ### Block conversion (R49) -/

/-- The value is finite. -/
def FVal.finite : FVal → Bool
  | .num _ _ _ => true
  | _ => false

/-- The mantissa and the exponent of a finite value. -/
def FVal.mant : FVal → Nat
  | .num _ m _ => m
  | _ => 0
def FVal.expo : FVal → Int
  | .num _ _ e => e
  | _ => 0
def FVal.negative : FVal → Bool
  | .num n _ _ => n
  | .inf n => n
  | .nan => false

/-- The smallest e with every |v| at most 127 * 2^e, and not below -128; an all-zero vector has e = -128 (R49). -/
def blockExp (vs : List FVal) : Int :=
  let nz := vs.filter fun v => v.mant != 0
  let one (v : FVal) : Int :=
    let l := bitLen v.mant
    v.expo + (if v.mant * 128 ≤ 127 * 2 ^ l then (l : Int) - 7 else (l : Int) - 6)
  nz.foldl (fun a v => max a (one v)) (-128)

/-- Step 2 of R49: v / 2^e rounded to nearest, ties to even. -/
def blockMant (e : Int) (v : FVal) : Int :=
  let x : Int := rneAt v.mant v.expo e
  if v.negative then -x else x

/-- A vector in block form: mantissas and exponent; none where an element is not finite or e would pass 127. -/
def toBlock (vs : List FVal) : Option (List Int × Int) :=
  if vs.all FVal.finite && decide (blockExp vs ≤ 127) then some (vs.map (blockMant (blockExp vs)), blockExp vs) else none

/-- Signed bytes. -/
def sbytes (l : List Int) : List Byte := l.map (BitVec.ofInt 8)

end Sys2Proof.Machine
end

