-- ==== Sys2Proof/Machine/Descriptors.lean ====
section
/-! DEFINITION. The rows of control, synchronisation, movement and the exposure path (05, R131-R143), of the mover
(R124), of sequences (R151-R154, R111) and of PUBLISH (R155). -/

set_option Elab.async false

namespace Sys2Proof.Machine

/-! ### Control (R131-R133) -/

/-- NOP (R132). -/
def State.nopRun (s : State) (k n : Nat) (t : Thread) (d : BitVec 512) : State :=
  s.checked k n t d { fmt := hdrOk d false && bodyOk d [] } none fun ct => s.completeNow k n d ct

def execNop (c : UnitAddr) (k : SlotNo) (s : State) : Out := .next (s.descStep c k (fun d => opcode d == 0x00) State.nopRun)

/-- END (R132, R156): its tally follows every earlier descriptor of the thread. -/
def State.endRun (s : State) (k n : Nat) (t : Thread) (d : BitVec 512) : State :=
  s.checked k n t d { fmt := hdrOk d false && bodyOk d [] } none fun ct =>
    let s := match ct with
      | some e =>
        let o : Outst := { id := s.nextId, thread := t.id, sub := t.sub, cluster := clusterOfCore k, ct := some e, left := 0,
                           isEnd := true }
        { s.fresh with outst := s.outst ++ [o] }
      | none => s
    s.threadEnd k n none

def execEndThread (c : UnitAddr) (k : SlotNo) (s : State) : Out :=
  .next (s.descStep c k (fun d => opcode d == 0x01) State.endRun)

/-- JUMP (R132): the chain goes on at TARGET. -/
def State.jumpRun (s : State) (k n : Nat) (t : Thread) (d : BitVec 512) : State :=
  let a := opnd d 0x10
  s.checked k n t d
    { fmt := hdrOk d false && bodyOk d [(0x10, 8)] && a.among [0], align := alignedTo 64 a.off } none fun ct =>
      (s.addOut k n ct).advanceTo k n d a.off false

def execJump (c : UnitAddr) (k : SlotNo) (s : State) : Out := .next (s.descStep c k (fun d => opcode d == 0x02) State.jumpRun)

/-- The opcodes of R131. -/
def knownOpcodes : List Nat :=
  [0x00, 0x01, 0x02, 0x03, 0x04, 0x10, 0x11, 0x18, 0x19, 0x20, 0x21, 0x22, 0x23, 0x24, 0x28, 0x29, 0x30, 0x33, 0x34, 0x38,
   0x40, 0x41, 0x42, 0x43, 0x50]

/-- An unknown opcode (R131). -/
def State.unknownRun (s : State) (k n : Nat) (t : Thread) (d : BitVec 512) : State :=
  s.failDesc k n d ((s.ctOf k t d).getD none) 0x0101

def execUnknownOpcode (c : UnitAddr) (k : SlotNo) (s : State) : Out :=
  .next (s.descStep c k (fun d => !knownOpcodes.contains (opcode d)) State.unknownRun)

/-- THREAD_START (R133): judged under R106; with NOWAIT dispatched at once or refused; else the thread waits for the child. CHAIN is judged
at checks 5 and 6 as an operand of 64 bytes, while the TARGET of a JUMP is left to its fetch (R133 states no extent for CHAIN: DESIGN
CHOICE, log entry 85). -/
def State.threadStartRun (s : State) (k n : Nat) (t : Thread) (d : BitVec 512) : State :=
  let a := opnd d 0x10
  let place := BitVec.ofNat 32 (dN d 0x18 4)
  let ls := dN d 0x1C 1
  let mode := dN d 0x1D 1
  let nowait := mode % 2 == 1
  let endEn := mode / 2 % 2 == 1
  let eu := dN d 0x20 4
  let target := s.clusterIn (BitVec.ofNat 32 eu) t.pid
  let judged := s.judgeStart t.ctx place ls
  s.checked k n t d
    { fmt := hdrOk d false && bodyOk d [(0x10, 8), (0x18, 4), (0x1C, 1), (0x1D, 1), (0x1E, 1), (0x20, 4)] && a.among [0] &&
        decide (mode < 4) && decide (dN d 0x1E 1 < 64) && (endEn || eu == 0) && decide (1 ≤ ls) && decide (ls ≤ 16)
      align := alignedTo 64 a.off, ext := s.fits t a 64, trans := s.maps t a } judged fun ct =>
    if endEn && target.isNone then s.rejectTally k n d ct
    else
      let r : StartReq :=
        { id := s.nextId, ctx := t.ctx, sub := t.sub, chain := BitVec.ofNat 48 a.off, place := place, lsKib := ls,
          ended := if endEn then target.map fun c => (c, BitVec.ofNat 6 (dN d 0x1E 1)) else none,
          parent := some (k, BitVec.ofNat 3 n) }
      match nowait, s.placeOf r with
      | true, none => s.failDesc k n d ct 0x0507
      | true, some (ck, cn, b) => s.fresh.startThread r ck cn b
      | false, _ =>
        { s.fresh.setThread k n { t with st := .waitData, wait := .child r.id } with starts := s.starts ++ [r] }

def execThreadStart (c : UnitAddr) (k : SlotNo) (s : State) : Out :=
  .next (s.descStep c k (fun d => opcode d == 0x03) State.threadStartRun)

/-! ### TALLY (R99, R134) -/

/-- A TALLY descriptor with operation `op`, or with the reserved one. -/
def isTally (op : Nat) (d : BitVec 512) : Bool := opcode d == 0x04 && (dN d 0x10 1 % 4 == op || dN d 0x10 1 % 4 == 3)

/-- The format checks that the three operations share. -/
def tallyFmt (d : BitVec 512) : Bool :=
  hdrOk d false && bodyOk d [(0x10, 1), (0x11, 1), (0x14, 4), (0x18, 4), (0x1C, 4)] && dN d 0x10 1 % 4 != 3 &&
    dN d 0x10 1 / 4 % 32 == 0 && decide (dN d 0x11 1 < 64) && (decide (dN d 0x10 1 < 128) || dN d 0x14 4 == 0)

/-- The cluster that an ADD or SET names: its own, or one of its partition. -/
def State.tallyTarget (s : State) (k : Nat) (t : Thread) (d : BitVec 512) : Option Nat :=
  if 128 ≤ dN d 0x10 1 then some (clusterOfCore k) else s.clusterIn (BitVec.ofNat 32 (dN d 0x14 4)) t.pid

/-- An ADD or SET on its way; the thread waits until it is applied. -/
def State.tallyOut (s : State) (k n : Nat) (t : Thread) (d : BitVec 512) (isSet : Bool) (c : Nat) : State :=
  (s.fresh.setThread k n { t with st := .waitData, wait := .opArrive s.nextId }).tallySend c
    { tally := BitVec.ofNat 6 (dN d 0x11 1), isSet := isSet, v := BitVec.ofNat 32 (dN d 0x18 4), desc := some s.nextId,
      thread := t.id, mark := s.nextId }

/-- TALLY ADD. -/
def State.tallyAddRun (s : State) (k n : Nat) (t : Thread) (d : BitVec 512) : State :=
  s.checked k n t d
    { fmt := tallyFmt d && dN d 0x1C 4 == 0 && decide (dN d 0x18 4 ≤ 65535), zero := dN d 0x18 4 == 0 } none fun ct =>
      match s.tallyTarget k t d with
      | some c => s.tallyOut k n t d false c
      | none => s.rejectTally k n d ct

def execTallyAdd (c : UnitAddr) (k : SlotNo) (s : State) : Out := .next (s.descStep c k (isTally 0) State.tallyAddRun)

/-- TALLY SET. -/
def State.tallySetRun (s : State) (k n : Nat) (t : Thread) (d : BitVec 512) : State :=
  s.checked k n t d { fmt := tallyFmt d && dN d 0x1C 4 == 0 } none fun ct =>
    match s.tallyTarget k t d with
    | some c => s.tallyOut k n t d true c
    | none => s.rejectTally k n d ct

def execTallySet (c : UnitAddr) (k : SlotNo) (s : State) : Out := .next (s.descStep c k (isTally 1) State.tallySetRun)

/-- TALLY WAIT, always on the thread's own cluster. -/
def State.tallyWaitRun (s : State) (k n : Nat) (t : Thread) (d : BitVec 512) : State :=
  let i := BitVec.ofNat 6 (dN d 0x11 1)
  let v := BitVec.ofNat 32 (dN d 0x18 4)
  s.checked k n t d { fmt := tallyFmt d && dN d 0x14 4 == 0 } none fun ct =>
    if v.toNat ≤ (s.tally (clusterOfCore k) i).toNat then s.completeNow k n d ct
    else s.setThread k n { t with st := .waitTally, wait := .tally i v (BitVec.ofNat 32 (dN d 0x1C 4)) }

def execTallyWait (c : UnitAddr) (k : SlotNo) (s : State) : Out := .next (s.descStep c k (isTally 2) State.tallyWaitRun)

/-! ### The mover (R122, R124, R130) -/

/-- A movement handed to the cluster's mover: with ASYNC the descriptor completes, unless 64 are outstanding; else the
thread waits for it. -/
def State.toMover (s : State) (k n : Nat) (t : Thread) (d : BitVec 512) (ct : Option (Nat × BitVec 6)) : State :=
  let m : MoverOp :=
    { id := s.nextId, core := k, slot := BitVec.ofNat 3 n, thread := t.id, ctx := t.ctx, tray := trayOfCore k, base := t.base,
      d := d, desc := s.nextId, isAsync := dFlag d 3, adm := (s.tray (trayOfCore k)).adm }
  if dFlag d 3 then
    if 64 ≤ (s.outst.filter fun o => o.thread == t.id && o.isAsync).length then
      s.setThread k n { t with st := .waitData, wait := .asyncRoom }
    else ({ s with movers := s.movers ++ [m] }.openDesc k n ct 1 true ((devOperands d).map fun a => (t.ctx, a))).advance k n d
  else { s.fresh.setThread k n { t with st := .waitData, wait := .mover m.id } with movers := s.movers ++ [m] }

/-- A movement ends: its descriptor completes, or fails; an ASYNC one fails with a deferred status (R125). -/
def State.moverEnd (s : State) (m : MoverOp) (code : Option Code) : State :=
  let s := { s with movers := s.movers.filter fun (x : MoverOp) => x.id ≠ m.id }
  let s :=
    if m.isAsync then
      let sub := (s.outst.find? fun o => o.id == m.desc).map fun o => o.sub
      (match code with
        | some c => s.deferred sub c
        | none => s).land m.desc
    else
      match s.thread? m.core m.slot.toNat with
      | some t =>
        if t.wait = .mover m.id then
          match code with
          | none => s.completeCur m.core m.slot.toNat
          | some c => s.failDesc m.core m.slot.toNat m.d ((s.ctOf m.core t m.d).getD none) c
        else s
      | none => s
  s.flushLate m.tray

/-- A movement has written: it ends, or waits until no site holds what it wrote (R156, R194). -/
def State.moverWrote (s : State) (m : MoverOp) (code : Option Code) : State :=
  if s.heldFor (.thread m.thread m.desc) then
    { s with movers := s.movers.map fun (x : MoverOp) => if x.id = m.id then { x with fin := some code } else x }
  else s.moverEnd m code

/-- COPY (R135). -/
def State.copyRun (s : State) (k n : Nat) (t : Thread) (d : BitVec 512) : State :=
  let a := opnd d 0x10
  let b := opnd d 0x18
  let len := dN d 0x20 4
  let rows := dN d 0x24 4
  s.checked k n t d
    { fmt := hdrOk d true && bodyOk d [(0x10, 8), (0x18, 8), (0x20, 4), (0x24, 4), (0x28, 4), (0x2C, 4)] && a.among anySp &&
        b.among anySp && !(decide (1 < rows) && decide (dN d 0x2C 4 < len))
      zero := len == 0 || rows == 0
      ext := s.fits t a (rowsExtent rows (dN d 0x28 4) len) && s.fits t b (rowsExtent rows (dN d 0x2C 4) len)
      trans := s.maps t a && s.maps t b } none fun ct => s.toMover k n t d ct

def execCopy (c : UnitAddr) (k : SlotNo) (s : State) : Out := .next (s.descStep c k (fun d => opcode d == 0x10) State.copyRun)

/-- FILL (R136). -/
def State.fillRun (s : State) (k n : Nat) (t : Thread) (d : BitVec 512) : State :=
  let a := opnd d 0x10
  let len := dN d 0x20 4
  s.checked k n t d
    { fmt := hdrOk d true && bodyOk d [(0x10, 8), (0x18, 8), (0x20, 4)] && a.among anySp
      align := alignedTo 8 a.off && alignedTo 8 len, zero := len == 0, ext := s.fits t a len, trans := s.maps t a } none
    fun ct => s.toMover k n t d ct

def execFill (c : UnitAddr) (k : SlotNo) (s : State) : Out := .next (s.descStep c k (fun d => opcode d == 0x11) State.fillRun)

/-- The rows of a COPY, moved: overlapping destination bytes are undefined, and the whole destination after an error. -/
def State.copyNow (s : State) (m : MoverOp) : State :=
  let w := s.moverSeat m
  let a := opnd m.d 0x10
  let b := opnd m.d 0x18
  let len := dN m.d 0x20 4
  let rows := List.range (dN m.d 0x24 4)
  let ss := dN m.d 0x28 4
  let ds := dN m.d 0x2C 4
  let ext := rowsExtent rows.length ss len
  let code := rows.findSome? (fun r => s.getFault w (a.plus (r * ss)) len) <|>
    rows.findSome? fun r => s.putFault w (b.plus (r * ds)) len
  let f := s.fv
  let data := rows.map fun r =>
    if code.isSome then freeBytes f (len * r) len
    else (s.getL w (a.plus (r * ss)) len).zipIdx.map fun x =>
      if meets a ext (b.plus (r * ds + x.2)) 1 then Config.byte f (len * r + x.2) else x.1
  let s := rows.foldl (fun s r => s.touchOp w (a.plus (r * ss)) len) s
  let s := (data.zipIdx.foldl (fun s x => s.putL w (b.plus (x.2 * ds)) x.1) s).draw
  s.moverWrote m code

/-- The pattern of a FILL, written. -/
def State.fillNow (s : State) (m : MoverOp) : State :=
  let w := s.moverSeat m
  let a := opnd m.d 0x10
  let len := dN m.d 0x20 4
  let code := s.putFault w a len
  let f := s.fv
  let data := match code with
    | some _ => freeBytes f 0 len
    | none => (List.range (len / 8)).flatMap fun _ => leBytes 8 (dN m.d 0x18 8)
  ((s.putL w a data).draw).moverWrote m code

/-! ### Accumulator reads and writes (R56, R103, R142, R143) -/

/-- ACC_READ (R142). -/
def State.accReadRun (s : State) (k n : Nat) (t : Thread) (d : BitVec 512) : State :=
  let a := opnd d 0x10
  let cnt := dN d 0x1A 2
  let f := dN d 0x1D 1
  let bytes := 32 * fmtSize f
  let stride := dN d 0x20 4
  s.checked k n t d
    { fmt := hdrOk d false && bodyOk d [(0x10, 8), (0x18, 2), (0x1A, 2), (0x1C, 1), (0x1D, 1), (0x20, 4)] && a.among anySp &&
        decide (dN d 0x1C 1 < 2) && decide (f < 3) && decide (bytes ≤ stride)
      align := alignedTo (fmtSize f) a.off && alignedTo (fmtSize f) stride, zero := cnt == 0
      ext := s.fits t a (rowsExtent cnt stride bytes) && decide (dN d 0x18 2 + cnt ≤ 512), trans := s.maps t a }
    (if (s.tray (trayOfCore k)).ctl.st = .failed then some 0x0501 else none) fun ct => s.toMover k n t d ct

def execAccRead (c : UnitAddr) (k : SlotNo) (s : State) : Out :=
  .next (s.descStep c k (fun d => opcode d == 0x23) State.accReadRun)

/-- ACC_WRITE (R143). -/
def State.accWriteRun (s : State) (k n : Nat) (t : Thread) (d : BitVec 512) : State :=
  let a := opnd d 0x10
  let cnt := dN d 0x1A 2
  let clear := dN d 0x1C 1 == 1
  s.checked k n t d
    { fmt := hdrOk d false && bodyOk d [(0x10, 8), (0x18, 2), (0x1A, 2), (0x1C, 1)] && a.among anySp &&
        decide (dN d 0x1C 1 < 2) && (!clear || dN d 0x10 8 == 0)
      align := alignedTo 4 a.off, zero := cnt == 0
      ext := (clear || s.fits t a (128 * cnt)) && decide (dN d 0x18 2 + cnt ≤ 512), trans := clear || s.maps t a }
    (if (s.tray (trayOfCore k)).ctl.st = .failed then some 0x0501 else none) fun ct => s.toMover k n t d ct

def execAccWrite (c : UnitAddr) (k : SlotNo) (s : State) : Out :=
  .next (s.descStep c k (fun d => opcode d == 0x24) State.accWriteRun)

/-- An exposure to a named vector that was admitted before is still to reach the accumulator (R56, R103). -/
def State.accWaits (s : State) (m : MoverOp) : Bool :=
  let x := s.tray m.tray
  let hit (adm acc : Nat) : Bool := decide (adm < m.adm) && accNames m.d acc
  (x.expQ.any fun e => match e with
    | .expo adm _ _ acc _ _ _ => hit adm acc
    | .swap _ _ _ => false) || x.pend.any fun p => hit p.adm p.acc

/-- The accumulator vectors of an ACC_READ, copied out and cleared where CLEAR says so. -/
def State.accReadNow (s : State) (m : MoverOp) : State :=
  let w := s.moverSeat m
  let a := opnd m.d 0x10
  let f := dN m.d 0x1D 1
  let vs := List.range (dN m.d 0x1A 2)
  let stride := dN m.d 0x20 4
  let first := dN m.d 0x18 2
  let acc := (s.tray m.tray).acc
  let code := vs.findSome? fun v => s.putFault w (a.plus (v * stride)) (32 * fmtSize f)
  let free := s.fv
  let data := vs.map fun v =>
    if code.isSome then freeBytes free (65536 * v) (32 * fmtSize f)
    else (List.range 32).flatMap fun i =>
      let x := SMap.get acc (32 * (first + v) + i) 0
      if f = 0 then leBytes 4 x.toNat else putFloat f (f32 x)
  let s := data.zipIdx.foldl (fun s x => s.putL w (a.plus (x.2 * stride)) x.1) s
  let s := if dN m.d 0x1C 1 % 2 = 1 then
      s.modTray m.tray fun x => { x with acc := x.acc.filter fun e => !accNames m.d (e.1 / 32) }
    else s
  s.draw.moverWrote m code

/-- The accumulator vectors of an ACC_WRITE set or cleared. -/
def State.accWriteNow (s : State) (m : MoverOp) : State :=
  let w := s.moverSeat m
  let a := opnd m.d 0x10
  let n := dN m.d 0x1A 2
  let first := dN m.d 0x18 2
  let clear := dN m.d 0x1C 1 == 1
  let code := if clear then none else s.getFault w a (128 * n)
  let f := s.fv
  let word (i : Nat) : Word :=
    if clear then 0
    else if code.isSome then Config.number f i
    else BitVec.ofNat 32 (leNat (s.getL w (a.plus (4 * i)) 4))
  let vals := (List.range (32 * n)).map word
  let s := if clear then s else s.touchOp w a (128 * n)
  let s := s.modTray m.tray fun x => { x with acc := vals.zipIdx.foldl (fun acc v => accPut acc (32 * first + v.2) v.1) x.acc }
  s.draw.moverEnd m code

/-- A movement still reads a site that holds reads (R194). -/
def State.moverHeld (s : State) (m : MoverOp) : Bool :=
  let w := s.moverSeat m
  let op := opcode m.d
  if op = 0x10 then
    (List.range (dN m.d 0x24 4)).any fun r => s.getHeld w ((opnd m.d 0x10).plus (r * dN m.d 0x28 4)) (dN m.d 0x20 4)
  else if op = 0x24 then dN m.d 0x1C 1 % 2 == 0 && s.getHeld w (opnd m.d 0x10) (128 * dN m.d 0x1A 2)
  else false

/-- The mover finishes movement `id` (R124). A FABRIC_PUT ends with its DONE, a FABRIC_GET once all its data is written. -/
def State.moverDone (s : State) (id : Nat) : State :=
  match s.movers.find? fun m => m.id == id with
  | none => s
  | some m =>
    let op := opcode m.d
    if m.fin.isSome then (if s.heldFor (.thread m.thread m.desc) then s else s.moverEnd m (m.fin.getD none))
    else if s.moverHeld m then s
    else if op = 0x10 then s.copyNow m
    else if op = 0x11 then s.fillNow m
    else if op = 0x19 then
      match s.fab.xfers.find? fun x => x.mine && x.op == some m.desc && decide (x.len ≤ x.moved) with
      | some x =>
        ({ s with fab := { s.fab with xfers := s.fab.xfers.filter fun (y : Xfer) => y.id ≠ x.id } }).moverWrote m none
      | none => s
    else if op = 0x23 then (if s.accWaits m then s else s.accReadNow m)
    else if op = 0x24 then (if s.accWaits m then s else s.accWriteNow m)
    else s

def execMoverDone (id : Nat) (errs : List MemErr) (s : State) : Out := .next ((s.meet errs).moverDone id)

/-! ### The exposure path (R61, R102, R139-R141) -/

/-- A tray admits queue entries in READY, from the threads that a drain lets finish, and in HELD before a drain has completed
(R31; log entry 29). -/
def Tray.admits (t : Tray) : Bool := t.ctl.st == .ready || t.ctl.st == .draining || (t.ctl.st == .held && !t.ctl.drained)

/-- Entry `i` of an EXPOSE. -/
def exposeEntry (d : BitVec 512) (grant adm i : Nat) (desc sub : Nat) : QEntry :=
  let v := dN d 0x1C 1 + i
  .expo adm (grant + dN d 0x10 8 % 2 ^ 48 + 2112 * (v / 64)) (v % 64) (dN d 0x1E 2 + i * dN d 0x20 2) (dN d 0x1D 1 == 1)
    (some desc) (some sub)

/-- How many entries a descriptor makes, and how many its queue has room for (R61). -/
def entriesOf (d : BitVec 512) : Nat := if opcode d = 0x20 then dN d 0x18 4 else 1
def Tray.roomFor (t : Tray) (d : BitVec 512) : Nat := if opcode d = 0x21 then 4 - t.loads else 64 - t.expQ.length

/-- The entries from `i` on, `n` of them, put into the queues of a tray. -/
def Tray.takeIn (t : Tray) (d : BitVec 512) (grant i n desc sub : Nat) (pid : Pid) (ctx : CtxNo) : Tray :=
  if opcode d = 0x20 then
    { t with expQ := t.expQ ++ (List.range n).map fun j => exposeEntry d grant (t.adm + j) (i + j) desc sub,
             adm := t.adm + n }
  else if opcode d = 0x21 then
    { t with loadQ := t.loadQ ++ [{ adm := t.adm, src := BitVec.ofNat 2 (dN d 0x20 1), image := grant + dN d 0x10 8 % 2 ^ 48,
                                    expsOff := if dN d 0x20 1 = 0 then grant + dN d 0x18 8 % 2 ^ 48 else 0,
                                    desc := some desc, sub := some sub, pid := pid, ctx := ctx }],
             adm := t.adm + 1 }
  else { t with expQ := t.expQ ++ [.swap t.adm (some desc) (some sub)], adm := t.adm + 1 }

/-- A thread of a tray has waited longer than the descriptor `desc` for the same queue: it keeps its place before it (R102). Descriptors
are numbered in the order in which they came to the port. -/
def State.queueAhead (s : State) (y : Nat) (d : BitVec 512) (desc : Nat) : Bool :=
  s.cores.any fun e => trayOfCore e.1 == y && e.2.slots.any fun x =>
    x.2.wait == .queue && (x.2.desc.any fun i => decide (i < desc)) &&
      (x.2.cur.any fun c => (opcode c == 0x21) == (opcode d == 0x21))

/-- A swap is queued. -/
def Tray.swapQueued (t : Tray) : Bool := t.expQ.any fun e => match e with
  | .swap _ _ _ => true
  | .expo _ _ _ _ _ _ _ => false

/-- A descriptor that has been opened ends without an entry in a queue. -/
def State.failOpen (s : State) (k n : Nat) (d : BitVec 512) (desc : Nat) (code : Code) : State :=
  let ct := (s.outst.find? fun o => o.id == desc).bind fun o => o.ct
  ({ s with outst := s.outst.filter fun (o : Outst) => o.id ≠ desc }).failDesc k n d ct code

/-- Entries admitted as far as there is room: the descriptor completes with the last, or the thread waits (R102). An EXPOSE whose first
exposure finds no plane ACTIVE and no swap ahead of it ends with PLANE_EMPTY (R60, R74, R139). -/
def State.admitOn (s : State) (k n : Nat) (t : Thread) (d : BitVec 512) (desc : Nat) : State :=
  let y := trayOfCore k
  let x := s.tray y
  let m := if x.admits && !s.queueAhead y d desc then min (x.roomFor d) (entriesOf d - t.prog) else 0
  if opcode d = 0x20 ∧ t.prog = 0 ∧ 0 < m ∧ !x.hasActive ∧ !x.swapQueued then
    (s.modTray y Tray.rejected).failOpen k n d desc 0x0105
  else
    let grant := 65536 * (s.ctx t.ctx).gbase.toNat
    let s := if m = 0 then s else s.modTray y fun x => x.takeIn d grant t.prog m desc t.sub t.pid t.ctx
    let t := { t with prog := t.prog + m, desc := some desc }
    if entriesOf d ≤ t.prog then (s.setThread k n t).advance k n d
    else s.setThread k n { t with st := .waitQueue, wait := .queue }

/-- The first entry of a descriptor of the exposure path: work aimed at a FAILED tray is FENCED (R33). -/
def State.admitFirst (s : State) (k n : Nat) (t : Thread) (d : BitVec 512) (ct : Option (Nat × BitVec 6)) : State :=
  let x := s.tray (trayOfCore k)
  if x.ctl.st = .failed then s.failDesc k n d ct 0x0501
  else (s.openDesc k n ct (entriesOf d) false []).admitOn k n t d s.nextId

/-- EXPOSE (R139). -/
def State.exposeRun (s : State) (k n : Nat) (t : Thread) (d : BitVec 512) : State :=
  let a := opnd d 0x10
  let cnt := dN d 0x18 4
  s.checked k n t d
    { fmt := hdrOk d false && bodyOk d [(0x10, 8), (0x18, 4), (0x1C, 1), (0x1D, 1), (0x1E, 2), (0x20, 2)] && a.among [2] &&
        decide (dN d 0x1C 1 ≤ 63) && decide (dN d 0x1D 1 ≤ 1)
      align := alignedTo 64 a.off, zero := cnt == 0
      ext := s.fits t a (2112 * ((dN d 0x1C 1 + cnt - 1) / 64 + 1)) &&
        decide (dN d 0x1E 2 + (cnt - 1) * dN d 0x20 2 ≤ 511) } none fun ct => s.admitFirst k n t d ct

def execExpose (c : UnitAddr) (k : SlotNo) (s : State) : Out :=
  .next (s.descStep c k (fun d => opcode d == 0x20) State.exposeRun)

/-- PLANE_LOAD (R140). -/
def State.planeLoadRun (s : State) (k n : Nat) (t : Thread) (d : BitVec 512) : State :=
  let a := opnd d 0x10
  let b := opnd d 0x18
  let mem := dN d 0x20 1 == 0
  s.checked k n t d
    { fmt := hdrOk d false && bodyOk d [(0x10, 8), (0x18, 8), (0x20, 1)] && a.among [2] && decide (dN d 0x20 1 ≤ 2) &&
        (if mem then b.among [2] else dN d 0x18 8 == 0)
      align := alignedTo 64 a.off && alignedTo 32 b.off
      ext := s.fits t a 1024 && (!mem || s.fits t b 32) } none fun ct => s.admitFirst k n t d ct

def execPlaneLoad (c : UnitAddr) (k : SlotNo) (s : State) : Out :=
  .next (s.descStep c k (fun d => opcode d == 0x21) State.planeLoadRun)

/-- PLANE_SWAP (R141). -/
def State.planeSwapRun (s : State) (k n : Nat) (t : Thread) (d : BitVec 512) : State :=
  s.checked k n t d { fmt := hdrOk d false && bodyOk d [] } none fun ct => s.admitFirst k n t d ct

def execPlaneSwap (c : UnitAddr) (k : SlotNo) (s : State) : Out :=
  .next (s.descStep c k (fun d => opcode d == 0x22) State.planeSwapRun)

/-- A thread in WAIT_QUEUE admits what its queue has room for (R102); once its tray is FAILED its descriptor ends FENCED. -/
def State.queueAdmit (s : State) (k n : Nat) : State :=
  match s.thread? k n with
  | none => s
  | some t =>
    match t.st, t.cur, t.desc with
    | .waitQueue, some d, some desc =>
      if (s.tray (trayOfCore k)).ctl.st = .failed then s.failOpen k n d desc 0x0501
      else s.admitOn k n t d desc
    | _, _, _ => s

def execQueueAdmit (c : UnitAddr) (k : SlotNo) (s : State) : Out := .next (s.onCore c fun s x => s.queueAdmit x k.toNat)

/-! ### Sequences (R109-R111, R151-R154) -/

/-- A slot is OPEN, or OPEN or CLOSING, for a context with a generation. -/
def SeqSlot.openFor (q : SeqSlot) (c : CtxNo) (gen : Nat) : Bool := q.st == 1 && q.ctx == c && q.gen.toNat == gen
def SeqSlot.boundFor (q : SeqSlot) (c : CtxNo) (gen : Nat) : Bool := q.st != 0 && q.ctx == c && q.gen.toNat == gen

/-- SEQ_OPEN (R110, R151): the lowest FREE slot. -/
def State.seqOpenRun (s : State) (k n : Nat) (t : Thread) (d : BitVec 512) : State :=
  let a := opnd d 0x10
  let r := opnd d 0x20
  let cap := dN d 0x18 3
  let units := dN d 0x1C 2
  let slot := (List.range 256).find? fun i => (s.seq i).st == 0
  let own : Option Code := if slot.isNone ∨ (s.ctx t.ctx).squota.toNat ≤ s.seqHeld t.ctx then some 0x0503 else none
  s.checked k n t d
    { fmt := hdrOk d false && bodyOk d [(0x10, 8), (0x18, 3), (0x1C, 2), (0x20, 8)] && a.among [0] && r.among anySp &&
        decide (units ≤ 1024)
      align := alignedTo 64 a.off && alignedTo 8 r.off, zero := cap == 0 || units == 0
      ext := s.fits t a (cap * units * 64) && s.fits t r 8, trans := s.maps t a && s.maps t r } own fun ct =>
    match slot with
    | none => s
    | some i =>
      let w := s.seat k t
      match s.putFault w r 8 with
      | some code => s.failDesc k n d ct code
      | none =>
        let g := (s.seq i).gen + 1
        let s := s.setSeq i { st := 1, ctx := t.ctx, gen := g, base := BitVec.ofNat 48 a.off, units := BitVec.ofNat 11 units,
                              cap := BitVec.ofNat 24 cap }
        (s.putL w r (leBytes 8 (i + 65536 * g.toNat))).finish k n t d ct w none

def execSeqOpen (c : UnitAddr) (k : SlotNo) (s : State) : Out :=
  .next (s.descStep c k (fun d => opcode d == 0x40) State.seqOpenRun)

/-- SEQ_CLOSE (R110, R152). -/
def State.seqCloseRun (s : State) (k n : Nat) (t : Thread) (d : BitVec 512) : State :=
  let i := dN d 0x10 1
  s.checked k n t d { fmt := hdrOk d false && bodyOk d [(0x10, 1), (0x12, 2)] }
    (if (s.seq i).openFor t.ctx (dN d 0x12 2) then none else some 0x0506) fun ct =>
      (s.setSeq i ({ s.seq i with st := 2 } : SeqSlot).settle).completeNow k n d ct

def execSeqClose (c : UnitAddr) (k : SlotNo) (s : State) : Out :=
  .next (s.descStep c k (fun d => opcode d == 0x41) State.seqCloseRun)

/-- SEQ_APPEND (R153): the binding is judged first at check 5; then the reservation is under way. -/
def State.seqAppendRun (s : State) (k n : Nat) (t : Thread) (d : BitVec 512) : State :=
  let a := opnd d 0x18
  let r := opnd d 0x20
  let q := s.seq (dN d 0x10 1)
  let cnt := dN d 0x14 3
  let res := dN d 0x11 1 % 2 == 1
  let own : Option Code := if q.cap.toNat < q.reserved.toNat + cnt then some 0x0102 else none
  s.checked k n t d
    { fmt := hdrOk d false && bodyOk d [(0x10, 1), (0x11, 1), (0x12, 2), (0x14, 3), (0x18, 8), (0x20, 8)] &&
        decide (dN d 0x11 1 < 2) && a.among anySp && r.among anySp && (res || dN d 0x20 8 == 0)
      align := alignedTo 4 r.off, zero := cnt == 0, bound := q.openFor t.ctx (dN d 0x12 2)
      ext := s.fits t a (cnt * q.units.toNat * 64) && (!res || s.fits t r 4)
      trans := s.maps t a && (!res || s.maps t r) } own fun _ =>
    s.setThread k n { t with st := .waitData, wait := .reserve }

def execSeqAppend (c : UnitAddr) (k : SlotNo) (s : State) : Out :=
  .next (s.descStep c k (fun d => opcode d == 0x42) State.seqAppendRun)

/-- A reservation arrives at its slot (R111): its range, or the refusal of a slot that has closed or is full. -/
def State.seqReserve (s : State) (k n : Nat) : State :=
  match s.thread? k n with
  | none => s
  | some t =>
    match t.wait, t.cur with
    | .reserve, some d =>
      let i := dN d 0x10 1
      let q := s.seq i
      let cnt := dN d 0x14 3
      let ct := (s.ctOf k t d).getD none
      if !q.openFor t.ctx (dN d 0x12 2) then s.failDesc k n d ct 0x0506
      else if q.cap.toNat < q.reserved.toNat + cnt then s.failDesc k n d ct 0x0102
      else
        (s.setSeq i { q with reserved := q.reserved + BitVec.ofNat 24 cnt,
                             inflight := q.inflight ++ [(q.reserved.toNat, cnt, false)] }).setThread k n
          { t with wait := .append (BitVec.ofNat 8 i) q.reserved }
    | _, _ => s

def execSeqReserveDone (c : UnitAddr) (k : SlotNo) (s : State) : Out := .next (s.onCore c fun s x => s.seqReserve x k.toNat)

/-- The thread whose append holds the range that begins at `first` of a slot. -/
def State.appender (s : State) (slot : BitVec 8) (first : BitVec 24) : Option (Nat × Nat) :=
  (s.cores.flatMap fun e => (e.2.slots.filter fun x => x.2.wait == .append slot first).map fun x => (e.1, x.1)).head?

/-- The entries of an append become visible, or are released (R111, R130). -/
def State.seqVisible (s : State) (slot : BitVec 8) (first : BitVec 24) : State :=
  match s.appender slot first with
  | none => s
  | some (k, n) =>
    match s.thread? k n with
    | none => s
    | some t =>
      match t.cur with
      | none => s
      | some d =>
        let q := s.seq slot.toNat
        let w := s.seat k t
        let a := opnd d 0x18
        let r := opnd d 0x20
        let res := dN d 0x11 1 % 2 == 1
        let bytes := dN d 0x14 3 * q.units.toNat * 64
        let b : Opnd := ⟨0, 0, q.base.toNat + first.toNat * q.units.toNat * 64⟩
        let ct := (s.ctOf k t d).getD none
        let f := s.fv
        if s.getHeld w a bytes then s else
        let code := s.getFault w a bytes <|> s.putFault w b bytes <|> if res then s.putFault w r 4 else none
        match code with
        | some c => (((s.putL w b (freeBytes f 0 bytes)).draw).seqDone slot.toNat first.toNat).finish k n t d ct w (some c)
        | none =>
          let s := (s.touchOp w a bytes).putL w b (s.getL w a bytes)
          let s := if res then s.putL w r (leBytes 4 first.toNat) else s
          (s.seqDone slot.toNat first.toNat).finish k n t d ct w none

def execSeqEntriesVisible (slot : BitVec 8) (first : BitVec 24) (errs : List MemErr) (s : State) : Out :=
  .next ((s.meet errs).seqVisible slot first)

/-- SEQ_QUERY (R154). -/
def State.seqQueryRun (s : State) (k n : Nat) (t : Thread) (d : BitVec 512) : State :=
  let i := dN d 0x10 1
  let q := s.seq i
  let r := opnd d 0x18
  s.checked k n t d
    { fmt := hdrOk d false && bodyOk d [(0x10, 1), (0x12, 2), (0x18, 8)] && r.among anySp, align := alignedTo 16 r.off
      ext := s.fits t r 16, trans := s.maps t r }
    (if q.boundFor t.ctx (dN d 0x12 2) then none else some 0x0506) fun ct =>
      s.produce k n t d ct [] [(r, 16)]
        (some [(r, leBytes 4 (q.st.toNat + 65536 * q.gen.toNat) ++ leBytes 4 q.cap.toNat ++ leBytes 4 q.reserved.toNat ++
          leBytes 4 q.valid.toNat)]) false

def execSeqQuery (c : UnitAddr) (k : SlotNo) (s : State) : Out :=
  .next (s.descStep c k (fun d => opcode d == 0x43) State.seqQueryRun)

/-! ### PUBLISH (R155, R223, R224) -/

/-- The record of a submission with what a PUBLISH sets: DONE and RESULT_VALID_BYTES never decrease; the first result
moves RUNNING to PARTIAL. -/
def Sub.publish (x : Sub) (mode done total valid : Nat) : Sub :=
  let x := if mode % 2 = 1 then
      { x with done := BitVec.ofNat 32 (max x.done.toNat done), total := BitVec.ofNat 32 total } else x
  let x := if mode / 2 % 2 = 1 then { x with valid := BitVec.ofNat 32 (max x.valid.toNat valid) } else x
  let x := if x.valid ≠ 0 ∧ x.st = 2 then { x with st := 3, status := 1 } else x
  { x with seq := x.seq + 1 }

/-- PUBLISH: it takes effect once every write that the thread issued before it is visible. A DONE above TOTAL is refused only with
PROGRESS, which gives the two fields their meaning (R155 states no condition: DESIGN CHOICE, log entry 86). -/
def State.publishRun (s : State) (k n : Nat) (t : Thread) (d : BitVec 512) : State :=
  let mode := dN d 0x10 1
  s.checked k n t d
    { fmt := hdrOk d false && bodyOk d [(0x10, 1), (0x14, 4), (0x18, 4), (0x1C, 4)] && decide (mode < 4) &&
        !(mode % 2 == 1 && decide (dN d 0x18 4 < dN d 0x14 4)) } none fun ct =>
    if !s.seen t.id s.nextId then s
    else
      match s.sub? t.sub with
      | some x => (s.rewrite (x.publish mode (dN d 0x14 4) (dN d 0x18 4) (dN d 0x1C 4))).completeNow k n d ct
      | none => s.completeNow k n d ct

def execPublish (c : UnitAddr) (k : SlotNo) (s : State) : Out :=
  .next (s.descStep c k (fun d => opcode d == 0x50) State.publishRun)

end Sys2Proof.Machine
end

