-- ==== Sys2Proof/Machine/Messages.lean ====
section
/-! DEFINITION. FABRIC_PUT and FABRIC_GET (R137, R138) and the messages of the fabric (R265, R269, R200). -/

set_option Elab.async false

namespace Sys2Proof.Machine

/-! ### Transfers of this module (R138) -/

/-- The transfer with a number; one of this module's own by tag and peer; one that it serves. -/
def State.xfer? (s : State) (id : Nat) : Option Xfer := s.fab.xfers.find? fun x => x.id == id
def State.ownXfer (s : State) (m : FabMsg) : Option Xfer :=
  s.fab.xfers.find? fun x => x.mine && x.tag == m.tag && x.peerNode == m.srcNode
def State.served (s : State) (m : FabMsg) : Option Xfer :=
  s.fab.xfers.find? fun x => !x.mine && x.tag == m.tag && x.peerNode == m.srcNode

/-- A transfer changed, or removed. -/
def State.setXfer (s : State) (x : Xfer) : State :=
  { s with fab := { s.fab with xfers := s.fab.xfers.map fun (y : Xfer) => if y.id = x.id then x else y } }
def State.dropXfer (s : State) (x : Xfer) : State :=
  { s with fab := { s.fab with xfers := s.fab.xfers.filter fun (y : Xfer) => y.id ≠ x.id } }

/-- The movement that a transfer carries out. -/
def State.moverOf (s : State) (x : Xfer) : Option MoverOp :=
  x.op.bind fun d => s.movers.find? fun m => m.desc == d

/-- A reply or a request of a transfer. -/
def xferMsg (x : Xfer) : FabMsg :=
  { FabMsg.blank with tag := x.tag, srcCtx := x.ctx, dstCtx := x.peerCtx, dstNode := x.peerNode, addr := BitVec.ofNat 48 x.addr,
                      len := BitVec.ofNat 32 x.len }

/-- A transfer of this module fails: after the peer has accepted a GET its local range is undefined (R138). -/
def State.xferFail (s : State) (x : Xfer) (code : Code) : State :=
  match s.moverOf x with
  | none => s.dropXfer x
  | some m =>
    let s := s.dropXfer x
    let s := if !x.isPut && x.phase != .opening then
        (s.putL (s.moverSeat m) (opnd m.d 0x10) (freeBytes s.fv 0 x.len)).draw
      else s
    s.moverEnd m (some code)

/-- FABRIC_PUT and FABRIC_GET (R138): the local checks, the peer entry, and the opening message. -/
def State.fabricRun (isPut : Bool) (s : State) (k n : Nat) (t : Thread) (d : BitVec 512) : State :=
  let a := opnd d 0x10
  let len := dN d 0x20 4
  let peer := dN d 0x24 1
  let rt := dN d 0x25 1 % 2 == 1
  let e : Word := SMap.get (s.ctx t.ctx).peers peer 0
  s.checked k n t d
    { fmt := hdrOk d true && bodyOk d [(0x10, 8), (0x18, 8), (0x20, 4), (0x24, 1), (0x25, 1), (0x26, 1), (0x28, 4)] &&
        a.among anySp && decide (dN d 0x18 8 < 2 ^ 48) && decide (peer ≤ 63) && decide (dN d 0x25 1 < (if isPut then 2 else 1)) &&
        decide (dN d 0x26 1 < 64) && (rt || dN d 0x28 4 == 0)
      zero := len == 0, ext := s.fits t a len, trans := s.maps t a }
    (if e.getLsbD 31 then none else some 0x0401) fun ct =>
    if dFlag d 3 && decide (64 ≤ (s.outst.filter fun o => o.thread == t.id && o.isAsync).length) then
      s.setThread k n { t with st := .waitData, wait := .asyncRoom }
    else
      let x : Xfer :=
        { id := s.nextId, mine := true, isPut := isPut, phase := .opening, tag := BitVec.ofNat 16 s.nextId, ctx := t.ctx,
          peerNode := BitVec.ofNat 16 (bitsOf e 15 0), peerCtx := BitVec.ofNat 12 (bitsOf e 27 16), addr := dN d 0x18 8, len := len,
          op := some s.nextId }
      let s := s.toMover k n t d ct
      { s with fab := { s.fab with xfers := s.fab.xfers ++ [x] } }.sendMsg (if isPut then 1 else 3)
        { xferMsg x with rtEn := rt, rtIndex := BitVec.ofNat 6 (dN d 0x26 1), rtUnit := BitVec.ofNat 32 (dN d 0x28 4) }

def execFabricPut (c : UnitAddr) (k : SlotNo) (s : State) : Out :=
  .next (s.descStep c k (fun d => opcode d == 0x18) (State.fabricRun true))
def execFabricGet (c : UnitAddr) (k : SlotNo) (s : State) : Out :=
  .next (s.descStep c k (fun d => opcode d == 0x19) (State.fabricRun false))

/-- 100 ms without progress: LINK_DOWN (R138). -/
def State.noProgress (s : State) (id : Nat) : State :=
  match s.xfer? id with
  | some x =>
    if x.mine then
      let s := s.sendMsg 11 { FabMsg.blank with tag := x.tag, srcCtx := x.ctx, dstCtx := x.peerCtx, dstNode := x.peerNode }
      s.xferFail x 0x0403
    else s
  | none => s

def execTransferNoProgress (id : Nat) (s : State) : Out := .next (s.noProgress id)

/-! ### Delivery (R268) -/

/-- The first message that the flits of a virtual channel have brought to this module. -/
def LLink.firstIn (l : LLink) (vc : Bool) : Option (List Byte) := (l.inbox.find? fun e => e.1 == vc).map fun e => e.2

/-- A message acts once its flits have been delivered, in the order of its link and virtual channel; before, nothing happens. -/
def State.onMsg (s : State) (op : Nat) (m : FabMsg) (f : State → State) : State :=
  let l := s.link m.link
  if l.firstIn m.vc = some (msgBytes op m) then f (s.setLink m.link { l with inbox := l.inbox.erase (m.vc, msgBytes op m) }) else s

/-- The answer to a message, back to its sender. -/
def replyTo (m : FabMsg) : FabMsg :=
  { FabMsg.blank with tag := m.tag, srcCtx := m.dstCtx, dstCtx := m.srcCtx, dstNode := m.srcNode }

/-! ### What a peer answers (R137, R138, R357) -/

/-- The judgement of a sender and a range: the code of a refusal, if any. -/
def State.peerJudge (s : State) (m : FabMsg) : Option Code :=
  let c := s.ctx m.dstCtx
  let known := c.peers.any fun (e : Nat × Word) =>
    e.2.getLsbD 31 && BitVec.ofNat 16 (bitsOf e.2 15 0) == m.srcNode && BitVec.ofNat 12 (bitsOf e.2 27 16) == m.srcCtx
  if c.st ≠ 1 ∨ !known ∨ (m.rtEn && (s.clusterIn m.rtUnit c.pid).isNone) then some 0x0402
  else if !c.inRegion m.addr.toNat m.len.toNat then some 0x0102
  else if !c.translates m.addr.toNat then some 0x0202
  else none

/-- PUT_OPEN (R138): ACCEPT or REFUSE. -/
def State.putOpen (s : State) (m : FabMsg) : State :=
  match s.peerJudge m with
  | some code => s.sendMsg 6 { replyTo m with status := code }
  | none =>
    let x : Xfer :=
      { id := s.nextId, mine := false, isPut := true, phase := .serving, tag := m.tag, ctx := m.dstCtx, peerNode := m.srcNode,
        peerCtx := m.srcCtx, addr := m.addr.toNat, len := m.len.toNat,
        rt := if m.rtEn then (s.clusterIn m.rtUnit (s.ctx m.dstCtx).pid).map fun c => (c, m.rtIndex) else none }
    ({ s.fresh with fab := { s.fab with xfers := s.fab.xfers ++ [x] } }).sendMsg 5 (replyTo m)

def execPutOpen (m : FabMsg) (s : State) : Out := .next (s.onMsg 1 m fun s => s.putOpen m)

/-- The remote tally of a PUT, added at its cluster once the bytes are visible (R138). -/
def State.remoteTally (s : State) (c : Nat) (i : BitVec 6) : State :=
  (s.modCluster c fun x => x.tallyOp { tally := i, isSet := false, v := 1 }).judgeWaits c

/-- The remote range of a PUT that fails after it was accepted is undefined (R138, R158). -/
def State.spoilRange (s : State) (x : Xfer) : State := (s.devWriteBy .block x.ctx x.addr (freeBytes s.fv 0 x.len)).draw

/-- A PUT that this module serves has all its bytes: once they are visible the tally is added and DONE sent. -/
def State.putServed (s : State) (x : Xfer) : State :=
  if x.moved < x.len ∨ s.heldFor (.xfer x.id) then s
  else
    let s := match x.rt with
      | some (c, i) => s.remoteTally c i
      | none => s
    (s.dropXfer x).sendMsg 7 { FabMsg.blank with tag := x.tag, srcCtx := x.ctx, dstCtx := x.peerCtx, dstNode := x.peerNode, rtEn := x.rt.isSome }

/-- PUT_DATA: written in order. -/
def State.putData (s : State) (m : FabMsg) : State :=
  match s.served m with
  | none => s
  | some x =>
    let va := x.addr + x.moved
    let data := m.data.take (x.len - x.moved)
    match s.writeFault x.ctx va data.length with
    | some code => ((s.dropXfer x).spoilRange x).sendMsg 6 { replyTo m with status := code }
    | none =>
      let y := { x with moved := x.moved + data.length }
      ((s.devWriteBy (.xfer x.id) x.ctx va data).setXfer y).putServed y

def execPutData (m : FabMsg) (s : State) : Out := .next (s.onMsg 2 m fun s => s.putData m)

/-- GET_REQ: ACCEPT and the data, or REFUSE. -/
def State.getReq (s : State) (m : FabMsg) : State :=
  match s.peerJudge m <|> s.readFault m.dstCtx m.addr.toNat m.len.toNat with
  | some code => s.sendMsg 6 { replyTo m with status := code }
  | none =>
    let data := s.devRead m.dstCtx m.addr.toNat m.len.toNat
    ((s.devTouch m.dstCtx m.addr.toNat m.len.toNat).sendMsg 5 (replyTo m)).sendMsg 4
      { replyTo m with addr := m.addr, len := m.len, data := data }

/-- A request that reads a site that holds reads waits for the window to close (R194). -/
def State.holdRead (s : State) (held : Bool) (i : Instr) (f : State → State) : State :=
  if held then { s with mem := { s.mem with heldR := s.mem.heldR ++ [i] } } else f s

/-- A GET_REQ served, or held. -/
def State.getReqIn (s : State) (m : FabMsg) : State :=
  s.holdRead ((s.peerJudge m).isNone && s.readHeld m.dstCtx m.addr.toNat m.len.toNat) (.getReq m []) fun s => s.getReq m

def execGetReq (m : FabMsg) (errs : List MemErr) (s : State) : Out := .next (s.onMsg 3 m fun s => (s.meet errs).getReqIn m)

/-- GET_DATA: written to the local range of the transfer. -/
def State.getData (s : State) (m : FabMsg) : State :=
  match s.ownXfer m with
  | none => s
  | some x =>
    match s.moverOf x with
    | none => s
    | some v =>
      if x.isPut then s
      else
        let a := (opnd v.d 0x10).plus x.moved
        let data := m.data.take (x.len - x.moved)
        let w := s.moverSeat v
        match s.putFault w a data.length with
        | some code => s.xferFail { x with phase := .waiting } code
        | none => (s.putL w a data).setXfer { x with moved := x.moved + data.length, phase := .waiting }

def execGetData (m : FabMsg) (s : State) : Out := .next (s.onMsg 4 m fun s => s.getData m)

/-- ACCEPT: a PUT sends its data; a GET waits for it. -/
def State.accepted (s : State) (m : FabMsg) : State :=
  match s.ownXfer m with
  | none => s
  | some x =>
    if x.phase ≠ .opening then s
    else if !x.isPut then s.setXfer { x with phase := .waiting }
    else
      match s.moverOf x with
      | none => s
      | some v =>
        let w := s.moverSeat v
        let a := opnd v.d 0x10
        match s.getFault w a x.len with
        | some code =>
          (s.sendMsg 11 { xferMsg x with len := 0 }).xferFail { x with phase := .waiting } code
        | none =>
          let data := s.getL w a x.len
          ((s.touchOp w a x.len).setXfer { x with phase := .waiting, moved := x.len }).sendMsg 2 { xferMsg x with data := data }

/-- The source of a PUT that its peer accepts lies in a site that holds reads. -/
def State.sourceHeld (s : State) (m : FabMsg) : Bool :=
  match (s.ownXfer m).bind fun x => (s.moverOf x).map fun v => (x, v) with
  | some (x, v) => x.isPut && x.phase == .opening && s.getHeld (s.moverSeat v) (opnd v.d 0x10) x.len
  | none => false

/-- An ACCEPT acted on, or held. -/
def State.acceptIn (s : State) (m : FabMsg) : State := s.holdRead (s.sourceHeld m) (.msgAccept m []) fun s => s.accepted m

def execMsgAccept (m : FabMsg) (errs : List MemErr) (s : State) : Out := .next (s.onMsg 5 m fun s => (s.meet errs).acceptIn m)

/-- The codes that a peer's REFUSE may bring (R138, R157); another counts as PEER_DENIED (log entry 87). -/
def peerCode (c : Code) : Code := if [0x0102, 0x0202, 0x0203, 0x0207].contains c then c else 0x0402

/-- REFUSE: the transfer ends with the peer's code. One of the lender's names sectors of its pages that are uncorrectable (R190, R200;
log entry 88). -/
def State.refused (s : State) (m : FabMsg) : State :=
  match s.ownXfer m with
  | some x => s.xferFail x (peerCode m.status)
  | none =>
    if s.lender = some m.srcNode ∧ m.status = 0x0203 then
      let a := m.addr.toNat / 64
      { s with mem := { s.mem with
          remBad := s.mem.remBad ++ (List.range ((m.addr.toNat + m.len.toNat + 63) / 64 - a)).map fun i => a + i } }
    else s

def execMsgRefuse (m : FabMsg) (s : State) : Out := .next (s.onMsg 6 m fun s => s.refused m)

/-- DONE: a PUT completes. -/
def State.putDone (s : State) (m : FabMsg) : State :=
  match s.ownXfer m with
  | some x =>
    if x.isPut && x.phase == .waiting then
      match s.moverOf x with
      | some v => (s.dropXfer x).moverEnd v none
      | none => s.dropXfer x
    else s
  | none => s

def execMsgDone (m : FabMsg) (s : State) : Out := .next (s.onMsg 7 m fun s => s.putDone m)

/-- ABORT: what is served for the sender is discarded, and its range is undefined. -/
def State.aborted (s : State) (m : FabMsg) : State :=
  match s.served m with
  | some x => (s.dropXfer x).spoilRange x
  | none => s

def execMsgAbort (m : FabMsg) (s : State) : Out := .next (s.onMsg 11 m fun s => s.aborted m)

/-! ### Remote pages (R200) -/

/-- The active plan names this module as the lender of a node. -/
def State.lendsTo (s : State) (n : Node) : Bool :=
  match s.activePlan with
  | some p => p.modules.any fun e => e.node == n && e.lender == s.node
  | none => false

/-- The key of 2 MiB of a borrower's remote pages. -/
def lentKey (n : Node) (a : Nat) : Nat := n.toNat * 134217728 + a / 2097152

/-- Where a byte of a borrower's page lies in the sites: its key takes the pool's pages in the order of first writes. -/
def State.lentAt (s : State) (n : Node) (a : Nat) : Option (Nat × Nat) :=
  match s.mem.lent.findIdx? fun k => k == lentKey n a with
  | some i => s.mem.pool[i]?.map fun p => (p.1.toNat, p.2 + a % 2097152)
  | none => none

/-- A page of the pool given to a key that has none, zeroed. -/
def State.lend (s : State) (n : Node) (a : Nat) : State :=
  if s.mem.lent.contains (lentKey n a) then s
  else match s.mem.pool[s.mem.lent.length]? with
    | some (i, o) =>
      let x := s.site i.toNat
      { (s.setSite i.toNat { x with mem := Memory.zero x.mem o 2097152 }) with mem := { (s.setSite i.toNat
          { x with mem := Memory.zero x.mem o 2097152 }).mem with lent := s.mem.lent ++ [lentKey n a] } }
    | none => s

/-- A byte of the pool, and whether its sector is poisoned. -/
def State.lentByte (s : State) (n : Node) (a : Nat) : Byte :=
  match s.lentAt n a with
  | some (i, o) => (s.site i).byte o
  | none => 0
def State.lentBad (s : State) (n : Node) (a lo hi : Nat) : Bool :=
  match s.lentAt n a with
  | some (i, o) => (s.site i).poisoned o && !(decide (lo ≤ a / 64 * 64) && decide (a / 64 * 64 + 64 ≤ hi))
  | none => false

/-- A byte of the pool written; a poisoned sector that the write does not cover whole keeps its bytes and its mark (R190). -/
def State.lentPut (s : State) (n : Node) (lo hi a : Nat) (v : Byte) : State :=
  let s := s.lend n a
  match if s.lentBad n a lo hi then none else s.lentAt n a with
  | some (i, o) => s.setSite i ({ s.site i with poison := (s.site i).poison.filter (· != o / 64) }.putByte .block o v)
  | none => s
def State.lentPutL (s : State) (n : Node) (lo hi : Nat) : Nat → List Byte → State
  | _, [] => s
  | a, v :: r => (s.lentPut n lo hi a v).lentPutL n lo hi (a + 1) r

/-- The answer of a lender to a read or a write that meets an uncorrectable sector of its pool (log entry 88). -/
def State.pageRefuse (s : State) (m : FabMsg) : State := s.sendMsg 6 { replyTo m with addr := m.addr, len := m.len, status := 0x0203 }

/-- PAGE_READ: the lender answers with the bytes of its pool. -/
def State.pageRead (s : State) (m : FabMsg) : State :=
  let a := m.addr.toNat
  if !s.lendsTo m.srcNode then s
  else if (List.range m.len.toNat).any fun i => s.lentBad m.srcNode (a + i) 0 0 then s.pageRefuse m
  else s.sendMsg 10 { replyTo m with addr := m.addr, len := m.len,
                                     data := (List.range m.len.toNat).map fun i => s.lentByte m.srcNode (a + i) }

/-- A PAGE_READ of a site that holds reads. -/
def State.pageHeld (s : State) (m : FabMsg) : Bool :=
  (List.range m.len.toNat).any fun i => match s.lentAt m.srcNode (m.addr.toNat + i) with
    | some (k, _) => (s.site k).training.isSome && decide (2 ≤ (s.site k).erased.length)
    | none => false

/-- A PAGE_READ served, or held. -/
def State.pageReadIn (s : State) (m : FabMsg) : State := s.holdRead (s.pageHeld m) (.pageRead m []) fun s => s.pageRead m

def execPageRead (m : FabMsg) (errs : List MemErr) (s : State) : Out := .next (s.onMsg 8 m fun s => (s.meet errs).pageReadIn m)

/-- PAGE_WRITE: the lender's pool takes the bytes. -/
def State.pageWrite (s : State) (m : FabMsg) : State :=
  let a := m.addr.toNat
  let hi := a + m.data.length
  if !s.lendsTo m.srcNode then s
  else
    let bad := (List.range m.data.length).any fun i => s.lentBad m.srcNode (a + i) a hi
    let s := s.lentPutL m.srcNode a hi a m.data
    if bad then s.pageRefuse m else s

def execPageWrite (m : FabMsg) (s : State) : Out := .next (s.onMsg 9 m fun s => s.pageWrite m)

/-- PAGE_DATA: the borrower's page holds the bytes that its lender returned. -/
def State.pageData (s : State) (m : FabMsg) : State :=
  if s.lender = some m.srcNode then
    { s with mem := { s.mem with remote := Memory.writeL s.mem.remote m.addr.toNat m.data,
                                 remBad := s.mem.remBad.filter fun k => k * 64 + 64 ≤ m.addr.toNat || m.addr.toNat + m.data.length ≤ k * 64 } }
  else s

def execPageData (m : FabMsg) (s : State) : Out := .next (s.onMsg 10 m fun s => s.pageData m)

end Sys2Proof.Machine
end

