-- ==== Sys2Proof/Machine/SiteMemory.lean ====
section
/-! DEFINITION. The rows of site memory and of the power cap (07): scrubbing, erasure, retraining (R190-R194), and the
steps of the power cap (R205). -/

set_option Elab.async false

namespace Sys2Proof.Machine

/-! ### Scrubbing (R190-R193) -/

/-- Sectors of 64 bytes in the data capacity of a site (R189). -/
def siteSectors : Nat := 2147483648

/-- The scrubber is past a sector; the last one ends the pass. -/
def Site.passOn (x : Site) (sector up : Nat) : Site :=
  if sector + 1 = siteSectors then { x with pass := x.pass + 1, passPos := 0, lastEnd := some up }
  else { x with passPos := sector + 1 }

/-- A sector that the scrubber reads, with its symbols on the dies `bad` in error. -/
def State.scrub (s : State) (i : Nat) (sector : Nat) (bad : List (Fin 36)) : State :=
  let x := s.site i
  if s.siteCount ≤ i ∨ x.failed ∨ (x.training.isSome ∧ 2 ≤ x.erased.length) then s
  else
    let s := s.readSector i sector bad true
    s.setSite i ((s.site i).passOn sector s.up)

def execScrubRead (site : BitVec 4) (sector : BitVec 31) (bad : List (Fin 36)) (s : State) : Out :=
  .next (s.scrub site.toNat sector.toNat bad)

/-! ### Erasure and retraining (R191, R192, R194) -/

/-- A die declared erased; never a third one. -/
def State.eraseDie (s : State) (i : Nat) (die : Fin 36) : State :=
  let x := s.site i
  if s.siteCount ≤ i ∨ x.erased.contains die ∨ 2 ≤ x.erased.length then s
  else (s.setSite i { x with erased := x.erased ++ [die] }).event 0x0802 2 (mkUnit false 1 i 0 0 0 0)

def execDieErase (site : BitVec 4) (die : Fin 36) (s : State) : Out := .next (s.eraseDie site.toNat die)

/-- A row remapped to a spare row of its die, if one is left: event 0x0804. What its passes showed was the old row's (R192). -/
def State.remapRow (s : State) (i : Nat) (e : Nat × Nat) : State :=
  let x := s.site i
  let used := SMap.get x.spare e.1 0
  if used < 128 then
    (s.setSite i { x with spare := SMap.put x.spare e.1 (used + 1),
                          rowHits := x.rowHits.filter fun h => h.1 != rowKey e.1 e.2 }).event 0x0804 2 (mkUnit false 1 i 0 0 0 0)
  else s

/-- A retraining window opens: the rows of the die that wait for a remap move in it. -/
def State.trainStart (s : State) (i : Nat) (die : Fin 36) : State :=
  let x := s.site i
  if s.siteCount ≤ i ∨ x.failed ∨ x.training.isSome ∨ x.erased.contains die then s
  else
    let rows := (x.toRemap.filter fun e => e.1 == die.val).eraseDups
    rows.foldl (fun s e => s.remapRow i e)
      (s.setSite i { x with training := some die, windows := satAdd x.windows 1,
                            toRemap := x.toRemap.filter fun e => e.1 != die.val })

def execRetrainStart (site : BitVec 4) (die : Fin 36) (s : State) : Out := .next (s.trainStart site.toNat die)

/-- The held writes of a site, served oldest first. -/
def Site.serve (x : Site) : Site :=
  { x with mem := x.heldW.foldr (fun e m => Memory.write m e.1 e.2.1) x.mem, heldW := [] }

/-- A retraining window of `us` microseconds closes. -/
def State.trainEnd (s : State) (i : Nat) (us : BitVec 8) : State :=
  let x := s.site i
  if x.training.isNone then s
  else s.setSite i { x.serve with training := none, longest := if x.longest.toNat < us.toNat then us else x.longest }

/-- The descriptors that waited for their writes to be visible end (R156, R194). -/
def State.endVisible (s : State) (k n : Nat) : State :=
  match s.thread? k n with
  | none => s
  | some t =>
    match t.wait, t.cur with
    | .visible i code, some d =>
      if s.heldFor (.thread t.id i) then s
      else match code with
        | some c => s.failDesc k n d ((s.ctOf k t d).getD none) c
        | none => s.completeCur k n
    | _, _ => s

/-- What waited for held writes and reads goes on: descriptors, transfers that this module serves, and the requests that were held. -/
def State.heldOver (s : State) : State :=
  let s := (s.cores.flatMap fun e => e.2.slots.map fun x => (e.1, x.1)).foldl (fun s p => s.endVisible p.1 p.2) s
  let s := (s.fab.xfers.filter fun x => !x.mine).foldl State.putServed s
  let l := s.mem.heldR
  l.foldl (fun s i => match i with
    | .getReq m _ => s.getReqIn m
    | .msgAccept m _ => s.acceptIn m
    | .pageRead m _ => s.pageReadIn m
    | _ => s) { s with mem := { s.mem with heldR := [] } }

/-! ### The power cap (R205) -/

/-- A sample of the input power, the voltages of the connectors and the charge of the hold-up bank; POWER is the mean of
the last ten. -/
def State.sample (s : State) (watts vinA vinB : BitVec 12) (holdup : BitVec 8) : State :=
  let l := (watts.toNat :: s.mem.samples).take 10
  { s with mem := { s.mem with samples := l, avg := BitVec.ofNat 12 (l.foldl (· + ·) 0 / l.length) },
           mod := { s.mod with vinA := vinA, vinB := vinB, holdup := holdup } }

def execPowerSample (watts vinA vinB : BitVec 12) (holdup : BitVec 8) (s : State) : Out :=
  .next (s.sample watts vinA vinB holdup)

/-- The mean of the samples lies below 95 % of the limit. -/
def State.powerLow (s : State) : Bool :=
  decide (100 * s.mem.samples.foldl (· + ·) 0 < 95 * s.powerLimit * s.mem.samples.length)

/-- The next step taken: event 0x0807; past step 16, event 0x0808. -/
def State.capUp (s : State) : State :=
  if !s.powerHigh then { s with mem := { s.mem with exhausted := false } }
  else if s.mem.step < 16 then
    ({ s with mem := { s.mem with step := s.mem.step + 1, exhausted := false } }).event 0x0807 0 0
  else if s.mem.exhausted then s
  else ({ s with mem := { s.mem with exhausted := true } }).event 0x0808 0 0

/-- A junction sensor of a tray or a cluster reads above, or at least, `x` sixteenths of a degree. -/
def State.hotter (s : State) (x : Int) : Bool :=
  (s.trays.any fun e => decide (x < e.2.temp.now.toInt)) || s.clusters.any fun e => decide (x < e.2.temp.now.toInt)

/-- With the hottest junction above 100 °C a step is taken too (R420): event 0x0112 as the first one is. -/
def State.heatUp (s : State) : State :=
  if s.hotter 1600 && decide (s.mem.thermal < 16) then
    let s := if s.mem.thermal = 0 then s.event 0x0112 0 0 else s
    ({ s with mem := { s.mem with thermal := s.mem.thermal + 1 } }).event 0x0807 0 0
  else s

def execPowerCapStep (s : State) : Out := .next s.capUp.heatUp

/-- A step withdrawn: event 0x0807. -/
def State.capDown (s : State) : State :=
  if s.powerLow && decide (0 < s.mem.step) then
    ({ s with mem := { s.mem with step := s.mem.step - 1, exhausted := false } }).event 0x0807 0 0
  else s

def execPowerCapWithdraw (s : State) : Out := .next s.capDown

/-- A thermal step withdrawn once the hottest junction lies below 95 °C. -/
def State.coolDown (s : State) : State :=
  if !s.hotter 1519 && decide (0 < s.mem.thermal) then
    ({ s with mem := { s.mem with thermal := s.mem.thermal - 1 } }).event 0x0807 0 0
  else s

def execThermalWithdraw (s : State) : Out := .next s.coolDown

end Sys2Proof.Machine
end

