-- ==== Sys2Proof/Machine/Contexts.lean ====
section
/-! DEFINITION. The rows of contexts and regions (07): the context commands (R201), the tray-buffer grant (R202), the
allocation, release and query of regions (R197-R199), and the loss of a lender (R200). -/

set_option Elab.async false

namespace Sys2Proof.Machine

/-! ### Paths by their keys -/

/-- The registers of a path, by its key, changed. -/
def State.modPath (s : State) (key : Nat) (f : PathSt → PathSt) : State :=
  { s with paths := SMap.put s.paths key (f (SMap.get s.paths key {})) }

/-- MEM_CTX_RESULT of a path: the context acted on and the status. -/
def State.ctxAnswer (s : State) (key : Nat) (c : CtxNo) (code : Code) : State :=
  s.modPath key fun q => { q with ctxOf := c, ctxStatus := code }

/-! ### Context commands (R201) -/

/-- A thread stands between descriptors: nothing of its current descriptor has begun. -/
def Thread.atBoundary (t : Thread) : Bool :=
  t.st == .ready || t.st == .held || t.wait == .fetch || t.wait == .order || t.wait == .asyncRoom

/-- A thread of a context that has been fenced (R100, R158). -/
def State.fenceThread (s : State) (k n : Nat) : State :=
  match s.thread? k n with
  | none => s
  | some t =>
    if t.st = ThState.ending then s
    else if t.atBoundary then s.threadEnd k n (some 0x0501)
    else s.endWait k n 0x0501

/-- The places of a context's threads: core and slot. -/
def State.threadsOf (s : State) (c : CtxNo) : List (Nat × Nat) :=
  s.cores.flatMap fun e => (e.2.slots.filter fun x => x.2.ctx == c).map fun x => (e.1, x.1)

/-- An ACTIVE context fenced: waiting start requests end with FENCED, and its threads at their next boundaries. -/
def State.fenceCtx (s : State) (c : CtxNo) : State :=
  let s := (s.setCtx c { s.ctx c with st := 2 }).refuseStarts (fun r => r.ctx == c) 0x0501
  (s.threadsOf c).foldl (fun s p => s.fenceThread p.1 p.2) s

/-- A context enters RESETTING by a command of a path: its threads and descriptors are absorbed. -/
def State.ctxStop (s : State) (c : CtxNo) (op : BitVec 3) (key : Nat) : State :=
  let x := s.ctx c
  (s.setCtx c { x with st := 3, fenced := if x.st = 3 then x.fenced else x.st == 2, busy := some (op, key) }).absorbCtx c

/-- A command for context `c`: 2 DESTROY, 3 FENCE, 4 UNFENCE, 5 RESET. It waits where another is at work. -/
def State.ctxOp (s : State) (c : CtxNo) (op : BitVec 3) (key : Nat) : State :=
  let x := s.ctx c
  if x.st = 0 then s.ctxAnswer key c 0x050A
  else if x.busy.isSome then s.setCtx c { x with waiting := x.waiting ++ [(op, key)] }
  else if op = 3 then
    (if x.st = 1 then s.fenceCtx c else if x.st = 3 then s.setCtx c { x with fenced := true } else s).ctxAnswer key c 0
  else if op = 4 then
    (if x.st = 2 then s.setCtx c { x with st := 1 }
      else if x.st = 3 then s.setCtx c { x with fenced := false } else s).ctxAnswer key c 0
  else s.ctxStop c op key

/-- The commands that waited for a context, in their order. -/
def State.ctxNext (s : State) (c : CtxNo) : State :=
  let l := (s.ctx c).waiting
  l.foldl (fun s e => s.ctxOp c e.1 e.2) (s.setCtx c { s.ctx c with waiting := [] })

/-- MEM_CTX_CMD written with GO: OP and PID are stored. -/
def State.ctxCmd (s : State) (p : Path) (v : Word) : State := s.modPath (pathKey p) fun q => { q with ctxCmd := v &&& 0x3F07 }

/-- A context command for the context that the path selects: FENCE, UNFENCE, RESET and DESTROY act on the one in MEM_CTX_SEL (R201 and
R207 name no other: DESIGN CHOICE, log entry 89). -/
def State.ctxCommand (s : State) (p : Path) (op : BitVec 3) : State :=
  if s.priv p then
    (s.ctxCmd p ((s.path p).ctxCmd &&& 0x3F00 ||| fld 0 op)).ctxOp (s.path p).ctxSel op (pathKey p)
  else s

/-- CREATE: the lowest FREE context. -/
def State.ctxMake (s : State) (p : Path) (pid : Pid) : State :=
  if !s.priv p then s
  else
    let s := s.ctxCmd p (packW [(8, pid.toNat), (0, 1)])
    match (List.range 4096).find? fun n => (s.ctx (BitVec.ofNat 12 n)).st == 0 with
    | some n => (s.setCtx (BitVec.ofNat 12 n) { st := 1, pid := pid }).ctxAnswer (pathKey p) (BitVec.ofNat 12 n) 0
    | none => s.modPath (pathKey p) fun q => { q with ctxStatus := 0x0509 }

def execCtxCreate (p : Path) (pid : Pid) (s : State) : Out := .next (s.ctxMake p pid)
def execCtxDestroy (p : Path) (s : State) : Out := .next (s.ctxCommand p 2)
def execCtxFence (p : Path) (s : State) : Out := .next (s.ctxCommand p 3)
def execCtxUnfence (p : Path) (s : State) : Out := .next (s.ctxCommand p 4)
def execCtxReset (p : Path) (s : State) : Out := .next (s.ctxCommand p 5)

/-- A RESET completes: the context returns to ACTIVE or FENCED, unless a reset of its partition still holds it. -/
def State.ctxResetDone (s : State) (c : CtxNo) : State :=
  match (s.ctx c).busy with
  | some (op, key) =>
    if op = 5 then
      let held := s.mod.resets.any fun j => !j.stopped && j.ctxs.contains c
      let s := s.setCtx c { s.ctx c with busy := none }
      ((if held then s else s.freeCtx c).ctxAnswer key c 0).ctxNext c
    else s
  | none => s

def execCtxResetDone (c : CtxNo) (s : State) : Out := .next (s.ctxResetDone c)

/-! ### Pages (R189, R195, R197) -/

/-- The page at an offset of a site freed. -/
def Site.freePage (x : Site) (off : Nat) : Site :=
  let f := off / 1073741824
  match x.frame f with
  | some .big => { x with frames := SMap.del x.frames f }
  | some (.small u) =>
    let u' := u &&& ~~~ (BitVec.ofNat 512 (2 ^ (off % 1073741824 / 2097152)))
    if u' = (if f = 127 then tableBits else 0) then { x with frames := SMap.del x.frames f }
    else { x with frames := SMap.put x.frames f (.small u') }
  | none => x

/-- A page taken in a site: a 1 GiB page in the lowest wholly free frame, a 2 MiB page in the lowest frame that holds small
pages and has room, else in the lowest wholly free frame (log entry 8). -/
def Site.takePage (x : Site) (big : Bool) : Option (Site × Nat) :=
  let empty := (List.range 128).find? fun f => (x.frame f).isNone
  if x.failed then none
  else if big then empty.map fun f => ({ x with frames := SMap.put x.frames f .big }, f * 1073741824)
  else
    let room := (List.range 128).find? fun f => match x.frame f with
      | some (.small u) => u != BitVec.allOnes 512
      | _ => false
    match room with
    | some f =>
      match x.frame f with
      | some (.small u) =>
        ((List.range 512).find? fun i => !u.getLsbD i).map fun i =>
          ({ x with frames := SMap.put x.frames f (.small (u ||| BitVec.ofNat 512 (2 ^ i))) }, f * 1073741824 + i * 2097152)
      | _ => none
    | none => empty.map fun f => ({ x with frames := SMap.put x.frames f (.small 1) }, f * 1073741824)

/-- A page taken in site `i` of the module. -/
def State.takePage (s : State) (i : Nat) (big : Bool) : Option (State × PageAt) :=
  ((s.site i).takePage big).map fun r => (s.setSite i r.1, .here (BitVec.ofNat 4 i) r.2)

/-- `n` pages taken in turn from a list of sites, beginning with its entry `i`; none if one has no page. -/
def takeInTurn (sites : List Nat) (big : Bool) : Nat → Nat → State → Option (State × List PageAt)
  | 0, _, s => some (s, [])
  | n + 1, i, s =>
    match sites[i % sites.length]? with
    | none => none
    | some k =>
      match s.takePage k big with
      | none => none
      | some r => (takeInTurn sites big n (i + 1) r.1).map fun x => (x.1, r.2 :: x.2)

/-- Up to `n` pages taken in turn, passing over sites without one. -/
def takeMost (sites : List Nat) (big : Bool) : Nat → Nat → State → State × List PageAt
  | 0, _, s => (s, [])
  | n + 1, i, s =>
    match (sites.rotate i).findSome? fun k => s.takePage k big with
    | none => (s, [])
    | some r =>
      let x := takeMost sites big n (i + 1) r.1
      (x.1, r.2 :: x.2)

/-- The numbers of the lender's pages in use. -/
def State.lentNums (s : State) : List Nat :=
  s.mem.ctxs.flatMap fun e => e.2.regions.flatMap fun r => r.2.pages.filterMap fun p => match p with
    | .lender n => some n
    | .here _ _ => none

/-- The pages of 2 MiB that all regions hold at the lender, and the size of its pool (R200, R318). -/
def State.lentUsed (s : State) : Nat := (s.mem.ctxs.map fun e => e.2.remUsed).foldl (· + ·) 0
def State.lenderPool (s : State) : Nat :=
  match s.activePlan, s.lender with
  | some pl, some n => match (pl.byNode n).bind fun i => pl.modules[i]? with
    | some m => m.pool.toNat
    | none => 0
  | _, _ => 0

/-- `n` pages of the lender: the lowest numbers not in use. -/
def State.lenderPages (s : State) (n : Nat) : List PageAt :=
  let used := s.lentNums
  (((List.range (used.length + n)).filter fun i => !used.contains i).take n).map .lender

/-- The present sites that work. -/
def State.openSites (s : State) : List Nat := (List.range s.siteCount).filter fun i => !(s.site i).failed

/-- Where a placement puts `n` pages: the state with its local pages taken, and all pages; at most `n` local ones for
OVERFLOW, none for REMOTE. -/
def State.place (s : State) (place : BitVec 2) (site : Nat) (big : Bool) (n : Nat) : Option (State × List PageAt) :=
  if place = 0 then takeInTurn s.openSites big n s.mem.rot s
  else if place = 1 then takeInTurn [site] big n 0 s
  else
    let r := if place = 2 then takeMost s.openSites big n s.mem.rot s else (s, [])
    let far := n - r.2.length
    if s.lentUsed + far * (if big then 512 else 1) ≤ s.lenderPool then some (r.1, r.2 ++ s.lenderPages far) else none

/-! ### Region commands (R197-R199) -/

/-- CTX_RRESULT.STATE of a region. -/
def Ctx.regionCode (c : Ctx) (r : Nat) : Nat :=
  match SMap.find c.regions r with
  | some x => match x.st with
    | .mapped => 1
    | .lost => 2
    | .allocating => 0
    | .releasing => 0
  | none => 0

/-- CTX_RRESULT of a path after a command for region `r` of context `c`. -/
def State.rAnswer (s : State) (key : Nat) (c : CtxNo) (r : Nat) (code : Code) : State :=
  let x := s.ctx c
  let pl := ((SMap.find x.regions r).map fun e => e.place.toNat).getD 0
  s.modPath key fun q => { q with rresult := packW [(30, x.regionCode r), (28, pl), (0, code.toNat)] }

/-- CTX_RCMD stored without its GO bit. -/
def State.rStore (s : State) (p : Path) (v : Word) : State := s.modPath (pathKey p) fun q => { q with rcmd := v &&& 0x0F133F03 }

/-- A region set, and removed. -/
def State.setRegion (s : State) (c : CtxNo) (r : Nat) (x : Region) : State :=
  s.setCtx c { s.ctx c with regions := SMap.put (s.ctx c).regions r x }
def State.delRegion (s : State) (c : CtxNo) (r : Nat) : State :=
  s.setCtx c { s.ctx c with regions := SMap.del (s.ctx c).regions r }

/-- A region command of a path: GO and OP must say so. -/
def State.regionCmd (s : State) (p : Path) (v : Word) (op : Nat) (f : State → CtxNo → Nat → State) : State :=
  let t := s
  let s := s.rStore p v
  let c := s.shownCtx p
  if !t.carries p then t
  else if !v.getLsbD 31 || bitsOf v 1 0 != op then s
  else if (s.ctx c).st = 0 then s.rAnswer (pathKey p) c (bitsOf v 13 8) 0x050A
  else f s c (bitsOf v 13 8)

/-- Checks 1 to 4 of R198; `far` pages of 2 MiB go to the lender. -/
def State.judgeAlloc (s : State) (c : CtxNo) (r base size : Nat) (big : Bool) (place : BitVec 2) (site far : Nat) :
    Option Code :=
  let x := s.ctx c
  let pg := if big then 1073741824 else 2097152
  if (SMap.find x.regions r).isSome ∨ base % pg ≠ 0 ∨ size % pg ≠ 0 ∨ size = 0 ∨ 281474976710656 < base + size ∨
      (x.regions.any fun e => decide (e.2.base < base + size) && decide (base < e.2.base + e.2.size)) ∨
      (place = 1 ∧ s.siteCount ≤ site) then some 0x0204
  else if x.quota.toNat < x.used + size / 2097152 then some 0x0201
  else if place.toNat < 2 then none
  else if !x.remEn ∨ s.lender.isNone then some 0x0206
  else if min x.remCap.toNat (x.quota.toNat / 4) < x.remUsed + far then some 0x0201
  else none

/-- ALLOCATE: judged, and its pages taken. Every allocation that succeeds moves the starting site on by one, and the local pages of an
OVERFLOW start there too (R197 says only that the site rotates from one region to the next: DESIGN CHOICE, log entry 90). -/
def State.allocate (s : State) (p : Path) (v : Word) (c : CtxNo) (r : Nat) : State :=
  let q := s.path p
  let base := q.rbase.toNat
  let size := q.rsize.toNat
  let big : Bool := bitsOf v 20 20 == 1
  let place := BitVec.ofNat 2 (bitsOf v 17 16)
  let n := size / (if big then 1073741824 else 2097152)
  let near := if place = 2 then (takeMost s.openSites big n s.mem.rot s).2.length else 0
  match s.judgeAlloc c r base size big place (bitsOf v 27 24) ((n - near) * (if big then 512 else 1)) with
  | some code => s.rAnswer (pathKey p) c r code
  | none =>
    match s.place place (bitsOf v 27 24) big n with
    | none => s.rAnswer (pathKey p) c r 0x0205
    | some (s', pages) =>
      ({ s' with mem := { s'.mem with rot := s.mem.rot + 1 } }).setRegion c r
        { base := base, size := size, big := big, place := place, st := .allocating, pages := pages, path := pathKey p }

def execRegionAllocate (p : Path) (v : Word) (s : State) : Out :=
  .next (s.regionCmd p v 1 fun s c r => s.allocate p v c r)

/-- A page zeroed, with no mark of poison left. -/
def State.zeroPage (s : State) (n : Nat) (p : PageAt) : State :=
  match p with
  | .here site off =>
    let x := s.site site.toNat
    s.setSite site.toNat { x with
      mem := Memory.zero x.mem off n, poison := x.poison.filter fun k => k * 64 < off || off + n ≤ k * 64,
      heldW := x.heldW.filter fun e => e.1 < off || off + n ≤ e.1 }
  | .lender k =>
    { s with mem := { s.mem with remote := Memory.zero s.mem.remote (k * 1073741824) n,
                                 remBad := s.mem.remBad.filter fun b => b * 64 < k * 1073741824 || k * 1073741824 + n ≤ b * 64 } }

/-- The zeros of a page at the lender go to it as a write of the page. -/
def State.tellZero (s : State) (c : CtxNo) (n : Nat) (p : PageAt) : State :=
  match p with
  | .here _ _ => s
  | .lender k => s.askLender 9 c (k * 1073741824) n (List.replicate n 0)

/-- An allocation completes: its pages read 0 and the region is MAPPED. -/
def State.allocDone (s : State) (c : CtxNo) (r : Nat) : State :=
  match SMap.find (s.ctx c).regions r with
  | some x =>
    if x.st = .allocating then
      let s := x.pages.foldl (fun s p => (s.zeroPage x.pageBytes p).tellZero c x.pageBytes p) s
      (s.setRegion c r { x with st := .mapped }).rAnswer x.path c r 0
    else s
  | none => s

def execRegionAllocateDone (c : CtxNo) (r : BitVec 6) (s : State) : Out := .next (s.allocDone c r.toNat)

/-- A region holds an enabled ring or the status region (R227). -/
def Ctx.regionHeld (c : Ctx) (x : Region) : Bool :=
  let inside (a : Nat) : Bool := decide (x.base ≤ a) && decide (a < x.base + x.size)
  (c.rings.any fun e => e.2.en && inside e.2.base.toNat) || (c.scount != 0 && inside c.sbase.toNat)

/-- RELEASE: an allocation at work completes first; the region is freed by REGION_RELEASE_DONE. A second RELEASE meanwhile answers
REGION_INVALID at once (R199 is silent: DESIGN CHOICE, log entry 91). -/
def State.release (s : State) (p : Path) (c : CtxNo) (r : Nat) : State :=
  let s := s.allocDone c r
  match SMap.find (s.ctx c).regions r with
  | none => s.rAnswer (pathKey p) c r 0x0204
  | some x =>
    if x.st = .releasing then s.rAnswer (pathKey p) c r 0x0204
    else if (s.ctx c).regionHeld x then s.rAnswer (pathKey p) c r 0x0208
    else s.setRegion c r { x with st := .releasing, path := pathKey p }

def execRegionRelease (p : Path) (v : Word) (s : State) : Out := .next (s.regionCmd p v 2 fun s c r => s.release p c r)

/-- A descriptor checked against a region has not reached its completion-ADD point, or a PUT into it is being served (R130): a movement,
one that has landed and waits for its ADD, an append, a start request, or results that a site still holds. -/
def State.regionBusyBy (s : State) (c : CtxNo) (x : Region) : Bool :=
  let inside (a : Nat) : Bool := decide (x.base ≤ a) && decide (a < x.base + x.size)
  (s.movers.any fun m => m.ctx == c && (devOperands m.d).any inside) ||
  (s.outst.any fun o => o.dev.any fun e => e.1 == c && inside e.2) ||
  (s.fab.xfers.any fun y => !y.mine && y.ctx == c && inside y.addr) ||
  s.cores.any fun e => e.2.slots.any fun t => t.2.ctx == c && match t.2.wait, t.2.cur with
    | .append slot _, some d => (devOperands d).any inside || inside (s.seq slot.toNat).base.toNat
    | .reserve, some d => (devOperands d).any inside
    | .child _, some d => (devOperands d).any inside
    | .visible _ _, some d => (devOperands d).any inside
    | _, _ => false

/-- The pages of a region freed and the region gone. -/
def State.freeRegion (s : State) (c : CtxNo) (r : Nat) (x : Region) : State :=
  (x.pages.foldl (fun s p => match p with
    | .here site off => s.setSite site.toNat ((s.site site.toNat).freePage off)
    | .lender _ => s) s).delRegion c r

/-- A release completes once no descriptor in flight holds it back. -/
def State.releaseDone (s : State) (c : CtxNo) (r : Nat) : State :=
  match SMap.find (s.ctx c).regions r with
  | some x =>
    if x.st = .releasing ∧ !s.regionBusyBy c x then (s.freeRegion c r x).rAnswer x.path c r 0 else s
  | none => s

def execRegionReleaseDone (c : CtxNo) (r : BitVec 6) (s : State) : Out := .next (s.releaseDone c r.toNat)

/-- QUERY: the state, base, size and remote pages of a region. -/
def State.query (s : State) (p : Path) (c : CtxNo) (r : Nat) : State :=
  let x := SMap.find (s.ctx c).regions r
  (s.modPath (pathKey p) fun q => { q with
    rbase := BitVec.ofNat 64 ((x.map fun e => e.base).getD 0), rsize := BitVec.ofNat 64 ((x.map fun e => e.size).getD 0),
    rremote := BitVec.ofNat 32 ((x.map Region.remote2).getD 0) }).rAnswer (pathKey p) c r 0

def execRegionQuery (p : Path) (v : Word) (s : State) : Out := .next (s.regionCmd p v 3 fun s c r => s.query p c r)

/-! ### The end of a context (R201) -/

/-- A DESTROY completes: every region is freed, and the context is FREE with everything of it cleared. -/
def State.ctxDestroyed (s : State) (c : CtxNo) : State :=
  match (s.ctx c).busy with
  | some (op, key) =>
    if op = 2 then
      let l := (s.ctx c).waiting
      let regions := (s.ctx c).regions
      let s := regions.foldl (fun s e =>
        let s := s.freeRegion c e.1 e.2
        if e.2.st = .allocating ∨ e.2.st = .releasing then s.rAnswer e.2.path c e.1 0x050A else s) s
      let s := ((s.hostDrop c).setCtx c {}).ctxAnswer key c 0
      l.foldl (fun s e => s.ctxOp c e.1 e.2) s
    else s
  | none => s

def execCtxDestroyDone (c : CtxNo) (s : State) : Out := .next (s.ctxDestroyed c)

/-! ### The tray-buffer grant (R202) -/

/-- A write of CTX_TBGRANT takes effect, or is refused with event 0x0806. -/
def State.grantWrite (s : State) (p : Path) (v : Word) : State :=
  if !s.priv p then s
  else
    let c := s.shownCtx p
    let x := s.ctx c
    let b := bitsOf v 21 16
    let n := bitsOf v 6 0
    let clash := s.mem.ctxs.any fun e => e.1 != c.toNat && e.2.st != 0 && e.2.pid == x.pid &&
      decide (e.2.gbase.toNat < b + n) && decide (b < e.2.gbase.toNat + e.2.gsize.toNat) && decide (0 < n) && e.2.gsize != 0
    if 64 < b + n ∨ clash ∨ s.ctxThreads c ≠ 0 then s.event 0x0806 4 0
    else s.setCtx c { x with gbase := BitVec.ofNat 6 b, gsize := BitVec.ofNat 7 n }

def execCtxTbgrantWrite (p : Path) (v : Word) (s : State) : Out := .next (s.grantWrite p v)

/-! ### The loss of a lender (R200) -/

/-- A region with remote pages is LOST; an allocation at work ends with it, its local pages zeroed (R197, R200). -/
def State.loseRegion (s : State) (c : CtxNo) (r : Nat) : State :=
  match SMap.find (s.ctx c).regions r with
  | some x =>
    if x.pages.any PageAt.remote ∧ x.st ≠ .releasing then
      let s := s.setRegion c r { x with st := .lost }
      if x.st = .allocating then (x.pages.foldl (fun s p => s.zeroPage x.pageBytes p) s).rAnswer x.path c r 0 else s
    else s
  | none => s

/-- Every region with remote pages goes to LOST: event 0x0805. -/
def State.loseRemote (s : State) : State :=
  (s.mem.ctxs.foldl (fun s e => e.2.regions.foldl (fun s r => s.loseRegion (BitVec.ofNat 12 e.1) r.1) s) s).event 0x0805 0 0

def execLenderLost (node : Node) (s : State) : Out := .next (if s.lender = some node then s.loseRemote else s)

end Sys2Proof.Machine
end

