-- ==== Sys2Proof/Machine/Light.lean ====
section
/-! DEFINITION. The rows of light in the trays (09): lasers, rings, device holds, sensors, calibration sets and test
strips, and the rows of the grid reference. -/

set_option Elab.async false

namespace Sys2Proof.Machine

/-! ### Device holds (R71, R175, R176, R256) -/

/-- Every run of the journal since the last good tag check is SUSPECT, and event 0x090C names the first and the last
(R176); run numbers count modulo 2^32 (R174), and the journal is newest first. -/
def State.markSuspect (s : State) (t : Nat) : State :=
  let x := s.tray t
  let n := (x.proof.runs - BitVec.ofNat 32 x.light.goodRun).toNat
  let hit (j : JEntry) : Bool := decide ((x.proof.runs - j.run).toNat ≤ n)
  let runs := (x.proof.journal.filter hit).map fun j => j.run.toNat
  if runs = [] then s
  else
    (s.modTray t fun x => { x with proof := { x.proof with
        journal := x.proof.journal.map fun (j : JEntry) => if hit j then j.flag 0 else j } }).event 0x090C 0 (s.trayUnit t)
      [snap [(0, runs.getLastD 0), (32, runs.headD 0)]]

/-- Every exposure of the pending store that has not been settled is replayed (R175), and its guest requests dropped. -/
def State.replayAll (s : State) (t : Nat) : State :=
  let k := s.partnerTray t
  let s := s.modTray t fun x => { x with pend := x.pend.map fun (p : Pend) =>
    if p.phase = .settled then p
    else { p with phase := .replay, isReplay := true, first := none, rerun := none, ref1 := none, out1 := [], ref2 := none,
                  partner := 0 } }
  s.modTray k fun y => { y with proof := { y.proof with
    guestQ := y.proof.guestQ.filter fun (g : Nat × Nat) => g.1 != t,
    guestDone := y.proof.guestDone.filter fun (g : Nat × Nat × Bool × Int) => g.1 != t } }

/-- A device hold with a cause begins, or goes on with a newer one: a running strip is abandoned. -/
def State.devHold (s : State) (t : Nat) (cause : BitVec 4) : State :=
  (s.dropStrip t).modTray t fun x => settleTray { x with light := { x.light with devHold := true, cause := cause } }

/-- The tray is lit and neither FAILED nor MAPPED_OUT: its lasers, rings and sensors are looked after. -/
def Tray.tended (t : Tray) : Bool := t.light.lit && t.ctl.st != .failed && t.ctl.st != .mappedOut

/-! ### Interim and measured sets (R247, R248, R252) -/

/-- The next number of a set: 1 to 65,535, then 1 again. -/
def nextSetGen (g : BitVec 16) : BitVec 16 := if g = 0xFFFF then 1 else g + 1

/-- The number that the next set takes. -/
def Tray.nextSet (t : Tray) : BitVec 16 := nextSetGen ((t.staged.map fun c => c.gen).getD t.cal.gen)

/-- Outside 40 to 100 °C the nearest stored set is used unchanged: the set is clamped (R248). -/
def clampedAt (x : Int) : Bool := decide (x < 640) || decide (1600 < x)

/-- Fix-stage coefficients of a tray in a mode, interpolated in the stored sets. -/
def interpolated (t : Nat) (x : Int) (mode : Nat) : FixCoef :=
  let row (k : Nat) : List Int := (List.range 32).map fun i => interp x fun j => Config.storedCoef t j mode k i
  ⟨row 0, row 1, row 2, row 3⟩

/-- A set staged. With no plane ACTIVE it is adopted at once, and an idle plane of the set it replaces is rewritten (R66). -/
def State.stage (s : State) (t : Nat) (c : CalSet) : State :=
  let s := s.modTray t fun x => { x with staged := some c }
  if (s.tray t).hasActive then s else (s.adopt t).rewriteIdle t

/-- An interim set staged at the tray's temperature: it keeps the age, T_cal and SUM_RES of the set it replaces. -/
def State.stageInterim (s : State) (t : Nat) : State :=
  let x := s.tray t
  let at_ := x.temp.now.toInt
  (s.stage t { gen := x.nextSet, tables := s.fv, tTab := at_, interim := true, clamped := clampedAt at_, tCal := x.cal.tCal,
               stamp := x.cal.stamp, sumRes := x.cal.sumRes, std := interpolated t at_ 0, fine := interpolated t at_ 1 }).draw

/-- The site controller stages the measured set of a strip that has ended, or an interim set that is due. -/
def State.stageSet (s : State) (t : Nat) : State :=
  let x := s.tray t
  match x.light.measured with
  | some m =>
    (s.modTray t fun x => { x with light := { x.light with measured := none, interimDue := false } }).stage t
      { gen := x.nextSet, tables := m.tables, tTab := m.figs.tCal, interim := false, clamped := clampedAt m.figs.tCal, tCal := m.figs.tCal,
        stamp := some m.stamp, sumRes := m.sumRes, std := m.figs.std, fine := m.figs.fine }
  | none =>
    if x.light.interimDue then
      (s.modTray t fun x => { x with light := { x.light with interimDue := false } }).stageInterim t
    else s

/-! ### Requests for strips (R249) -/

/-- The temperature and age triggers of R249, while no strip runs and no measured set waits. -/
def State.calTriggers (s : State) (t : Nat) : State :=
  let x := s.tray t
  if x.light.stripRun.isSome || x.light.measured.isSome || x.staged.isSome then s
  else
    let s := if 128 * s.calDelta ≤ 100 * (x.temp.now.toInt - x.cal.tCal).natAbs then s.askStrip t 3 else s
    match s.calAge x with
    | some a => if 9 * s.calMaxAge * 1000000000 ≤ 10 * a then s.askStrip t 4 else s
    | none => s

/-- A set reaches its age or temperature threshold. -/
def State.calDue (s : State) (t : Nat) : State := (s.calTriggers t).noteStale t

/-- A write of LIGHT_CAL: triggers and STALE are judged at once against the new values (R256). -/
def execLightCalWrite (p : Path) (v : Word) (s : State) : Out :=
  .next (if s.priv p then
      let s := s.setPol 0x700004 ((polStore 0x700004 v).getD 0)
      s.allTrays.foldl State.calDue s
    else s)

/-- LIGHT_CTL.STRIP_ALL: a priority-5 request on every tray. -/
def execStripAll (p : Path) (s : State) : Out :=
  .next (if s.priv p then s.allTrays.foldl (fun s t => s.askStrip t 5) s else s)

/-- LK_CTL.STRIP of the selected tray. -/
def State.stripTray (s : State) (u : URef) : State :=
  match u with
  | .tray t => (s.modTray t fun x => { x with light := { x.light with stripBit := true } }).askStrip t 5
  | _ => s

/-- LK_CTL.STRIP written through the window. -/
def State.stripField (s : State) (p : Path) : State := s.narrowWrite p State.stripTray fun s _ => s

def execStrip (p : Path) (s : State) : Out :=
  .next (s.windowed p (.strip p) fun s => s.stripField p)

/-! ### Lasers (R231-R233) -/

/-- A tray cannot form its grid (R233). Until stage S6 starts it, it is only recorded (R349); after that a tray that is OFF moves to the
spare as well. -/
def State.gridFail (s : State) (t : Nat) : State :=
  let s := (s.modTray t fun x => { x with light :=
    { x.light with gridFailed := true, req := none, stripRun := none, acquiring := false, checking := false } }).event 0x0704 0
      (s.trayUnit t)
  match (s.tray t).ctl.st with
  | .starting => (s.trayUnfit t).endResets
  | .failed => s
  | .mappedOut => s
  | st =>
    if st = .off ∧ !s.unitsStarted then s
    else if s.mapoutEn then s.mapOutTray t else (s.fenceWork t).failTray t

/-- The laser that carries channel `j`: the group's spare where it has taken the channel over. -/
def LightSt.laserOf (l : LightSt) (j : Nat) : Nat :=
  if l.spares.getD (j / 8) none = some (BitVec.ofNat 3 j) then 9 * (j / 8) + 8 else 9 * (j / 8) + j % 8

/-- The rings of the column of channel `j`: its modulator and the 32 weight rings. -/
def columnOf (j : Nat) : List Nat := (1024 + j) :: (List.range 32).map fun i => 32 * i + j

/-- Rings of a tray that acquire again. -/
def State.reacquire (s : State) (t : Nat) (is : List Nat) : State :=
  s.modTray t fun x => { x with light := { x.light with
    acquiring := true, locked := false, checking := false,
    acqT := x.temp.now.toInt, rings := is.foldl (fun m i => SMap.put m i (x.ring i).acquire) x.light.rings } }

/-- The group's spare takes over the channel of a failed laser (R232). -/
def State.substitute (s : State) (t g c : Nat) : State :=
  let s := s.modTray t fun x => { x with light := { x.light with
    spares := setAt x.light.spares g (some (BitVec.ofNat 3 c)), exhausted := x.light.exhausted ||| BitVec.ofNat 4 (2 ^ g),
    substs := satAdd x.light.substs 1, interimDue := true, wantStrip := true } }
  (((s.devHold t 3).reacquire t (columnOf (8 * g + c))).replayAll t).event 0x0703 0 (s.trayUnit t)

/-- A laser fails: the first of its group is substituted, a second one leaves no grid; a dark spare only exhausts its
group. -/
def State.laserFails (s : State) (t n : Nat) : State :=
  let x := s.tray t
  if !x.tended || x.light.failed.getLsbD n || x.light.gridFailed then s
  else
    let g := n / 9
    let earlier := (List.range 9).any fun i => x.light.failed.getLsbD (9 * g + i)
    let s := s.modTray t fun x => { x with light := { x.light with failed := x.light.failed ||| BitVec.ofNat 36 (2 ^ n) } }
    let spent := s.modTray t fun x =>
      { x with light := { x.light with exhausted := x.light.exhausted ||| BitVec.ofNat 4 (2 ^ g) } }
    if earlier then spent.gridFail t
    else if n % 9 = 8 then spent
    else s.substitute t g (n % 9)

def execLaserFail (u : UnitAddr) (laser : Fin 36) (s : State) : Out := .next (s.onTray u fun s t => s.laserFails t laser.val)

/-! ### Rings and tag checks of a tray (R240-R243) -/

/-- Every ring of the tray is locked. -/
def Tray.allLocked (t : Tray) : Bool := (List.range 1056).all fun i => (t.ring i).lock == 2

/-- A ring locks during acquisition. -/
def State.trayRingLocked (s : State) (t i : Nat) (heater : BitVec 12) (pn : BitVec 10) : State :=
  let r := (s.tray t).ring i
  if (s.tray t).light.lit ∧ r.lock = 1 ∧ i < 1056 then
    s.modTray t fun x => { x with light := { x.light with
      rings := SMap.put x.light.rings i { r with lock := 2, heater := heater, pn := pn } } }
  else s

/-- A failed attempt of a ring: it tries again, and after the third it is FAILED (R241), event 0x0705. -/
def State.trayRingFailed (s : State) (t i : Nat) : State :=
  let r := (s.tray t).ring i
  let third := decide (2 ≤ r.attempts)
  let s := s.modTray t fun x => { x with light := { x.light with
    acquiring := true, locked := false, acqT := x.temp.now.toInt,
    rings := SMap.put x.light.rings i
      { r with lock := if third then 3 else 1, tagOk := false, attempts := min 3 (r.attempts + 1) } } }
  if third then (s.event 0x0705 0 (s.trayUnit t)).gridFail t else s

/-- A ring that has not locked within 2.7 ms. -/
def State.trayRingTimeout (s : State) (t i : Nat) : State :=
  let x := s.tray t
  if x.tended ∧ (x.ring i).lock = 1 ∧ i < 1056 ∧ !x.light.gridFailed then s.trayRingFailed t i else s

/-- A tag check starts; one that falls due during an acquisition is skipped (R256). -/
def State.trayCheckDue (s : State) (t : Nat) : State :=
  let x := s.tray t
  if x.tended ∧ !x.light.gridFailed ∧ x.allLocked then
    s.modTray t fun x => { x with light := { x.light with checking := true } }
  else s

/-- A mislocked ring of a tray (R243): counted, held, and acquired again; after an acquisition it counts as an attempt. -/
def State.trayMislock (s : State) (t i : Nat) (afterAcq : Bool) : State :=
  let s := s.modTray t fun x => { x with light := { x.light with
    mislocks := satAdd x.light.mislocks 1, lastRing := BitVec.ofNat 11 i,
    rings := SMap.put x.light.rings i { x.ring i with mislock := true, tagOk := false } } }
  let s := { s with light := { s.light with mislocks := satAdd s.light.mislocks 1 } }
  let s := (s.event 0x0701 0 (s.trayUnit t)).devHold t 2
  if afterAcq then s.trayRingFailed t i else s.reacquire t [i]

/-- Every ring passes: the acquisition ends, and with it a device hold that does not wait for a temperature to settle; planes
are refreshed before the first exposure, the active one in place with a run boundary at its end, which adopts a staged set, and the
idle one in the background (R66, R71); a strip is asked for (R249). -/
def State.tagGood (s : State) (t : Nat) : State :=
  let s := s.modTray t fun x => { x with light := { x.light with
    acquiring := false, locked := true, goodRun := x.proof.runs.toNat - nb x.proof.runOpen,
    ringBase := { x.light.ringBase with tagOk := true, attempts := 0 },
    rings := x.light.rings.map fun (e : Nat × Ring) => (e.1, { e.2 with tagOk := true, attempts := 0 }) } }
  let x := s.tray t
  if x.light.devHold && !x.light.settling then
    let s := s.modTray t fun x => settleTray { x with light := { x.light with devHold := false, relock := false } }
    let s := (if x.hasActive then s.rewriteActive t else s).backgroundReload t
    if x.light.wantStrip then
      (s.modTray t fun x => { x with light := { x.light with wantStrip := false } }).askStrip t 1
    else s
  else s

/-- The channels of which no ring of the column carries a tag (R232). -/
def darkColumns (bad : List (BitVec 11 × TagFault)) : List Nat :=
  let dark := (bad.filter fun b => b.2 == .dark).map fun b => b.1.toNat
  (List.range 32).filter fun j => (columnOf j).all fun i => dark.contains i

/-- The verdict on the rings of a tray (R242). The good ones are marked; a mislocked one is counted and held; a channel without a tag at
any ring of its column means that its laser has failed (R232). A ring that alone is dark has failed its check: in an acquisition it
tries again (R241; else log entry 78). -/
def State.trayCheckDone (s : State) (t : Nat) (bad : List (BitVec 11 × TagFault)) : State :=
  let x := s.tray t
  if !x.light.checking || !x.tended then s
  else
    let acq := x.light.acquiring
    let bad := bad.filter fun b => decide (b.1.toNat < 1056)
    if bad = [] then (s.modTray t fun x => { x with light := { x.light with checking := false } }).tagGood t
    else
      let s := s.modTray t fun x =>
        let l := { x.light with checking := false, locked := false, ringBase := { x.light.ringBase with tagOk := true },
                                rings := x.light.rings.map fun (e : Nat × Ring) => (e.1, { e.2 with tagOk := true }) }
        let x := { x with light := l }
        { x with light := { l with rings := bad.foldl (fun m b => SMap.put m b.1.toNat { x.ring b.1.toNat with tagOk := false }) l.rings } }
      let missed := bad.filter fun b => b.2 == .mislock
      let s := if missed = [] then s else (s.markSuspect t).replayAll t
      let s := missed.foldl (fun s b => s.trayMislock t b.1.toNat acq) s
      let gone := darkColumns bad
      let lone := bad.filter fun b => b.2 == .dark && !(gone.any fun j => (columnOf j).contains b.1.toNat)
      let s := if acq then lone.foldl (fun s b => s.trayRingFailed t b.1.toNat) s else s
      (gone.map x.light.laserOf).foldl (fun s n => s.laserFails t n) s

/-! ### Temperature (R245, R246) -/

/-- The largest change of a sensor over the last 100 µs, in 1/16 degree; samples are newest first. -/
def slewOf (hist : List (List Int)) : Nat :=
  match hist with
  | [] => 0
  | now :: _ =>
    let old := (hist.take 101).getLastD now
    (List.zipWith (fun a b => (a - b).natAbs) now old).foldl max 0

/-- A temperature step: any sensor's slew reaches 1.0 K. -/
def State.tempStep (s : State) (t : Nat) : State :=
  let s := s.modTray t fun x => { x with light := { x.light with
    settling := true, wantStrip := true, tempHolds := satAdd x.light.tempHolds 1 } }
  let s := { s with light := { s.light with holds := satAdd s.light.holds 1 } }
  ((((s.devHold t 1).markSuspect t).replayAll t).event 0x0702 0 (s.trayUnit t))

/-- The strip that runs follows the tray's temperature: past a span of 1.0 K or outside 40 to 100 °C it is abandoned. -/
def State.stripTemp (s : State) (t : Nat) (now : Int) : State :=
  match (s.tray t).light.stripRun with
  | none => s
  | some r =>
    let lo := min r.lo now
    let hi := max r.hi now
    if 16 < hi - lo || clampedAt now then s.dropStrip t
    else s.modTray t fun x => { x with light := { x.light with stripRun := some { r with lo := lo, hi := hi } } }

/-- The four junction sensors of a tray are sampled. -/
def State.sensorIn (s : State) (t : Nat) (temps : List (BitVec 16)) : State :=
  if !s.mod.on then s
  else
    let now := maxTemp temps
    let s := s.modTray t fun x =>
      let hist := (temps.map BitVec.toInt :: x.light.hist).take 101
      let slew := satNat 16 (slewOf hist * 10 / 16)
      { x with temp := { now := now, peak := if x.temp.peak.toInt < now.toInt then now else x.temp.peak },
               light := { x.light with hist := hist, slewNow := slew,
                                       slewPeak := if x.light.slewPeak.toNat < slew.toNat then slew else x.light.slewPeak } }
    let s := s.stripTemp t now.toInt
    let x := s.tray t
    let s := if 16 ≤ slewOf x.light.hist && x.tended && !x.light.settling then s.tempStep t else s
    s.calDue t

/-- 200 µs of slew at or below 0.5 K: the interim set is staged and every ring acquires again. -/
def State.settled (s : State) (t : Nat) : State :=
  let x := s.tray t
  if x.light.settling && decide (slewOf x.light.hist ≤ 8) then
    let s := s.modTray t fun x => { x with light := { x.light with settling := false } }
    (s.stageInterim t).acquire t
  else s

def execTempSettled (u : UnitAddr) (s : State) : Out := .next (s.onTray u State.settled)

/-- The peak slew rate that a read of LK_SLEW clears. -/
def State.clearSlew (s : State) : Sel → State
  | .one (.tray t) => s.modTray t fun x => { x with light := { x.light with slewPeak := 0 } }
  | _ => s

/-- A read of LK_SLEW: the value is sent and PEAK is cleared. -/
def State.slewRead (s : State) (p : Path) : State :=
  (s.send (.csr p 0x1001310 (s.regNow p 0x1001310))).windowTouch p State.clearSlew

def execLkSlewRead (p : Path) (s : State) : Out := .next (if s.priv p then s.slewRead p else s)

/-! ### Test strips (R249-R251) -/

/-- A request that is served before another: by the order of the table, and the older one within a row. -/
def StripReq.first (a b : StripReq) : Bool := decide (a.prio < b.prio) || (a.prio == b.prio && decide (a.stamp < b.stamp))

/-- The tray can run a slice: READY, with no hold and no load in progress, at a run boundary. -/
def Tray.sliceable (t : Tray) : Bool :=
  t.ctl.st == .ready && t.runs && t.load.isNone && (t.idleAt || !t.proof.runOpen) && !(t.pend.any fun p => p.phase == .piped)

/-- A strip of the tray may start: its request is the first of its site's, and fewer than CONCURRENT strips run there. -/
def State.mayStrip (s : State) (t : Nat) : Bool :=
  let others := s.traysOfSite (siteOfTray t)
  match (s.tray t).light.req with
  | none => false
  | some r =>
    decide ((others.filter fun y => (s.tray y).light.stripRun.isSome).length < s.polF 0x700008 15 8) &&
      !(others.any fun y => match (s.tray y).light.req with
        | some q => (s.tray y).ctl.st == .ready && (s.tray y).light.stripRun.isNone && q.first r
        | none => false)

/-- A strip starts: it satisfies every request made before. -/
def State.stripStart (s : State) (t : Nat) : State :=
  match (s.tray t).light.req with
  | some r => s.modTray t fun x =>
      let now := x.temp.now.toInt
      { x with light := { x.light with
          req := none, stripBit := false, wokorBad := false, stripRun := some { prio := r.prio, beats := 0, lo := now, hi := now } } }
  | none => s

/-- The beats of the parts of a strip in one mode: offset, gain, crosstalk, residual, noise and Wokor (R250). -/
def stripParts : List Nat := [262144, 262144, 262144, 1048576, 262144]

/-- The beats of all parts in one mode; a strip runs them in STANDARD and then in FINE. -/
def stripMode : Nat := stripParts.foldl (· + ·) 0

/-- A draw of the strip's generator, again while its low byte is 255 (R250); the draws are limited to 1,000 (log entry 10). -/
def stripDraw : Nat → BitVec 64 → BitVec 64
  | 0, x => x
  | n + 1, x =>
    let y := xorshift x
    if y.setWidth 8 = 255#8 then stripDraw n y else y

/-- `n` numbers of the fixed pattern set, each in -127 to 127, and the generator after them. -/
def stripNumbers : Nat → BitVec 64 → List Int × BitVec 64
  | 0, x => ([], x)
  | n + 1, x =>
    let y := stripDraw 1000 x
    let r := stripNumbers n y
    ((((y.toNat % 256 : Nat) : Int) - 127) :: r.1, r.2)

/-- `n` rows of 32 numbers after the rows drawn so far, and the generator after them. -/
def stripRows : Nat → BitVec 64 → List (List Int) → List (List Int) × BitVec 64
  | 0, x, rows => (rows.reverse, x)
  | n + 1, x, rows => stripRows n (stripNumbers 32 x).2 ((stripNumbers 32 x).1 :: rows)

/-- `n` planes of 32 rows after the planes drawn so far, and the generator after them. -/
def stripPlanes : Nat → BitVec 64 → List (List (List Int)) → List (List (List Int)) × BitVec 64
  | 0, x, ps => (ps.reverse, x)
  | n + 1, x, ps => stripPlanes n (stripRows 32 x []).2 ((stripRows 32 x []).1 :: ps)

/-- The fixed pattern set of the residual part: 1,024 planes in row-major order, then 16 vectors, drawn from x = 1, with exponents 0
(R250). -/
def stripSet : List (List (List Int)) × List (List Int) :=
  let p := stripPlanes 1024 1 []
  (p.1, (stripRows 16 p.2 []).1)

/-- The systematic error of a row of an exposure, with the weight-hold part of its load. -/
def Shot.bias (x : Shot) (i : Nat) : Int := x.light i - 4096 * (x.w.analog x.m).getD i 0

/-- The mean residuals e1 and e2 of a pattern over its 62 exposures: the biases, and what is left of the noise. -/
def Shot.means (x : Shot) (p : Word) (k : Nat) : Int × Int :=
  let b := (List.range 32).map x.bias
  (b.foldl (· + ·) 0 + Config.noise x.use (64 + 2 * k), dot (rhos p) b + Config.noise x.use (65 + 2 * k))

/-- The root of the mean square of residuals, in ppm FS. -/
def rmsPpm (l : List Int) : Nat := isqrt ((l.map fun e => e.natAbs * e.natAbs).foldl (· + ·) 0 / l.length) * 1000000 / (520192 * 4096)

/-- SUM_RES of a strip on a tray whose lookups are those of draw `tables`: the larger of the two RMS values over the 16,384 patterns
(R164, R250). -/
def State.sumResOf (s : State) (t tables : Nat) : BitVec 16 :=
  let p := (s.tray t).proof.pattern
  let c := { (s.tray t).cal with tables := tables }
  let ms := (stripSet.1.zipIdx).flatMap fun w => (stripSet.2.zipIdx).map fun v =>
    ({ s.shot t v.1 (Shadow.ofRows w.1 (List.replicate 32 0) 0 false) s.fv with set := c }).means p (16 * w.2 + v.2)
  satNat 16 (max (rmsPpm (ms.map (·.1))) (rmsPpm (ms.map (·.2))))

/-- A Wokor pattern exposed on a tray in a mode, as an exposure that has made its proof. -/
def State.wokorPend (s : State) (t : Nat) (fine : Bool) (w : WokorPattern) : Pend :=
  let x := s.tray t
  let sh := Shadow.ofRows w.rows w.exps 0 (!x.activeB)
  let outs := { s.shot t w.m sh s.fv with fine := fine }.outs
  { id := 0, m := w.m, e := w.e, acc := 0, add := false, sh := sh, fine := fine, k := s.proofK, allow := x.proof.allow,
    pat := x.proof.pattern, epoch := x.proof.epoch, outs := outs, run0 := x.run, expNo0 := x.cnt.exposures.toNat,
    first := some (residuals sh w.m outs x.proof.pattern) }

/-- A pattern fails if an output differs from the exact value by more than 4.42 σ_r FS + 0.18 % FS, which is 1.064 % FS in STANDARD and
0.7988 % in FINE, or if its proof misses (R185). -/
def Pend.wokorFails (p : Pend) (exact : List Int) : Bool :=
  let lim : Nat := (if p.fine then 7988 else 10640) * 520192 * 4096
  let e := p.first.getD (0, 0)
  ((List.range 32).any fun i => decide (lim < (p.outs.getD i 0 - 4096 * exact.getD i 0).natAbs * 1000000)) ||
    beyondT e.1 p.k p.fine p.allow.toNat || beyondT e.2 p.k p.fine p.allow.toNat

/-- The Wokor patterns run in the last part of a mode, each once (log entry 79); a failure records event 0x0909 with capture and adds
W_WRONG (R185). -/
def State.wokorRun (s : State) (t : Nat) (fine : Bool) : State :=
  s.fw.patterns.foldl (fun s w =>
    let p := s.wokorPend t fine w
    let s := s.draw
    if p.wokorFails w.exact then
      let s := s.modTray t fun x => { x with light := { x.light with wokorBad := true } }
      (s.event 0x0909 0 (s.trayUnit t) (s.captureSnaps t p w.exact) true).scoreTray t s.wWrong
    else s) s

/-- A slice of `n` beats runs, and the user's planes are restored from their shadows (R251). Its exposures, a free number, count in the
epoch and in the interval of R178 (R161); the patterns of R185 run where it ends a mode. -/
def State.slice (s : State) (t n : Nat) : State :=
  let now := s.up
  let hold := s.fv
  let e := Config.choice s.fv % (n + 1)
  let done := ((s.tray t).light.stripRun.map fun r => r.beats).getD 0
  let s := (s.modTray t fun x =>
    let gen := x.loadGen
    let again (p : Plane) : Plane :=
      if p.st = .active ∨ p.st = .loaded then { p with written := now, calGen := gen, hold := hold } else p
    { x with a := again x.a, b := again x.b,
             cnt := { x.cnt with dead := satAdd x.cnt.dead n, beats := satAdd x.cnt.beats n },
             proof := { x.proof with inEpoch := x.proof.inEpoch + e, rateExp := x.proof.rateExp + e },
             light := { x.light with
               spent := (now, n) :: x.light.spent.filter fun y => decide (now - y.1 < 10000000),
               stripRun := x.light.stripRun.map fun (r : StripRun) => { r with beats := r.beats + n } } }).draw
  let s := s.boundary t
  let s := if done < stripMode ∧ stripMode ≤ done + n then s.wokorRun t false else s
  if done < 2 * stripMode ∧ 2 * stripMode ≤ done + n then s.wokorRun t true else s

/-- A slice of `n` beats keeps within LIGHT_STRIP.SHARE, in units of 0.1 %, of the tray's beats in the last 10 ms, which are 80,000,000 in
STANDARD and half as many in FINE (R250). -/
def State.shareLeft (s : State) (t n : Nat) : Bool :=
  let x := s.tray t
  let spent := (x.light.spent.filter fun y => decide (s.up - y.1 < 10000000)).map (·.2)
  let beats := if x.fineUse then 40000000 else 80000000
  decide ((spent.foldl (· + ·) 0 + n) * 1000 ≤ s.polF 0x700008 7 0 * beats)

/-- A slice falls due: the strip that runs goes on, or the tray's request is served. -/
def State.stripSlice (s : State) (t : Nat) (n : Nat) : State :=
  let x := s.tray t
  if !x.sliceable || !s.shareLeft t n then s
  else if x.light.stripRun.isSome then s.slice t n
  else if s.mayStrip t then (s.stripStart t).slice t n
  else s

def execStripSlice (u : UnitAddr) (beats : BitVec 32) (s : State) : Out := .next (s.onTray u fun s t => s.stripSlice t beats.toNat)

/-- A strip that has run all its beats ends: its figures are shown and its set is computed as device work of the tray's
clusters (R250, R254). -/
def State.stripDone (s : State) (t : Nat) (f : StripFigures) : State :=
  match (s.tray t).light.stripRun with
  | none => s
  | some r =>
    if r.beats < 2 * stripMode then s
    else
      let m : Measured := { figs := f, sumRes := s.sumResOf t s.fv, stamp := s.up, tables := s.fv }
      let s := (s.modTray t fun x => { x with light := { x.light with
        stripRun := none, measured := some m, strips := satAdd x.light.strips 1,
        resStd := f.resStd, resFine := f.resFine, randStd := f.randStd, randFine := f.randFine } }).draw
      let s := { s with light := { s.light with strips := satAdd s.light.strips 1 } }
      (s.clustersOfTray t).foldl (fun s c =>
        let n := Config.choice s.fv % 8388609
        (s.modCore (c * 16) fun x => { x with devWork := x.devWork + n }).draw) s

def execStripEnd (u : UnitAddr) (f : StripFigures) (s : State) : Out := .next (s.onTray u fun s t => s.stripDone t f)

/-! ### Re-lock (R258, R259) -/

/-- A device hold with cause RELOCK: every ring acquires again, and the exposures made while it is entered are replayed (R76). -/
def State.relockTray (s : State) (t : Nat) : State :=
  if (s.tray t).tended then
    (((s.devHold t 4).acquire t).replayAll t).modTray t fun x => { x with light := { x.light with relock := true } }
  else s

/-- LIGHT_CTL.RELOCK_ALL. -/
def execRelockAll (p : Path) (s : State) : Out :=
  .next (if s.priv p then (s.allTrays.filter fun t => (s.tray t).ctl.st == .ready).foldl State.relockTray s else s)

/-- LK_CTL.RELOCK of the selected tray. -/
def State.relockUnit (s : State) (u : URef) : State :=
  match u with
  | .tray t => s.relockTray t
  | _ => s

/-- LK_CTL.RELOCK written through the window. -/
def State.relockField (s : State) (p : Path) : State := s.narrowWrite p State.relockUnit fun s _ => s

def execRelock (p : Path) (s : State) : Out :=
  .next (s.windowed p (.relock p) fun s => s.relockField p)

/-! ### The grid reference (R236) -/

/-- A reference of -10 to +3 dBm within 5 GHz is accepted in FREE_RUN and HOLDOVER. -/
def State.refAccept (s : State) (power offset : BitVec 8) : State :=
  if s.mod.on ∧ (s.light.refSt = 0 ∨ s.light.refSt = 3) ∧ -40 ≤ power.toInt ∧ power.toInt ≤ 12 ∧ offset.toInt.natAbs ≤ 50 then
    ({ s with light := { s.light with refSt := 1, power := power, offset := offset } }).event 0x0709 0 0
  else s

def execRefAccepted (power offset : BitVec 8) (s : State) : Out := .next (s.refAccept power offset)

/-- The reference is lost: HOLDOVER, event 0x0708. What LIGHT_REF then shows of its light is not stated. -/
def State.refLose (s : State) : State :=
  if s.light.refSt = 1 ∨ s.light.refSt = 2 then
    let f := s.fv
    (({ s with light := { s.light with refSt := 3, since := s.up, power := (Config.word f).setWidth 8,
                                       offset := (Config.word f >>> 8).setWidth 8 } }).draw).event 0x0708 0 0
  else s

def execRefLost (s : State) : Out := .next s.refLose

/-- The combs come within 0.2 GHz of the reference: LOCKED. -/
def State.refLock (s : State) (offset : BitVec 8) : State :=
  if s.light.refSt = 1 ∧ offset.toInt.natAbs ≤ 2 then { s with light := { s.light with refSt := 2, offset := offset } } else s

def execRefLocked (offset : BitVec 8) (s : State) : Out := .next (s.refLock offset)

end Sys2Proof.Machine
end

