-- ==== Sys2Proof/Machine/Fabric.lean ====
section
/-! DEFINITION. The rows of the fabric (10): channels, lines, flits, combs and automatic laser shutdown, and the rows of
locking and tag checks, which trays and transceivers share (09). -/

set_option Elab.async false

namespace Sys2Proof.Machine

/-! ### Lines of the quadrant pool (R271, R272) -/

/-- The quadrant of a port or a transceiver. -/
def quadOf (x : PortNo) : Nat := x.toNat / 16

/-- A port's output power: none behind a closed shutter, else a value that no rule states. -/
def State.outPower (s : State) (p : PortNo) : State :=
  let f := s.fport p
  (s.setFport p { f with txPow := if f.shutter then 0x8000 else (Config.word s.fv).setWidth 16 }).draw

/-- The port that a transceiver is joined to has its output power changed. -/
def State.ltPower (s : State) (x : PortNo) : State :=
  match (s.lt x).port with
  | some p => s.outPower p
  | none => s

/-- The payload of a LINK frame. The rule names its two uses and no bytes (log entry 49). -/
def linkBytes (n : LinkNote) (k : ChanNo) : List Byte :=
  [BitVec.ofNat 8 k.toNat, match n with | .dark => 0 | .lit => 1 | .locked => 2]

/-- A LINK frame to the peer over the safelight channel (R277, R309). -/
def State.tellPeer (s : State) (x : PortNo) (k : ChanNo) (n : LinkNote) : State :=
  match (s.lt x).port with
  | some p => s.slLocal p 0x02 (linkBytes n k)
  | none => s

/-- The key of a ring among a transceiver's rings. -/
def ringKey (rx : Bool) (k : ChanNo) : Nat := if rx then 16 + k.toNat else k.toNat

/-- A ring of a transceiver. -/
def State.ltRing (s : State) (x : PortNo) (rx : Bool) (k : ChanNo) : Ring := SMap.get (s.lt x).rings (ringKey rx k) {}
def State.setLtRing (s : State) (x : PortNo) (rx : Bool) (k : ChanNo) (r : Ring) : State :=
  s.setLt x { s.lt x with rings := SMap.put (s.lt x).rings (ringKey rx k) r }

/-- The channel that a request of a transceiver takes: among those it does not use, the one with the most free lines, the
lowest on a tie. -/
def State.bestLine (s : State) (x : PortNo) : Option ChanNo :=
  let unused := allChans.filter fun k => (s.chan x k).tx == .unlit || (s.chan x k).tx == .waitLine
  let free (k : ChanNo) : Nat := s.freeLines (quadOf x) k
  let most := (unused.map free).foldl max 0
  if most = 0 then none else unused.find? fun k => free k == most

/-- The comb that gives the line: the lowest usable one whose line of the channel is free. -/
def State.freeComb (s : State) (q : Nat) (k : ChanNo) : Option Nat :=
  (s.usableCombs q).find? fun c => !(s.comb c).lit.getLsbD k.toNat

/-- A line of a channel routed to a transmit ring, which starts to lock (R276, R277). -/
def State.grant (s : State) (x : PortNo) (k : ChanNo) : State :=
  match s.freeComb (quadOf x) k with
  | none => s
  | some c =>
    let m := s.comb c
    let s := s.setComb c { m with lit := m.lit ||| BitVec.ofNat 16 (2 ^ k.toNat) }
    let s := s.setChan x k { s.chan x k with tx := .locking, line := some c, peerLocked := false, releasing := false, attempts := 0, readyFails := 0 }
    ((s.setLtRing x false k (s.ltRing x false k).acquire).tellPeer x k .lit).ltPower x

/-- A transmit channel requested: a line, or a place among the waiting requests (R272). -/
def State.requestLine (s : State) (x : PortNo) (prio : BitVec 2) (l : BitVec 6) : State :=
  match s.bestLine x with
  | some k => s.grant x k
  | none =>
    match allChans.find? fun k => (s.chan x k).tx == .unlit with
    | some k =>
      let s := s.setChan x k { s.chan x k with tx := .waitLine }
      { s with fab := { s.fab with waiting := s.fab.waiting ++ [{ lt := x, prio, stamp := s.up, link := l }] } }
    | none => s

/-- A request served before another: the higher priority, and the older one within it. -/
def LineReq.first (a b : LineReq) : Bool :=
  decide (b.prio.toNat < a.prio.toNat) || (a.prio == b.prio && decide (a.stamp ≤ b.stamp))

/-- A freed line goes to the first waiting request of its quadrant that can use one. -/
def State.lineFreed (s : State) (q : Nat) : State :=
  let able := s.fab.waiting.filter fun r => quadOf r.lt == q && (s.bestLine r.lt).isSome
  match able.foldl (fun (b : Option LineReq) r => match b with
      | some y => if y.first r then some y else some r
      | none => some r) none with
  | none => s
  | some r =>
    let s := { s with fab := { s.fab with waiting := s.fab.waiting.erase r } }
    match s.bestLine r.lt with
    | none => s
    | some k =>
      let s := match allChans.find? fun j => (s.chan r.lt j).tx == .waitLine with
        | some j => s.setChan r.lt j { s.chan r.lt j with tx := .unlit }
        | none => s
      s.grant r.lt k

def execLineGrant (q : BitVec 2) (s : State) : Out := .next (s.lineFreed q.toNat)

/-- A request that has waited 10 ms records event 0x0607. -/
def State.longWait (s : State) (x : PortNo) : State :=
  if s.fab.waiting.any fun r => r.lt == x then s.event 0x0607 0 0 else s

def execLineWait (x : PortNo) (s : State) : Out := .next (s.longWait x)

/-- A transmit channel is UNLIT: its line returns to the pool, its flits go to other channels, and a request of it no longer
waits. -/
def State.unlight (s : State) (x : PortNo) (k : ChanNo) : State :=
  let c := s.chan x k
  let s := if c.tx = .waitLine then
      match s.fab.waiting.find? fun r => r.lt == x with
      | some r => { s with fab := { s.fab with waiting := s.fab.waiting.erase r } }
      | none => s
    else s
  let s := match c.line with
    | some b => s.setComb b { s.comb b with lit := (s.comb b).lit &&& ~~~(BitVec.ofNat 16 (2 ^ k.toNat)) }
    | none => s
  if c.tx = .unlit then s
  else
    ((s.dropChan x k fun c => { c with tx := .unlit, line := none, peerLocked := false, releasing := false, attempts := 0,
                                       readyFails := 0 }).tellPeer x k .dark).ltPower x

/-- Both directions of every channel of a transceiver are UNLIT. -/
def State.unlightAll (s : State) (x : PortNo) : State :=
  let s := allChans.foldl (fun s k => s.unlight x k) s
  allChans.foldl (fun s k => s.setChan x k { s.chan x k with rx := .unlit, rxAttempts := 0, readyOk := false, discarding := false }) s

/-- The transmit channels that a transceiver uses or waits for, and those of them that are not being released. -/
def State.usedChans (s : State) (x : PortNo) : Nat := (allChans.filter fun k => (s.chan x k).tx != .unlit).length
def State.keptChans (s : State) (x : PortNo) : Nat :=
  (allChans.filter fun k => (s.chan x k).tx != .unlit && !(s.chan x k).releasing).length

/-- Channels requested until the MIN of a link is (R271), on a port that is LINKED. -/
def State.minOf (s : State) (l : BitVec 6) (p : PortNo) : State :=
  match s.ltOf p with
  | some x =>
    if (s.fport p).st = .linked then
      (List.range ((s.link l).min.toNat - s.keptChans x)).foldl (fun s _ => s.requestLine x (s.link l).prio l) s
    else s
  | none => s
def State.ensureMin (s : State) (l : BitVec 6) : State :=
  if (s.link l).used then (s.link l).ports.foldl (fun s p => s.minOf l p) s else s

/-- A transceiver works on a link. -/
def State.ltOn (s : State) (l : BitVec 6) (x : PortNo) : Bool :=
  match (s.lt x).port with
  | some p => (s.link l).ports.contains p && (s.fport p).st == .linked
  | none => false

/-- A backlog above 256 KiB asks for one more channel, up to MAX. -/
def State.grow (s : State) (l : BitVec 6) (x : PortNo) : State :=
  if s.ltOn l x ∧ 262144 < (s.link l).backlog ∧ s.usedChans x < (s.link l).max.toNat then s.requestLine x (s.link l).prio l
  else s

def execChannelGrow (l : BitVec 6) (x : PortNo) (s : State) : Out := .next (s.grow l x)

/-- A channel that takes no new flits is UNLIT once its replay entries are acknowledged. -/
def State.releaseIdle (s : State) (x : PortNo) (k : ChanNo) : State :=
  if (s.chan x k).releasing ∧ (s.chan x k).unacked = [] then s.unlight x k else s

/-- A link below 25 % of its rate releases a channel above MIN. -/
def State.shrink (s : State) (l : BitVec 6) (x : PortNo) (k : ChanNo) : State :=
  if s.ltOn l x ∧ (s.chan x k).tx = .up ∧ !(s.chan x k).releasing ∧ (s.link l).min.toNat < s.keptChans x then
    (s.setChan x k { s.chan x k with releasing := true }).releaseIdle x k
  else s

def execChannelShrink (l : BitVec 6) (x : PortNo) (k : ChanNo) (s : State) : Out := .next (s.shrink l x k)

/-! ### Channel states (R276-R281) -/

/-- A channel leaves UP, or training, and retrains alone; event 0x0602. -/
def State.retrain (s : State) (x : PortNo) (k : ChanNo) (rx : Bool) : State :=
  let s := if rx then
      s.setChan x k { s.chan x k with rx := .retrain, readyOk := false, discarding := false, retrains := satAdd (s.chan x k).retrains 1 }
    else s.dropChan x k fun c => { c with tx := .retrain, retrains := satAdd c.retrains 1 }
  s.event 0x0602 0 0

/-- A direction of a channel is FAILED; event 0x0603. -/
def State.failChan (s : State) (x : PortNo) (k : ChanNo) (rx : Bool) : State :=
  let s := if rx then s.setChan x k { s.chan x k with rx := .failed, readyOk := false }
    else s.dropChan x k fun c => { c with tx := .failed }
  s.event 0x0603 0 0

/-- A failed attempt: the third in succession leaves the channel FAILED. -/
def State.failAttempt (s : State) (x : PortNo) (k : ChanNo) (rx : Bool) (n : Nat) : State :=
  let s := if rx then s.setChan x k { s.chan x k with rxAttempts := satNat 4 n }
    else s.setChan x k { s.chan x k with attempts := satNat 4 n }
  if 3 ≤ n then s.failChan x k rx else s.retrain x k rx

/-- A ring locked with a good tag: training starts, which a receive ring reports to the peer, or the carrier is refused (R237, R276,
R277). -/
def State.chanLocked (s : State) (x : PortNo) (k : ChanNo) (rx : Bool) (offset : BitVec 8) : State :=
  let c := s.chan x k
  let r := s.ltRing x rx k
  if rx then
    if c.rx = .locking then
      let s := s.setLtRing x rx k { r with lock := 2, tagOk := true, attempts := 0 }
      if 40 < offset.toInt.natAbs then (s.setChan x k { c with rx := .refused, offset := offset }).event 0x0609 0 0
      else (s.setChan x k { c with rx := .training, offset := offset }).tellPeer x k .locked
    else s
  else if c.tx = .locking then
    (s.setLtRing x rx k { r with lock := 2, tagOk := true, attempts := 0 }).setChan x k { c with tx := .training }
  else s

def execChannelLocked (x : PortNo) (k : ChanNo) (rx : Bool) (offset : BitVec 8) (s : State) : Out :=
  .next (s.chanLocked x k rx offset)

/-- A channel goes UP: its in-service counters and its sequence start again (R277, R279). -/
def State.goUp (s : State) (x : PortNo) (k : ChanNo) (rx : Bool) : State :=
  let c := s.chan x k
  if rx then
    s.setChan x k { c with rx := .up, rxAttempts := 0, bits := 0, errs := 0, uncorr := 0, expect := 1, goodSeq := 1, discarding := false,
                           readyOk := false }
  else
    let s := s.setChan x k { c with tx := .up, attempts := 0, replays := 0, nextSeq := 1, unacked := [] }
    match (s.lt x).port.bind s.linkOf with
    | some l => s.pump l
    | none => s

/-- A direction of a channel trains. -/
def CState.trains (c : CState) : Bool := c == .training || c == .retrain

/-- The short check of 10^8 bits: at most 1,000 errors, or a failed attempt. -/
def State.shortCheck (s : State) (x : PortNo) (k : ChanNo) (rx : Bool) (errors : Nat) : State :=
  let c := s.chan x k
  if !(if rx then c.rx.trains else c.tx.trains) then s
  else if errors ≤ 1000 then s.goUp x k rx
  else s.failAttempt x k rx ((if rx then c.rxAttempts else c.attempts).toNat + 1)

def execShortCheckDone (x : PortNo) (k : ChanNo) (rx : Bool) (errors : BitVec 32) (s : State) : Out :=
  .next (s.shortCheck x k rx errors.toNat)

/-- A 10 ms window: counted (R279); above 2.4 x 10^-4 the channel retrains. -/
def State.window10 (s : State) (x : PortNo) (k : ChanNo) (bits errs : Nat) : State :=
  let c := s.chan x k
  if c.rx = .up then
    let s := s.setChan x k { c with bits := satAdd c.bits bits, errs := satAdd c.errs errs }
    if 24 * bits < 100000 * errs then s.retrain x k true else s
  else s

def execBerWindow10ms (x : PortNo) (k : ChanNo) (bits errs : BitVec 64) (s : State) : Out :=
  .next (s.window10 x k bits.toNat errs.toNat)

/-- The largest `n` with 10^n * errs^256 <= bits^256, bit by bit. -/
def nlogFrom (bits errs : Nat) : Nat → Nat → Nat
  | 0, r => r
  | i + 1, r => nlogFrom bits errs i (if 10 ^ (r + 2 ^ i) * errs ^ 256 ≤ bits ^ 256 then r + 2 ^ i else r)

/-- -256 log10 of the BER of a window (R279); how it is rounded is not stated. -/
def nlogOf (f bits errs : Nat) : BitVec 16 :=
  if errs = 0 then 0xFFFF
  else
    let n := nlogFrom bits errs 13 0
    satNat 16 (if 10 ^ n * errs ^ 256 = bits ^ 256 then n else n + Config.choice f % 2)

/-- A 1 s window: the eye, NLOG, and DEGRADED, which ten good windows clear (R281, R282). -/
def State.window1s (s : State) (x : PortNo) (k : ChanNo) (bits errs : Nat) (height width : BitVec 16) : State :=
  let c := s.chan x k
  if c.rx = .up then
    let worse := decide (bits < 1000000 * errs)
    let good := if worse then 0 else c.goodWin + 1
    let c' := { c with height := height, width := width, nlog := nlogOf s.fv bits errs, goodWin := good,
                       degraded := worse || (c.degraded && decide (good < 10)) }
    let s := (s.setChan x k c').draw
    if worse && !c.degraded then s.event 0x0606 0 0 else s
  else s

def execBerWindow1s (x : PortNo) (k : ChanNo) (bits errs : BitVec 64) (height width : BitVec 16) (s : State) : Out :=
  .next (s.window1s x k bits.toNat errs.toNat height width)

/-- Uncorrectable codewords within 1 ms: 16 of them retrain the channel (R278). -/
def State.burst (s : State) (x : PortNo) (k : ChanNo) (n : Nat) : State :=
  let c := s.chan x k
  if c.rx = .up then
    let s := s.setChan x k { c with uncorr := satAdd c.uncorr n }
    if 16 ≤ n then s.retrain x k true else s
  else s

def execUncorrectableBurst (x : PortNo) (k : ChanNo) (n : BitVec 16) (s : State) : Out := .next (s.burst x k n.toNat)

/-- FEC alignment lost. -/
def State.alignLost (s : State) (x : PortNo) (k : ChanNo) : State :=
  if (s.chan x k).rx = .up then s.retrain x k true else s

def execFecAlignmentLoss (x : PortNo) (k : ChanNo) (s : State) : Out := .next (s.alignLost x k)

/-- 10^11 bits since UP: the ready criterion is met, or the channel retrains with a failed attempt (R280, R285). -/
def State.readyBits (s : State) (x : PortNo) (k : ChanNo) : State :=
  let c := s.chan x k
  if c.rx = .up ∧ 100000000000 ≤ c.bits.toNat ∧ !c.readyOk then
    if 1000000 * c.errs.toNat ≤ c.bits.toNat then s.setChan x k { c with readyOk := true, readyFails := 0 }
    else
      let n := c.readyFails + 1
      ((s.setChan x k { c with readyFails := n }).event 0x0608 0 0).failAttempt x k true n
  else s

def execReadyCriterionBits (x : PortNo) (k : ChanNo) (s : State) : Out := .next (s.readyBits x k)

/-- 60 s after FAILED, with the line still granted and the port LINKED, the channel tries again. -/
def State.retryFailed (s : State) (x : PortNo) (k : ChanNo) (rx : Bool) : State :=
  let c := s.chan x k
  let linked := match (s.lt x).port with
    | some p => (s.fport p).st == .linked
    | none => false
  let again := s.setLtRing x rx k { s.ltRing x rx k with lock := 1, tagOk := false, attempts := 0 }
  if !linked then s
  else if rx then
    if c.rx = .failed ∧ c.peerLit then again.setChan x k { c with rx := .locking, rxAttempts := 0, readyFails := 0 } else s
  else if c.tx = .failed ∧ c.line.isSome then again.setChan x k { c with tx := .locking, attempts := 0 } else s

def execChannelFailedRetry (x : PortNo) (k : ChanNo) (rx : Bool) (s : State) : Out := .next (s.retryFailed x k rx)

/-- A receive carrier beyond 10 GHz is refused (R237). -/
def State.refuseCarrier (s : State) (x : PortNo) (k : ChanNo) (offset : BitVec 8) : State :=
  let c := s.chan x k
  if 40 < offset.toInt.natAbs ∧ (c.rx = .locking ∨ c.rx.trains ∨ c.rx = .up) then
    (s.setChan x k { c with rx := .refused, offset := offset, readyOk := false, discarding := false }).event 0x0609 0 0
  else s

def execCarrierRefused (x : PortNo) (k : ChanNo) (offset : BitVec 8) (s : State) : Out := .next (s.refuseCarrier x k offset)

/-- And admitted again within 8 GHz. -/
def State.readmitCarrier (s : State) (x : PortNo) (k : ChanNo) (offset : BitVec 8) : State :=
  let c := s.chan x k
  if c.rx = .refused ∧ offset.toInt.natAbs ≤ 32 then
    (s.setLtRing x true k (s.ltRing x true k).acquire).setChan x k { c with rx := .locking, offset := offset }
  else s

def execCarrierReadmitted (x : PortNo) (k : ChanNo) (offset : BitVec 8) (s : State) : Out :=
  .next (s.readmitCarrier x k offset)

/-- The peer has told of a line on its transmit ring, or that it is gone (R276, R309): the receive ring starts to lock, or the
receive channel is UNLIT. Or its receive ring has locked, which is kept of a channel that has its line (R277, R351). -/
def State.peerTold (s : State) (x : PortNo) (k : ChanNo) (n : LinkNote) : State :=
  let c := s.chan x k
  match n with
  | .lit =>
    let s := s.setChan x k { c with peerLit := true, rx := if c.rx = .unlit then .locking else c.rx }
    if c.rx = .unlit then s.setLtRing x true k (s.ltRing x true k).acquire else s
  | .dark => s.setChan x k { c with peerLit := false, rx := .unlit, rxAttempts := 0, readyOk := false, discarding := false }
  | .locked => s.setChan x k { c with peerLocked := c.line.isSome }

/-! ### Flits (R264, R266-R269) -/

/-- `a` comes at or before `b` in a 12-bit sequence. -/
def seqLe (a b : BitVec 12) : Bool := decide ((b - a).toNat < 2048)

/-- An acknowledgement of everything up to a CSEQ. -/
def State.acked (s : State) (x : PortNo) (k : ChanNo) (upTo : BitVec 12) : State :=
  let c := s.chan x k
  (s.setChan x k { c with unacked := c.unacked.filter fun t => !seqLe t.cseq upTo }).releaseIdle x k

/-- A credit return (R264, R266). -/
def State.credited (s : State) (x : PortNo) (vc : Bool) (n : Nat) : State :=
  match (s.lt x).port with
  | none => s
  | some p =>
    let f := s.fport p
    s.setFport p (if vc then { f with out1 := f.out1 - n } else { f with out0 := f.out0 - n })

/-- What a transceiver's link can send now. -/
def State.pumpLt (s : State) (x : PortNo) : State :=
  match (s.lt x).port.bind s.linkOf with
  | some l => s.pump l
  | none => s

/-- A flit discarded: a NAK with the CSEQ expected, and every later DATA flit is discarded until it arrives (R267). -/
def State.discard (s : State) (x : PortNo) (k : ChanNo) : State :=
  (s.setChan x k { s.chan x k with discarding := true }).sendNak x k

/-- A receive buffer unit of a port freed, to be returned as credit. -/
def State.freeUnit (s : State) (p : PortNo) (vc : Bool) : State :=
  let f := s.fport p
  s.setFport p (if vc then { f with rxUsed1 := f.rxUsed1 - 1, owe1 := f.owe1 + 1 } else { f with rxUsed0 := f.rxUsed0 - 1, owe0 := f.owe0 + 1 })

/-- The message that a virtual channel of a link is receiving. -/
def LLink.part (l : LLink) (vc : Bool) : Option (Option (List Byte)) := if vc then l.part1 else l.part0
def LLink.setPart (l : LLink) (vc : Bool) (x : Option (Option (List Byte))) : LLink := if vc then { l with part1 := x } else { l with part0 := x }

/-- More bytes of a message that goes on, where its earlier ones wait. -/
def TxMsg.feed (m : TxMsg) (key : BitVec 6 × Bool) (b : List Byte) (last : Bool) : TxMsg :=
  if m.src = some key then { m with bytes := m.bytes ++ b, done := last, src := if last then none else m.src } else m
def State.feed (s : State) (key : BitVec 6 × Bool) (b : List Byte) (last : Bool) : State :=
  let s := { s with fab := { s.fab with
    stuck := s.fab.stuck.map fun m => m.feed key b last,
    links := s.fab.links.map fun (e : Nat × LLink) => (e.1, { e.2 with queue := e.2.queue.map fun m => m.feed key b last }) } }
  (allPorts.filter fun l => (s.link l).used).foldl State.pump s

/-- The destination node in the header of a message (R265). -/
def headDst (b : List Byte) : Node := BitVec.ofNat 16 (leNat ((b.drop 10).take 2))

/-- A flit in its turn. The first one of a message says where it goes: for this module its bytes are kept until it is whole, when it is
delivered; for another node each flit goes on at once, on the link of the route table, under the VC rule (R266, R268, R269). -/
def State.deliver (s : State) (l : BitVec 6) (p : PortNo) (vc : Bool) (b : List Byte) : State :=
  let s := s.freeUnit p vc
  let last := decide (b.length < 240)
  let k := s.link l
  match k.part vc with
  | none =>
    if b.length < 16 then s
    else if headDst b = s.node then
      s.setLink l (if last then { k with inbox := k.inbox ++ [(vc, b)] } else k.setPart vc (some (some b)))
    else
      (s.setLink l (k.setPart vc (if last then none else some none))).route
        { vc := vc, dst := headDst b, bytes := b, done := last, src := if last then none else some (l, vc) }
  | some (some a) =>
    s.setLink l (if last then { k.setPart vc none with inbox := k.inbox ++ [(vc, a ++ b)] } else k.setPart vc (some (some (a ++ b))))
  | some none => (s.setLink l (k.setPart vc (if last then none else some none))).feed (l, vc) b last

/-- The flits of a link and a virtual channel delivered in LSEQ order, at most as many as the number given. -/
def State.deliverN (l : BitVec 6) (vc : Bool) : Nat → State → State
  | 0, s => s
  | n + 1, s =>
    let k := s.link l
    let next := if vc then k.rxL1 else k.rxL0
    match k.reorder.find? fun e => e.1 == vc && e.2.1 == next with
    | none => s
    | some e =>
      let s := s.setLink l { k with reorder := k.reorder.erase e, rxL0 := if vc then k.rxL0 else k.rxL0 + 1,
                                    rxL1 := if vc then k.rxL1 + 1 else k.rxL1 }
      deliverN l vc n (s.deliver l e.2.2.2 vc e.2.2.1)

/-- A DATA flit taken in CSEQ order: it waits for its turn in LSEQ order (R268); one delivered already is dropped. -/
def State.takeFlit (s : State) (p : PortNo) (l : BitVec 6) (f : FlitF) : State :=
  let b := s.fport p
  let s := s.setFport p (if f.vc then { b with rxUsed1 := b.rxUsed1 + 1 } else { b with rxUsed0 := b.rxUsed0 + 1 })
  let k := s.link l
  let next := if f.vc then k.rxL1 else k.rxL0
  let late := decide (2 ^ 23 ≤ (f.lseq - next).toNat) || k.reorder.any fun e => e.1 == f.vc && e.2.1 == f.lseq
  if late then s.freeUnit p f.vc
  else
    let s := s.setLink l { k with reorder := k.reorder ++ [(f.vc, f.lseq, f.payload, p)] }
    State.deliverN l f.vc (k.reorder.length + 1) s

/-- A DATA flit: in CSEQ order it is taken, else it is discarded. Behind one that was discarded no second NAK is sent. -/
def State.dataFlit (s : State) (x : PortNo) (k : ChanNo) (f : FlitF) : State :=
  let c := s.chan x k
  if f.cseq ≠ c.expect then (if c.discarding then s else s.discard x k)
  else
    let s := s.setChan x k { c with expect := c.expect + 1, discarding := false }
    match (s.lt x).port with
    | none => s
    | some p => match s.linkOf p with
      | some l => (s.takeFlit p l f).sendIdle x k
      | none => s

/-- The flits from a CSEQ on are sent again on the same channel (go-back-N); one sent 8 times already retrains it. -/
def State.resendFrom (s : State) (x : PortNo) (k : ChanNo) (from_ : BitVec 12) : State :=
  let c := s.chan x k
  let keep := c.unacked.filter fun t => seqLe from_ t.cseq
  let s := s.setChan x k { c with unacked := keep }
  if keep.any fun t => decide (8 ≤ t.sends) then s.retrain x k false
  else
    let again := keep.map fun (t : TxFlit) => { t with sends := t.sends + 1 }
    let s := s.setChan x k { s.chan x k with unacked := again, replays := satAdd c.replays again.length }
    again.foldl (fun s t => s.putFlit x k 1 ((s.chan x k).expect - 1) t) s

/-- A received flit of a TYPE: one whose CRC fails, or of a codeword that is not correctable, is discarded whole (R264); a good one first
delivers its acknowledgement and its credit. -/
def State.flitIn (s : State) (x : PortNo) (k : ChanNo) (kind : Nat) (f : Flit) (body : State → FlitF → State) : State :=
  if (s.chan x k).rx ≠ .up then s
  else match if f.coded then readFlit f.bits else none with
    | none => s.discard x k
    | some g => if g.kind ≠ kind then s else (body (s.credited x g.credVc g.credit.toNat) g).pumpLt x

/-- The receive tables of a transceiver take a new interpolation during an IDLE flit (R253). -/
def State.rxBoundary (s : State) (x : PortNo) : State := match (s.lt x).staged with
  | some a => s.setLt x { s.lt x with rxTab := a }
  | none => s

def execFlitIdle (x : PortNo) (k : ChanNo) (f : Flit) (s : State) : Out :=
  .next (s.flitIn x k 0 f fun s g => (s.rxBoundary x).acked x k g.cack)
def execFlitData (x : PortNo) (k : ChanNo) (f : Flit) (s : State) : Out :=
  .next (s.flitIn x k 1 f fun s g => (s.acked x k g.cack).dataFlit x k g)
def execFlitNak (x : PortNo) (k : ChanNo) (f : Flit) (s : State) : Out :=
  .next (s.flitIn x k 2 f fun s g => s.resendFrom x k g.cack)

/-! ### Ports (R275, R283, R284) -/

/-- A port changes state: event 0x0601. Away from LINKED, but for SHUTDOWN, its channels are UNLIT; LINKED, the MIN channels
of its link are requested. -/
def State.setPort (s : State) (p : PortNo) (st : FState) : State :=
  let f := s.fport p
  if f.st = st then s
  else
    let s := (s.setFport p { f with st := st }).event 0x0601 0 0
    let s := match s.ltOf p with
      | some x => if st ≠ FState.linked ∧ st ≠ FState.shutdown then s.unlightAll x else s
      | none => s
    match s.linkOf p with
    | some l => if st = FState.linked then s.minOf l p else s
    | none => s

/-- The state of a port's safelight channel set (R315); where it leaves UP, event 0x0508 is recorded. -/
def State.setSl (s : State) (p : PortNo) (st : BitVec 2) : State :=
  let was := (s.slPort p).st
  let s := s.setSlPort p { s.slPort p with st := st }
  if was = 2 ∧ st ≠ 2 then s.event 0x0508 0 0 else s

/-- The input is dark for 500 µs: SHUTDOWN, with the shutter closed and the safelight off. -/
def State.dark (s : State) (p : PortNo) : State :=
  let f := s.fport p
  if s.mod.on ∧ f.st ≠ .shutdown then
    let s := s.setFport p { f with shutter := true, light := false, rxPow := 0x8000, shutdowns := satAdd f.shutdowns 1 }
    (((s.setPort p .shutdown).setSl p 3).outPower p).event 0x0604 0 0
  else s


/-- After 1 s of SHUTDOWN the lines of the joined transceiver are released. -/
def State.darkRelease (s : State) (p : PortNo) : State :=
  match s.ltOf p with
  | some x => if (s.fport p).st = .shutdown then s.unlightAll x else s
  | none => s

def execAlsLineRelease (port : PortNo) (s : State) : Out := .next (s.darkRelease port)

/-- A probe opens the shutter and the safelight transmitter. -/
def State.startProbe (s : State) (p : PortNo) : State :=
  let f := s.fport p
  if f.st = .shutdown ∧ !f.probing then
    ((s.setFport p { f with probing := true, shutter := false, probes := satAdd f.probes 1 }).setSl p 0).outPower p
  else s

def execAlsProbeTimer (port : PortNo) (s : State) : Out := .next (s.startProbe port)

/-- FP_CTL.PROBE: a SHUTDOWN port probes at once. -/
def State.probeNow (s : State) (path : Path) (p : PortNo) : State :=
  if s.priv path ∧ (s.fport p).st = .shutdown then
    (s.setFport p { s.fport p with probeBit := true }).startProbe p
  else s

def execProbe (p : Path) (port : PortNo) (s : State) : Out := .next (s.probeNow p port)

/-- A probe without light ends after 2 ms. -/
def State.endProbe (s : State) (p : PortNo) : State :=
  let f := s.fport p
  if f.probing then ((s.setFport p { f with probing := false, probeBit := false, shutter := true }).setSl p 3).outPower p else s

def execProbeEnd (port : PortNo) (s : State) : Out := .next (s.endProbe port)

/-- Light for 100 µs at -25 dBm or above: the port leaves SHUTDOWN for DISCOVERING. -/
def State.lightBack (s : State) (p : PortNo) (power : BitVec 16) : State :=
  let f := s.fport p
  if f.st = .shutdown ∧ -250 ≤ power.toInt then
    let s := s.setFport p { f with probing := false, probeBit := false, shutter := false, light := true, rxPow := power }
    (((s.event 0x0605 0 0).setPort p .discovering).setSl p 0).outPower p
  else s

def execAlsRestored (port : PortNo) (power : BitVec 16) (s : State) : Out := .next (s.lightBack port power)

/-! ### Combs (R235) -/

/-- The channels that a comb's lines serve. -/
def State.combChans (s : State) (c : Nat) : List (PortNo × ChanNo) :=
  (allPorts.filter fun x => quadOf x == c / 14).flatMap fun x =>
    (allChans.filter fun k => (s.chan x k).line == some c).map fun k => (x, k)

/-- A comb's lines leave the pool, and the channels that had them wait for lines (R235, R272); event 0x0707. -/
def State.combLost (s : State) (c : Nat) : State :=
  let cs := s.combChans c
  let s := s.setComb c { s.comb c with lit := 0 }
  let s := cs.foldl (fun s e =>
    let s := s.dropChan e.1 e.2 fun h => { h with tx := .waitLine, line := none, peerLocked := false, releasing := false }
    let l := ((s.lt e.1).port.bind s.linkOf).getD 0
    { s with fab := { s.fab with waiting := s.fab.waiting ++ [{ lt := e.1, prio := (s.link l).prio, stamp := s.up, link := l }] } }) s
  s.event 0x0707 0 0

/-- A comb fails: its quadrant's spare starts and its channels retrain, or its lines are lost. -/
def State.combFails (s : State) (c : Nat) : State :=
  let q := c / 14
  let st := s.combSt c
  let s := if st = 2 then s else s.setComb c { s.comb c with st := some 2 }
  if st = 0 then
    match (combsOf q).find? fun b => s.combSt b == 1 with
    | some b =>
      let s := s.setComb b { s.comb b with st := some 3 }
      let s := (s.combChans c).foldl (fun s e => if (s.chan e.1 e.2).tx = .up then s.retrain e.1 e.2 false else s) s
      s.event 0x0706 0 0
    | none => s.combLost c
  else if st = 3 then
    ((combsOf q).filter fun b => s.combSt b == 2 && (s.comb b).lit != 0).foldl State.combLost s
  else s

def execCombFail (comb : Fin 56) (s : State) : Out := .next (s.combFails comb.val)

/-- The spare locks: every lit line of the failed comb moves to the same channel of the spare. -/
def State.spareLocked (s : State) (q : Nat) : State :=
  match (combsOf q).find? fun b => s.combSt b == 3 with
  | none => s
  | some b =>
    let old := (combsOf q).filter fun c => s.combSt c == 2 && (s.comb c).lit != 0
    let lines := (old.map fun c => (s.comb c).lit).foldl (· ||| ·) 0
    let moved := old.flatMap s.combChans
    let s := old.foldl (fun s c => s.setComb c { s.comb c with lit := 0 }) s
    let s := s.setComb b { st := some 0, lit := lines }
    moved.foldl (fun s e => s.setChan e.1 e.2 { s.chan e.1 e.2 with line := some b }) s

def execCombSpareLocked (q : BitVec 2) (s : State) : Out := .next (s.spareLocked q.toNat)

/-! ### Rings of trays and transceivers (R240-R244) -/

/-- A failed attempt of a transceiver's ring: after the third its channel is unusable (R241). -/
def State.ltRingTimeout (s : State) (x : PortNo) (rx : Bool) (k : ChanNo) : State :=
  let r := s.ltRing x rx k
  if r.lock ≠ 1 then s
  else if 2 ≤ r.attempts then
    ((s.setLtRing x rx k { r with lock := 3, attempts := 3 }).event 0x0705 0 0).failChan x k rx
  else s.setLtRing x rx k { r with attempts := r.attempts + 1 }

def execRingLockTimeout (r : RingId) (s : State) : Out :=
  .next (match r with
    | .tray u i => s.onTray u fun s t => s.trayRingTimeout t i.toNat
    | .tx x k => s.ltRingTimeout x false k
    | .rx x k => s.ltRingTimeout x true k)

/-- A transceiver's ring locks. -/
def State.ltRingLocked (s : State) (x : PortNo) (rx : Bool) (k : ChanNo) (heater : BitVec 12) (pn : BitVec 10) : State :=
  let r := s.ltRing x rx k
  if r.lock = 1 then s.setLtRing x rx k { r with lock := 2, heater := heater, pn := pn } else s

def execRingLocked (r : RingId) (heater : BitVec 12) (pn : BitVec 10) (s : State) : Out :=
  .next (match r with
    | .tray u i => s.onTray u fun s t => s.trayRingLocked t i.toNat heater pn
    | .tx x k => s.ltRingLocked x false k heater pn
    | .rx x k => s.ltRingLocked x true k heater pn)

/-- A ring of a transceiver acquires: a scheduled tag check is skipped then (R256). -/
def Lt.acquires (t : Lt) : Bool := t.rings.any fun e => e.2.lock == 1

/-- A tag check of a transceiver starts. -/
def State.ltCheckDue (s : State) (x : PortNo) : State :=
  if (s.lt x).acquires then s else s.setLt x { s.lt x with checking := true }

def execTagCheckDue (t : TagUnit) (s : State) : Out :=
  .next (match t with
    | .tray u => s.onTray u State.trayCheckDue
    | .lt x => if (s.lt x).port.isSome then s.ltCheckDue x else s)

/-- The flits that a receive channel has taken since its last good tag check are asked for again (R244); those that have been delivered
are dropped by their LSEQ. -/
def State.askAgain (s : State) (x : PortNo) (k : ChanNo) : State :=
  (s.setChan x k { s.chan x k with expect := (s.chan x k).goodSeq, discarding := true }).sendNak x k

/-- A ring of a transceiver mislocks, or is dark: the channel retrains alone (R244, R278), and a mislocked ring
acquires again; after an acquisition the check counts as a failed attempt (R241). -/
def State.ltBadTag (s : State) (x : PortNo) (rx : Bool) (k : ChanNo) (f : TagFault) : State :=
  let r := s.ltRing x rx k
  let st := if rx then (s.chan x k).rx else (s.chan x k).tx
  let miss := decide (f = TagFault.mislock)
  let s := s.setLtRing x rx k { r with
    tagOk := false, mislock := r.mislock || miss, lock := if miss || st == .locking then 1 else r.lock,
    attempts := if st = .locking then r.attempts else 0 }
  let s := if miss then
      ({ s with light := { s.light with mislocks := satAdd s.light.mislocks 1 } }).event 0x0701 0 0
    else s
  if st = .locking then s.ltRingTimeout x rx k
  else if st = .up then (if rx && miss then s.askAgain x k else s).retrain x k rx
  else s

/-- A locked ring whose tag is good. -/
def Ring.tagGood (r : Ring) : Ring := if r.lock = 2 then { r with tagOk := true, attempts := 0 } else r

/-- The verdict on the rings of a transceiver: k is the transmit ring of CHk, 16 + k its receive ring. -/
def State.ltCheckDone (s : State) (x : PortNo) (bad : List (BitVec 11 × TagFault)) : State :=
  if !(s.lt x).checking then s
  else
    let t := s.lt x
    let bad := bad.filter fun b => decide (b.1.toNat < 32)
    let s := s.setLt x { t with checking := false, rings := t.rings.map fun (e : Nat × Ring) => (e.1, e.2.tagGood) }
    let s := (allChans.filter fun k => (s.chan x k).rx == .up && !(bad.any fun b => b.1.toNat == 16 + k.toNat)).foldl (fun s k =>
      s.setChan x k { s.chan x k with goodSeq := (s.chan x k).expect }) s
    bad.foldl (fun s b => s.ltBadTag x (decide (16 ≤ b.1.toNat)) (BitVec.ofNat 4 b.1.toNat) b.2) s

/-! ### Temperatures and tables of transceivers (R253) -/

/-- The triggers of R249 judged for a transceiver: the temperature of its last interpolation, or its age. -/
def State.ltDue (s : State) (x : PortNo) : State :=
  let t := s.lt x
  let warm := decide (128 * s.calDelta ≤ 100 * (t.temp - t.tCal).natAbs)
  let old := match t.stamp with
    | some a => decide (9 * s.calMaxAge * 1000000000 ≤ 10 * (s.up - a))
    | none => true
  if warm || old then s.setLt x { t with calDue := true } else s

/-- The temperature of a transceiver. -/
def State.ltSensor (s : State) (x : PortNo) (now : Int) : State := (s.setLt x { s.lt x with temp := now }).ltDue x

/-- A new interpolation of a transceiver's tables that is due; it waits for the boundaries of its rings. -/
def State.ltStage (s : State) (x : PortNo) : State :=
  let t := s.lt x
  if t.calDue then s.setLt x { t with staged := some t.temp, tCal := t.temp, stamp := some s.up, calDue := false } else s

def execSensorSample (t : TagUnit) (temps : List (BitVec 16)) (s : State) : Out :=
  .next (match t with
    | .tray u => s.onTray u fun s t => s.sensorIn t temps
    | .lt x => s.ltSensor x (temps.headD 0).toInt)

def execCalAgeDue (t : TagUnit) (s : State) : Out :=
  .next (match t with
    | .tray u => s.onTray u State.calDue
    | .lt x => s.ltDue x)

def execCalSetStage (t : TagUnit) (s : State) : Out :=
  .next (match t with
    | .tray u => s.onTray u State.stageSet
    | .lt x => s.ltStage x)

def execTagCheckDone (t : TagUnit) (bad : List (BitVec 11 × TagFault)) (s : State) : Out :=
  .next (match t with
    | .tray u => s.onTray u fun s t => s.trayCheckDone t bad
    | .lt x => s.ltCheckDone x bad)

end Sys2Proof.Machine
end

