-- ==== Sys2Proof/Machine/Safelight.lean ====
section
/-! DEFINITION. Safelight frames as they are received and forwarded, the judging of governor copies, splits and the governor
rows (11). -/

set_option Elab.async false

namespace Sys2Proof.Machine

/-! ### Copies (R302, R303) -/

/-- What a receiver makes of a copy. -/
inductive CopyVerdict where
  | accepted | duplicate | split | repeated | behind
deriving DecidableEq, Repr

/-- A copy judged against a window (R303): the newest SEQ accepted comes first in it. A SEQ that the window never held is
taken as behind it. -/
def GovWin.judge (w : GovWin) (seq crc : Word) (b : Bool) : CopyVerdict × GovWin :=
  let d := (seq - w.high).toNat
  if 1 ≤ d ∧ d < 2147483648 then
    (.accepted, { w with high := seq, got := ((seq, crc, !b, b) :: w.got).take 1024 })
  else match w.got.find? fun e => e.1 == seq with
    | none => (.behind, w)
    | some e =>
      let again : List (Word × Word × Bool × Bool) := w.got.map fun (x : Word × Word × Bool × Bool) =>
        if x.1 = seq then (x.1, x.2.1, x.2.2.1 || !b, x.2.2.2 || b) else x
      if (if b then e.2.2.2 else e.2.2.1) then (.repeated, w)
      else if e.2.1 = crc then (.duplicate, { w with got := again })
      else (.split, { w with got := again })

/-- A copy judged at a receiver; a new EPOCH from a source clears its window. -/
def State.judgeCopy (s : State) (r : GovReceiver) (src : Node) (epoch : BitVec 16) (seq : Word) (b : Bool) (payload : List Byte) :
    CopyVerdict × State :=
  let crc := crc32c payload
  let mine (w : GovWin) : Bool := w.rcv == r && w.src == src
  let v : CopyVerdict × GovWin := match s.gov.wins.find? fun w => mine w && w.epoch == epoch with
    | some w => w.judge seq crc b
    | none => (.accepted, { rcv := r, src := src, epoch := epoch, high := seq, got := [(seq, crc, !b, b)] })
  (v.1, { s with gov := { s.gov with wins := v.2 :: s.gov.wins.filter fun (w : GovWin) => !mine w } })

/-! ### Splits (R304, R305) -/

/-- The answer REFUSE of a participation that is pending, with a code (R297, R305). -/
def State.refusePending (s : State) (code : Code) : State :=
  match s.steer.sw with
  | none => s
  | some w =>
    if s.steer.phase ≠ 1 then s
    else if w.coord then
      { s with steer := { s.steer with sw := some { w with
          ready := w.ready.filter (· != s.node), refused := w.refused ++ [(s.node, code)] } } }
    else s.slSend 0x12 w.coordNode (leBytes 4 w.id.toNat ++ leBytes 2 code.toNat)

/-- A split during steps 2 to 6 of a hitless update stops it: the governor that boots is DROPPED (R392). -/
def State.stopHitless (s : State) : State :=
  if s.fw.op = .hitless ∧ s.fw.phase = 3 then
    { s with fw := { s.fw with op := .idle, phase := 0, hstep := 0 },
             gov := { s.gov with roleA := if s.gov.roleA = 3 then 2 else s.gov.roleA,
                                 roleB := if s.gov.roleB = 3 then 2 else s.gov.roleB } }
  else s

/-- A split: counted and recorded; where no split stands and both governors serve, steering is FROZEN and both run
self-check. A SPLIT_REPORT (cause 3) that arrives in HOLD is counted and otherwise ignored (R313). -/
def State.raiseSplit (s : State) (cause receiver : BitVec 4) (node : Node) (seq : Word) : State :=
  let s := { s with gov := { s.gov with splits := satAdd s.gov.splits 1 } }
  let s := if s.gov.split = 2 ∧ cause = 3 then s else (s.event 0x0201 1 0).stopHitless
  if s.gov.split ≠ 0 ∨ s.gov.simplex then s
  else
    ({ s with
      gov := { s.gov with split := 1, cause := cause, receiver := receiver, node := node, splitSeq := seq, resultC := 0 },
      steer := { s.steer with frozen := true } }).refusePending 0x0407

/-- The code of a receiver in GOV_SPLIT. -/
def receiverCode : GovReceiver → BitVec 4
  | .matrixSeq => 0
  | .siteCtl _ => 1
  | .slEngine => 2
  | .mgmtPort => 3

/-- A copy of a governor message at a receiver inside the module. -/
def State.copyIn (s : State) (g : GovMsg) : State :=
  let v := s.judgeCopy g.rcv g.src g.epoch g.seq g.govB g.payload
  match v.1 with
  | .accepted => v.2
  | .duplicate => { v.2 with gov := { v.2.gov with dups := satAdd v.2.gov.dups 1 } }
  | .split => v.2.raiseSplit 1 (receiverCode g.rcv) 0 g.seq
  | .repeated => s
  | .behind => s

def execGovCopy (g : GovMsg) (s : State) : Out := .next (s.copyIn g)

/-- No second copy within 50 µs inside the module. -/
def State.copyMissing (s : State) (r : GovReceiver) (seq : Word) : State :=
  let one (e : Word × Word × Bool × Bool) : Bool := e.1 == seq && e.2.2.1 != e.2.2.2
  if !s.gov.simplex && s.gov.wins.any fun w => w.rcv == r && w.epoch == s.gov.epoch && w.got.any one then
    s.raiseSplit 2 (receiverCode r) 0 seq
  else s

def execGovSecondCopyTimeout (r : GovReceiver) (seq : Word) (s : State) : Out := .next (s.copyMissing r seq)

/-- One governor serves alone: the other is DROPPED, and steering is no longer FROZEN (R305). -/
def State.dropGovernor (s : State) (dropB : Bool) (result : BitVec 4) : State :=
  ({ s with
    gov := { s.gov with roleA := if dropB then 0 else 2, roleB := if dropB then 2 else 0, simplex := true, split := 0,
                        resultC := result, swapAsked := false },
    steer := { s.steer with frozen := false } }).event 0x0202 1 0

/-- Both governors stay, and the split is held for the station. -/
def State.holdSplit (s : State) (result : BitVec 4) : State :=
  ({ s with gov := { s.gov with split := 2, resultC := result } }).event 0x0203 1 0

/-- Self-check ends (R305 steps 3 to 5). -/
def State.selfChecked (s : State) (okA okB : Bool) : State :=
  if s.gov.split ≠ 1 then s
  else if okA && okB then s.holdSplit 3
  else if okA then s.dropGovernor true 2
  else if okB then s.dropGovernor false 1
  else s.holdSplit 5

def execGovSelfcheckDone (okA okB : Bool) (s : State) : Out := .next (s.selfChecked okA okB)

/-! ### GOV_CMD (R306) -/

/-- GOV_CMD written with GO and an operation: where it is accepted, OP is stored and carried out; else the write is ignored. -/
def State.govCommand (s : State) (p : Path) (op : Word) (accepted : Bool) (f : State → State) : State :=
  if s.priv p && accepted then f (s.setPol 0x100004 op) else s

/-- SWAP is accepted where no split stands and both governors serve. -/
def State.mayExchange (s : State) : Bool := s.gov.split == 0 && decide (s.gov.roleA.toNat ≤ 1) && decide (s.gov.roleB.toNat ≤ 1)

/-- SWAP: asked for. -/
def State.askSwap (s : State) : State := { s with gov := { s.gov with swapAsked := true } }

def execGovSwap (p : Path) (s : State) : Out := .next (s.govCommand p 1 s.mayExchange State.askSwap)

/-- The roles exchange at a message boundary. -/
def State.swapRoles (s : State) : State :=
  if s.gov.swapAsked then
    ({ s with gov := { s.gov with roleA := s.gov.roleB, roleB := s.gov.roleA, swaps := satAdd s.gov.swaps 1,
                                  swapAsked := false } }).event 0x0204 1 0
  else s

def execGovRoleSwapped (s : State) : Out := .next s.swapRoles

/-- RESYNC: a DROPPED governor reboots. -/
def State.startResync (s : State) : State :=
  if s.gov.roleA = 2 then { s with gov := { s.gov with roleA := 3, resyncing := true } }
  else { s with gov := { s.gov with roleB := 3, resyncing := true } }

def execResync (p : Path) (s : State) : Out := .next (s.govCommand p 2 (s.gov.roleA == 2 || s.gov.roleB == 2) State.startResync)

/-- The rebooted governor joins the lockstep, and simplex ends. -/
def State.resynced (s : State) : State :=
  if s.gov.resyncing then
    ({ s with gov := { s.gov with roleA := if s.gov.roleA = 3 then 1 else s.gov.roleA,
                                  roleB := if s.gov.roleB = 3 then 1 else s.gov.roleB,
                                  simplex := false, resyncing := false } }).event 0x0205 1 0
  else s

def execResyncDone (s : State) : Out := .next s.resynced

/-- KEEP_A and KEEP_B: accepted while SPLIT reads HOLD. -/
def State.keepOne (s : State) (p : Path) (op : Word) (dropB : Bool) : State :=
  s.govCommand p op (s.gov.split == 2) fun s => s.dropGovernor dropB 4

def execKeepA (p : Path) (s : State) : Out := .next (s.keepOne p 3 true)
def execKeepB (p : Path) (s : State) : Out := .next (s.keepOne p 4 false)

/-! ### Frames (R303, R307, R308, R310) -/

/-- A frame that a port drops, counted in SL_ERR. -/
def State.slDrop (s : State) (p : PortNo) : State := s.setSlPort p { s.slPort p with dropped := satAdd (s.slPort p).dropped 1 }

/-- A frame for another module, or for every one, goes on: toward its node where the route's port is UP, else flooded once per
source, EPOCH, SEQ and governor; with no hops left it is dropped. -/
def State.forward (s : State) (h : SlHead) (kind : Nat) (body : List Byte) : State :=
  let key := (h.src, h.epoch, h.seq, h.govB)
  let toward := if h.dst = 0xFFFF then none
    else match (s.routeTo h.dst).bind fun l => (s.link l).lowPort with
      | some p => if (s.slPort p).st = 2 then some p else none
      | none => none
  if h.isLocal || (h.dst == s.node && h.dst != 0xFFFF) then s
  else if toward.isNone && s.gov.flooded.contains key then s
  else if h.hops.toNat ≤ 1 then s.slDrop h.port
  else
    let out (s : State) (p : PortNo) : State := s.slPut { h with hops := h.hops - 1 } p kind body
    match toward with
    | some p => out s p
    | none =>
      let s := { s with gov := { s.gov with flooded := key :: s.gov.flooded } }
      (s.slUpPorts.filter fun p => p != h.port).foldl out s

/-- A frame taken from a port whose safelight is UP while the relay runs. One with a bad CRC, and any but DISCOVERY on a
QUARANTINED port, is dropped and counted (R308, R327); a frame of this module that comes back is of no use. `f` acts on an
accepted frame for this module; a second copy that differs is reported to its source (R304). -/
def State.onFrame (s : State) (h : SlHead) (kind : Nat) (body : List Byte) (f : State → State) : State :=
  let q := s.slPort h.port
  if !s.gov.relay || q.st != 2 then s
  else if !slGood h kind body then s.setSlPort h.port { q with crc := satAdd q.crc 1 }
  else if (s.fport h.port).st == .quarantined && kind != 1 then s.slDrop h.port
  else if h.src == s.node && h.epoch == s.gov.epoch then s
  else
    let heard (s : State) : State := s.setSlPort h.port { s.slPort h.port with rx := satAdd (s.slPort h.port).rx 1, peer := h.src }
    if h.isLocal || h.dst == 0xFFFF || h.dst == s.node then
      let v := (s.forward h kind body).judgeCopy .slEngine h.src h.epoch h.seq h.govB (BitVec.ofNat 8 kind :: body)
      match v.1 with
      | .accepted => f (heard v.2)
      | .duplicate => heard v.2
      | .split => v.2.slSend 0x31 h.src (leBytes 4 h.seq.toNat ++ leBytes 2 h.epoch.toNat)
      | .repeated => v.2
      | .behind => v.2.slDrop h.port
    else heard (s.forward h kind body)

/-- A SPLIT_REPORT is a split of this module's own. -/
def execSplitReport (h : SlHead) (seq : Word) (epoch : BitVec 16) (s : State) : Out :=
  .next (s.onFrame h 0x31 (leBytes 4 seq.toNat ++ leBytes 2 epoch.toNat) fun s => s.raiseSplit 3 4 h.src seq)

/-- A LINK frame: what the neighbour tells of a channel of the transceiver joined to the port. -/
def execSlLink (h : SlHead) (x : PortNo) (k : ChanNo) (n : LinkNote) (s : State) : Out :=
  .next (s.onFrame h 0x02 (linkBytes n k) fun s => if (s.lt x).port = some h.port then s.peerTold x k n else s)

/-- A port's receiver loses its stream. -/
def execSafelightDown (port : PortNo) (s : State) : Out :=
  .next (if (s.slPort port).st = 3 then s else s.setSl port 0)

/-- A port's receiver gains it. -/
def execSafelightUp (port : PortNo) (s : State) : Out :=
  .next (if s.mod.on ∧ (s.slPort port).st ≠ 3 then s.setSl port 2 else s)

end Sys2Proof.Machine
end

