-- ==== Sys2Proof/Machine/Plans.lean ====
section
/-! DEFINITION. Fabric plans: their binary, the checks of a load, the slots, and what a plan's activation sets (12, R317-R324,
R333, R334). -/

set_option Elab.async false

namespace Sys2Proof.Machine

/-! ### The plan binary (R317-R321) -/

/-- A little-endian number of a buffer. -/
def rdN (m : SMap Byte) (a n : Nat) : Nat := leNat (Memory.readN m a n)

/-- A little-endian number in a list of bytes. -/
def atN (b : List Byte) (o n : Nat) : Nat := leNat ((b.drop o).take n)

/-- A list of bytes as memory from address 0 on. -/
def bytesMem (b : List Byte) : SMap Byte := (b.zipIdx.filter fun e => e.1 != 0).map fun e => (e.2, e.1)

/-- Reserved bytes that read 0. -/
def rsv0 (m : SMap Byte) (a n : Nat) : Bool := (List.range n).all fun i => Memory.read m (a + i) == 0

/-- A module entry, its validity beside it. -/
def PModule.read (m : SMap Byte) (o : Nat) : PModule :=
  { serial := BitVec.ofNat 128 (rdN m o 16), node := BitVec.ofNat 16 (rdN m (o + 0x10) 2), role := Memory.read m (o + 0x12),
    variant := Memory.read m (o + 0x13), lender := BitVec.ofNat 16 (rdN m (o + 0x14) 2),
    pool := BitVec.ofNat 32 (rdN m (o + 0x18) 4), label := BitVec.ofNat 128 (rdN m (o + 0x1C) 16) }
def PModule.ok (m : SMap Byte) (o : Nat) (e : PModule) : Bool :=
  decide (e.role.toNat ≤ 3) && decide (e.variant.toNat ≤ 2) && decide (e.node.toNat ≤ 0xFFFD) && rsv0 m (o + 0x16) 2 &&
    rsv0 m (o + 0x2C) 4

/-- A port entry. -/
def PPort.read (m : SMap Byte) (o : Nat) : PPort :=
  { kind := Memory.read m o, join := Memory.read m (o + 1), link := Memory.read m (o + 2), pid := Memory.read m (o + 3),
    nbrNode := BitVec.ofNat 16 (rdN m (o + 4) 2), nbrPort := Memory.read m (o + 6), altPort := Memory.read m (o + 7),
    altNode := BitVec.ofNat 16 (rdN m (o + 8) 2), rxLoss := BitVec.ofNat 16 (rdN m (o + 0xA) 2) }
def PPort.ok (m : SMap Byte) (o : Nat) (e : PPort) : Bool :=
  let bare := e.link == 0xFF && e.pid == 0xFF
  rsv0 m (o + 0xC) 4 && (e.nbrNode == 0xFFFF || decide (e.nbrPort.toNat < 64)) &&
    (e.altPort == 0xFF || decide (e.altPort.toNat < 64)) &&
    (if e.kind = 0 then e.join == 0 && bare && e.nbrNode == 0xFFFF
     else if e.kind = 1 then decide (e.join.toNat < 64) && decide (e.link.toNat < 64) && decide (e.pid.toNat < 64)
     else e.kind == 2 && decide (e.join.toNat < 64) && bare)

/-- A link entry. -/
def PLink.read (m : SMap Byte) (o : Nat) : PLink :=
  { peer := BitVec.ofNat 16 (rdN m o 2), ports := (List.range 4).map fun i => Memory.read m (o + 2 + i),
    min := Memory.read m (o + 6), max := Memory.read m (o + 7), prio := Memory.read m (o + 8), flags := Memory.read m (o + 9),
    pid := Memory.read m (o + 0xA) }
def PLink.ok (m : SMap Byte) (o : Nat) (e : PLink) : Bool :=
  rsv0 m (o + 0xB) 5 &&
    (e.peer == 0xFFFF || ((e.ports.all fun p => p == 0xFF || decide (p.toNat < 64)) && decide (e.min.toNat ≤ 16) &&
      decide (e.max.toNat ≤ 16) && decide (e.prio.toNat ≤ 3) && decide (e.flags.toNat ≤ 1) && decide (e.pid.toNat < 64)))

/-- A topology entry; `n` is the number of module entries. -/
def PTopo.read (m : SMap Byte) (o : Nat) : PTopo :=
  { name := BitVec.ofNat 128 (rdN m o 16), kind := Memory.read m (o + 0x10), dims := Memory.read m (o + 0x11),
    size := (List.range 4).map fun i => Memory.read m (o + 0x12 + i),
    members := (List.range (rdN m (o + 0x16) 2)).map fun k =>
      let a := o + 32 + 8 * k
      (rdN m a 2, (List.range 4).map fun i => Memory.read m (a + 2 + i), BitVec.ofNat 16 (rdN m (a + 6) 2)) }
def PTopo.ok (m : SMap Byte) (o n : Nat) (e : PTopo) : Bool :=
  let d := e.dims.toNat
  rsv0 m (o + 0x18) 8 && decide (e.kind.toNat ≤ 2) && decide (1 ≤ d) && decide (d ≤ 4) &&
    ((e.size.take d).all fun x => decide (2 ≤ x.toNat) && decide (x.toNat ≤ 64)) &&
    e.members.all fun x => decide (x.1 < n) && ((x.2.1.zip e.size).take d).all (fun c => decide (c.1.toNat < c.2.toNat)) &&
      (x.2.2 == 0xFFFF || decide (x.2.2.toNat < e.members.length))

/-- The bytes of a topology entry. -/
def PTopo.bytes (e : PTopo) : Nat := 32 + 8 * e.members.length

/-- The topology entries from an offset on. -/
def readTopos (m : SMap Byte) (n : Nat) : Nat → Nat → Option (List PTopo × Nat)
  | 0, o => some ([], o)
  | k + 1, o =>
    let e := PTopo.read m o
    if e.ok m o n then (readTopos m n k (o + e.bytes)).map fun r => (e :: r.1, r.2) else none

/-- The place of entry `i` among the entries that are not plugs. -/
def Plan.slotOf (ms : List PModule) (i : Nat) : Nat := ((ms.take i).filter fun m => m.role != 3).length

/-- The plan that a buffer of `len` bytes holds, where it passes check 1 of R324. -/
def Plan.parse (m : SMap Byte) (len : Nat) : Option Plan :=
  let size := rdN m 0x0C 4
  let n := rdN m 0x10 2
  let tn := rdN m 0x12 2
  let sn := rdN m 0x14 2
  let off (k : Nat) : Nat := rdN m (0x20 + 8 * k) 4
  let ln (k : Nat) : Nat := rdN m (0x24 + 8 * k) 4
  let ms := (List.range n).map fun i => PModule.read m (off 0 + 48 * i)
  let own := (ms.filter fun e => e.role != 3).length
  let head := rdN m 0 4 == 0x0001504C && rdN m 4 2 == 1 && rdN m 8 4 != 0 && decide (size ≤ 33554432) && decide (size ≤ len) &&
    decide (1 ≤ n) && decide (n ≤ 8192) && decide (tn ≤ 64) && decide (sn ≤ 4096) && decide (rdN m 0x16 1 ≤ 3) &&
    rsv0 m 0x17 9 && rsv0 m 0x50 16 && rsv0 m 0x90 16 &&
    ((List.range 6).all fun k => decide (256 ≤ off k) && decide (off k + ln k ≤ size)) &&
    ln 0 == 48 * n && ln 1 == 1024 * n && ln 2 == 1024 * own && ln 3 == n * own && ln 5 == 8 * sn
  if !head then none
  else
    let ps := (List.range n).map fun i => (List.range 64).map fun p => PPort.read m (off 1 + 1024 * i + 16 * p)
    let ls := (List.range n).map fun i => if (ms[i]?.map fun e => e.role) = some 3 then [] else
      (List.range 64).map fun l => PLink.read m (off 2 + 1024 * Plan.slotOf ms i + 16 * l)
    let rs := (List.range n).map fun i => if (ms[i]?.map fun e => e.role) = some 3 then [] else
      (List.range n).map fun j => Memory.read m (off 3 + n * Plan.slotOf ms i + j)
    let okM := (List.range n).all fun i => (PModule.read m (off 0 + 48 * i)).ok m (off 0 + 48 * i)
    let okP := (List.range n).all fun i => (List.range 64).all fun p =>
      let o := off 1 + 1024 * i + 16 * p
      (PPort.read m o).ok m o
    let okL := (List.range own).all fun i => (List.range 64).all fun l =>
      let o := off 2 + 1024 * i + 16 * l
      (PLink.read m o).ok m o
    match readTopos m n tn (off 4) with
    | none => none
    | some (ts, e) =>
      if okM && okP && okL && e == off 4 + ln 4 then
        some { domain := BitVec.ofNat 16 (rdN m 6 2), planId := BitVec.ofNat 32 (rdN m 8 4),
               digest := BitVec.ofNat 384 (rdN m 0x60 48), modules := ms, ports := ps, links := ls, routes := rs, topos := ts,
               substs := (List.range sn).map fun i =>
                 let o := off 5 + 8 * i
                 (BitVec.ofNat 16 (rdN m o 2), BitVec.ofNat 16 (rdN m (o + 2) 2), BitVec.ofNat 32 (rdN m (o + 4) 4)) }
      else none

/-! ### The checks of a load (R324) -/

/-- No two entries alike. -/
def distinct {α : Type} [BEq α] : List α → Bool
  | [] => true
  | x :: r => !r.contains x && distinct r

/-- The indices of a plan's entries. -/
def Plan.idx (pl : Plan) : List Nat := List.range pl.modules.length

/-- A port entry by index and number. -/
def Plan.portN (pl : Plan) (i p : Nat) : Option PPort := pl.ports[i]?.bind fun l => l[p]?

/-- The far end of a port's fibre pair: entry index and port. -/
def Plan.farEnd (pl : Plan) (i p : Nat) : Option (Nat × Nat) :=
  match pl.portN i p with
  | some e => if e.nbrNode = 0xFFFF then none else (pl.byNode e.nbrNode).map fun j => (j, e.nbrPort.toNat)
  | none => none

/-- The circuit of a port, followed through at most `k` transits (R295): the port where it ends, its loss in 0.01 dB, and the
fibre ends that it passes. -/
def Plan.follow (pl : Plan) : Nat → Nat → Nat → Nat → List (BitVec 128 × Nat) → Option (Nat × Nat × Nat × List (BitVec 128 × Nat))
  | k, i, p, loss, way =>
    match pl.farEnd i p with
    | none => none
    | some (j, q) =>
      match pl.portN j q with
      | none => none
      | some e =>
        let loss := loss + e.rxLoss.toNat
        let way := way ++ [((pl.modules[j]?.map fun m => m.serial).getD 0, q)]
        if e.kind = 1 then some (j, q, loss, way)
        else if e.kind = 2 then
          match k with
          | 0 => none
          | k + 1 => Plan.follow pl k j e.join.toNat (loss + 350) way
        else none

/-- The circuit of a port within two transits. -/
def Plan.circuit (pl : Plan) (i p : Nat) : Option (Nat × Nat × Nat × List (BitVec 128 × Nat)) := pl.follow 2 i p 100 []

/-- A link of an entry, where it is used. -/
def Plan.link (pl : Plan) (i l : Nat) : Option PLink :=
  match (pl.linksOf i)[l]? with
  | some e => if e.peer = 0xFFFF then none else some e
  | none => none

/-- Two entries are joined by a logical link. -/
def Plan.joined (pl : Plan) (i j : Nat) : Bool :=
  match pl.modules[j]? with
  | some m => (pl.linksOf i).any fun e => e.peer != 0xFFFF && e.peer == m.node
  | none => false

/-- Check 4 for one entry: its fibre ends, transits, transceivers and links. -/
def Plan.consistent (pl : Plan) (i : Nat) : Bool :=
  let ps := (List.range 64).filterMap fun p => (pl.portN i p).map fun e => (p, e)
  let plug := (pl.modules[i]?.map fun m => m.role) == some 3
  let ends := ps.all fun x => x.2.nbrNode == 0xFFFF ||
    (match pl.farEnd i x.1 with
      | some (j, q) => pl.farEnd j q == some (i, x.1)
      | none => false)
  let transits := ps.all fun x => x.2.kind != 2 || (x.2.join.toNat != x.1 &&
    (match pl.portN i x.2.join.toNat with
      | some e => e.kind == 2 && e.join.toNat == x.1
      | none => false) && (!plug || x.2.join.toNat == (if x.1 % 2 = 0 then x.1 + 1 else x.1 - 1)))
  let lts := (ps.filter fun x => x.2.kind == 1).map fun x => x.2.join.toNat
  let used := ps.all fun x => x.2.kind != 1 || (!plug &&
    (match pl.link i x.2.link.toNat with
      | some e => e.ports.contains (BitVec.ofNat 8 x.1)
      | none => false))
  let links := (List.range 64).all fun l => match pl.link i l with
    | none => true
    | some e =>
      let qs := e.ports.filter fun p => p != 0xFF
      qs != [] && distinct qs && qs.all fun q => match pl.portN i q.toNat with
        | some x => x.kind == 1 && x.link.toNat == l && x.pid == e.pid
        | none => false
  ends && transits && distinct lts && used && links

/-- Check 4: uniqueness, and the consistency of every entry. -/
def Plan.noConflict (pl : Plan) : Bool :=
  let own := pl.modules.filter fun m => m.role != 3
  distinct (own.map fun m => m.serial) && distinct (pl.modules.map fun m => m.node) &&
    distinct (pl.modules.map fun m => m.label) && decide (own.length ≤ 4096) && pl.idx.all pl.consistent

/-- Check 5: every LINK port's circuit ends at its link's peer within 13.0 dB, and the way back as well. -/
def Plan.circuitsOk (pl : Plan) : Bool :=
  let ends (i p : Nat) (peer : Node) : Bool := match pl.circuit i p with
    | some (j, _, loss, _) => (pl.modules[j]?.map fun m => m.node) == some peer && decide (loss ≤ 1300)
    | none => false
  pl.idx.all fun i => (List.range 64).all fun p => match pl.portN i p with
    | some e =>
      if e.kind = 1 then
        match pl.link i e.link.toNat with
        | some l => ends i p l.peer &&
          (match pl.circuit i p, pl.modules[i]? with
            | some (j, q, _, _), some m => ends j q m.node
            | _, _ => false)
        | none => false
      else true
    | none => true

/-- Neighbours along one dimension of a mesh or a torus. -/
def PTopo.adjacent (t : PTopo) (a b : List Byte) : Bool :=
  let d := t.dims.toNat
  (List.range d).any fun k =>
    let x := (a.getD k 0).toNat
    let y := (b.getD k 0).toNat
    ((List.range d).all fun j => j == k || a.getD j 0 == b.getD j 0) &&
      (y == x + 1 || (t.kind == 0 && y == 0 && x + 1 == (t.size.getD k 0).toNat))

/-- Check 6: routes and the adjacencies of topologies. -/
def Plan.routesOk (pl : Plan) : Bool :=
  (pl.idx.all fun i => ((pl.routes.getD i []).zipIdx).all fun r =>
    r.1 == 0xFF || (r.1 == 0xFE && r.2 == i) || (decide (r.1.toNat < 64) && (pl.link i r.1.toNat).isSome)) &&
  pl.topos.all fun t =>
    if t.kind = 2 then
      t.members.all fun m => m.2.2 == 0xFFFF || (match t.members[m.2.2.toNat]? with
        | some q => pl.joined m.1 q.1 && pl.joined q.1 m.1
        | none => false)
    else
      t.members.all fun a => t.members.all fun b => !t.adjacent a.2.1 b.2.1 || (pl.joined a.1 b.1 && pl.joined b.1 a.1)

/-- The allocatable 2 MiB pages of a variant (R189). -/
def variantPages (v : Byte) : Nat := if v = 0 then 1048064 else if v = 1 then 786048 else 524032

/-- Check 7: lenders and borrowers. -/
def Plan.lendersOk (pl : Plan) : Bool :=
  (pl.modules.zipIdx).all fun m =>
    (m.1.role != 2 || (
      let borrowers := (pl.modules.zipIdx).filter fun b => b.1.role != 3 && b.1.lender == m.1.node
      m.1.lender == 0xFFFF && decide (borrowers.length ≤ 16) && decide (2 * m.1.pool.toNat ≤ variantPages m.1.variant) &&
        borrowers.all fun b => decide (((pl.routes.getD m.2 []).getD b.2 0xFF).toNat < 64))) &&
    (m.1.role == 3 || m.1.lender == 0xFFFF || pl.modules.any fun x => x.node == m.1.lender && x.role == 2)

/-- A slot is ACTIVE, or named by a switch that is pending (check 8). -/
def State.slotTaken (s : State) (n : BitVec 2) : Bool :=
  (s.plan.slot n).st == 3 || (s.swPending && (match s.steer.sw with
    | some w => w.slot == n
    | none => false))

/-- The bytes that a plan's digest and signature cover (R317). -/
def planSigned (m : SMap Byte) : List Byte := Memory.readN m 0 0x60 ++ Memory.readN m 0x100 (rdN m 0x0C 4 - 0x100)

/-- The first check that fails, by its code, or the plan. -/
def State.judgePlan (s : State) (m : SMap Byte) (len : Nat) (n : BitVec 2) : Code × Option Plan :=
  match Plan.parse m len with
  | none => (0x0409, none)
  | some pl =>
    if !s.signed (rdN m 0x16 1) (keyOf (Memory.readN m 0xA0 96)) (planSigned m) then (0x040A, none)
    else if pl.domain ≠ s.domain ∨ (pl.modules.filter fun e => e.role != 3 && e.serial == s.fuse.serial).length ≠ 1 then
      (0x040B, none)
    else if !pl.noConflict then (0x040C, none)
    else if !pl.circuitsOk || !pl.routesOk then (0x040D, none)
    else if !pl.lendersOk then (0x040E, none)
    else if s.slotTaken n then (0x040F, none)
    else (0, some pl)

/-! ### PLAN_LOAD (R322-R324, R335) -/

/-- A plan slot set. -/
def State.setSlot (s : State) (n : BitVec 2) (v : PlanSlot) : State := { s with plan := s.plan.setSlot n v }

/-- The load of the staged plan into a slot starts: a slot that can take it reads WRITING. -/
def State.startLoadPlan (s : State) (n : BitVec 2) : State :=
  let s := if s.slotTaken n then s else s.setSlot n { s.plan.slot n with st := 1 }
  { s with plan := { s.plan with loading := some n } }

/-- PLAN_LOAD with OP LOAD: loads are carried out in the order of arrival. -/
def State.loadPlan (s : State) (p : Path) (n : BitVec 2) : State :=
  if !s.priv p then s
  else
    let s := s.setPol 0x402008 (packW [(2, n.toNat), (0, 1)])
    if s.plan.loading.isSome then { s with plan := { s.plan with loadQ := s.plan.loadQ ++ [n] } } else s.startLoadPlan n

def execPlanLoad (p : Path) (slot : BitVec 2) (s : State) : Out := .next (s.loadPlan p slot)

/-- The load ends: the slot is STAGED (event 0x0509), or it is left as it was (event 0x050A). -/
def State.loadPlanDone (s : State) : State :=
  match s.plan.loading with
  | none => s
  | some n =>
    let r := s.judgePlan s.plan.staging s.plan.stagedLen n
    let old := s.plan.slot n
    let s := match r.2 with
      | some pl => (s.setSlot n { st := 2, plan := some pl }).event 0x0509 0 0
      | none => (if old.st = 1 then s.setSlot n { old with st := if old.plan.isSome then 2 else 0 } else s).event 0x050A 0 0
    let s := { s with plan := { s.plan with loading := none, result := r.1 } }
    match s.plan.loadQ with
    | k :: rest => ({ s with plan := { s.plan with loadQ := rest } }).startLoadPlan k
    | [] => s

def execPlanLoadDone (s : State) : Out := .next s.loadPlanDone

/-- PLAN_LOAD with OP ERASE: a STAGED slot that no pending switch names becomes EMPTY. -/
def State.erasePlan (s : State) (p : Path) (n : BitVec 2) : State :=
  if !s.priv p then s
  else
    let s := s.setPol 0x402008 (packW [(2, n.toNat), (0, 2)])
    if (s.plan.slot n).st = 2 ∧ !s.slotTaken n then
      let s := s.setSlot n {}
      { s with plan := { s.plan with result := 0 } }
    else { s with plan := { s.plan with result := 0x040F } }

def execPlanErase (p : Path) (slot : BitVec 2) (s : State) : Out := .next (s.erasePlan p slot)

/-- The flash mark that names the ACTIVE slot is rewritten. -/
def execPlanMarkRewrite (s : State) : Out := .next { s with plan := { s.plan with mark := s.activeSlot } }

/-! ### What an activation sets (R200, R270, R323, R333) -/

/-- A logical link from the plan: what it carries is kept where it leads to the same neighbour (R300). -/
def LLink.fromPlan (old : LLink) (e : PLink) : LLink :=
  let base : LLink := if old.used && old.peer == e.peer then old else { txBytes := old.txBytes }
  { base with used := true, peer := e.peer, ports := (e.ports.filter fun p => decide (p.toNat < 64)).map fun p => BitVec.ofNat 6 p.toNat,
              min := BitVec.ofNat 5 e.min.toNat, max := BitVec.ofNat 5 e.max.toNat, prio := BitVec.ofNat 2 e.prio.toNat,
              dateline := e.flags.getLsbD 0, pid := BitVec.ofNat 6 e.pid.toNat }

/-- The links of this module from a plan. -/
def State.loadLinks (s : State) (pl : Plan) (i : Nat) : State :=
  allPorts.foldl (fun s l => match pl.link i l.toNat with
    | some e => s.setLink l ((s.link l).fromPlan e)
    | none => if (s.link l).used then s.setLink l { txBytes := (s.link l).txBytes } else s) s

/-- Messages that waited for a route go on where the new table has one (R269). -/
def State.flushStuck (s : State) : State :=
  let l := s.fab.stuck
  l.foldl State.route { s with fab := { s.fab with stuck := [] } }

/-- The lending pool set aside, or given back: its size is POOL of this module's entry (R333). -/
def State.setPool (s : State) (n : Nat) : State :=
  if s.mem.pool.length = n then s
  else
    let s := s.mem.pool.foldl (fun s p => s.setSite p.1.toNat ((s.site p.1.toNat).freePage p.2)) s
    let r := takeMost s.openSites false n 0 { s with mem := { s.mem with pool := [], lent := [] } }
    { r.1 with mem := { r.1.mem with pool := r.2.filterMap fun p => match p with
        | .here i o => some (i, o)
        | .lender _ => none } }

/-- Free 2 MiB pages of the module. -/
def State.freePages (s : State) : Nat := (s.openSites.map fun i => (s.site i).free).foldl (· + ·) 0

/-- POOL of an entry: a LENDER's. -/
def PModule.poolOf (m : PModule) : Nat := if m.role = 2 then m.pool.toNat else 0

/-- A plan slot becomes ACTIVE, and the former one STAGED (R323): links, routes, lender and pool are the plan's, adoptions and
an offer end. -/
def State.activate (s : State) (n : BitVec 2) : State :=
  match (s.plan.slot n).plan with
  | none => s
  | some pl =>
    let lender := s.lender
    let had := s.lenderPool
    let s := match s.activeSlot with
      | some k => s.setSlot k { s.plan.slot k with st := 2 }
      | none => s
    let s := s.setSlot n { st := 3, plan := some pl }
    let s := { s with plan := { s.plan with offer := none } }
    let s := match s.selfIdx with
      | some i => s.loadLinks pl i
      | none => s
    let s := s.setPool ((s.selfEntry.map PModule.poolOf).getD 0)
    let s := if lender.isSome ∧ (s.lender ≠ lender ∨ had ≠ 0 ∧ s.lenderPool = 0) then s.loseRemote else s
    s.flushStuck

end Sys2Proof.Machine
end

