-- ==== Sys2Proof/Machine/Discovery.lean ====
section
/-! DEFINITION. Neighbour discovery (12, R325-R330): the judging of ports, their outcomes and states, adoption, the offer of a
spare, and what a dark input does. -/

set_option Elab.async false

namespace Sys2Proof.Machine

/-! ### Outcomes (R326) -/

/-- Ports are judged: stage S7 has begun and a plan is active. -/
def State.judging (s : State) : Bool :=
  (decide (7 < s.mod.stage.toNat) || (s.mod.stage == 7 && s.mod.begun)) && s.activePlan.isSome

/-- The serial of a node of the active plan. -/
def State.serialOf (s : State) (n : Node) : Option (BitVec 128) :=
  s.activePlan.bind fun pl => (pl.byNode n).bind fun j => pl.modules[j]?.map fun m => m.serial

/-- A serial is a member's. -/
def State.isMember (s : State) (x : BitVec 128) : Bool := (s.activePlan.bind fun pl => pl.bySerial x).isSome

/-- The frame names this module as what it hears, and a port of it. -/
def State.named (s : State) (d : Disc) : Option Byte :=
  if d.heardValid && d.heardSerial == s.fuse.serial then some d.heardPort else none

/-- The outcome of a frame, and p' of SWAPPED: the rows of R326 in order, and EXTRA on a DARK port. -/
def State.judgeFrame (s : State) (p : PortNo) (h : SlHead) (d : Disc) : Option (BitVec 4 × PortNo) :=
  match s.planPort p with
  | none => none
  | some e =>
    let here := some (BitVec.ofNat 8 p.toNat)
    let atNbr := s.serialOf e.nbrNode == some d.serial
    let samePort := BitVec.ofNat 8 h.sport.toNat == e.nbrPort
    if e.kind = 0 then some (9, 0)
    else if (s.named d).isSome ∧ s.named d ≠ here then some (7, d.heardPort.setWidth 6)
    else if atNbr ∧ samePort ∧ (!d.heardValid ∨ s.named d = here) then some (2, 0)
    else if e.altNode ≠ 0xFFFF ∧ s.serialOf e.altNode = some d.serial ∧ BitVec.ofNat 8 h.sport.toNat = e.altPort then some (4, 0)
    else if atNbr ∧ !samePort then some (5, 0)
    else if atNbr then none
    else if s.isMember d.serial then some (6, 0)
    else some (8, 0)

/-! ### Port states (R275, R326, R327) -/

/-- A port's shutter opened or closed. -/
def State.setShutter (s : State) (p : PortNo) (closed : Bool) : State :=
  if (s.fport p).shutter = closed then s else (s.setFport p { s.fport p with shutter := closed }).outPower p

/-- A port goes to a state other than SHUTDOWN: QUARANTINED closes its shutter, and leaving that opens it. -/
def State.goPort (s : State) (p : PortNo) (st : FState) : State :=
  let was := (s.fport p).st
  if st = FState.quarantined then (s.setPort p st).setShutter p true
  else if was = FState.quarantined then (s.setPort p st).setShutter p false
  else s.setPort p st

/-- The matrix holds the circuit that the plan gives a port, and no move of it is in progress. -/
def State.circuitIn (s : State) (p : PortNo) (e : PPort) : Bool :=
  let a := p.toNat
  let j := e.join.toNat
  let held (x y : Nat) : Bool := s.steer.conn.contains (x, y)
  (if e.kind = 1 then held (64 + j) a && held a (64 + j) else held a j && held j a) &&
    !(s.steer.moving && s.steer.changed.contains p)

/-- The state that a final outcome gives a port. -/
def State.portByOutcome (s : State) (p : PortNo) (o : BitVec 4) : State :=
  let st := (s.fport p).st
  let on := st == FState.linked || st == FState.transit
  if st = .shutdown then s
  else if o = 2 ∨ o = 10 then
    let s := if st = .discovering ∨ on then s else s.goPort p .discovering
    match s.planPort p with
    | some e => if s.circuitIn p e then s.goPort p (if e.kind = 1 then .linked else .transit) else s
    | none => s
  else if o = 3 ∨ o = 4 then if on then s else s.goPort p .absent
  else if 5 ≤ o.toNat ∧ o.toNat ≤ 9 then
    if st = .quarantined then s else ((if st = .discovering then s else s.goPort p .discovering)).goPort p .quarantined
  else s

/-- A port that is not DARK has an outcome other than AS_PLANNED or ADOPTED (R328). -/
def State.isDegraded (s : State) : Bool := allPorts.any fun p =>
  (match s.planPort p with
    | some e => e.kind != 0
    | none => false) && decide (3 ≤ (s.disc p).outcome.toNat) && (s.disc p).outcome != 10

/-- Every port whose planned neighbour is a node is MISSING or ALTERNATE, and there is one. -/
def State.allMissing (s : State) (n : Node) : Bool :=
  let ps := allPorts.filter fun p => match s.planPort p with
    | some e => e.kind != 0 && e.nbrNode == n
    | none => false
  ps != [] && ps.all fun p => outMissing (s.disc p).outcome

/-- DEGRADED judged again: each entry records event 0x050B. An offer whose module is heard again ends. -/
def State.rejudgePlan (s : State) : State :=
  let was := s.plan.degraded
  let s := { s with plan := { s.plan with
    degraded := s.isDegraded,
    offer := match s.plan.offer with
      | some (n, k) => if s.allMissing n then some (n, k) else none
      | none => none } }
  if s.plan.degraded && !was then s.event 0x050B 0 0 else s

/-- The event of a final outcome (R328). -/
def State.outcomeEvent (s : State) (p : PortNo) (o : BitVec 4) (sw : PortNo) : State :=
  if o = 3 ∨ o = 4 then s.event 0x060A 0 0
  else if o = 7 then s.event 0x060C 0 0 [snap [(32, sw.toNat), (0, p.toNat)]]
  else if 5 ≤ o.toNat ∧ o.toNat ≤ 9 then s.event 0x060B 0 0
  else s

/-- An outcome is final. -/
def State.finalOutcome (s : State) (p : PortNo) (o : BitVec 4) (sw : PortNo) : State :=
  let d := s.disc p
  let isNew := d.outcome ≠ o ∨ d.swapPort ≠ sw
  let s := s.setDisc p { d with outcome := o, cand := o, swapPort := sw }
  ((if isNew then s.outcomeEvent p o sw else s).portByOutcome p o).rejudgePlan

/-! ### Frames and silence (R325, R326) -/

/-- The payload of a DISCOVERY frame (R325). -/
def discBytes (d : Disc) : List Byte :=
  leBytes 16 d.serial.toNat ++ leBytes 4 d.planId.toNat ++ leBytes 8 d.digest8.toNat ++ leBytes 16 d.heardSerial.toNat ++
    [d.heardPort, BitVec.ofNat 8 (nb d.heardValid + 2 * nb d.bypass + 4 * nb d.quarantined), 0, 0]

/-- What this module sends on a port. -/
def State.ownDisc (s : State) (p : PortNo) : Disc :=
  let h := (s.disc p).heard
  { serial := s.fuse.serial, planId := (s.activePlan.map fun pl => pl.planId).getD 0,
    digest8 := (s.activePlan.map fun pl => pl.digest.setWidth 64).getD 0,
    heardSerial := (h.map fun x => x.2.serial).getD 0, heardPort := (h.map fun x => BitVec.ofNat 8 x.1.sport.toNat).getD 0,
    heardValid := h.isSome, bypass := s.steer.inBypass, quarantined := (s.fport p).st == .quarantined }

/-- A port's frame, every 10 ms in every state but SHUTDOWN, once the relay runs. -/
def State.sendDisc (s : State) (p : PortNo) : State :=
  if s.gov.relay ∧ (s.fport p).st ≠ .shutdown then s.slLocal p 1 (discBytes (s.ownDisc p)) else s

def execDiscoverySend (port : PortNo) (s : State) : Out := .next (s.sendDisc port)

/-- A new neighbour answers on a DARK, ABSENT or QUARANTINED port: it is DISCOVERING, and its outcome is open. -/
def State.newNeighbour (s : State) (p : PortNo) : State :=
  let st := (s.fport p).st
  let s := s.setDisc p { s.disc p with cand := 0 }
  if st = .absent ∨ st = .quarantined ∨ st = .dark then
    (s.setDisc p { s.disc p with outcome := 1, swapPort := 0 }).goPort p .discovering
  else s

/-- The outcome of a frame taken: two frames in succession make it final. -/
def State.takeOutcome (s : State) (p : PortNo) (r : Option (BitVec 4 × PortNo)) : State :=
  let d := s.disc p
  match r with
  | none => s.setDisc p { d with cand := 0, outcome := if d.outcome = 0 then 1 else d.outcome }
  | some (o, sw) =>
    if d.cand = o then s.finalOutcome p o sw
    else s.setDisc p { d with cand := o, outcome := if d.outcome = 0 then 1 else d.outcome }

/-- A DISCOVERY frame heard on a port. -/
def State.hear (s : State) (h : SlHead) (x : Disc) : State :=
  let p := h.port
  let d := s.disc p
  let isNew : Bool := d.silent || (match d.heard with
    | some (h', x') => x'.serial != x.serial || h'.sport != h.sport
    | none => true)
  let s := s.setDisc p { d with heard := some (h, x), silent := false }
  let f := s.fport p
  let s := if f.st = .shutdown then s else s.setFport p { f with light := true }
  if !s.judging ∨ d.adopted ∨ f.st = .shutdown then s
  else (if isNew then s.newNeighbour p else s).takeOutcome p (s.judgeFrame p h x)

def execDiscovery (h : SlHead) (d : Disc) (s : State) : Out := .next (s.onFrame h 1 (discBytes d) fun s => s.hear h d)

/-- No valid frame on a port for 50 ms, or its SHUTDOWN: with a planned neighbour it is MISSING. -/
def State.portSilent (s : State) (p : PortNo) : State :=
  let s := s.setDisc p { s.disc p with silent := true, cand := 0 }
  match s.planPort p with
  | some e => if s.judging ∧ e.kind ≠ 0 ∧ !(s.disc p).adopted then s.finalOutcome p 3 0 else s
  | none => s

def execDiscoverySilence (port : PortNo) (s : State) : Out := .next (if s.mod.on then s.portSilent port else s)

/-- Automatic laser shutdown of a port (R283): it is silent as well (R326). -/
def State.shutPort (s : State) (p : PortNo) : State :=
  if s.mod.on ∧ (s.fport p).st ≠ .shutdown then (s.dark p).portSilent p else s

def execAlsDark (port : PortNo) (s : State) : Out := .next (s.shutPort port)

/-- A port judged against a new plan, or at S7, from the frame already held (R326, R275): its adoption ends. -/
def State.rejudgePort (s : State) (p : PortNo) : State :=
  let d := s.disc p
  let s := s.setDisc p { d with adopted := false, cand := 0, swapPort := 0, outcome := if d.outcome = 0 then 0 else 1 }
  match s.planPort p with
  | none => s
  | some e =>
    let st := (s.fport p).st
    let s := if st = .shutdown then s
      else if e.kind = 0 then (s.goPort p .dark).setDisc p { s.disc p with outcome := 0 }
      else if st = .dark ∨ st = .absent ∨ st = .quarantined then s.goPort p .discovering
      else s
    if st = .shutdown then if e.kind = 0 then s else s.finalOutcome p 3 0
    else if d.silent then if e.kind = 0 then s else s.finalOutcome p 3 0
    else match d.heard with
      | none => if e.kind = 0 then s else s.setDisc p { s.disc p with outcome := 1 }
      | some (h, x) => match s.judgeFrame p h x with
        | some (o, sw) => s.finalOutcome p o sw
        | none => s.setDisc p { s.disc p with outcome := 1 }

/-- Every port judged again. -/
def State.rejudgeAll (s : State) : State := (allPorts.foldl State.rejudgePort s).rejudgePlan

/-! ### Adoption and spares (R329, R330, R335) -/

/-- PLAN_ACCEPT judged for a port. -/
def State.judgeAccept (s : State) (p : PortNo) : State :=
  let d := s.disc p
  let good : Bool := (s.fport p).st == .quarantined && (d.outcome == 5 || d.outcome == 6) && (match d.heard with
    | some (_, x) => s.isMember x.serial && s.named x == some (BitVec.ofNat 8 p.toNat)
    | none => false)
  if good then
    let s := s.setDisc p { d with adopted := true, outcome := 10, cand := 0 }
    let s := ({ s with plan := { s.plan with acceptCode := 0 } }).event 0x060D 0 0
    ((s.goPort p .discovering).portByOutcome p 10).rejudgePlan
  else { s with plan := { s.plan with acceptCode := 0x0411 } }

/-- PLAN_ACCEPT.GO: held while a switch is pending. -/
def State.acceptPort (s : State) (path : Path) (p : PortNo) : State :=
  if !s.priv path then s
  else
    let s := s.setPol 0x402020 (packW [(16, p.toNat)])
    if s.swPending then { s with plan := { s.plan with acceptHeld := s.plan.acceptHeld ++ [p] } } else s.judgeAccept p

def execPlanAccept (p : Path) (port : PortNo) (s : State) : Out := .next (s.acceptPort p port)

/-- The held writes of PLAN_ACCEPT, judged once the switch has ended. -/
def State.judgeHeld (s : State) : State :=
  let l := s.plan.acceptHeld
  l.foldl State.judgeAccept { s with plan := { s.plan with acceptHeld := [] } }

/-- A slot that holds a STAGED plan of an identifier. -/
def State.stagedById (s : State) (id : Word) : Option (BitVec 2) :=
  [(0 : BitVec 2), 1, 2, 3].find? fun n => (s.plan.slot n).st == 2 && ((s.plan.slot n).plan.map fun pl => pl.planId) == some id

/-- The offer of a spare for a module that has been missing for 1 s. -/
def State.offerSpare (s : State) (n : Node) : State :=
  let found := s.activePlan.bind fun pl => (pl.substs.filter fun e => e.1 == n).findSome? fun e => s.stagedById e.2.2
  match found with
  | some k =>
    if s.allMissing n ∧ s.plan.offer ≠ some (n, k) then
      ({ s with plan := { s.plan with offer := some (n, k) } }).event 0x060E 0 0
    else s
  | none => s

def execSpareOffer (node : Node) (s : State) : Out := .next (s.offerSpare node)

end Sys2Proof.Machine
end

