-- ==== Sys2Proof/Machine/Steering.lean ====
section
/-! DEFINITION. The rows of the steering matrix and of reconfiguration (11): moves, bypass, restore, elements, and the switch
from PREPARE to the resumption of traffic. -/

set_option Elab.async false

namespace Sys2Proof.Machine

/-! ### Circuits (R289, R298) -/

/-- The connections that a plan gives the matrix of an entry. -/
def Plan.conns (pl : Plan) (i : Nat) : List (Nat × Nat) :=
  (List.range 64).flatMap fun p => match pl.portN i p with
    | some e => if e.kind = 1 then [(64 + e.join.toNat, p), (p, 64 + e.join.toNat)] else if e.kind = 2 then [(p, e.join.toNat)] else []
    | none => []

/-- The circuit of a LINK port of an entry: its transceiver and the way of its light. -/
def Plan.way (pl : Plan) (i : Nat) (p : PortNo) : Option (Byte × Option (List (BitVec 128 × Nat))) :=
  match pl.portN i p.toNat with
  | some e => if e.kind = 1 then some (e.join, (pl.circuit i p.toNat).map fun r => r.2.2.2) else none
  | none => none

/-- This module's ways under a plan. -/
def State.wayIn (s : State) (pl : Option Plan) (p : PortNo) : Option (Byte × Option (List (BitVec 128 × Nat))) :=
  pl.bind fun x => (x.bySerial s.fuse.serial).bind fun i => x.way i p

/-- The ports whose circuits differ between two plans. -/
def State.newWays (s : State) (a b : Option Plan) : List PortNo := allPorts.filter fun p => s.wayIn a p != s.wayIn b p

/-- The links with a port of a list stop, or start, admitting DATA flits. -/
def State.quiesce (s : State) (ps : List PortNo) : State :=
  (allPorts.filter fun l => (s.link l).ports.any fun p => ps.contains p).foldl (fun s l =>
    s.setLink l { s.link l with quiesced := true }) s
def State.unquiesce (s : State) : State :=
  (allPorts.filter fun l => (s.link l).quiesced).foldl (fun s l => (s.setLink l { s.link l with quiesced := false }).pump l) s

/-! ### Moves (R298 steps 6 to 10, R300, R312) -/

/-- A direction of a channel that trains anew on its new circuit; its ring stays locked. -/
def CState.again (c : CState) : CState := if c = .up ∨ c = .training ∨ c = .retrain then .training else c

/-- The channels of a transceiver train again on a new circuit. -/
def State.retrainLt (s : State) (x : PortNo) : State :=
  allChans.foldl (fun s k =>
    let c := s.chan x k
    if c.tx = .unlit ∧ c.rx = .unlit then s
    else s.dropChan x k fun c => { c with tx := c.tx.again, rx := c.rx.again, attempts := 0, rxAttempts := 0, readyOk := false }) s

/-- Transceivers leave the ports that the matrix no longer joins them to, and take those that it does. -/
def State.leaveLts (s : State) (conn : List (Nat × Nat)) : State :=
  allPorts.foldl (fun s x => match (s.lt x).port with
    | some _ =>
      if conn.any fun e => e.1 == 64 + x.toNat then s
      else
        let s := s.unlightAll x
        s.setLt x { s.lt x with port := none }
    | none => s) s
def State.joinLts (s : State) (conn : List (Nat × Nat)) : State :=
  allPorts.foldl (fun s x => match conn.find? fun e => e.1 == 64 + x.toNat && decide (e.2 < 64) && conn.contains (e.2, e.1) with
    | some e => s.setLt x { s.lt x with port := some (BitVec.ofNat 6 e.2) }
    | none => if (s.lt x).port.isSome then s.setLt x { s.lt x with port := none } else s) s

/-- A port whose circuit is being changed is DISCOVERING meanwhile; its transceiver's rings stay locked. -/
def State.loosen (s : State) (p : PortNo) : State :=
  let f := s.fport p
  if f.st = .linked ∨ f.st = .transit then (s.setFport p { f with st := .discovering }).event 0x0601 0 0 else s

/-- Step 6: the matrix is driven to a plan's connections. `ways` are the ports whose circuits change; `act` is what makes the
plan the active one. The shutters of outputs whose connections change close. -/
def State.startMove (s : State) (pl : Plan) (i : Nat) (ways : List PortNo) (act : State → State) : State :=
  let aim := s.steer.aim (pl.conns i)
  let moved := movedElements s.steer.conn aim
  let ports := changedPorts s.steer.conn aim
  let worn := s.steer.worn.2
  let left := s.steer.inBypass
  let s := s.quiesce ways
  let s := s.leaveLts aim
  let s := (allPorts.filter fun x => match (s.lt x).port with
    | some p => ways.contains p || ports.contains p
    | none => false).foldl State.retrainLt s
  let s := (act s).quiesce ways
  let s := { s with steer := { s.steer.drive (pl.conns i) with
    step := 1, changed := ports, inBypass := false, src := 0, bypassBit := false } }
  let s := s.joinLts aim
  let s := (moved.filter fun e => decide (e.2 < 64)).foldl (fun s e => s.setShutter (BitVec.ofNat 6 e.2) true) s
  let s := ports.foldl State.loosen s
  let s := s.wearEvent worn
  if left then s.event 0x0504 0 0 else s

/-- The phase of the switch in which the module takes part, while it is at work on one (R315). -/
def State.setPhase (s : State) (was now : BitVec 4) : State :=
  if s.steer.phase = was then { s with steer := { s.steer with phase := now, goCode := none } } else s

/-- Step 7: elements are latched and the shutters open; QUARANTINED and SHUTDOWN ports keep theirs closed. -/
def State.latched (s : State) : State :=
  if s.steer.step ≠ 1 then s
  else
    let ps := s.steer.changed
    let s := ({ s with steer := { s.steer with step := 2, moving := false, retried := [] } }).setPhase 3 4
    let s := ps.foldl (fun s p =>
      if (s.fport p).st = FState.quarantined ∨ (s.fport p).st = FState.shutdown then s else s.setShutter p false) s
    ps.foldl (fun s p =>
      if (s.disc p).outcome = 2 ∨ (s.disc p).outcome = 10 then s.portByOutcome p (s.disc p).outcome else s) s

def execElementsLatched (s : State) : Out := .next s.latched

/-- The receive channels of a port whose new path shows no light or a wrong tag do not train: they lock anew. -/
def State.badPath (s : State) (p : PortNo) : State :=
  match s.ltOf p with
  | none => s
  | some x => allChans.foldl (fun s k =>
      if (s.chan x k).rx = .training then
        (s.setChan x k { s.chan x k with rx := .locking }).setLtRing x true k (s.ltRing x true k).acquire
      else s) s

/-- Step 8: light and tags verified on the changed connections. -/
def State.verified (s : State) (bad : List PortNo) : State :=
  if s.steer.step ≠ 2 then s
  else
    (bad.foldl State.badPath ({ s with steer := { s.steer with step := 3 } })).setPhase 4 5

def execLightVerify (badPorts : List PortNo) (s : State) : Out := .next (s.verified badPorts)

/-! ### The end of a switch (R299-R301, R309) -/

/-- Steering lets go of its trigger (R368). -/
def State.freeTrigger (s : State) : State :=
  let n := s.steerTT
  let t := s.trigger n
  if t.steer then s.setTrigger n { t with steer := false, st := if t.st = 1 then 0 else t.st } else s

/-- A switch of this module is over, in a phase and with a code: held writes of PLAN_ACCEPT are judged. -/
def State.endSwitch (s : State) (phase : BitVec 4) (code : Code) : State :=
  let ids := match s.steer.sw with
    | some w => [w.id]
    | none => []
  (({ s with steer := { s.steer with phase := phase, code := code, goCode := none, done := s.steer.done ++ ids } }).freeTrigger).judgeHeld

/-- A participant that failed, as the coordinator shows it in STEER_SW_FAIL. -/
def State.failedNode (s : State) (n : Node) : State :=
  { s with steer := { s.steer with failNode := if s.steer.failCount = 0 then n else s.steer.failNode,
                                   failCount := satAdd s.steer.failCount 1 } }

/-- STEER_LAST takes a resumption; one later than T + 5 ms records event 0x0507. -/
def State.noteResume (s : State) (r : BitVec 16) : State :=
  let was := s.steer.resume.toNat
  let s := { s with steer := { s.steer with resume := BitVec.ofNat 16 (max was r.toNat) } }
  if 500 < r.toNat ∧ was ≤ 500 then s.event 0x0507 0 0 else s

/-- The outcome of this module's participation reported to the coordinator. -/
def State.report (s : State) (code : Code) (resume : BitVec 16) : State :=
  match s.steer.sw with
  | some w =>
    if w.coord then (if code = 0 then s else s.failedNode s.node)
    else s.slSend 0x16 w.coordNode (leBytes 4 w.id.toNat ++ leBytes 2 code.toNat ++ leBytes 2 resume.toNat)
  | none => s

/-- The module does not move, or no longer takes part (R301, R313): event 0x0502; the code reported is not stated. -/
def State.notMoved (s : State) : State :=
  let code : Code := (Config.word s.fv).setWidth 16
  let s := ((s.draw.report code 0).unquiesce).event 0x0502 0 0
  s.endSwitch 8 code

/-- A participant with PREPARE and no COMMIT at T - 2 ms. -/
def execCommitMissing (s : State) : Out :=
  .next (match s.steer.sw with
    | some w => if s.steer.phase = 1 ∧ !w.coord then s.notMoved else s
    | none => s)

/-- Credits re-advertised on the ports whose circuits changed: nothing is out at the peer. -/
def State.newCredits (s : State) (l : BitVec 6) : State :=
  if (s.link l).quiesced then
    (s.link l).ports.foldl (fun s p => s.setFport p { s.fport p with out0 := 0, out1 := 0, owe0 := 0, owe1 := 0 }) s
  else s

/-- A switch is DONE: event 0x0501. -/
def State.switchDone (s : State) (r : BitVec 16) : State :=
  let s := ({ s with steer := { s.steer with switches := satAdd s.steer.switches 1 } }).noteResume r
  ((s.report 0 r).event 0x0501 0 0).endSwitch 6 0

/-- The move is over. -/
def State.moveDone (s : State) : State := { s with steer := { s.steer with step := 0, changed := [], restoreBit := false } }

/-- The time from T to now in units of 10 µs, rounded up so that only a resumption within 5 ms of T shows 500 or less (R315; the
rounding is DEDUCED, log entry 93). -/
def State.sinceT (s : State) : BitVec 16 :=
  match s.steer.sw with
  | some w => satNat 16 ((DevTime.toNs s.now - DevTime.toNs w.t + 9999) / 10000)
  | none => 0

/-- Step 10: traffic resumes on the changed links. -/
def State.resumeTraffic (s : State) : State :=
  if s.steer.step ≠ 3 then s
  else if s.steer.phase = 5 then (((allPorts.foldl State.newCredits s).unquiesce).moveDone).switchDone s.sinceT
  else ((allPorts.foldl State.newCredits s).unquiesce).moveDone

def execTrafficResume (s : State) : Out := .next s.resumeTraffic

/-! ### Bypass (R290-R294, R311-R313) -/

/-- A bypass trigger during steps 4 to 10 of a switch ends the module's participation; a released latch and a power failure
do so after COMMIT (R301, R313). -/
def State.bypassWins (s : State) (src : BitVec 3) : State :=
  match s.steer.sw with
  | some w =>
    if w.committed ∧ ((s.steer.phase = 2 ∧ (w.begun ∨ src ≠ 4)) ∨ s.steer.phase = 3 ∨ s.steer.phase = 4 ∨ s.steer.phase = 5) then
      s.notMoved
    else s
  | none => s

/-- The sequencer drives the matrix to bypass: transceivers lose their ports, and what no longer stands is DISCOVERING. -/
def State.driveBypass (s : State) (src : BitVec 3) : State :=
  let s := s.bypassWins src
  let aim := s.steer.aim bypassConn
  let ports := changedPorts s.steer.conn aim
  let worn := s.steer.worn.2
  let s := s.leaveLts aim
  let s := { s with steer := { s.steer.drive bypassConn with
    step := 0, changed := ports, inBypass := true, src := src, restoreBit := false } }
  let s := (s.joinLts aim).unquiesce
  (ports.foldl State.loosen s).wearEvent worn

/-- The bypass state is latched: the shutters open, but for those that automatic laser shutdown holds, and event 0x0503 names
the trigger; after the power-fail signal it is recorded at the next boot. -/
def State.bypassDone (s : State) : State :=
  if s.steer.inBypass ∧ s.steer.moving then
    let src := s.steer.src
    let s := { s with steer := { s.steer with moving := false, bypassBit := false, changed := [], retried := [] } }
    let s := allPorts.foldl (fun s p => if (s.fport p).st = FState.shutdown then s else s.setShutter p false) s
    if src = 2 then s else s.event 0x0503 0 0 [snap [(0, src.toNat)]]
  else s

def execBypassLatched (s : State) : Out := .next s.bypassDone

/-- STEER_CTL.BYPASS. -/
def execBypass (p : Path) (s : State) : Out :=
  .next (if s.priv p then
      let s := s.driveBypass 4
      { s with steer := { s.steer with bypassBit := true } }
    else s)

/-- The active plan's connections set by steps 6 to 10 with T now. -/
def State.takePlan (s : State) : State :=
  match s.activePlan, s.selfIdx with
  | some pl, some i => s.startMove pl i [] fun s => s
  | _, _ => s

/-- STEER_CTL.RESTORE: it leaves a bypass entered by command or latch, with the latch closed and steering not FROZEN. -/
def State.restoreNow (s : State) : State :=
  if s.judging ∧ s.steer.inBypass ∧ (s.steer.src = 3 ∨ s.steer.src = 4) ∧ !s.steer.latchOpen ∧ !s.steer.frozen then
    { s with steer := { s.steer with restoreBit := true } }.takePlan
  else s

def execRestore (p : Path) (s : State) : Out := .next (if s.priv p then s.restoreNow else s)

/-- An element that has not latched 1.2 ms after its drive is driven once more; the second time it is FAILED (R296). -/
def State.settleMissed (s : State) (a b : Nat) : State :=
  let x := s.steer
  if !x.moving ∨ !(movedElements x.old x.conn).contains (a, b) then s
  else if !x.retried.contains (a, b) then { s with steer := { x with retried := (a, b) :: x.retried } }
  else
    let conn := if x.conn.contains (a, b) then x.conn.erase (a, b) else (a, b) :: x.conn.filter fun e => e.1 != a && e.2 != b
    let bad := if bypassConn.contains (a, b) then x.bad ||| BitVec.ofNat 64 (2 ^ (a / 2)) else x.bad
    let s := { s with steer := { x with failed := (a, b) :: x.failed, conn := conn, bad := bad } }
    ((s.leaveLts conn).joinLts conn).event 0x0505 0 0

def execElementSettleTimeout (inp outp : BitVec 7) (s : State) : Out := .next (s.settleMissed inp.toNat outp.toNat)

/-! ### The switch (R297, R298) -/

/-- The participants of a plan: every module that it lists. -/
def Plan.members (pl : Plan) : List Node := (pl.modules.filter fun m => m.role != 3).map fun m => m.node

/-- The target plan of a switch. -/
def State.target (s : State) (w : Switch) : Option Plan := (s.plan.slot w.slot).plan
def State.swNodes (s : State) (w : Switch) : List Node := ((s.target w).map Plan.members).getD []

/-- A STAGED slot that holds a plan of an identifier and digest. -/
def State.findPlan (s : State) (id : Word) (digest : BitVec 384) : Option (BitVec 2) :=
  [(0 : BitVec 2), 1, 2, 3].find? fun n => (s.plan.slot n).st == 2 && (match (s.plan.slot n).plan with
    | some pl => pl.planId == id && pl.digest == digest
    | none => false)

/-- A lender cannot take the pool that a plan gives it (R333). -/
def State.lenderShort (s : State) (n : BitVec 2) : Bool :=
  match (s.plan.slot n).plan with
  | some pl => match (pl.bySerial s.fuse.serial).bind fun i => pl.modules[i]? with
    | some m => decide (s.freePages + s.mem.pool.length < m.poolOf)
    | none => false
  | none => false

/-- The payload of PREPARE. -/
def prepareBytes (id : Word) (t : DevTime) (planId : Word) (digest : BitVec 384) : List Byte :=
  leBytes 4 id.toNat ++ DevTime.bytes t ++ leBytes 4 planId.toNat ++ leBytes 48 digest.toNat

/-- T as STEER_SW_NS, STEER_SW_S_LO and STEER_SW_S_HI hold it. -/
def State.swTime (s : State) : DevTime :=
  ⟨BitVec.ofNat 48 ((s.pol 0x400018).toNat + 2 ^ 32 * (s.pol 0x40001C).toNat), s.pol 0x400014⟩

/-- Why GO is refused at once, in the order of R297. -/
def State.goRefusal (s : State) (slot : BitVec 2) (t : DevTime) : Option Code :=
  if DevTime.toNs t < DevTime.toNs s.now + 1000000 * s.leadMin then some 0x0405
  else if s.swPending then some 0x0408
  else if s.steer.frozen ∨ s.steer.latchOpen then some 0x0407
  else if (s.plan.slot slot).st ≠ 2 then some 0x0404
  else none

/-- A switch begun on this module: it is PREPARING. -/
def State.beginSwitch (s : State) (w : Switch) : State :=
  { s with steer := { s.steer with
    sw := some w, phase := 1, swCoord := w.coord, code := 0, goCode := none, failNode := 0, failCount := 0, resume := 0 } }

/-- This governor begins the switch to the plan of a slot and sends SWITCH_PREPARE. -/
def State.switchTo (s : State) (slot : BitVec 2) (pl : Plan) : State :=
  let short := s.lenderShort slot
  let w : Switch := { id := Config.word s.fv, coord := true, coordNode := s.node, t := s.swTime, planId := pl.planId,
                      digest := pl.digest, slot := slot, ready := if short then [] else [s.node],
                      refused := if short then [(s.node, 0x0410)] else [] }
  ((s.draw).beginSwitch w).slSend 0x10 0xFFFF (prepareBytes (Config.word s.fv) s.swTime pl.planId pl.digest)

/-- STEER_SWITCH.GO refused at once: its code, shown when no other switch is pending or running. -/
def State.refuseGo (s : State) (c : Code) : State :=
  if s.swPending then { s with steer := { s.steer with goCode := some c } }
  else { s with steer := { s.steer with phase := 7, code := c, swCoord := true, goCode := none } }

/-- A switch to the plan of a slot begins or is refused. -/
def State.switchGoAt (s : State) (slot : BitVec 2) : State :=
  (s.goRefusal slot s.swTime).elim (match (s.plan.slot slot).plan with
    | none => s
    | some pl => s.switchTo slot pl) s.refuseGo

/-- STEER_SWITCH.GO. -/
def State.switchGo (s : State) (slot : BitVec 2) : State :=
  (s.setPol 0x400010 (packW [(0, slot.toNat)])).switchGoAt slot

def execSteerSwitchGo (p : Path) (slot : BitVec 2) (s : State) : Out := .next (if s.priv p then s.switchGo slot else s)

/-- An answer to a coordinator. -/
def State.answerReady (s : State) (dst : Node) (id : Word) : State := s.slSend 0x11 dst (leBytes 4 id.toNat)
def State.answerRefuse (s : State) (dst : Node) (id : Word) (code : Code) : State :=
  s.slSend 0x12 dst (leBytes 4 id.toNat ++ leBytes 2 code.toNat)

/-- PREPARE at a participant: READY, or REFUSE with the code of what stands against it; before S9, STEER_FROZEN (R359). -/
def State.prepared (s : State) (src : Node) (id : Word) (t : DevTime) (planId : Word) (digest : BitVec 384) : State :=
  let same := match s.steer.sw with
    | some w => w.id == id && s.swPending
    | none => false
  if same then s.answerReady src id
  else if s.steer.done.contains id then s
  else if s.mod.st ≠ 2 then s.answerRefuse src id 0x0407
  else match s.findPlan planId digest with
    | none => s.answerRefuse src id 0x0404
    | some n =>
      if s.steer.frozen then s.answerRefuse src id 0x0407
      else if s.swPending then s.answerRefuse src id 0x0408
      else if s.steer.latchOpen then s.answerRefuse src id 0x0407
      else if s.lenderShort n then s.answerRefuse src id 0x0410
      else (s.beginSwitch { id := id, coord := false, coordNode := src, t := t, planId := planId, digest := digest, slot := n }).answerReady
        src id

def execPrepare (h : SlHead) (id : Word) (t : DevTime) (planId : Word) (digest : BitVec 384) (s : State) : Out :=
  .next (s.onFrame h 0x10 (prepareBytes id t planId digest) fun s => s.prepared h.src id t planId digest)

/-- An act of the coordinator of a switch on its record. -/
def State.asCoord (s : State) (id : Word) (f : Switch → Switch) : State :=
  match s.steer.sw with
  | some w => if w.coord ∧ w.id = id then { s with steer := { s.steer with sw := some (f w) } } else s
  | none => s

def execSlReady (h : SlHead) (id : Word) (s : State) : Out :=
  .next (s.onFrame h 0x11 (leBytes 4 id.toNat) fun s => s.asCoord id fun w =>
    if w.ready.contains h.src then w else { w with ready := w.ready ++ [h.src] })

def execRefuseFrame (h : SlHead) (id : Word) (code : Code) (s : State) : Out :=
  .next (s.onFrame h 0x12 (leBytes 4 id.toNat ++ leBytes 2 code.toNat) fun s => s.asCoord id fun w =>
    if w.refused.any fun e => e.1 == h.src then w
    else { w with ready := w.ready.filter (· != h.src), refused := w.refused ++ [(h.src, code)] })

/-- Steering arms its trigger for T; a user arming of it is cancelled (R368). -/
def State.armTrigger (s : State) (t : DevTime) : State :=
  let n := s.steerTT
  let x := s.trigger n
  let y := { x with steer := true, action := 1, periodic := false, ns := t.ns.setWidth 30, s := t.s }
  if x.st = 1 then (s.setTrigger n { y with st := 4 }).event 0x0307 0 0 else s.setTrigger n { y with st := 1 }

/-- COMMIT: the switch is final, and armed. -/
def State.commitNow (s : State) (w : Switch) : State :=
  ({ s with steer := { s.steer with sw := some { w with committed := true }, phase := 2, goCode := none } }).armTrigger w.t

def execCommit (h : SlHead) (id : Word) (s : State) : Out :=
  .next (s.onFrame h 0x13 (leBytes 4 id.toNat) fun s => match s.steer.sw with
    | some w =>
      if w.id = id ∧ !w.coord then
        let s := if s.steer.phase = 1 then s.commitNow w else s
        if s.steer.phase = 2 then s.slSend 0x15 h.src (leBytes 4 id.toNat) else s
      else s
    | none => s)

/-- A switch ends ABORTED: event 0x0502. -/
def State.abortSwitch (s : State) (code : Code) : State := (s.event 0x0502 0 0).endSwitch 7 code

def execAbortFrame (h : SlHead) (id : Word) (code : Code) (s : State) : Out :=
  .next (s.onFrame h 0x14 (leBytes 4 id.toNat ++ leBytes 2 code.toNat) fun s => match s.steer.sw with
    | some w => if w.id = id ∧ s.steer.phase = 1 ∧ !w.coord then s.abortSwitch code else s
    | none => s)

def execCommitAck (h : SlHead) (id : Word) (s : State) : Out :=
  .next (s.onFrame h 0x15 (leBytes 4 id.toNat) fun s => s.asCoord id fun w =>
    if w.acks.contains h.src then w else { w with acks := w.acks ++ [h.src] })

/-- A participant's result, at the coordinator. -/
def State.outcomeIn (s : State) (src : Node) (id : Word) (code : Code) (resume : BitVec 16) : State :=
  match s.steer.sw with
  | some w => if w.coord ∧ w.id = id then (if code = 0 then s.noteResume resume else s.failedNode src) else s
  | none => s

def execOutcomeFrame (h : SlHead) (id : Word) (code : Code) (resume : BitVec 16) (s : State) : Out :=
  .next (s.onFrame h 0x16 (leBytes 4 id.toNat ++ leBytes 2 code.toNat ++ leBytes 2 resume.toNat) fun s =>
    s.outcomeIn h.src id code resume)

/-- PREPARE again to the participants that have not answered. -/
def execPrepareResend (s : State) : Out :=
  .next (match s.steer.sw with
    | some w =>
      if w.coord ∧ s.steer.phase = 1 then
        ((s.swNodes w).filter fun n => !w.ready.contains n && !w.refused.any fun e => e.1 == n).foldl (fun s n =>
          s.slSend 0x10 n (prepareBytes w.id w.t w.planId w.digest)) s
      else s
    | none => s)

/-- The READY deadline: COMMIT with every participant READY, otherwise ABORT with the first failure's code or NO_ANSWER. -/
def State.deadline (s : State) (w : Switch) : State :=
  let late := (s.swNodes w).filter fun n => !w.ready.contains n
  let id := leBytes 4 w.id.toNat
  if late = [] then (s.slSend 0x13 0xFFFF id).commitNow w
  else
    let first : Node × Code := match w.refused with
      | e :: _ => e
      | [] => (late.headD 0, 0x0406)
    let s := { s with steer := { s.steer with failNode := first.1, failCount := satNat 16 late.length } }
    (s.slSend 0x14 0xFFFF (id ++ leBytes 2 first.2.toNat)).abortSwitch first.2

def execReadyDeadline (s : State) : Out :=
  .next (match s.steer.sw with
    | some w => if w.coord ∧ s.steer.phase = 1 then s.deadline w else s
    | none => s)

/-- COMMIT again to the participants that have not acknowledged it. -/
def execCommitResend (s : State) : Out :=
  .next (match s.steer.sw with
    | some w =>
      if w.coord ∧ s.steer.phase = 2 then
        ((s.swNodes w).filter fun n => n != s.node && !w.acks.contains n).foldl (fun s n => s.slSend 0x13 n (leBytes 4 w.id.toNat)) s
      else s
    | none => s)

/-- STEER_CTL.ABORT: the coordinator broadcasts ABORT if COMMIT has not been sent; no rule states its code. -/
def State.abortNow (s : State) : State :=
  match s.steer.sw with
  | some w =>
    if w.coord ∧ s.steer.phase = 1 then
      let code : Code := (Config.word s.fv).setWidth 16
      (s.draw.slSend 0x14 0xFFFF (leBytes 4 w.id.toNat ++ leBytes 2 code.toNat)).abortSwitch code
    else s
  | none => s

def execSteerAbort (p : Path) (s : State) : Out := .next (if s.priv p then s.abortNow else s)

/-- Step 4: the links whose circuits change stop admitting DATA flits. -/
def State.beginQuiesce (s : State) : State :=
  match s.steer.sw with
  | some w =>
    if s.steer.phase = 2 then
      ({ s with steer := { s.steer with sw := some { w with begun := true } } }).quiesce (s.newWays s.activePlan (s.target w))
    else s
  | none => s

def execQuiesceStart (s : State) : Out := .next s.beginQuiesce

/-- Step 5: quiesce ends; unacknowledged flits stay in the replay store, and nothing that a register shows changes. -/
def execQuiesceEnd (s : State) : Out := .next s

/-- Steering's trigger fires. -/
def State.fireSteer (s : State) : State :=
  let n := s.steerTT
  let t := s.trigger n
  s.setTrigger n { t with st := if t.st = 4 then 4 else 2, fires := satAdd t.fires 1 }

/-- T: the module moves to the target plan, unless steering is FROZEN or the latch is released (R301). -/
def State.switchNow (s : State) (w : Switch) : State :=
  if s.steer.frozen ∨ s.steer.latchOpen then s.notMoved
  else match s.target w with
    | none => s.notMoved
    | some pl => match pl.bySerial s.fuse.serial with
      | none => s.notMoved
      | some i =>
        let ways := s.newWays s.activePlan (some pl)
        let s := ({ s with steer := { s.steer with phase := 3, goCode := none, sw := some { w with begun := true } } }).fireSteer
        allPorts.foldl State.ensureMin (s.startMove pl i ways fun s => s.activate w.slot).rejudgeAll

def execSwitchT (s : State) : Out :=
  .next (match s.steer.sw with
    | some w => if s.steer.phase = 2 then s.switchNow w else s
    | none => s)

end Sys2Proof.Machine
end

