-- ==== Sys2Proof/Machine/Boot.lean ====
section
/-! DEFINITION. Bring-up (13): the stages of the boot, their ends, halts and records, the image, and the tables (R338-R354),
with the boot header (R378) and the choice of a settings bank (R386). -/

set_option Elab.async false

namespace Sys2Proof.Machine

/-! ### The boot header (R378) -/

/-- SEQ of the header in use. -/
def FwSt.seqNow (f : FwSt) : Word := if f.h1.ok then f.h1.seq else f.h2.seq

/-- The boot header rewritten: copy 1 and then copy 2, with SEQ raised by one and PREV what it replaces. -/
def FwSt.rewrite (f : FwSt) (sel : BootSel) : FwSt :=
  let h : BootHdr := { ok := true, seq := f.seqNow + 1, sel := sel, prev := f.sel }
  { f with h1 := h, h2 := h }

/-- The header names the previous firmware slot, no longer on trial. -/
def FwSt.rolledBack (f : FwSt) : FwSt := f.rewrite { f.sel with fwB := !f.sel.fwB, trial := false, tries := 0 }

/-- The boot header at S1: a rewrite cut short is completed to the earlier header; a trial boot takes one try, or rolls back
where none is left or the image's SVN is refused (R378, R392). -/
def State.chooseHeader (s : State) : State :=
  let f := s.fw
  let sel := f.sel
  let s := if f.h1 = f.h2 then s else { s with fw := f.rewrite sel }
  let s := if sel.trial then
      if sel.tries = 0 then ({ s with fw := s.fw.rolledBack }).event 0x0405 0 0
      else if (f.slot (if sel.fwB then 1 else 0)).svn.toNat < f.minSvn.toNat then
        (({ s with fw := s.fw.rolledBack }).event 0x0402 0 0).event 0x0405 0 0
      else ({ s with fw := s.fw.rewrite { sel with tries := sel.tries - 1 } }).event 0x0406 0 0
    else s
  { s with fw := { s.fw with runB := s.fw.sel.fwB } }

/-! ### Ends and halts of stages (R340, R343, R345, R347) -/

/-- A stage of the boot is at work: its built-in action has begun. -/
def State.inStage (s : State) (k : BitVec 4) : Bool := s.mod.on && s.mod.stage == k && s.mod.begun && s.mod.st == 0

/-- A stage has been entered and its built-in action has not begun. -/
def State.enters (s : State) (k : BitVec 4) : Bool := s.mod.on && s.mod.stage == k && !s.mod.begun && s.mod.st == 0

/-- The built-in action of the stage begins. -/
def State.begin (s : State) : State := { s with mod := { s.mod with begun := true, recWait := .idle, recs := [] } }

/-- A record that no executor can run (R340). -/
def Rec.bad (r : Rec) : Bool :=
  r.op == 0 || decide (4 < r.op.toNat) || decide (r.stage.toNat < 2) || decide (8 < r.stage.toNat) ||
    (r.op != 4 && r.addr.toNat % 4 != 0)

/-- The entries of the settings bank in use. -/
def State.settings (s : State) : List Rec := ((s.fw.bank).map fun b => b.entries).getD []

/-- The records of a stage: the image's in image order, and then the settings' (R340, R343, R344, R385). A record whose STAGE
is out of range is met by whatever stage runs. -/
def State.stageRecs (s : State) (k : BitVec 4) : List Rec :=
  let mine (r : Rec) : Bool := r.stage.toNat == k.toNat || decide (r.stage.toNat < 2) || decide (8 < r.stage.toNat)
  if s.mod.mode = 2 ∨ k.toNat < 2 ∨ 8 < k.toNat then []
  else if k = 2 ∨ s.mod.mode = 0 ∨ s.mod.goRecs then
    ((((s.mod.image.map fun i => i.records).getD []).filter mine) ++ s.settings.filter mine)
  else []

/-- The stage halts: STEPPED mode, CODE, and event 0x0102. -/
def State.halt (s : State) (code : Byte) : State :=
  ({ s with mod := { s.mod with st := 3, code := code, mode := if s.mod.mode = 2 then 2 else 1, goBit := false,
                                recs := [], recWait := .idle } }).event 0x0102 0 0

/-- The stage has ended: its time is kept and event 0x0101 recorded. In AUTONOMOUS mode, and before the end of S2, the next
stage is entered; otherwise the module waits. -/
def State.endStage (s : State) : State :=
  let m := s.mod
  let k := m.stage
  let s := { s with mod := { m with times := SMap.put m.times k.toNat (satNat 32 ((s.up - m.since) / 1000)), goBit := false,
                                    recWait := .idle } }
  let s := s.event 0x0101 0 0
  let s := if k = 2 then { s with gov := { s.gov with relay := true } } else s
  if 2 ≤ k.toNat ∧ m.mode ≠ 0 then { s with mod := { s.mod with st := 1 } }
  else { s with mod := { s.mod with stage := k + 1, begun := false, since := s.up } }

/-- Every present site has reported or is FAILED (R345, S3). -/
def State.sitesReported (s : State) : Bool := (List.range s.siteCount).all fun i => (s.site i).reported || (s.site i).failed

/-- The physical trays of the present sites that are not FAILED. -/
def State.physTrays (s : State) : List Nat :=
  ((List.range s.siteCount).filter fun i => !(s.site i).failed).flatMap fun i =>
    (List.range 72).map fun k => 72 * s.fuse.sites.getD i 0 + k

/-- Every tray locked, substituted or grid-failed (S5). -/
def State.lightUp (s : State) : Bool := s.physTrays.all fun t =>
  let x := s.tray t
  x.ctl.st == .mappedOut || x.light.locked || x.light.gridFailed

/-- A unit state that ends S6 for it. -/
def UState.settled (st : UState) : Bool := st == .ready || st == .held || st == .failed

/-- Every enabled logical tray and cluster READY, HELD or FAILED (S6). -/
def State.unitsUp (s : State) : Bool := s.allTrays.all fun t =>
  (!(s.tray t).ctl.enable || (s.tray t).ctl.st.settled) && (s.clustersOfTray t).all fun c =>
    !(s.cluster c).ctl.enable || !(s.tray t).ctl.enable || (s.cluster c).ctl.st.settled

/-- Every port with a planned neighbour has a final outcome; every transmit channel whose peer has reported receive lock is FAILED or
UP, and every receive channel whose ring has locked FAILED or UP with READY_OK (R351). -/
def State.fabricUp (s : State) : Bool :=
  !s.steer.latchOpen &&
    (allPorts.all fun p => match s.planPort p with
      | some e => e.kind == 0 || decide (2 ≤ (s.disc p).outcome.toNat)
      | none => true) &&
    allPorts.all fun x => allChans.all fun k =>
      let c := s.chan x k
      (!c.peerLocked || c.tx == .up || c.tx == .failed) && (c.rx != .up || c.readyOk) && c.rx != .training && c.rx != .retrain

/-- What a stage's built-in action waits for. -/
def State.actionDone (s : State) : Bool :=
  if s.mod.stage = 3 then s.sitesReported
  else if s.mod.stage = 5 then s.lightUp
  else if s.mod.stage = 6 then s.unitsUp
  else if s.mod.stage = 7 then s.fabricUp
  else true

/-- The next record is met: one that no executor can run halts the stage, and after the last one the stage ends. -/
def State.nextRecord (s : State) : State :=
  match s.mod.recs with
  | [] => s.endStage
  | r :: _ => if r.bad then s.halt 4 else { s with mod := { s.mod with recWait := .next } }

/-- The built-in action of the stage is over: its records run. -/
def State.startRecords (s : State) : State :=
  ({ s with mod := { s.mod with recs := s.stageRecs s.mod.stage } }).nextRecord

/-- The boot's progress: a stage whose built-in action has been completed goes on to its records or ends. -/
def State.settleStage (s : State) : State :=
  if s.mod.on && s.mod.begun && s.mod.st == 0 && s.mod.recWait == .idle && s.mod.stage != 9 && s.actionDone then s.startRecords
  else s

/-! ### S0 to S2 (R342, R345) -/

/-- An input within 40 to 60 V. -/
def inRange (v : BitVec 12) : Bool := decide (400 ≤ v.toNat) && decide (v.toNat ≤ 600)

/-- Input power starts the boot. The bypass that a power failure left is recorded (R291), and its persist (R408). -/
def State.powerOn (s : State) (a b : BitVec 12) : State :=
  let s := { s with mod := { s.mod with vinA := a, vinB := b, lostA := decide (a.toNat < 380), lostB := decide (b.toNat < 380) } }
  if s.mod.on ∨ s.mod.tripped ∨ !(inRange a || inRange b) then s
  else
    let src := s.steer.src
    let s := { s with mod := { s.mod with on := true, since := s.up, stage := 0, st := 0, begun := false },
                      steer := { s.steer with src := 5, inBypass := true } }
    let s := if src = 2 then s.event 0x0503 0 0 [snap [(0, 2)]] else s
    if s.cs.noted then s else ({ s with cs := { s.cs with noted := true } }).event 0x010A 0 0

def execPowerUp (vinA vinB : BitVec 12) (s : State) : Out := .next (s.powerOn vinA vinB)

/-- S0: supplies and crystal. -/
def execStagePower (s : State) : Out := .next (if s.enters 0 then s.begin.settleStage else s)

/-- Why the image of a slot is rejected (R342), as CODE shows it; 0 where it is not. -/
def State.imageFault (s : State) (x : FwSlot) : Byte :=
  match x.image with
  | none => 2
  | some i =>
    if i.magic ≠ 0x00014349 ∨ i.format ≠ 1 ∨ i.size.toNat ≠ i.bytes ∨ 67108864 < i.bytes then 2
    else if !s.signed i.keyIdx.toNat (keyOf ((x.header.drop 0xA0).take 96)) (x.header.take 0xA0) then 1
    else if !i.variants.getLsbD s.fuse.variant.toNat then 2
    else if i.digest.toNat ≠ leNat (sha384 x.buf) then 1
    else 0

/-- The boot mode: NEXT where it is not 0, else the image's. -/
def State.bootMode (s : State) (i : Image) : BitVec 2 := if s.mod.next = 0 then (if i.bootMode = 0 then 0 else 1) else s.mod.next - 1

/-- An image taken. -/
def State.takeImage (s : State) (i : Image) (b fallback : Bool) : State :=
  { s with mod := { s.mod with image := some i, imageB := b, fallback := fallback, mode := s.bootMode i } }

/-- RECOVERY: no records, no domain and no plan. -/
def State.recover (s : State) (code : Byte) : State :=
  let off (x : PlanSlot) : PlanSlot := if x.st = 3 then { x with st := 2 } else x
  ({ s with mod := { s.mod with mode := 2, image := none, fallback := true, code := code },
            plan := { s.plan with s0 := off s.plan.s0, s1 := off s.plan.s1, s2 := off s.plan.s2, s3 := off s.plan.s3 } }).event 0x0104 0 0

/-- S1: the boot header, and the image that it names, or the other, or RECOVERY. -/
def State.readImage (s : State) : State :=
  let s := s.begin.chooseHeader
  let b := s.fw.sel.cfgB
  let img (x : Bool) : Option Image := if x then s.fw.cb.image else s.fw.ca.image
  let fault (x : Bool) : Byte := s.imageFault (if x then s.fw.cb else s.fw.ca)
  let s := match if fault b = 0 then img b else none with
    | some i => s.takeImage i b false
    | none =>
      let s := s.event 0x0103 0 0
      match if fault (!b) = 0 then img (!b) else none with
      | some j => s.takeImage j (!b) true
      | none => s.recover (fault b)
  s.settleStage

def execStageImage (s : State) : Out := .next (if s.enters 1 then s.readImage else s)

/-- The schemas that the running firmware reads; an H4 image reads schema 1 only (R377, R386). -/
def FwSt.reads (f : FwSt) (b : Bank) : Bool :=
  let x := f.slot f.activeFw
  b.ok && (if x.h4 then b.schema == 1 else decide (x.schemaReadMin.toNat ≤ b.schema.toNat) && decide (b.schema.toNat ≤ x.schemaWrite.toNat))

/-- The settings bank at S2 (R386). -/
def State.chooseBank (s : State) : State :=
  let f := s.fw
  let a := f.reads f.bankA
  let b := f.reads f.bankB
  let useB : Option Bool :=
    if a && b then some (decide (f.bankA.seq.toNat < f.bankB.seq.toNat)) else if a then some false else if b then some true else none
  let foreign := (f.bankA.ok || f.bankB.ok) && useB.isNone
  let s := { s with fw := { f with useB := useB, foreign := foreign } }
  if foreign then s.event 0x0412 0 0 else s

/-- An H4 image that fails its verification: the boot falls back to the other slot, event 0x0402 (R377). -/
def State.checkH4 (s : State) (ok : Bool) : State :=
  let n := s.fw.activeFw
  let x := s.fw.slot n
  if x.st = 5 ∧ !ok then
    let f := (s.fw.setSlot n { x with st := 7 }).rolledBack
    ({ s with fw := { f with runB := f.sel.fwB } }).event 0x0402 0 0
  else s

/-- S2: the governors boot into lockstep, or one of them alone. -/
def State.govern (s : State) (okA okB h4Ok : Bool) : State :=
  let s := s.begin.checkH4 h4Ok
  let x := s.fw.slot s.fw.activeFw
  let s := { s with fw := { s.fw with runVersion := x.version, runSvn := x.svn } }
  if !okA && !okB then s.halt 8
  else
    let s := ({ s with gov := { s.gov with
      roleA := if okA then 0 else 2, roleB := if okB then (if okA then 1 else 0) else 2, simplex := !(okA && okB), seq := 0,
      epoch := (Config.word s.fv).setWidth 16 } }).draw
    s.chooseBank.settleStage

def execStageGovern (okA okB h4Ok : Bool) (s : State) : Out := .next (if s.enters 2 then s.govern okA okB h4Ok else s)

/-! ### S3 to S6 (R346-R350) -/

/-- S3: the present sites are to be powered in turn. -/
def execStageSites (s : State) : Out := .next (if s.enters 3 then s.begin else s)

/-- A present site is powered, and its controller boots; one that does not report is told of by a command of its own. -/
def State.powerSite (s : State) (i : Nat) : State :=
  if s.inStage 3 ∧ i < s.siteCount then (s.setSite i { s.site i with reported := true }).settleStage else s

def execSitePowerOn (site : BitVec 4) (s : State) : Out := .next (s.powerSite site.toNat)

/-- A logical tray, or cluster, of a failed site enters FAILED unless it stands there already (R33, R348). -/
def State.failTrayOnce (s : State) (t : Nat) : State := if (s.tray t).ctl.st = .failed then s else s.failTray t
def State.failClusterOnce (s : State) (c : Nat) : State := if (s.cluster c).ctl.st = .failed then s else s.failCluster c

/-- A site is FAILED: its trays and clusters enter FAILED, each with event 0x0B01 and the end of the requests that wait for it (R33,
R106, R348); event 0x0105. -/
def State.failSite (s : State) (i : Nat) : State :=
  let s := s.setSite i { s.site i with failed := true }
  let p := s.fuse.sites.getD i 0
  let s := (s.traysOfSite p).foldl (fun s t => (s.clustersOfTray t).foldl State.failClusterOnce (s.failTrayOnce t)) s
  s.event 0x0105 0 (s.unitAddr (.site p))

/-- Every present site FAILED halts the stage (R347). -/
def State.noSite (s : State) : State :=
  if (List.range s.siteCount).all fun i => (s.site i).failed then s.halt 5 else s

/-- A site controller has not reported within 500 ms. -/
def State.siteSilent (s : State) (i : Nat) : State :=
  let x := s.site i
  if i < s.siteCount ∧ !x.failed ∧ !x.trained ∧ (s.inStage 3 ∨ s.enters 4) then (s.failSite i).noSite.settleStage else s

def execSiteReportTimeout (site : BitVec 4) (s : State) : Out := .next (s.siteSilent site.toNat)

/-- A die that failed its training twice is erased; a third erasure fails the site (R191, R348). -/
def State.trainFailed (s : State) (e : BitVec 4 × Fin 36) : State :=
  let i := e.1.toNat
  let x := s.site i
  if s.siteCount ≤ i ∨ x.failed ∨ x.erased.contains e.2 then s
  else if 2 ≤ x.erased.length then s.failSite i
  else s.eraseDie i e.2

/-- S4: memory trained, and every sector written with zeros. -/
def State.trainMemory (s : State) (failed : List (BitVec 4 × Fin 36)) : State :=
  let s := failed.foldl State.trainFailed s.begin
  let s := (List.range s.siteCount).foldl (fun s i =>
    if (s.site i).failed then s else s.setSite i { s.site i with trained := true, mem := [], poison := [], frames := [] }) s
  s.noSite.settleStage

def execStageMemory (failed : List (BitVec 4 × Fin 36)) (s : State) : Out := .next (if s.enters 4 then s.trainMemory failed else s)

/-- S5: combs start; laser banks start bay by bay. -/
def execStageLight (s : State) : Out :=
  .next (if s.enters 5 then { s.begin with light := { s.light with started := true } } else s)

/-- The laser bank of a bay starts: its nine physical trays ramp and acquire lock. -/
def State.startBay (s : State) (n : Nat) : State :=
  let i := n / 8
  if s.inStage 5 ∧ i < s.siteCount ∧ !(s.site i).failed then
    let b := 8 * s.fuse.sites.getD i 0 + n % 8
    ((List.range 9).map fun k => 9 * b + k).foldl (fun s t => if (s.tray t).ctl.st = .mappedOut then s else s.acquire t) s
  else s

def execBayLaserStart (n : BitVec 7) (s : State) : Out := .next (s.startBay n.toNat)

/-- A logical tray starts at S6 with its clusters; one without a grid has failed (R350). -/
def State.startTray (s : State) (t : Nat) : State :=
  if (s.tray t).ctl.st = .off ∧ (s.tray t).ctl.enable then
    let s := s.modTray t fun x => { x with ctl := x.ctl.to .starting }
    if (s.tray t).light.gridFailed then s.trayUnfit t else s
  else s

/-- Seeds drawn at a boot for every physical tray of the present sites, each with the pattern of its first epoch (R162), and an interim set
due for it (R248). -/
def State.bootSeeds (s : State) : State :=
  let now := s.now
  (s.fuse.sites.flatMap fun p => (List.range 72).map fun i => p * 72 + i).foldl (fun s t =>
    let f := s.fv
    (s.modTray t fun x =>
      let p := { x.proof with seed := drawSeed f }.nextPattern
      { x with proof := { p with mon := { p.mon with since := now } }, light := { x.light with interimDue := true } }).draw) s

/-- S6: tables are broadcast, and enabled trays and clusters go to STARTING. -/
def State.startTrays (s : State) : State :=
  let s := s.begin.sendTable 4
  let s := s.bootSeeds.allTrays.foldl State.startTray s.bootSeeds
  (s.allTrays.foldl State.startClusters s).settleStage

def execStageTrays (s : State) : Out := .next (if s.enters 6 then s.startTrays else s)

/-! ### S7 to S9 (R345, R351) -/

/-- The image's plan goes into slot 0 where every slot is EMPTY, by a load with the checks of R324, and is ACTIVE. -/
def State.planFromImage (s : State) : State :=
  match s.mod.image with
  | none => s
  | some i =>
    if i.plan = [] ∨ !([(0 : BitVec 2), 1, 2, 3].all fun n => (s.plan.slot n).st == 0) then s
    else match (s.judgePlan (bytesMem i.plan) i.plan.length 0).2 with
      | some pl =>
        let s := s.setSlot 0 { st := 3, plan := some pl }
        { s with plan := { s.plan with mark := some 0 } }
      | none => s.event 0x050A 0 0

/-- The matrix takes the active plan's connections, and ports judge their neighbours. -/
def State.linkFabric (s : State) : State :=
  match s.activePlan, s.selfIdx, s.activeSlot with
  | some pl, some i, some n => (s.startMove pl i [] fun s => s.activate n).rejudgeAll
  | _, _, _ => s

/-- S7; it does not start while the hot-swap latch is released (R359). -/
def execStageFabric (s : State) : Out :=
  .next (if s.enters 7 ∧ !s.steer.latchOpen then (s.begin.planFromImage.linkFabric).settleStage else s)

/-- The latch closes: S7, if it paused, leaves bypass. -/
def State.closeLatch (s : State) : State :=
  let s := { s with steer := { s.steer with latchOpen := false } }
  if s.inStage 7 ∧ s.steer.inBypass then s.linkFabric else s

def execHotSwapLatchClose (s : State) : Out := .next s.closeLatch

/-- The transmit line of a channel that is UP without READY_OK or still training is released. -/
def State.releaseUnready (s : State) (x : PortNo) : State :=
  allChans.foldl (fun s k =>
    let c := s.chan x k
    if (c.rx = .up ∧ !c.readyOk) ∨ c.rx.trains ∨ c.tx.trains then s.unlight x k else s) s

/-- S7 has reached S7_MAX: it completes (R351). -/
def State.fabricLate (s : State) : State :=
  if s.inStage 7 ∧ s.mod.recWait = .idle then
    let s := allPorts.foldl State.releaseUnready s
    (({ s with mod := { s.mod with code := 7 } }).event 0x0108 0 0).startRecords
  else s

def execS7Timeout (s : State) : Out := .next s.fabricLate

/-- An admin queue pair for which the image carries a connection: it stands in RESET with a configured address. -/
def Qp.carried (q : Qp) : Bool := q.st == 0 && q.raddr != [0, 0, 0, 0]

/-- S8: host ports configured, and the image's admin queue pairs to RTS. -/
def State.startHost (s : State) : State :=
  (((List.range 16).map fun a => 4096 + a).foldl (fun s k => if (s.qp k).carried then s.connect k else s) s.begin).settleStage

def execStageHost (s : State) : Out := .next (if s.enters 8 then s.startHost else s)

/-- S9: READY, event 0x0106; rings are scanned, and links ask again for their MIN channels. -/
def State.goReady (s : State) : State :=
  let m := s.begin.mod
  let s := { s with mod := { m with st := 2, times := SMap.put m.times 9 0, goBit := false },
                    host := { s.host with scanning := true } }
  let s := (s.event 0x0101 0 0).event 0x0106 0 0
  allPorts.foldl State.ensureMin s

def execStageReady (s : State) : Out := .next (if s.enters 9 then s.goReady else s)

/-! ### MOD_STAGE_GO and MOD_RESET (R344, R358, R361) -/

/-- MOD_STAGE_GO: it runs the next stage, or the halted one again; another stage is refused with ORDER. The record executor's
writes, and writes in AUTONOMOUS mode and after S9, are ignored. -/
def State.stageGo (s : State) (p : Path) (v : Word) : State :=
  let m := s.mod
  if !s.priv p ∨ p = .image ∨ m.mode = 0 ∨ m.st = 2 then s
  else
    let k : BitVec 4 := v.setWidth 4
    let s := { s with mod := { m with goRecs := v.getLsbD 8, goStage := k } }
    if !v.getLsbD 31 then s
    else if m.st = 1 then
      if k = m.stage + 1 then
        { s with mod := { s.mod with st := 0, stage := k, begun := false, since := s.up, code := 0, goBit := true } }
      else { s with mod := { s.mod with code := 6 } }
    else if m.st = 3 then
      if k = m.stage then
        let s := { s with mod := { s.mod with st := 0, since := s.up, code := 0, goBit := true } }
        if k = 2 ∧ s.gov.roleA ≠ 3 then s.startRecords else { s with mod := { s.mod with begun := false } }
      else { s with mod := { s.mod with code := 6 } }
    else s

def execModStageGo (p : Path) (v : Word) (s : State) : Out := .next (s.stageGo p v)

/-- MOD_RESET: GO with CONFIRM = 0xB007. -/
def State.modResetWrite (s : State) (p : Path) (v : Word) : State :=
  if s.priv p ∧ p ≠ .image ∧ s.mod.on ∧ v.getLsbD 31 ∧ bitsOf v 15 0 = 0xB007 then s.moduleReset 1 else s

def execModReset (p : Path) (v : Word) (s : State) : Out := .next (s.modResetWrite p v)

/-- The governor watchdog expires (R361, R408): a fatal event. -/
def execGovWatchdog (s : State) : Out := .next (if s.mod.on then s.fatal.moduleReset 2 else s)

/-! ### Tables (R352, R353) -/

/-- The number of a table in MOD_TABLES. -/
def TableNo.code : TableNo → Nat
  | .retouch => 1
  | .calibration => 2
  | .seeds => 3
  | .activation => 4

/-- A unit receives a table: sites the retouch map; trays calibration and seeds, clusters the activation tables, while they
are STARTING; seeds also after a RESEED. -/
def State.receives (s : State) (u : URef) (t : TableNo) : Bool :=
  match t, u with
  | .retouch, .site _ => s.unitsStarted
  | .calibration, .tray k => (s.tray k).ctl.st == .starting
  | .seeds, .tray k => (s.tray k).ctl.st == .starting || s.seedsOwed.contains k
  | .activation, .cluster c => (s.cluster c).ctl.st == .starting
  | _, _ => false

/-- A tray no longer owes the acknowledgement of its seeds. -/
def State.seedsDone (s : State) (u : Option URef) : State :=
  match u with
  | some (.tray k) => { s with seedsOwed := s.seedsOwed.filter (· != k) }
  | _ => s

/-- A unit whose table is still wrong after the third repair is left out: event 0x0B06. -/
def State.leaveOut (s : State) (u : URef) (a : UnitAddr) : State :=
  let s := s.seedsDone (some u)
  let s := ({ s with mod := { s.mod with leftOut := satAdd s.mod.leftOut 1 } }).event 0x0B06 1 a
  match u with
  | .site p => s.failSite (s.logSite p)
  | .tray t => (s.trayUnfit t).endResets
  | .cluster c => (s.clusterUnfit c).endResets
  | _ => s

/-- A wrong table, or no answer: repaired by unicast, up to three times. -/
def State.tableWrong (s : State) (a : UnitAddr) (t : TableNo) : State :=
  match s.resolve a with
  | none => s
  | some u =>
    if !s.receives u t then s
    else
      let key := 8 * a.toNat + TableNo.code t
      let n := SMap.get s.mod.tries key 0
      if 3 ≤ n then (({ s with mod := { s.mod with tries := SMap.del s.mod.tries key } }).leaveOut u a).settleStage
      else
        { s with mod := { s.mod with tries := SMap.put s.mod.tries key (n + 1), repairs := satAdd s.mod.repairs 1,
                                     table := BitVec.ofNat 8 (TableNo.code t) } }

/-- A returned CRC: a good one ends the repairs of the unit's table. -/
def State.tableCrc (s : State) (a : UnitAddr) (t : TableNo) (ok : Bool) : State :=
  if ok then
    let s := { s with mod := { s.mod with tries := SMap.del s.mod.tries (8 * a.toNat + TableNo.code t) } }
    if t = .seeds then s.seedsDone (s.resolve a) else s
  else s.tableWrong a t

def execTableCrcReturn (u : UnitAddr) (t : TableNo) (crcOk : Bool) (s : State) : Out := .next (s.tableCrc u t crcOk)
def execTableCrcTimeout (u : UnitAddr) (t : TableNo) (s : State) : Out := .next (s.tableWrong u t)

end Sys2Proof.Machine
end

