-- ==== Sys2Proof/Machine/Firmware.lean ====
section
/-! DEFINITION. Firmware, settings and attestation (15): downloads, activation, the hitless update, settings banks, the update
lock and attestation. The requests that carry a download or a key are in Mgmt. -/

set_option Elab.async false

namespace Sys2Proof.Machine

/-! ### Downloads (R374-R379) -/

/-- `n` bytes of a list that read 0. -/
def zeros (b : List Byte) (o n : Nat) : Bool := ((b.drop o).take n).all (· == 0)

/-- A stage record read from 16 bytes (R339). -/
def Rec.read (b : List Byte) (o : Nat) : Rec :=
  { op := b.getD o 0, stage := b.getD (o + 1) 0, timeoutMs := BitVec.ofNat 16 (atN b (o + 2) 2), addr := BitVec.ofNat 32 (atN b (o + 4) 4),
    value := BitVec.ofNat 32 (atN b (o + 8) 4), mask := BitVec.ofNat 32 (atN b (o + 12) 4) }

/-- The configuration image that bytes hold, where its records lie within it (R338). -/
def Image.read (b : List Byte) : Option Image :=
  let n := atN b 0x14 4
  let o := atN b 0x18 4
  let pl := atN b 0x20 4
  if 65536 < n ∨ b.length < o + 16 * n then none
  else some
    { magic := BitVec.ofNat 32 (atN b 0 4), format := BitVec.ofNat 16 (atN b 4 2), domain := BitVec.ofNat 16 (atN b 6 2),
      imageId := BitVec.ofNat 32 (atN b 8 4), size := BitVec.ofNat 32 (atN b 0xC 4), bootMode := b.getD 0x10 0, keyIdx := b.getD 0x11 0,
      variants := b.getD 0x12 0, records := (List.range n).map fun k => Rec.read b (o + 16 * k),
      plan := (b.drop (atN b 0x1C 4)).take pl,
      digest := BitVec.ofNat 384 (atN b 0x60 48), bytes := b.length }

/-- The slot that a download of a kind goes to: the one that is not ACTIVE (R379). -/
def State.dlSlot (s : State) (config : Bool) : BitVec 2 := if config then s.otherCfg else s.fw.otherFw

/-- The first four bytes are those of an H4 image (R377; the magic is not given, log entry 12). -/
def isH4 (b : List Byte) : Bool := atN b 0 4 == Config.h4Magic.toNat && atN b 0 4 != 0x00015746

/-- MiB that bytes take up. -/
def mibs (n : Nat) : Nat := (n + 1048575) / 1048576

/-- The body bytes that a stored header announces; `size` is the length of the transfer, for an H4 image. -/
def bodySize (config : Bool) (hdr : List Byte) (size : Nat) : Nat :=
  if isH4 hdr && !config then size
  else if config then atN hdr 0xC 4 - 256 else atN hdr 0x1C 4

/-- The length of the header, with the block table of a native image. -/
def headSize (config : Bool) (b : List Byte) : Nat :=
  if config then 256 else if isH4 b then 4 else 256 + 48 * atN b 0x1A 2

/-- The signature of a native image verifies under the release key that it names, whose revoke fuse stands, and TABLE_DIGEST is that of
its block table (R374-R376). -/
def State.released (s : State) (b : List Byte) : Bool :=
  match s.fuse.release[atN b 6 1]? with
  | some key =>
    !s.fuse.revoked.getLsbD (atN b 6 1) && sigOk key (keyOf ((b.drop 0xA0).take 96)) (b.take 0xA0) &&
      sha384 (b.drop 256) == (b.drop 0x60).take 48
  | none => false

/-- Why a header is refused (R376; a configuration image by R342), or 0. -/
def State.headFault (s : State) (config : Bool) (b : List Byte) : Code :=
  let runs (v : Byte) : Bool := v.getLsbD s.fuse.variant.toNat
  if config then
    if atN b 0 4 ≠ 0x00014349 ∨ atN b 4 2 ≠ 1 ∨ atN b 0xC 4 < 256 ∨ 67108864 < atN b 0xC 4 ∨ !zeros b 0x13 1 ∨ !zeros b 0x24 60 ∨
      !zeros b 0x90 16 then 0x0704
    else if !s.signed (atN b 0x11 1) (keyOf ((b.drop 0xA0).take 96)) (b.take 0xA0) then 0x0705
    else if !runs (b.getD 0x12 0) then 0x0707
    else 0
  else if isH4 b then 0
  else
    let n := atN b 0x1A 2
    let size := atN b 0x1C 4
    if atN b 0 4 ≠ 0x00015746 ∨ atN b 4 2 ≠ 1 ∨ 8 ≤ atN b 7 1 ∨ 2 ≤ atN b 0xE 2 ∨ !zeros b 0x20 64 ∨ !zeros b 0x90 16 ∨ n = 0 ∨
      256 < n ∨ 268435456 < size ∨ n ≠ mibs size then 0x0704
    else if 1 < atN b 6 1 ∨ !s.released b then 0x0705
    else if atN b 0xC 2 < s.fw.minSvn.toNat then 0x0706
    else if !runs (b.getD 7 0) then 0x0707
    else 0

/-- The slot with a header taken: a header that equals the stored one resumes the download, any other restarts the slot. -/
def FwSlot.withHeader (x : FwSlot) (config : Bool) (b : List Byte) (size : Nat) (f : Nat) : FwSlot :=
  if x.next ≠ 0xFFFF ∧ x.header = b ∧ !x.h4 then x
  else if isH4 b && !config then
    { st := 1, h4 := true, header := b, next := 0, blocks := BitVec.ofNat 16 (mibs size),
      svn := (Config.word f).setWidth 16, version := Config.word (f + 1), schemaWrite := 1, schemaReadMin := 1, schemaConvMin := 1 }
  else if config then
    { st := 1, header := b, next := 0, blocks := BitVec.ofNat 16 (mibs (bodySize true b size)), version := BitVec.ofNat 32 (atN b 8 4) }
  else
    { st := 1, header := b, next := 0, blocks := BitVec.ofNat 16 (atN b 0x1A 2), hitless := (b.getD 0xE 0).getLsbD 0,
      svn := BitVec.ofNat 16 (atN b 0xC 2), version := BitVec.ofNat 32 (atN b 8 4), stateFrom := BitVec.ofNat 32 (atN b 0x10 4),
      schemaWrite := BitVec.ofNat 16 (atN b 0x14 2), schemaReadMin := BitVec.ofNat 16 (atN b 0x16 2),
      schemaConvMin := BitVec.ofNat 16 (atN b 0x18 2) }

/-- The slot with its next block taken. -/
def FwSlot.withBlock (x : FwSlot) (b : List Byte) : FwSlot := { x with next := x.next + 1, buf := x.buf ++ b }

/-- A slot whose last block has arrived: verified by read-back, or kept unchecked where it is an H4 image. -/
def State.received (s : State) (n : BitVec 2) : State :=
  let x := s.fw.slot n
  if x.h4 then { s with fw := { (s.fw.setSlot n { x with st := 5 }) with phase := 0 } }
  else if s.fw.op = .idle then
    { s with fw := { (s.fw.setSlot n { x with st := 3 }) with op := .verify n, phase := 2 } }
  else { s with fw := s.fw.setSlot n { x with st := 2 } }

/-- The bytes of the unit of a download that comes next: the header, or a block. -/
def unitSize (config : Bool) (x : FwSlot) (t : HXfer) : Nat :=
  if t.next = t.data.length then (if t.data.length < 256 then (if isH4 t.data && !config then 4 else 256) else headSize config t.data)
  else min 1048576 (bodySize config x.header (t.size - 4) - 1048576 * x.next.toNat)

/-- The digest of the block `b` that comes next: of a native image its entry of the block table; of a configuration image that of the
whole body, with its last block. -/
def FwSlot.blockOk (x : FwSlot) (config : Bool) (b : List Byte) : Bool :=
  if x.h4 then true
  else if config then
    x.next.toNat + 1 != x.blocks.toNat || sha384 (x.buf ++ b) == (x.header.drop 0x60).take 48
  else sha384 b == (x.header.drop (256 + 48 * x.next.toNat)).take 48

/-- The units that have arrived are judged in turn (R376, R379, R400). What a refused header or block brought counts as not
taken. The digest of a configuration image covers its whole body, and its last block completes it. -/
def State.takeUnits (s : State) (t : HXfer) : Nat → State × HXfer × Code
  | 0 => (s, t, 0)
  | k + 1 =>
    let config := t.kind == 2
    let n := s.dlSlot config
    let x := s.fw.slot n
    let len := unitSize config x t
    if x.st ≠ 1 ∨ t.data.length < len ∨ (t.next ≠ t.data.length ∧ x.blocks.toNat ≤ x.next.toNat) then (s, t, 0)
    else
      let b := t.data.take len
      let t' := { t with data := t.data.drop len }
      let back : HXfer := { t with data := [], next := t.next - t.data.length }
      if t.next = t.data.length then
        let c := s.headFault config b
        if c ≠ 0 then (s.event 0x0402 1 0, back, c)
        else
          let x' := x.withHeader config b (t.size - 4) s.fv
          let s := ({ s with fw := s.fw.setSlot n x' }).draw.draw
          (if x'.blocks.toNat ≤ x'.next.toNat then s.received n else s).takeUnits t' k
      else
        let last := x.next.toNat + 1 = x.blocks.toNat
        if !x.blockOk config b then (s, back, 0x070D)
        else
          let s := { s with fw := s.fw.setSlot n (x.withBlock b) }
          (if last then s.received n else s).takeUnits t' k

/-- A verification ends: the blocks read back from flash as they were written, or not. -/
def State.slotVerified (s : State) (n : BitVec 2) (ok : Bool) : State :=
  let x := s.fw.slot n
  if x.st ≠ 3 ∧ x.st ≠ 2 then s
  else
    let img := if 2 ≤ n.toNat then Image.read (x.header ++ x.buf) else none
    let good := ok && (decide (n.toNat < 2) || img.isSome)
    let f := s.fw.setSlot n { x with st := if good then 4 else 7, image := img }
    let s := { s with fw := if f.op = .verify n then { f with op := .idle, phase := 0 } else f }
    if good then s.event 0x0401 1 0 else s

def execSlotVerifyDone (slot : BitVec 2) (ok : Bool) (s : State) : Out := .next (s.slotVerified slot ok)

/-! ### Results and refusals (R380, R381) -/

/-- FW_RESULT.STATUS of an operation. -/
def State.fwResult (s : State) (c : Code) : State := { s with fw := { s.fw with status := c } }

/-- An operation refused: its code, and event 0x0407. -/
def State.fwRefuse (s : State) (c : Code) : State := (s.fwResult c).event 0x0407 1 0

/-- The conditions of R380, in the order of its table, or 0. -/
def State.updFault (s : State) : Code :=
  if s.updMoving then 0x0701 else if s.updHoldup then 0x0702 else if s.updLocked then 0x0703 else 0

/-- An FW_DL or FW_CTL operation: OP is stored, and done or refused with the first code that is not 0. -/
def State.fwOp (s : State) (p : Path) (a : Nat) (v : Word) (faults : State → List Code) (f : State → State) : State :=
  if !s.priv p then s
  else
    let s := s.setPol a v
    match (faults s).find? (· ≠ 0) with
    | some c => s.fwRefuse c
    | none => f (s.fwResult 0)

/-- The codes of a busy unit, and of a condition that does not hold. -/
def State.busyFault (s : State) : Code := if s.fw.op = .idle then 0 else 0x070E
def needs (b : Bool) (c : Code) : Code := if b then 0 else c

/-- The slot of a kind is the rollback target (R382). -/
def State.rollTarget (s : State) (config : Bool) : Bool := !config && s.fw.sel.trial

/-- OPEN: a RECEIVING slot goes on at NEXT; any other starts again. -/
def State.openSlot (s : State) (config : Bool) : State :=
  let n := s.dlSlot config
  let x := s.fw.slot n
  let f := s.fw.setSlot n (if x.st = 1 then x else { st := 1 })
  { s with fw := { f with target := n, phase := if f.phase = 0 then 1 else f.phase } }

def execFwOpen (p : Path) (config : Bool) (s : State) : Out :=
  .next (s.fwOp p 0x800028 (if config then 5 else 1)
    (fun s => [needs ((s.fw.slot (s.dlSlot config)).st != 3) 0x0708, s.busyFault, s.updFault, needs (!s.rollTarget config) 0x0708])
    fun s => s.openSlot config)

/-- ERASE: the slot is EMPTY. -/
def State.eraseSlot (s : State) (config : Bool) : State := { s with fw := s.fw.setSlot (s.dlSlot config) {} }

def execFwErase (p : Path) (config : Bool) (s : State) : Out :=
  .next (s.fwOp p 0x800028 (if config then 6 else 2)
    (fun s => [needs ((s.fw.slot (s.dlSlot config)).st != 3) 0x0708, s.busyFault, needs (!s.rollTarget config) 0x0708])
    fun s => s.eraseSlot config)

/-! ### Activation (R381, R384) -/

/-- The other firmware slot. -/
def State.newImage (s : State) : FwSlot := s.fw.slot s.fw.otherFw

/-- The header points to the other firmware slot, on trial; event 0x0403. -/
def State.onTrial (s : State) : State :=
  ({ s with fw := s.fw.rewrite { s.fw.sel with fwB := !s.fw.runB, trial := true, tries := 3 } }).event 0x0403 1 0

/-- ACTIVATE_RESET. -/
def execActivateReset (p : Path) (s : State) : Out :=
  .next (s.fwOp p 0x800030 2
    (fun s => [s.busyFault, s.updFault, needs ((s.newImage.st == 4 || s.newImage.st == 5) && !s.fw.sel.trial) 0x0708])
    fun s => s.onTrial.moduleReset 3)

/-- SELECT_CONFIG. -/
def execSelectConfig (p : Path) (s : State) : Out :=
  .next (s.fwOp p 0x800030 3 (fun s => [s.busyFault, s.updFault, needs ((s.fw.slot s.otherCfg).st == 4) 0x0708])
    fun s => { s with fw := s.fw.rewrite { s.fw.sel with cfgB := !s.fw.sel.cfgB } })

/-- CONFIRM. -/
def execConfirm (p : Path) (s : State) : Out :=
  .next (s.fwOp p 0x800030 4 (fun s => [s.busyFault, needs s.fw.sel.trial 0x0708])
    fun s => ({ s with fw := s.fw.rewrite { s.fw.sel with trial := false, tries := 0 } }).event 0x0404 1 0)

/-- ROLLBACK. -/
def execRollback (p : Path) (s : State) : Out :=
  .next (s.fwOp p 0x800030 5 (fun s => [s.busyFault, needs s.fw.sel.trial 0x0708])
    fun s => (({ s with fw := s.fw.rolledBack }).event 0x0405 1 0).moduleReset 3)

/-- The STANDBY governor leaves lockstep and boots the new image (R384, step 2). -/
def State.standbyBoots (s : State) : State :=
  { s with gov := { s.gov with roleA := if s.gov.roleA = 1 then 3 else s.gov.roleA, roleB := if s.gov.roleB = 1 then 3 else s.gov.roleB,
                               simplex := true } }

/-- ACTIVATE_HITLESS: steps 1 and 2. -/
def State.startHitless (s : State) : State :=
  let s := s.onTrial.standbyBoots
  { s with fw := { s.fw with op := .hitless, phase := 3, hstep := 3 } }

def execActivateHitless (p : Path) (s : State) : Out :=
  .next (s.fwOp p 0x800030 1
    (fun s => [s.busyFault, s.updFault, needs (s.newImage.st == 4 && !s.fw.sel.trial) 0x0708,
      needs (s.newImage.hitless && decide (s.newImage.stateFrom.toNat ≤ s.fw.runVersion.toNat)) 0x0709])
    fun s => s.startHitless)

/-- Steps 4 and 5: the new image is ACTIVE, and the other governor boots it. -/
def State.hitlessSwap (s : State) : State :=
  let x := s.newImage
  { s with
    gov := { s.gov with roleA := if s.gov.roleA = 3 then 0 else if s.gov.roleA = 0 then 3 else s.gov.roleA,
                        roleB := if s.gov.roleB = 3 then 0 else if s.gov.roleB = 0 then 3 else s.gov.roleB,
                        swaps := satAdd s.gov.swaps 1 },
    fw := { s.fw with hstep := 5, runB := !s.fw.runB, runVersion := x.version, runSvn := x.svn } }

/-- The units of a site held for the restart of its controller, or released after it. -/
def State.siteUpd (s : State) (i : Nat) (on : Bool) : State :=
  (s.traysOfSite (s.fuse.sites.getD i 0)).foldl (fun s t =>
    let s := s.modTray t fun x => settleTray { x with ctl := { x.ctl with upd := on } }
    let s := (s.clustersOfTray t).foldl (fun s c => s.modCluster c fun x => { x with ctl := { x.ctl with upd := on } }) s
    s.settleClusters (s.clustersOfTray t)) s

/-- The next site that has a controller, from `i` on. -/
def State.siteFrom (s : State) (i : Nat) : Option Nat := (List.range s.siteCount).find? fun k => decide (i ≤ k) && !(s.site k).failed

/-- The update goes on with the next site, or has ended (step 7). It waits under R380 with `hstep` at 7; 8 is a site held. -/
def State.hitlessSite (s : State) (i : Nat) : State :=
  match s.siteFrom i with
  | none => { s with fw := { s.fw with op := .idle, phase := 0, hstep := 0, site := 0 } }
  | some k =>
    let s := { s with fw := { s.fw with phase := 4, site := BitVec.ofNat 4 k, hstep := 7 } }
    if s.updFault ≠ 0 then s else { (s.siteUpd k true) with fw := { s.fw with hstep := 8 } }

/-- Step 6: the second governor resynchronises, lockstep returns and event 0x0408 is recorded; step 7 follows. -/
def State.hitlessJoined (s : State) : State :=
  (({ s with gov := { s.gov with roleA := if s.gov.roleA = 3 then 1 else s.gov.roleA, roleB := if s.gov.roleB = 3 then 1 else s.gov.roleB,
                                 simplex := false } }).event 0x0408 1 0).hitlessSite 0

/-- A governor has booted the new image. A step that meets a condition of R380 waits. -/
def State.hitlessBooted (s : State) : State :=
  if s.fw.op ≠ .hitless ∨ s.updFault ≠ 0 ∨ (s.gov.roleA ≠ 3 ∧ s.gov.roleB ≠ 3) then s
  else if s.fw.hstep = 3 then s.hitlessSwap
  else if s.fw.hstep = 5 then s.hitlessJoined
  else s

def execHitlessGovernorBooted (s : State) : Out := .next s.hitlessBooted

/-- A site controller has restarted from the new image: its units leave HELD, and the next site's step follows. -/
def State.hitlessRestarted (s : State) : State :=
  if s.fw.op ≠ .hitless then s
  else if s.fw.hstep = 7 then s.hitlessSite s.fw.site.toNat
  else if s.fw.hstep = 8 then (s.siteUpd s.fw.site.toNat false).hitlessSite (s.fw.site.toNat + 1)
  else s

def execHitlessSiteRestarted (s : State) : Out := .next s.hitlessRestarted

/-! ### Settings (R385-R388) -/

/-- The stored registers whose fields a SAVE writes (log entry 13). -/
def savedRegs : List Nat :=
  [0x000020, 0x00002C, 0x200010, 0x301000, 0x400008, 0x600004, 0x600008, 0x60000C, 0x601004, 0x601104, 0x700004, 0x700008, 0x900004,
   0x900018, 0xA00004, 0xA00008, 0xA0000C, 0xA00010, 0xA00014, 0xA00018, 0xA0001C, 0xA00020, 0xB00004, 0xB00010] ++
  ([0x601020, 0x601120, 0xB00020, 0xB00030].flatMap fun a => (List.range 4).map fun i => a + 4 * i)

/-- The current values of the saved fields, as MODIFY records of stage 2. -/
def State.savedEntries (s : State) : List Rec := savedRegs.map fun a =>
  { op := 2, stage := 2, timeoutMs := 0, addr := BitVec.ofNat 32 a, value := s.regNow .image a, mask := 0xFFFFFFFF }

/-- The schema that the running firmware writes. -/
def FwSt.schema (f : FwSt) : BitVec 16 := if (f.slot f.activeFw).h4 then 1 else (f.slot f.activeFw).schemaWrite

/-- A bank written: B or A. -/
def FwSt.setBank (f : FwSt) (b : Bool) (v : Bank) : FwSt := if b then { f with bankB := v } else { f with bankA := v }

/-- SAVE: the bank not in use is written (bank A where none is in use). -/
def State.saveBank (s : State) : State :=
  let f := s.fw
  let seq : Word := match f.bank with | some b => b.seq + 1 | none => 1
  { s with fw := f.setBank (f.useB == some false) { ok := true, schema := f.schema, seq := seq, entries := s.savedEntries } }

def execSave (p : Path) (s : State) : Out :=
  .next (s.fwOp p 0x800030 6 (fun s => [s.busyFault, needs (!s.saveLocked) 0x070A]) State.saveBank)

/-- The foreign bank is bank B. -/
def FwSt.foreignB (f : FwSt) : Bool :=
  if f.bankA.ok && f.bankB.ok then decide (f.bankA.seq.toNat < f.bankB.seq.toNat) else f.bankB.ok

/-- An adoption: the other bank is written with SEQ raised by one; FOREIGN clears, and event 0x0413 is recorded. -/
def State.adoptBank (s : State) (old : Bank) (entries : List Rec) : State :=
  let f := s.fw
  let f := f.setBank (!f.foreignB) { ok := true, schema := f.schema, seq := old.seq + 1, entries := entries }
  ({ s with fw := { f with foreign := false } }).event 0x0413 1 0

/-- An entry translated into another schema: what it holds there is open (log entry 13). -/
def Rec.translated (r : Rec) (f i : Nat) : Rec := { r with value := Config.word (f + i) }

/-- CONVERT and EMPTY, accepted while FOREIGN, and CONVERT within the schemas that the firmware converts. -/
def State.adoptWrite (s : State) (p : Path) (empty : Bool) : State :=
  if !s.priv p then s
  else
    let s := s.setPol 0x80003C (if empty then 2 else 1)
    let f := s.fw
    let x := f.slot f.activeFw
    match if f.foreign then f.foreignBank else none with
    | none => s.fwResult 0x070B
    | some b =>
      if empty then (s.fwResult 0).adoptBank b []
      else if x.schemaConvMin.toNat ≤ b.schema.toNat ∧ b.schema.toNat ≤ f.schema.toNat ∧ !x.h4 then
        { ((s.fwResult 0).adoptBank b (b.entries.zipIdx.map fun e => e.1.translated s.fv e.2)) with fv := s.fv + b.entries.length }
      else s.fwResult 0x070B

def execSettingsConvert (p : Path) (s : State) : Out := .next (s.adoptWrite p false)
def execSettingsEmpty (p : Path) (s : State) : Out := .next (s.adoptWrite p true)

/-! ### The lock (R394) -/

/-- FW_LOCK: OWNER_LOCK, and MIN_SVN where it rises. -/
def State.lockWrite (s : State) (p : Path) (v : Word) : State :=
  let f := s.fw
  let f' := { f with ownerLock := v.getLsbD 31, minSvn := if f.minSvn.toNat < bitsOf v 15 0 then v.setWidth 16 else f.minSvn }
  if !s.priv p then s
  else if f'.ownerLock = f.ownerLock ∧ f'.minSvn = f.minSvn then s
  else ({ s with fw := f' }).event 0x040A 4 0

def execFwLockWrite (p : Path) (v : Word) (s : State) : Out := .next (s.lockWrite p v)

/-! ### Attestation (R391) -/

def execFwAttest (p : Path) (s : State) : Out :=
  .next (if s.priv p then { s with fw := { s.fw with reporting := true } } else s)

/-- 48 bytes of a digest over what the spec lays out only in part, or of a signature (log entry 12). -/
def freeDigest (f i : Nat) : List Byte := leBytes 48 (Config.wide (f + i)).toNat

/-- The digest of an image: of its header and block table, or of the whole of an H4 image; free where no image was downloaded. -/
def FwSlot.digest (x : FwSlot) (f i : Nat) : List Byte :=
  if x.header = [] then freeDigest f i else sha384 (if x.h4 then x.header ++ x.buf else x.header)

/-- The bytes of a stage record (R339), and of a settings bank with a CRC (R385). What its CRC covers of itself is not stated, so the CRC
is open (log entry 12). -/
def Rec.bytes (r : Rec) : List Byte :=
  [r.op, r.stage] ++ leBytes 2 r.timeoutMs.toNat ++ leBytes 4 r.addr.toNat ++ leBytes 4 r.value.toNat ++ leBytes 4 r.mask.toNat
def Bank.bytes (b : Bank) (crc : Word) : List Byte :=
  leBytes 4 0x00015453 ++ leBytes 2 b.schema.toNat ++ leBytes 2 b.entries.length ++ leBytes 4 b.seq.toNat ++ leBytes 4 crc.toNat ++
    leBytes 48 0 ++ b.entries.flatMap Rec.bytes

/-- The digest over the four owner key slots; free where one is empty. -/
def FwSt.keysDigest (x : FwSt) (f i : Nat) : List Byte :=
  if x.keys.length = 4 then sha384 (x.keys.flatMap fun e => keyBytes e.2) else freeDigest f i

/-- The 608 bytes of the report. -/
def State.reportBytes (s : State) : List Byte :=
  let f := s.fw
  let n := s.fv
  let img := s.mod.image
  let pl := s.activePlan
  let flags := packW [(3, nb (f.keys = [])), (2, nb f.ownerLock), (1, nb f.foreign), (0, nb f.sel.trial)]
  leBytes 4 0x00015441 ++ leBytes 2 1 ++ leBytes 2 608 ++
    ((List.range 8).flatMap fun i => leBytes 4 (s.pol (0x800050 + 4 * i)).toNat) ++ leBytes 16 s.fuse.serial.toNat ++
    leBytes 1 s.fuse.variant.toNat ++ leBytes 1 s.fuse.stepping.toNat ++ leBytes 1 s.mod.mode.toNat ++ leBytes 1 flags.toNat ++
    leBytes 4 f.boots.toNat ++ DevTime.bytes s.now ++ leBytes 6 0 ++
    leBytes 4 f.runVersion.toNat ++ leBytes 2 f.runSvn.toNat ++ leBytes 2 f.minSvn.toNat ++ leBytes 8 0 ++
    (f.slot f.activeFw).digest n 0 ++ leBytes 48 ((img.map fun i => i.digest.toNat).getD 0) ++ leBytes 4 ((img.map fun i => i.imageId.toNat).getD 0) ++
    leBytes 4 ((pl.map fun p => p.planId.toNat).getD 0) ++ leBytes 48 ((pl.map fun p => p.digest.toNat).getD 0) ++
    ((f.bank.map fun b => sha384 (b.bytes (Config.word (n + 1)))).getD (leBytes 48 0)) ++ f.keysDigest n 2 ++
    sha384 (f.packs.flatMap fun p => leBytes 48 p.toNat) ++
    (if s.newImage.st = 0 then leBytes 48 0 else s.newImage.digest n 4) ++ leBytes 72 0 ++ freeDigest n 5 ++ freeDigest n 6

/-- The report is in FW_REPORT. -/
def State.reported (s : State) : State :=
  if s.fw.reporting then
    let f := s.fw
    let s := { s with fw := { f with report := s.reportBytes, reporting := false, valid := true, reports := satAdd f.reports 1 },
                      fv := s.fv + 7 }
    s.event 0x040B 1 0
  else s

def execAttestReportDone (s : State) : Out := .next s.reported

end Sys2Proof.Machine
end

