-- ==== Sys2Proof/Machine/Time.lean ====
section
/-! DEFINITION. The time base (14): PTP, the servo, steps, the transmit stamps, the time triggers and markers (R362-R371). -/

set_option Elab.async false

namespace Sys2Proof.Machine

/-! ### Steps and triggers (R366, R368, R369) -/

/-- The governors run. -/
def State.governed (s : State) : Bool := s.gov.roleA != 3 || s.gov.roleB != 3

/-- PTP is on. -/
def State.ptpOn (s : State) : Bool := s.governed && (s.pol 0x200010).getLsbD 31

/-- The time of a trigger. -/
def Trigger.time (t : Trigger) : Nat := t.s.toNat * 1000000000 + t.ns.toNat

/-- A trigger belongs to steering: a switch is pending and STEER_CFG.TT names it, or steering has armed it (R368). -/
def State.steerHolds (s : State) (n : Nat) : Bool := (s.swPending && n == s.steerTT) || (s.trigger n).steer

/-- A trigger fires: a one-shot trigger is FIRED; FIRES counts, and MISSED the periods skipped. -/
def State.firedTrigger (s : State) (n missed : Nat) : State :=
  let t := s.trigger n
  s.setTrigger n { t with st := if t.periodic then 1 else 2, fires := satAdd t.fires 1, missed := satAdd t.missed missed }

/-- ACTION STRIP: a priority-5 request on every READY tray. -/
def State.stripReady (s : State) : State :=
  s.allTrays.foldl (fun s t => if (s.tray t).ctl.st = .ready then s.askStrip t 5 else s) s

/-- The transmit stamp of this module's last marker, if the queue holds it. -/
def State.lastStamp (s : State) : Option DevTime :=
  if s.time.markNo = 0 then none
  else (s.time.txq.find? fun e => e.1 && e.2.1 == (s.time.markNo - 1).setWidth 16).map fun e => e.2.2

/-- The payload of a TIME_MARKER frame (R370). -/
def markerBytes (m : Marker) : List Byte :=
  leBytes 4 m.mark.toNat ++ [m.tt, 0, 0, 0] ++ DevTime.bytes m.prev ++ leBytes 6 0

/-- ACTION MARKER: a TIME_MARKER frame to DST; the stamps of earlier markers leave the queue. -/
def State.sendMarker (s : State) (n : Nat) : State :=
  let m : Marker := { mark := s.time.markNo, tt := BitVec.ofNat 8 n, prev := s.lastStamp.getD ⟨0, 0⟩ }
  let s := { s with time := { s.time with
    markNo := s.time.markNo + 1, txq := s.time.txq.filter fun (e : Bool × BitVec 16 × DevTime) => !e.1 } }
  s.slSend 0x20 (s.trigger n).dst (markerBytes m)

/-- What a trigger does when it fires. -/
def State.triggerAction (s : State) (n : Nat) : State :=
  let a := (s.trigger n).action
  if a = 2 then s.stripReady
  else if a = 3 then s.event 0x0308 4 0
  else if a = 4 then s.sendMarker n
  else s

/-- An armed trigger of an action reaches its time, or one of its periods. -/
def State.triggerDue (s : State) (n : Nat) (action : BitVec 4) : State :=
  let t := s.trigger n
  if t.st = 1 ∧ t.action = action ∧ !t.steer then (s.firedTrigger n 0).triggerAction n else s

def execTriggerStrip (n : BitVec 3) (s : State) : Out := .next (s.triggerDue n.toNat 2)
def execTriggerSnapshot (n : BitVec 3) (s : State) : Out := .next (s.triggerDue n.toNat 3)
def execTriggerMarker (n : BitVec 3) (s : State) : Out := .next (s.triggerDue n.toNat 4)
def execTriggerActionNone (n : BitVec 3) (s : State) : Out := .next (s.triggerDue n.toNat 0)

/-- The firing times of a trigger that lie after one time and not after another. -/
def Trigger.passed (t : Trigger) (old new : Nat) : Nat :=
  if t.periodic then
    let p := 1000 * t.period.toNat
    let upTo (x : Nat) : Nat := if x < t.time then 0 else (x - t.time) / p + 1
    upTo new - upTo old
  else if old < t.time ∧ t.time ≤ new then 1 else 0

/-- A step of device time: event 0x0303, and triggers that a forward step passes fire once each, in ascending order (R369). -/
def State.stepTo (s : State) (t : DevTime) : State :=
  let old := DevTime.toNs s.now
  let s := { s with time := { s.time with now := t, frac := 0, set := true, refused := false, slewing := false, raws := [], big := 0,
                                          good := 0 } }
  let s := s.event 0x0303 0 0
  (List.range 8).foldl (fun s n =>
    let x := s.trigger n
    let k := x.passed old (DevTime.toNs t)
    if x.st = 1 ∧ !x.steer ∧ k ≠ 0 then (s.firedTrigger n (k - 1)).triggerAction n else s) s

/-- TIME_SET as a device time. -/
def State.timeSetting (s : State) : DevTime := ⟨s.time.setS, s.time.setNs.setWidth 32⟩

/-- TIME_CTL.SET and FORCE_STEP: held while a switch is pending. -/
def State.setTime (s : State) : State :=
  if s.swPending then { s with time := { s.time with heldSet := true } } else s.stepTo s.timeSetting
def State.forceNext (s : State) : State :=
  if s.swPending then { s with time := { s.time with heldForce := true } } else { s with time := { s.time with forceArm := true } }

def execForceStep (p : Path) (s : State) : Out := .next (if s.priv p then s.forceNext else s)
def execTimeSet (p : Path) (s : State) : Out := .next (if s.priv p then s.setTime else s)

/-- Held steps are applied when the switch ends. -/
def State.applyHeld (s : State) : State :=
  if s.swPending then s
  else
    let f := s.time.heldForce
    let g := s.time.heldSet
    let s := { s with time := { s.time with heldForce := false, heldSet := false, forceArm := s.time.forceArm || f } }
    if g then s.stepTo s.timeSetting else s

def execHeldStepApply (s : State) : Out := .next s.applyHeld

/-- ARM of a trigger: a one-shot whose time is past goes to LATE, event 0x0307. -/
def State.armed (s : State) (n : Nat) : State :=
  let t := s.trigger n
  if s.steerHolds n then s
  else if !t.periodic ∧ t.time < DevTime.toNs s.now then
    (s.setTrigger n { t with st := 3, fires := 0, missed := 0 }).event 0x0307 4 0
  else s.setTrigger n { t with st := 1, fires := 0, missed := 0 }

/-- CANCEL of a trigger. -/
def State.cancelled (s : State) (n : Nat) : State := if s.steerHolds n then s else s.setTrigger n { s.trigger n with st := 0 }

def execTtArm (p : Path) (n : BitVec 3) (s : State) : Out := .next (if s.priv p then s.armed n.toNat else s)
def execTtCancel (p : Path) (n : BitVec 3) (s : State) : Out := .next (if s.priv p then s.cancelled n.toNat else s)

/-! ### The servo (R365, R366) -/

/-- The median of raw offsets; of an even number, the mean of the middle two, whose half nanosecond goes either way. -/
def medianOf (f : Nat) (l : List Int) : Int :=
  let s := l.mergeSort fun a b => decide (a ≤ b)
  let n := s.length
  if n % 2 = 1 then s.getD (n / 2) 0
  else
    let x := s.getD (n / 2 - 1) 0 + s.getD (n / 2) 0
    x / 2 + (if x % 2 = 0 then 0 else (Config.choice f % 2 : Nat))

/-- The mean path delay of the last 16 exchanges, 0 before the first (R365). -/
def TimeSt.delay (t : TimeSt) : Int := if t.delays = [] then 0 else (t.delays.foldl (· + ·) 0) / (t.delays.length : Int)

/-- TIME_CFG.STEP_MAX in ns. -/
def State.stepMax (s : State) : Int := 1000 * (s.polF 0x200010 15 0 : Nat)

/-- A rate correction within 100 ppm; how the servo chooses it is not stated (R366). -/
def servoFreq (f : Nat) : Int := (Config.choice f % 200001 : Nat) - 100000

/-- The clock state after a filtered offset (R365). -/
def State.lockState (s : State) (f : Int) : State :=
  let t := s.time
  if t.st = 1 then
    let good := if f.natAbs ≤ 10000 then t.good + 1 else 0
    if 8 ≤ good then ({ s with time := { t with st := 2, good := 0 } }).event 0x0301 0 0 else { s with time := { t with good := good } }
  else if t.st = 2 ∧ 50000 < f.natAbs then { s with time := { t with st := 1, good := 0 } }
  else s

/-- The servo slews, or refuses the correction where the offset has passed STEP_MAX on four Syncs in succession. -/
def State.correct (s : State) (f : Int) : State :=
  let past := decide (s.stepMax < f.natAbs)
  let big := if past then s.time.big + 1 else 0
  let was := s.time.refused
  let refused := if past then was || decide (4 ≤ big) else false
  let s := { s with time := { s.time with big := big, refused := refused } }
  let s := if refused then { s with time := { s.time with slewing := false } }
    else ({ s with time := { s.time with slewing := decide (f ≠ 0), freq := servoFreq s.fv } }).draw
  if refused && !was then s.event 0x0302 0 0 else s

/-- A raw offset: the filtered offset steps the clock the first time, or where a step is forced, and is slewed otherwise. A forced step
that meets a pending switch is held (R366). -/
def State.rawOffset (s : State) (raw : Int) : State :=
  let raws := (raw :: s.time.raws).take 5
  let s := { s with time := { s.time with raws := raws } }
  if raws.length < 3 then s
  else
    let f := medianOf s.fv raws
    let s := ({ s with time := { s.time with offset := f } }).draw
    let s := if s.time.forceArm && s.swPending then { s with time := { s.time with forceArm := false, heldForce := true } } else s
    if !s.time.set || s.time.forceArm then
      ({ s with time := { s.time with forceArm := false } }).stepTo (DevTime.shift s.now (-f))
    else (s.correct f).lockState f

/-- A Sync that the servo takes: its receive stamp and its origin time. -/
def State.syncTaken (s : State) (rx origin : DevTime) : State :=
  let s := { s with time := { s.time with lastSync := some (rx, origin), sync := none } }
  s.rawOffset ((DevTime.toNs rx : Int) - DevTime.toNs origin - s.time.delay)

/-- The message comes from the selected master. -/
def State.fromMaster (s : State) (clock : BitVec 64) : Bool := s.ptpOn && (match s.time.master with
  | some m => m.clock == clock
  | none => false)

/-- A Sync; one of a two-step master waits for its Follow_Up. -/
def execPtpSync (clock : BitVec 64) (seq : BitVec 16) (rx origin : DevTime) (twoStep : Bool) (s : State) : Out :=
  .next (if !s.fromMaster clock then s
    else if twoStep then { s with time := { s.time with sync := some (seq, rx) } }
    else s.syncTaken rx origin)

def execPtpFollowUp (clock : BitVec 64) (seq : BitVec 16) (origin : DevTime) (s : State) : Out :=
  .next (match s.time.sync with
    | some (q, rx) => if s.fromMaster clock ∧ q = seq then s.syncTaken rx origin else s
    | none => s)

/-! ### Masters (R364, R365) -/

/-- One dataset is better than another: the comparison of the standard. -/
def PtpMaster.key (m : PtpMaster) : List Nat :=
  [m.priority1.toNat, m.clockClass.toNat, m.accuracy.toNat, m.variance.toNat, m.priority2.toNat, m.clock.toNat, m.steps.toNat,
    m.port.toNat]
def lexLt : List Nat → List Nat → Bool
  | a :: r, b :: q => decide (a < b) || (a == b && lexLt r q)
  | _, _ => false

/-- The best of the masters heard. -/
def bestMaster (l : List PtpMaster) : Option PtpMaster :=
  l.foldl (fun (b : Option PtpMaster) m => match b with
    | some x => if lexLt (PtpMaster.key m) (PtpMaster.key x) then some m else some x
    | none => some m) none

/-- The same port of the same clock. -/
def sameMaster (a b : PtpMaster) : Bool := a.clock == b.clock && a.port == b.port

/-- A master selected: filtering and the counts of refusals restart where it is another one (R371), event 0x0305. -/
def State.selectMaster (s : State) (m : PtpMaster) : State :=
  let t := s.time
  let s := { s with time := { t with master := some m, st := if t.st = 1 ∨ t.st = 2 then t.st else 1 } }
  match t.master with
  | some x =>
    if sameMaster x m then s
    else ({ s with time := { s.time with raws := [], delays := [], good := 0, big := 0, sync := none, lastSync := none } }).event 0x0305 0 0
  | none => { s with time := { s.time with raws := [], good := 0, big := 0, sync := none, lastSync := none } }

/-- An Announce of the domain of TIME_CFG. -/
def State.announced (s : State) (m : PtpMaster) (utc : BitVec 16) : State :=
  if !s.ptpOn || m.domain.toNat != s.polF 0x200010 23 16 then s
  else
    let heard := m :: s.time.heard.filter fun x => !sameMaster x m
    let s := { s with time := { s.time with heard := heard } }
    match bestMaster heard with
    | none => s
    | some b =>
      let s := s.selectMaster b
      if sameMaster b m then { s with time := { s.time with utc := utc } } else s

def execPtpAnnounce (m : PtpMaster) (utc : BitVec 16) (s : State) : Out := .next (s.announced m utc)

/-- Announce receipt timeout, or no Sync: HOLDOVER, event 0x0304; the master has to be selected anew. -/
def State.holdover (s : State) : State :=
  let t := s.time
  if t.st = 1 ∨ t.st = 2 then
    ({ s with time := { t with st := 3, since := s.up, slewing := false, master := none, heard := [], sync := none,
                               good := 0 } }).event 0x0304 0 0
  else s

def execAnnounceTimeout (s : State) : Out := .next s.holdover

/-! ### Delay requests and transmit stamps (R365, R367) -/

/-- A Delay_Req to the selected master, over the transport and in the domain of TIME_CFG (R364). -/
def State.askDelay (s : State) : State :=
  if s.ptpOn ∧ s.time.master.isSome then
    ({ s with time := { s.time with reqSeq := s.time.reqSeq + 1 } }).send
      (.delayReq ((s.pol 0x200010).getLsbD 30) (BitVec.ofNat 8 (s.polF 0x200010 23 16)) (s.time.reqSeq + 1))
  else s

def execDelayReqSend (s : State) : Out := .next s.askDelay

/-- A transmit stamp enters the queue; a full queue drops it, event 0x0306. -/
def State.stampIn (s : State) (marker : Bool) (id : BitVec 16) (t : DevTime) : State :=
  if s.time.txq.length < 16 then { s with time := { s.time with txq := s.time.txq ++ [(marker, id, t)] } }
  else ({ s with time := { s.time with overflow := satAdd s.time.overflow 1 } }).event 0x0306 0 0

def execTxStamp (marker : Bool) (id : BitVec 16) (t : DevTime) (s : State) : Out := .next (s.stampIn marker id t)

/-- A Delay_Resp: with the stamp of its request and the last Sync it gives one delay measurement. -/
def State.delayIn (s : State) (clock : BitVec 64) (seq : BitVec 16) (t4 : DevTime) : State :=
  if !s.fromMaster clock then s
  else match s.time.txq.find? fun e => !e.1 && e.2.1 == seq, s.time.lastSync with
    | some e, some (rx, origin) =>
      let d : Int := ((DevTime.toNs rx : Int) - DevTime.toNs origin + (DevTime.toNs t4 - DevTime.toNs e.2.2)) / 2
      { s with time := { s.time with delays := (d :: s.time.delays).take 16, txq := s.time.txq.erase e } }
    | some e, none => { s with time := { s.time with txq := s.time.txq.erase e } }
    | none, _ => s

def execPtpDelayResp (clock : BitVec 64) (seq : BitVec 16) (t4 : DevTime) (s : State) : Out := .next (s.delayIn clock seq t4)

/-! ### Markers received (R370) -/

/-- A marker: stamped on arrival; with the stamp of the one before it and its PREV fields it gives the skew. -/
def State.markerIn (s : State) (src : Node) (m : Marker) : State :=
  let t := s.now
  let before := s.time.marks.find? fun e => e.1 == src && e.2.1 == m.mark - 1
  let s := { s with time := { s.time with marks := (src, m.mark, t) :: s.time.marks.filter fun (e : Node × Word × DevTime) => e.1 != src } }
  match before with
  | some e =>
    if m.mark ≠ 0 ∧ m.prev ≠ ⟨0, 0⟩ then
      { s with time := { s.time with markSrc := packW [(16, src.toNat), (0, m.mark.toNat % 65536)],
                                     markSkew := satInt 32 ((DevTime.toNs e.2.2 : Int) - DevTime.toNs m.prev) } }
    else s
  | none => s

def execTimeMarker (h : SlHead) (m : Marker) (s : State) : Out :=
  .next (s.onFrame h 0x20 (markerBytes m) fun s => s.markerIn h.src m)

/-! ### The configuration (R365, R371) -/

/-- A write of TIME_CFG: PTP off is FREE; a larger STEP_MAX may end a refusal at once. -/
def State.timeCfg (s : State) (v : Word) : State :=
  let s := s.setPol 0x200010 ((polStore 0x200010 v).getD 0)
  let t := s.time
  if !v.getLsbD 31 then
    if t.st = 4 then s
    else { s with time := { t with st := 4, since := s.up, slewing := false, master := none, heard := [], sync := none, good := 0 } }
  else if t.refused ∧ (t.offset.natAbs : Int) ≤ s.stepMax then
    { s with time := { t with refused := false, big := 0, slewing := decide (t.offset ≠ 0) } }
  else s

end Sys2Proof.Machine
end

