-- ==== Sys2Proof/Machine/Mgmt.lean ====
section
/-! DEFINITION. The management port (16): HMP sessions and requests, transfers, owner keys (R389), health notices and their
relay, telemetry, persistence and clearing of the contact sheet. CSR_READ and CSR_WRITE are in Access. -/

set_option Elab.async false

namespace Sys2Proof.Machine

/-! ### Sessions (R396-R399) -/

/-- A datagram or frame dropped at the management port. -/
def State.mpDrop (s : State) : State := { s with mgmt := { s.mgmt with drop := satAdd s.mgmt.drop 1 } }

/-- The management port takes datagrams: its link is up and the governors serve it. -/
def State.mpUp (s : State) : Bool := s.mod.on && s.mgmt.link && s.governed

/-- The session that a request names, with its number. -/
def State.sessOf (s : State) (h : HmpHead) : Option (Nat × Sess) := s.mgmt.sess.find? fun e => e.2.id == h.session

/-- A reply to a request of a type, kept and sent; a session that has ended keeps none. -/
def State.reply (s : State) (n : Nat) (ty : Byte) (seq : Word) (c : Code) (data : List Byte) : State :=
  match s.sess? n with
  | some x =>
    let r : HReply := { ty := ty, seq := seq, status := c, data := data }
    (s.setSess n { x with replies := (x.replies ++ [r]).drop (x.replies.length - 15) }).hmpReply x.ip x.port ty x.id seq c data
  | none => s

/-- A request on a session: from another source it is dropped and counted; one whose reply is kept is answered with it, one older
than every kept reply is dropped and counted, and any other is carried out by `f`, which answers for itself. -/
def State.onSess (s : State) (h : HmpHead) (f : State → Nat → Sess → State) : State :=
  if !s.mpUp then s
  else match s.sessOf h with
    | none => s.mpDrop
    | some (n, x) =>
      if x.ip ≠ h.ip ∨ x.port ≠ h.port then s.mpDrop
      else match x.replies.find? fun r => r.seq == h.seq with
        | some r => s.hmpReply x.ip x.port r.ty x.id r.seq r.status r.data
        | none =>
          if x.replies ≠ [] ∧ (x.replies.all fun r => decide ((r.seq - h.seq).toNat < 2147483648)) then s.mpDrop
          else f s n x

/-- A request of a type that needs an authenticated session. -/
def State.onAuth (s : State) (ty : Byte) (h : HmpHead) (f : State → Nat → Sess → State) : State :=
  s.onSess h fun s n x => if x.auth then f s n x else s.reply n ty h.seq 0x0608 []

/-- A session ends: its authentication, its transfer and its per-path registers end with it (R398). -/
def State.closeSess (s : State) (n : Nat) : State :=
  { s with mgmt := { s.mgmt with sess := SMap.del s.mgmt.sess n }, paths := SMap.del s.paths n }

/-- The lowest session number that is free. -/
def State.freeSess (s : State) : Option Nat := (List.range 4).find? fun n => (s.sess? n).isNone

/-- The bytes of an OPEN reply: NONCE and the identity serial. -/
def State.openReply (s : State) (nonce : BitVec 384) : List Byte := leBytes 48 nonce.toNat ++ leBytes 16 s.fuse.serial.toNat

/-- A new session. -/
def State.newSess (s : State) (n : Nat) (h : HmpHead) : State :=
  let x : Sess := { id := Config.word s.fv, ip := h.ip, port := h.port, nonce := Config.wide s.fv }
  ((s.setSess n x).draw).reply n 0x01 h.seq 0 (s.openReply x.nonce)

/-- OPEN. One that is sent again is answered as before. -/
def State.openSess (s : State) (h : HmpHead) : State :=
  if !s.mpUp then s
  else
    let mine (x : Sess) : Bool := x.ip == h.ip && x.port == h.port
    match s.mgmt.sess.findSome? fun e => if mine e.2 then (e.2.replies.find? fun r => r.seq == h.seq).map fun r => (e.2.id, r) else none with
    | some (id, r) => s.hmpReply h.ip h.port r.ty id r.seq r.status r.data
    | none =>
      if s.mgmt.lockouts.contains h.ip then s.hmpReply h.ip h.port 0x01 0 h.seq 0x0608 []
      else match s.freeSess with
        | none => s.hmpReply h.ip h.port 0x01 0 h.seq 0x0609 []
        | some n => s.newSess n h

def execHmpOpen (h : HmpHead) (s : State) : Out := .next (s.openSess h)

/-- An AUTH attempt is over (R390, R398): a new nonce is drawn; the third refusal closes the session and locks its source out. -/
def State.authResult (s : State) (n : Nat) (x : Sess) (seq : Word) (ok : Bool) : State :=
  let x := { x with nonce := Config.wide s.fv, verifying := none }
  if ok then ((s.setSess n { x with auth := true }).draw).reply n 0x02 seq 0 []
  else
    let s := (((s.setSess n { x with refusals := x.refusals + 1 }).draw).event 0x010D 1 0).reply n 0x02 seq 0x0608 []
    if x.refusals + 1 < 3 then s
    else { (s.closeSess n) with mgmt := { (s.closeSess n).mgmt with lockouts := s.mgmt.lockouts ++ [x.ip] } }

/-- AUTH: the signature is being verified; a key that is not installed is refused. -/
def execHmpAuth (h : HmpHead) (keyIdx : BitVec 8) (sig : BitVec 768) (s : State) : Out :=
  .next (s.onSess h fun s n x =>
    if x.verifying.isSome then s
    else if (SMap.find s.fw.keys keyIdx.toNat).isNone then s.authResult n x h.seq false
    else s.setSess n { x with verifying := some (h.seq, keyIdx, sig) })

/-- The signature of a session's AUTH verifies over the hash of R390. -/
def State.sessGood (s : State) (x : Sess) (idx : BitVec 8) (sig : BitVec 768) : Bool :=
  s.signed idx.toNat sig (s.challenge x.nonce x.id.toNat)

def execHmpAuthVerified (n : BitVec 2) (s : State) : Out :=
  .next (match s.sess? n.toNat with
    | some x => match x.verifying with
      | some q => s.authResult n.toNat x q.1 (s.sessGood x q.2.1 q.2.2)
      | none => s
    | none => s)

def execHmpClose (h : HmpHead) (s : State) : Out := .next (s.onSess h fun s n _ => (s.reply n 0x03 h.seq 0 []).closeSess n)

def execKeepalive (h : HmpHead) (s : State) : Out := .next (s.onSess h fun s n _ => s.reply n 0x04 h.seq 0 [])

def execSessionTimeout (n : BitVec 2) (s : State) : Out :=
  .next (if (s.sess? n.toNat).isSome then s.closeSess n.toNat else s)

def execHmpLockoutEnd (ip : BitVec 128) (s : State) : Out :=
  .next { s with mgmt := { s.mgmt with lockouts := s.mgmt.lockouts.filter (· != ip) } }

/-- CERT_READ. -/
def execCertRead (h : HmpHead) (off : Word) (s : State) : Out :=
  .next (s.onSess h fun s n _ => s.reply n 0x30 h.seq 0 ((s.fuse.cert.drop off.toNat).take 1024))

/-! ### Transfers (R397, R400) -/

/-- UNOWNED: no owner key is installed (R389). -/
def State.unowned (s : State) : Bool := s.fw.keys == []

/-- A transfer request: KIND KEY needs no authentication while the module is UNOWNED. -/
def State.onXfer (s : State) (ty : Byte) (h : HmpHead) (kind : State → Sess → Option Byte) (f : State → Nat → Sess → State) : State :=
  s.onSess h fun s n x =>
    if x.auth || (s.unowned && kind s x == some 5) then f s n x else s.reply n ty h.seq 0x0608 []

/-- Why XFER_OPEN is refused, or 0. -/
def State.xferFault (s : State) (x : Sess) (kind : Byte) (size : Word) : Code :=
  if x.xfer.isSome ∨ kind = 0 ∨ 5 < kind.toNat ∨ (kind = 3 ∧ 33554432 < size.toNat) then 0x060A
  else if (kind = 1 ∨ kind = 2) ∧ (s.fw.slot (s.dlSlot (kind == 2))).st ≠ 1 then 0x0708
  else 0

/-- XFER_OPEN; a plan's staging buffer is emptied. -/
def State.openXfer (s : State) (n : Nat) (x : Sess) (h : HmpHead) (kind : Byte) (size : Word) : State :=
  let c := s.xferFault x kind size
  if c ≠ 0 then s.reply n 0x20 h.seq c []
  else
    let s := s.setSess n { x with xfer := some { kind := kind, size := size.toNat } }
    let s := if kind = 3 then { s with plan := { s.plan with staging := [], stagedLen := 0 } } else s
    s.reply n 0x20 h.seq 0 []

def execXferOpen (h : HmpHead) (kind : BitVec 8) (size : Word) (s : State) : Out :=
  .next (s.onXfer 0x20 h (fun _ _ => some kind) fun s n x => s.openXfer n x h kind size)

/-- The kind of a session's transfer. -/
def Sess.kind (x : Sess) : Option Byte := x.xfer.map fun t => t.kind

/-- A chunk in its turn: to the download, the staging buffer, or the transfer. -/
def State.chunk (s : State) (n : Nat) (x : Sess) (t : HXfer) (h : HmpHead) (data : List Byte) : State :=
  let t' := { t with next := t.next + data.length }
  if t.kind = 3 then
    let s := { s with plan := { s.plan with staging := Memory.writeL s.plan.staging t.next data, stagedLen := t'.next } }
    (s.setSess n { x with xfer := some t' }).reply n 0x21 h.seq 0 []
  else if t.kind = 1 ∨ t.kind = 2 then
    let r := s.takeUnits { t' with data := t.data ++ data } 4
    (r.1.setSess n { x with xfer := some r.2.1 }).reply n 0x21 h.seq r.2.2 []
  else (s.setSess n { x with xfer := some { t' with data := t.data ++ data } }).reply n 0x21 h.seq 0 []

/-- XFER_DATA: a chunk already taken is ignored; one out of turn, or beyond SIZE, is refused. -/
def State.dataIn (s : State) (n : Nat) (x : Sess) (h : HmpHead) (off : Nat) (data : List Byte) : State :=
  match x.xfer with
  | none => s.reply n 0x21 h.seq 0x060A []
  | some t =>
    if t.next < off ∨ t.size < off + data.length ∨ 1024 < data.length then s.reply n 0x21 h.seq 0x060A []
    else if off < t.next then s.reply n 0x21 h.seq 0 []
    else s.chunk n x t h data

def execXferData (h : HmpHead) (off : Word) (data : List Byte) (s : State) : Out :=
  .next (s.onXfer 0x21 h (fun _ x => x.kind) fun s n x => s.dataIn n x h off.toNat data)

/-- A Wokor pack at its XFER_CLOSE (R185): it is refused without a valid signature by an installed owner key (R375), and where its
patterns would pass 4,096; its layout is not given (log entry 12). -/
def State.takePack (s : State) (whole : Bool) (data : List Byte) : State × Code :=
  let g := Config.packSig data
  let ps := (Config.wokor data).map fun w => (⟨w.1, w.2.1, w.2.2.1, w.2.2.2.1, w.2.2.2.2⟩ : WokorPattern)
  if !whole || !s.signed g.1 g.2.1 g.2.2 then (s, 0x0705)
  else if 4096 < s.fw.patterns.length + ps.length then (s, 0x060A)
  else ({ s with fw := { s.fw with packs := s.fw.packs ++ [BitVec.ofNat 384 (leNat (sha384 data))], patterns := s.fw.patterns ++ ps } }, 0)

/-- XFER_CLOSE: the transfer ends, and its consumer has what arrived. A KEY request that holds one of R389's requests comes as
a command of its own. -/
def State.closeXfer (s : State) (n : Nat) (x : Sess) (h : HmpHead) : State :=
  match x.xfer with
  | none => s.reply n 0x22 h.seq 0x060A []
  | some t =>
    let s := s.setSess n { x with xfer := none }
    if t.kind = 4 then
      let r := s.takePack (t.next == t.size) t.data
      r.1.reply n 0x22 h.seq r.2 []
    else if t.kind = 5 then s.reply n 0x22 h.seq 0x070C []
    else s.reply n 0x22 h.seq 0 []

def execXferClose (h : HmpHead) (s : State) : Out :=
  .next (s.onXfer 0x22 h (fun _ x => x.kind) fun s n x => s.closeXfer n x h)

/-! ### Owner keys (R389) -/

/-- A KEY request at the end of its transfer: done with event 0x0409, or refused. -/
def State.keyRequest (s : State) (h : HmpHead) (good : State → Bool) (f : SMap (BitVec 768) → SMap (BitVec 768)) : State :=
  s.onXfer 0x22 h (fun _ x => x.kind) fun s n x =>
    if x.kind ≠ some 5 then s.reply n 0x22 h.seq 0x060A []
    else
      let ok := good s
      let s := s.setSess n { x with xfer := none }
      if ok then (({ s with fw := { s.fw with keys := f s.fw.keys } }).event 0x0409 1 0).reply n 0x22 h.seq 0 []
      else s.reply n 0x22 h.seq 0x070C []

/-- A request of R389 carries a signature by an installed owner key over the index, the new key or 48 zero bytes, and the serial. -/
def State.keySigned (s : State) (idx : BitVec 2) (key : List Byte) (sig : BitVec 768) : Bool :=
  s.fw.keys.any fun e => sigOk e.2 sig (leBytes 1 idx.toNat ++ key ++ leBytes 16 s.fuse.serial.toNat)

def execKeyInstall (h : HmpHead) (idx : BitVec 2) (key sig : BitVec 768) (s : State) : Out :=
  .next (s.keyRequest h (fun s => if s.unowned then idx == 0 else s.keySigned idx (keyBytes key) sig) fun m => SMap.put m idx.toNat key)

def execKeyRemove (h : HmpHead) (idx : BitVec 2) (sig : BitVec 768) (s : State) : Out :=
  .next (s.keyRequest h (fun s => s.keySigned idx (leBytes 48 0) sig && (SMap.find s.fw.keys idx.toNat).isSome && decide (1 < s.fw.keys.length))
    fun m => SMap.del m idx.toNat)

/-! ### Notices, relay and telemetry (R401-R404) -/

/-- The notice that an acknowledgement names. -/
def Notice.named (n : Notice) (node epoch : BitVec 16) (seq : Word) : Bool := n.node == node && n.epoch == epoch && n.seq == seq

/-- A notice acknowledged: both copies, for every station. -/
def State.noticeAcked (s : State) (node epoch : BitVec 16) (seq : Word) : State :=
  { s with mgmt := { s.mgmt with notices := s.mgmt.notices.filter fun (n : Notice) => !n.named node epoch seq } }

/-- NODE, EPOCH and SEQ of an acknowledgement. -/
def ackBytes (node epoch : BitVec 16) (seq : Word) : List Byte := leBytes 2 node.toNat ++ leBytes 2 epoch.toNat ++ leBytes 4 seq.toNat

/-- NOTICE_ACK: of this module's notice, or of one that it passed on for another, which is told (R403). -/
def State.ackIn (s : State) (node epoch : BitVec 16) (seq : Word) : State :=
  if !s.mpUp then s
  else if node = s.node ∨ s.mgmt.notices.any (fun n => n.named node epoch seq) then s.noticeAcked node epoch seq
  else s.slSend 0x30 node (ackBytes node epoch seq)

def execNoticeAck (node epoch : BitVec 16) (seq : Word) (s : State) : Out := .next (s.ackIn node epoch seq)

/-- A notice of another module passed on to every enabled station, as the copy that it is. -/
def State.passOn (s : State) (h : SlHead) (payload : List Byte) : State :=
  if s.mgmt.link then s.stations.foldl (fun s k => s.toStation k 0x40 h.govB h.simplex h.seq payload) s else s

/-- A frame that this module takes from a port whose safelight is UP (R308, R327). -/
def State.hears (s : State) (h : SlHead) (payload : List Byte) : Bool :=
  s.gov.relay && (s.slPort h.port).st == 2 && slGood h 0x30 payload && (s.fport h.port).st != .quarantined && h.dst == s.node

/-- HEALTH_RELAY: every copy of another module's notice goes on to the stations; an acknowledgement ends a notice of this
module. -/
def execHealthRelay (h : SlHead) (m : RelayMsg) (s : State) : Out :=
  .next (match m with
    | .notice payload =>
      let s' := s.onFrame h 0x30 payload fun s => s
      if s.hears h payload && h.src != s.node then s'.passOn h payload else s'
    | .ack node epoch seq => s.onFrame h 0x30 (ackBytes node epoch seq) fun s => s.noticeAcked node epoch seq)

/-- Notices wait in the queue: there is no relay, or no way to it. -/
def State.noticesWait (s : State) : Bool :=
  s.mgmt.relaying && (s.relayNode == 0xFFFE || s.slPorts s.relayNode none == [])

/-- A notice sent again, or given up after 60 s. -/
def State.resend (s : State) (seq : Word) : State :=
  match s.mgmt.notices.find? fun n => n.seq == seq with
  | none => s
  | some n =>
    if s.noticesWait then s
    else if 60 ≤ n.sends then
      ({ s with mgmt := { s.mgmt with notices := s.mgmt.notices.filter fun (x : Notice) => x.seq != seq,
                                      givenUp := satAdd s.mgmt.givenUp 1 } }).noticeLost
    else
      ({ s with mgmt := { s.mgmt with notices := s.mgmt.notices.map fun (x : Notice) =>
          if x.seq = seq then { x with sends := x.sends + 1 } else x } }).sendNotice n

def execNoticeResend (seq : Word) (s : State) : Out := .next (if s.mod.on then s.resend seq else s)

/-- Relaying ends where the link is up and a station is enabled. -/
def State.judgeRelay (s : State) : State :=
  if s.mgmt.link && s.stations != [] then { s with mgmt := { s.mgmt with relaying := false } } else s

/-- The MP link goes up or down. -/
def State.mpLink (s : State) (up : Bool) : State :=
  if !s.mod.on ∨ s.mgmt.link = up then s
  else (({ s with mgmt := { s.mgmt with link := up } }).judgeRelay).event 0x010C 0 0

def execMgmtLink (up : Bool) (s : State) : Out := .next (s.mpLink up)

def execRelayStart (s : State) : Out :=
  .next (if s.mod.on ∧ (!s.mgmt.link ∨ s.stations = []) then { s with mgmt := { s.mgmt with relaying := true } } else s)

/-- The payload of a TELEMETRY message (R404), each register as a word. -/
def State.telemetryBytes (s : State) : List Byte :=
  let w (a : Nat) : List Byte := leBytes 4 (s.regNow .image a).toNat
  let u (o : Nat) : List Byte := leBytes 4 (s.ucb .module 0 o).toNat
  let least := ((List.range s.siteCount).map fun i => bitsOf (s.siteReg i 0x08) 7 0).foldl min 255
  DevTime.bytes s.now ++ w 0x900008 ++ u 0x20 ++ leBytes 2 (bitsOf (s.ucb .module 0 0x1C) 15 0) ++ u 0x08 ++
    w 0x400004 ++ w 0x402004 ++ w 0x20000C ++ w 0x700010 ++ w 0x100000 ++ leBytes 1 least ++
    s.mgmt.counts.flatMap (fun c => leBytes 4 c.toNat) ++ leBytes 4 s.cs.next.toNat

/-- TELEMETRY to every enabled station; the counts start again. -/
def State.telemetryOut (s : State) : State :=
  if s.polF 0xB00004 31 16 = 0 ∨ !s.mpUp then s
  else
    let b := s.telemetryBytes
    let s := s.stations.foldl (fun s k => s.toStation k 0x42 s.activeB s.gov.simplex s.gov.seq b) s.govSeq
    { s with mgmt := { s.mgmt with counts := [0, 0, 0, 0, 0, 0, 0] } }

def execTelemetry (s : State) : Out := .next s.telemetryOut

/-! ### Buckets, persistence and clearing (R407-R410) -/

/-- One second of refill: RATE tokens go back to every code's bucket. -/
def execBucketRefill (s : State) : Out :=
  .next { s with cs := { s.cs with
    taken := (s.cs.taken.map fun (e : Nat × Nat) => (e.1, e.2 - s.polF 0x301000 7 0)).filter (fun (e : Nat × Nat) => e.2 != 0) } }

/-- CSHEET_CTL.PERSIST. -/
def State.persistNow (s : State) : State :=
  let s := s.fatal
  { s with cs := { s.cs with persistBit := s.cs.writing.isSome } }

def execPersist (p : Path) (s : State) : Out := .next (if s.priv p then s.persistNow else s)

/-- The area is written with its CRC; event 0x010A, or at the next boot where power has failed. -/
def State.persisted (s : State) : State :=
  match s.cs.writing with
  | none => s
  | some (to1, l) =>
    let s := { s with cs := { s.cs with
      p0 := if to1 then s.cs.p0 else some l, p1 := if to1 then some l else s.cs.p1, newerP1 := to1, writing := none, persistBit := false } }
    if s.cs.noted then s.event 0x010A 0 0 else s

def execPersistDone (s : State) : Out := .next s.persisted

/-- CS_CLEAR: VALID falls in every live record up to UPTO, and the clear is always recorded. -/
def State.clearSheet (s : State) (p : Path) (upto : Word) : State :=
  let down (r : CsRec) : CsRec := if r.index.toNat ≤ upto.toNat then { r with valid := false } else r
  let s := { s with cs := { s.cs with upto := upto, recs := s.cs.recs.map fun (e : Nat × CsRec) => (e.1, down e.2) } }
  s.writeRecord 0x0109 4 0 [upto.setWidth 64, pathSnap p] false 0

def execCsClear (p : Path) (upto : Word) (s : State) : Out := .next (if s.carries p then s.clearSheet p upto else s)

end Sys2Proof.Machine
end

