-- ==== Sys2Proof/Machine/Power.lean ====
section
/-! DEFINITION. Input power, hold-up, the power-fail signal and cooling (17). -/

set_option Elab.async false

namespace Sys2Proof.Machine

/-! ### The power-fail signal (R417) -/

/-- A link without the flits and messages that it held. -/
def LLink.shed (l : LLink) : LLink :=
  { l with part0 := none, part1 := none, inbox := [], reorder := [], resend := [], queue := [], turn := [] }

/-- Sites, compute lasers, combs and transceivers are off, and all work in flight is lost. -/
def State.shed (s : State) : State :=
  { s with
    trays := s.trays.map fun (e : Nat × Tray) => (e.1, e.2.rebooted (replaces s.map (bayOfTray e.1) (e.1 % 9))),
    clusters := s.clusters.map fun (e : Nat × Cluster) => (e.1, e.2.rebooted (replaces s.cmap (trayOfCluster e.1) (e.1 % 20))),
    cores := [], starts := [], outst := [], movers := [], subs := [], seqs := [],
    mem := { s.mem with sites := s.mem.sites.map fun (e : Nat × Site) => (e.1, e.2.rebooted) },
    light := { s.light with started := false,
                            combs := s.light.combs.map fun (e : Nat × Comb) => (e.1, { e.2 with lit := 0 }) },
    fab := { s.fab with lts := [], waiting := [], xfers := [], stuck := [],
                        links := s.fab.links.map fun (e : Nat × LLink) => (e.1, e.2.shed) } }

/-- The power-fail signal: event 0x010F, load shed, the matrix driven to bypass, and the contact sheet persisted. A persist that is
running completes, and a fresh one goes to the other area (R411). -/
def State.failPower (s : State) : State :=
  if !s.mod.on ∨ s.mod.powerFail then s
  else
    let s := ({ s with mod := { s.mod with powerFail := true } }).event 0x010F 0 0
    (s.shed.driveBypass 2).persisted.startPersist true

/-- Both connectors are lost. -/
def State.noInput (s : State) : Bool := s.mod.lostA && s.mod.lostB

def execPowerFailSignal (s : State) : Out := .next (if s.noInput then s.failPower else s)

/-- The hot-swap latch released: the matrix goes to bypass, and a ride-through ends at once (R291, R431). -/
def State.openLatch (s : State) : State :=
  let s := { s with steer := { s.steer with latchOpen := true } }
  if !s.mod.on then s
  else
    let s := s.driveBypass 3
    if s.noInput then s.failPower else s

def execHotSwapLatchRelease (s : State) : Out := .next s.openLatch

/-- The control section switches off: flash writes have been completed. With an input present, and no trip, the module boots from
S0; a trip lasts until both inputs are gone. -/
def State.switchOff (s : State) : State :=
  if !s.mod.powerFail then s
  else
    let m := s.mod
    let s := s.persisted.rebooted true
    let s := { s with mod := { s.mod with tripped := m.tripped && !(m.lostA && m.lostB) } }
    if (!m.lostA && inRange m.vinA) || (!m.lostB && inRange m.vinB) then
      let s := s.powerOn m.vinA m.vinB
      { s with mod := { s.mod with lostA := m.lostA, lostB := m.lostB } }
    else s

def execControlOff (s : State) : Out := .next s.switchOff

/-! ### Inputs (R415, R418) -/

/-- A connector is lost, below 38 V: event 0x010E. What MOD_POWER shows of it is open below that (log entry 98). With both lost the hold-up bank carries the load, unless the latch is released; a module
that is off is no longer tripped. -/
def State.loseInput (s : State) (connB : Bool) : State :=
  if (if connB then s.mod.lostB else s.mod.lostA) then s
  else
    let v : BitVec 12 := BitVec.ofNat 12 ((Config.word s.fv).toNat % 380)
    let s := ({ s with mod := if connB then { s.mod with lostB := true, vinB := v } else { s.mod with lostA := true, vinA := v } }).draw
    if !s.mod.on then (if s.noInput then { s with mod := { s.mod with tripped := false } } else s)
    else
      let s := s.event 0x010E 0 0
      if s.noInput && s.steer.latchOpen then s.failPower else s

def execInputLost (connB : Bool) (s : State) : Out := .next (s.loseInput connB)

/-- A connector above 40 V is regained: a ride-through ends, and after the signal the shutdown goes on. -/
def State.regainInput (s : State) (connB : Bool) (vin : BitVec 12) : State :=
  if vin.toNat ≤ 400 then s
  else { s with mod := if connB then { s.mod with lostB := false, vinB := vin }
                       else { s.mod with lostA := false, vinA := vin } }

def execInputRegained (connB : Bool) (vin : BitVec 12) (s : State) : Out := .next (s.regainInput connB vin)

/-- HOLDUP below 90 % for 60 s while READY. -/
def execHoldupDegraded (s : State) : Out :=
  .next (if s.mod.on ∧ s.mod.st = 2 ∧ s.updHoldup then s.event 0x0110 0 0 else s)

/-! ### Coolant and temperature (R420) -/

def execCoolantAlarm (s : State) : Out := .next (if s.mod.on then s.event 0x0111 0 0 else s)

/-- A thermal trip: event 0x0113, and then the power-fail signal. -/
def State.trip (s : State) : State :=
  if !s.mod.on ∨ s.mod.tripped then s
  else (({ s with mod := { s.mod with tripped := true } }).event 0x0113 0 0).failPower

def execThermalTrip (s : State) : Out := .next s.trip

end Sys2Proof.Machine
end

