-- ==== Sys2Proof/Machine/Access.lean ====
section
/-! DEFINITION. Register accesses (R13-R17, R24-R26, R38-R40): reads and writes of any register on any path, 64-bit registers, held
window accesses, the stage records (R339, R340), CSR_READ and CSR_WRITE (R397), and RDMA requests (R210-R216). -/

set_option Elab.async false

namespace Sys2Proof.Machine

/-- The state that a meaning answers. -/
def State.after (s : State) (o : Out) : State :=
  match o with
  | .next t => t
  | _ => s

/-! ### Addresses (R38-R40) -/

/-- The CSR address behind an address of a path: an offset of a context's pages names its own windows, and beyond them no
register of CSR space. -/
def canon (p : Path) (a : Nat) : Nat :=
  match p with
  | .page _ =>
    if 0x400 ≤ a ∧ a < 0x600 then 0x902000 + a
    else if 0x600 ≤ a ∧ a < 0x800 then 0x602000 + a
    else if 0x2000 ≤ a ∧ a < 0x2200 then 0x2FE000 + a
    else 0x4000000 + a
  | _ => a

/-- An offset in a run of registers of 8 bytes each. -/
def inRun (o lo hi : Nat) : Bool := decide (lo ≤ o) && decide (o < hi) && (o - lo) % 8 == 0

/-- The low words of the 64-bit registers of a unit, by level. -/
def wideUnit (u : URef) (o : Nat) : Bool :=
  match u with
  | .tray _ => inRun o 0x60 0xA8 || o == 0x230 || o == 0x318
  | .cluster _ => inRun o 0x50 0x68
  | .core _ => o == 0x50 || inRun o 0x80 0xC0
  | _ => false

/-- The low words of the 64-bit registers outside the unit window. -/
def wideCsr (a : Nat) : Bool :=
  a == 0x100018 || a == 0x200030 || a == 0x400038 || a == 0x400040 ||
    (decide (0x402048 ≤ a) && decide (a < 0x402088) && (a - 0x402048) % 16 == 0) ||
    (decide (0x500000 ≤ a) && decide (a < 0x540000) && (a % 4096 == 0x808 || a % 4096 == 0x810)) || a == 0x540018 ||
    a == 0x601008 || a == 0x601108 || inRun a 0x601040 0x601070 || inRun a 0x601140 0x601170 ||
    inRun a 0x602600 0x602620 || a == 0x602630 || a == 0x602640 || a == 0x602650 || inRun a 0x700040 0x700058 ||
    (decide (0x901000 ≤ a) && decide (a < 0x901400) && (a % 64 == 0x10 || a % 64 == 0x18 || a % 64 == 0x20)) ||
    a == 0x902424 || a == 0x90242C || a == 0x902460 || inRun a 0xA00040 0xA00058 || a == 0xB00008 || a == 0xB00068

/-- The register at a CSR address is the low word of a 64-bit one (R14). -/
def State.wideLow (s : State) (p : Path) (a : Nat) : Bool :=
  if 0x1001000 ≤ a ∧ a < 0x1002000 then
    match s.selOf p with
    | .one u => wideUnit u (a - 0x1001000)
    | _ => false
  else wideCsr a

/-! ### Reads (R14-R16, R25) -/

/-- What a read of the unit window leaves: PEAK cleared where the register is UCB_TEMP or LK_SLEW, and CODE. -/
def State.windowRead (s : State) (p : Path) (a : Nat) : State :=
  if 0x1001000 ≤ a ∧ a < 0x1002000 then
    s.windowTouch p (if a = 0x100101C then State.clearPeak else if a = 0x1001310 then State.clearSlew else fun s _ => s)
  else s

/-- A number for a unit. -/
def URef.num : URef → Nat
  | .module => 0
  | .site s => 1 + 8 * s
  | .bay b => 2 + 8 * b
  | .tray t => 3 + 8 * t
  | .cluster c => 4 + 8 * c
  | .core k => 5 + 8 * k

/-- What the selections of a path choose of the registers at a CSR address: the unit of the window, the context of its windows,
the channel of a port, the logical link. -/
def State.chosen (s : State) (p : Path) (c : Nat) : Nat :=
  if 0x1001000 ≤ c ∧ c < 0x1002000 then (match s.selOf p with | .one u => 1 + u.num | _ => 0)
  else if (0x602600 ≤ c ∧ c < 0x602800) ∨ (0x902400 ≤ c ∧ c < 0x902600) then (s.shownCtx p).toNat
  else if 0x500000 ≤ c ∧ c < 0x540000 then SMap.get (s.path p).chSel ((c - 0x500000) / 4096) 0
  else if 0x540000 ≤ c ∧ c < 0x550000 then (s.path p).llSel.toNat
  else 0

/-- The register that a path reaches at an address, as its latch and its held write know it: a selection that shows another unit,
context, channel or link shows other registers at the same address (R14). -/
def State.latchKey (s : State) (p : Path) (a : Nat) : Nat := canon p a + 2 ^ 27 * s.chosen p (canon p a)

/-- The high words that a read of a low word latches; TIME_NOW_NS latches both words of the seconds (R373). -/
def State.latchWords (s : State) (p : Path) (a : Nat) : SMap Word :=
  if canon p a = 0x200000 then [(0x200004, s.regNow p 0x200004), (0x200008, s.regNow p 0x200008)]
  else [(s.latchKey p a + 4, s.regNow p (a + 4))]

/-- The register latches other words when it is read. -/
def State.latches (s : State) (p : Path) (a : Nat) : Bool := canon p a == 0x200000 || s.wideLow p (canon p a)

/-- A read of a register: its value, and the state after it. -/
def State.readReg (s : State) (p : Path) (a : Nat) : Word × State :=
  let q := s.path p
  match SMap.find q.rl (s.latchKey p a) with
  | some v => (v, (s.setPath p { q with rl := SMap.del q.rl (s.latchKey p a) }).windowRead p (canon p a))
  | none =>
    let s' := if s.latches p a then s.setPath p { q with rl := s.latchWords p a } else s
    (s.regNow p a, s'.windowRead p (canon p a))

/-- `n` registers read in ascending order: their values and the state after them. -/
def State.readRegs (s : State) (p : Path) (a : Nat) : Nat → List Word × State
  | 0 => ([], s)
  | n + 1 =>
    let r := s.readReg p a
    let t := r.2.readRegs p (a + 4) n
    (r.1 :: t.1, t.2)

/-- A read whose value is sent. -/
def State.readSent (s : State) (p : Path) (a : Nat) : State :=
  let r := s.readReg p a
  r.2.send (.csr p a r.1)

/-! ### Writes by block -/

/-- A register that only stores what is written (R15, R16). -/
def State.storePol (s : State) (a : Nat) (v : Word) : State :=
  match polStore a v with
  | some w => s.setPol a w
  | none => s

/-- MOD (R361). -/
def State.putMod (s : State) (p : Path) (a : Nat) (v : Word) : State :=
  if a = 0x20 then
    let n := bitsOf v 29 28
    let s := s.storePol a v
    { s with mod := { s.mod with next := if n = 3 then 0 else BitVec.ofNat 2 n } }
  else if a = 0x28 then s.stageGo p v
  else if a = 0x34 then s.modResetWrite p v
  else s.storePol a v

/-- GOV (R316). -/
def State.putGov (s : State) (p : Path) (a : Nat) (v : Word) : State :=
  if a = 0x100004 ∧ v.getLsbD 31 then
    let op := bitsOf v 2 0
    if op = 1 then s.after (execGovSwap p s)
    else if op = 2 then s.after (execResync p s)
    else if op = 3 then s.after (execKeepA p s)
    else if op = 4 then s.after (execKeepB p s)
    else s
  else s.storePol a v

/-- ACTION of a time trigger as a write stores it. -/
def ttAction (v : Word) : BitVec 4 :=
  let n := bitsOf v 27 24
  if n = 1 ∨ 5 ≤ n then 0 else BitVec.ofNat 4 n

/-- The registers of a time trigger, by offset (R368, R373); they are ignored while the steering matrix holds it. -/
def State.putTrigger (s : State) (n o : Nat) (v : Word) : State :=
  let t := s.trigger n
  if s.steerHolds n then s
  else if o = 0x00 then
    let s := s.setTrigger n { t with action := ttAction v, periodic := v.getLsbD 16, dst := v.setWidth 16 }
    let s := if v.getLsbD 31 then s.armed n else s
    if v.getLsbD 30 then s.cancelled n else s
  else if o = 0x04 then
    if bitsOf v 29 0 < 1000000000 then s.setTrigger n { t with ns := v.setWidth 30 } else s
  else if o = 0x08 then s.setTrigger n { t with s := BitVec.ofNat 48 (t.s.toNat / 2 ^ 32 * 2 ^ 32 + v.toNat) }
  else if o = 0x0C then s.setTrigger n { t with s := BitVec.ofNat 48 (v.toNat % 65536 * 2 ^ 32 + t.s.toNat % 2 ^ 32) }
  else if o = 0x10 then s.setTrigger n { t with period := BitVec.ofNat 32 (max 100 v.toNat) }
  else s

/-- TIME (R373), by offset. -/
def State.putTime (s : State) (o : Nat) (v : Word) : State :=
  let t := s.time
  if o = 0x10 then s.timeCfg v
  else if o = 0x14 then
    let s := if v.getLsbD 1 then s.forceNext else s
    if v.getLsbD 0 then s.setTime else s
  else if o = 0x18 then
    if bitsOf v 29 0 < 1000000000 then { s with time := { t with setNs := v.setWidth 30 } } else s
  else if o = 0x1C then { s with time := { t with setS := BitVec.ofNat 48 (t.setS.toNat / 2 ^ 32 * 2 ^ 32 + v.toNat) } }
  else if o = 0x20 then
    { s with time := { t with setS := BitVec.ofNat 48 (v.toNat % 65536 * 2 ^ 32 + t.setS.toNat % 2 ^ 32) } }
  else if 0x100 ≤ o ∧ o < 0x200 then s.putTrigger ((o - 0x100) / 0x20) ((o - 0x100) % 0x20) v
  else s

/-- The list that CSHEET_SNAP_SEL shows, changed. -/
def State.modSnap (s : State) (f : SnapList → SnapList) : State :=
  { s with cs := { s.cs with lists := SMap.put s.cs.lists s.mgmt.snapSel.toNat (f s.snapList) } }

/-- CSHEET (R409, R413), by offset. -/
def State.putCs (s : State) (p : Path) (o : Nat) (v : Word) : State :=
  let q := s.path p
  if o = 0x08 then s.setPath p { q with csSel := v }
  else if o = 0x0C then
    let n := bitsOf v 1 0
    s.setPath p { q with csArea := if n = 3 then 0 else BitVec.ofNat 2 n }
  else if o = 0x10 then s.clearSheet p v
  else if o = 0x1004 then (if v.getLsbD 0 then s.persistNow else s)
  else if o = 0x1008 then { s with mgmt := { s.mgmt with snapSel := v.setWidth 8 } }
  else if o = 0x100C then
    s.modSnap fun l => { l with en := v.getLsbD 31, count := BitVec.ofNat 5 (min 28 (bitsOf v 20 16)), code := v.setWidth 16 }
  else if 0x1100 ≤ o ∧ o ≤ 0x116C then
    s.modSnap fun l => { l with addrs := SMap.put l.addrs ((o - 0x1100) / 4) ((v &&& 0x3FFFFFC).setWidth 26) }
  else s.storePol (0x300000 + o) v

/-- STEER and the plan registers (R315, R337), by offset. -/
def State.putSteer (s : State) (p : Path) (o : Nat) (v : Word) : State :=
  let a := 0x400000 + o
  if o = 0x0C then
    let s := if v.getLsbD 0 then s.abortNow else s
    let s := if v.getLsbD 1 then s.after (execBypass p s) else s
    if v.getLsbD 2 then s.restoreNow else s
  else if o = 0x10 ∧ v.getLsbD 31 then s.switchGo (v.setWidth 2)
  else if o = 0x2C then s.setPath p { s.path p with xsel := v.setWidth 7 }
  else if o = 0x2008 ∧ v.getLsbD 31 ∧ bitsOf v 1 0 = 1 then s.loadPlan p (BitVec.ofNat 2 (bitsOf v 3 2))
  else if o = 0x2008 ∧ v.getLsbD 31 ∧ bitsOf v 1 0 = 2 then s.erasePlan p (BitVec.ofNat 2 (bitsOf v 3 2))
  else if o = 0x2020 ∧ v.getLsbD 31 then s.acceptPort p (BitVec.ofNat 6 (bitsOf v 21 16))
  else s.storePol a v

/-- FAB_LL_CFG of a link, until the next plan switch (R287). -/
def State.linkCfg (s : State) (l : BitVec 6) (v : Word) : State :=
  let hi := min 16 (bitsOf v 20 16)
  let lo := min hi (bitsOf v 4 0)
  (s.setLink l { s.link l with prio := BitVec.ofNat 2 (bitsOf v 31 30), max := BitVec.ofNat 5 hi, min := BitVec.ofNat 5 lo }).ensureMin l

/-- FAB (R287), by offset. -/
def State.putFab (s : State) (p : Path) (o : Nat) (v : Word) : State :=
  let q := s.path p
  let x : PortNo := BitVec.ofNat 6 (o / 0x1000)
  if o < 0x40000 then
    if o % 0x1000 = 0x004 ∧ v.getLsbD 0 then s.probeNow p x
    else if o % 0x1000 = 0x804 then s.setPath p { q with chSel := SMap.put q.chSel x.toNat (bitsOf v 3 0) }
    else s
  else if o = 0x40004 then s.setPath p { q with llSel := v.setWidth 6 }
  else if o = 0x40008 then s.linkCfg q.llSel v
  else s

/-- A register of a queue pair is written only in RESET (R212). -/
def State.putQp (s : State) (k : Nat) (f : Qp → Qp) : State := if (s.qp k).st = 0 then s.modQp k f else s

/-- QP_CMD (R229): CONNECT and RESET. -/
def State.qpCmd (s : State) (k : Nat) (v : Word) : State :=
  let s := s.qpOp k (v.setWidth 2)
  if v.getLsbD 31 ∧ bitsOf v 1 0 = 1 then s.connect k
  else if v.getLsbD 31 ∧ bitsOf v 1 0 = 2 then s.modQp k Qp.cleared
  else s

/-- The context's host window (R217-R222, R229), by offset. -/
def State.putHostCtx (s : State) (p : Path) (o : Nat) (v : Word) : State :=
  let c := s.shownCtx p
  if 0x20 ≤ o ∧ o < 0x30 then
    let r := BitVec.ofNat 2 ((o - 0x20) / 4)
    if v.getLsbD 31 then s.ringOn p r v else s.ringOff p r v
  else if o = 0x38 then s.statusSet c (s.ctx c).sbase (min 65536 (bitsOf v 16 0))
  else if o = 0x48 then s.setCtx c { s.ctx c with mkey := v }
  else if o = 0x4C then
    let n := bitsOf v 1 0
    s.setCtx c { s.ctx c with mmode := if n = 3 then 0 else BitVec.ofNat 2 n }
  else s

/-- HOST (R229), by offset. -/
def State.putHost (s : State) (p : Path) (o : Nat) (v : Word) : State :=
  let q := s.path p
  let k := q.qpSel.toNat
  if o = 0x04 ∧ bitsOf v 31 16 = 0 then (s.storePol 0x600004 v).noIdle
  else if o = 0x10 then s.setPath p { q with qpSel := BitVec.ofNat 13 (min 4111 (bitsOf v 12 0)) }
  else if o = 0x104 then s.qpCmd k v
  else if o = 0x108 then s.putQp k fun x => { x with cfg := v }
  else if o = 0x10C then s.putQp k fun x => { x with path := v &&& 0xC0000000 }
  else if o = 0x110 then s.putQp k fun x => { x with sqpsn := v.setWidth 24 }
  else if o = 0x114 then s.putQp k fun x => { x with rqpsn := v.setWidth 24 }
  else if o = 0x118 then s.putQp k fun x => { x with keytag := v.setWidth 24 }
  else if 0x11C ≤ o ∧ o ≤ 0x128 then s.putQp k fun x => { x with raddr := setAt x.raddr ((o - 0x11C) / 4) v }
  else if 0x2600 ≤ o ∧ o < 0x2800 then s.putHostCtx p (o - 0x2600) v
  else s.storePol (0x600000 + o) v

/-- LIGHT (R258), by offset. -/
def State.putLight (s : State) (p : Path) (o : Nat) (v : Word) : State :=
  if o = 0x04 then s.after (execLightCalWrite p v s)
  else if o = 0x0C then
    let s := if v.getLsbD 0 then s.after (execStripAll p s) else s
    if v.getLsbD 1 then s.after (execRelockAll p s) else s
  else s.storePol (0x700000 + o) v

/-- FW_DL with GO (R379), FW_CTL with GO (R381) and FW_SETTINGS_ADOPT with GO (R388). A reserved operation is only stored. -/
def State.fwDl (s : State) (p : Path) (v : Word) : State :=
  let target := bitsOf v 3 2
  let op := bitsOf v 1 0
  if op = 1 ∧ target ≤ 1 then s.after (execFwOpen p (target == 1) s)
  else if op = 2 ∧ target ≤ 1 then s.after (execFwErase p (target == 1) s)
  else s.storePol 0x800028 v
def State.fwCtl (s : State) (p : Path) (v : Word) : State :=
  let op := bitsOf v 2 0
  if op = 1 then s.after (execActivateHitless p s)
  else if op = 2 then s.after (execActivateReset p s)
  else if op = 3 then s.after (execSelectConfig p s)
  else if op = 4 then s.after (execConfirm p s)
  else if op = 5 then s.after (execRollback p s)
  else if op = 6 then s.after (execSave p s)
  else s.storePol 0x800030 v
def State.fwAdopt (s : State) (p : Path) (v : Word) : State :=
  let m := bitsOf v 1 0
  if m = 1 then s.after (execSettingsConvert p s)
  else if m = 2 then s.after (execSettingsEmpty p s)
  else s.storePol 0x80003C v

/-- FW (R394), by offset. -/
def State.putFw (s : State) (p : Path) (o : Nat) (v : Word) : State :=
  if o = 0x28 ∧ v.getLsbD 31 then s.fwDl p v
  else if o = 0x30 ∧ v.getLsbD 31 then s.fwCtl p v
  else if o = 0x3C ∧ v.getLsbD 31 then s.fwAdopt p v
  else if o = 0x40 then s.lockWrite p v
  else if o = 0x48 then (if v.getLsbD 31 then s.after (execFwAttest p s) else s)
  else s.storePol (0x800000 + o) v

/-- MEM_CTX_CMD (R201, R207). -/
def State.putCtxCmd (s : State) (p : Path) (v : Word) : State :=
  let s := s.ctxCmd p v
  let op := bitsOf v 2 0
  if !v.getLsbD 31 then s
  else if op = 1 then s.ctxMake p (BitVec.ofNat 6 (bitsOf v 13 8))
  else if 2 ≤ op ∧ op ≤ 5 then s.ctxCommand p (BitVec.ofNat 3 op)
  else s

/-- CTX_RCMD (R197, R207). -/
def State.putRcmd (s : State) (p : Path) (v : Word) : State :=
  let op := bitsOf v 1 0
  if !v.getLsbD 31 ∨ op = 0 then s.rStore p v
  else if op = 1 then s.after (execRegionAllocate p v s)
  else if op = 2 then s.after (execRegionRelease p v s)
  else s.after (execRegionQuery p v s)

/-- The context window of MEM (R207), by offset; a context's own page writes only its region command and its selection. -/
def State.putMemCtx (s : State) (p : Path) (o : Nat) (v : Word) : State :=
  let c := s.shownCtx p
  if o = 0x20 then s.putRcmd p v
  else if o = 0x3C then s.setPath p { s.path p with seqSel := v.setWidth 8 }
  else if !privileged p then s
  else if o = 0x04 then s.setCtx c { s.ctx c with quota := v }
  else if o = 0x0C then s.setCtx c { s.ctx c with remEn := v.getLsbD 31, remCap := v.setWidth 31 }
  else if o = 0x14 then s.threadsWrite p v
  else if o = 0x18 then s.setCtx c { s.ctx c with squota := BitVec.ofNat 9 (min 256 (bitsOf v 8 0)) }
  else if o = 0x1C then s.grantWrite p v
  else if 0x80 ≤ o ∧ o < 0x180 then
    s.setCtx c { s.ctx c with peers := SMap.put (s.ctx c).peers ((o - 0x80) / 4) (v &&& 0x8FFFFFFF) }
  else s

/-- MEM (R207), by offset. -/
def State.putMem (s : State) (p : Path) (o : Nat) (v : Word) : State :=
  if o = 0x0C then s.setPath p { s.path p with ctxSel := v.setWidth 12 }
  else if o = 0x10 then s.putCtxCmd p v
  else if 0x2400 ≤ o ∧ o < 0x2600 then s.putMemCtx p (o - 0x2400) v
  else s.storePol (0x900000 + o) v

/-- PROOF (R187), by offset. -/
def State.putProof (s : State) (p : Path) (o : Nat) (v : Word) : State :=
  if o = 0x24 then
    let s := if v.getLsbD 0 then s.reseed p else s
    if v.getLsbD 1 then s.relearn p else s
  else s.storePol (0xA00000 + o) v

/-- The station that MGMT_STN_SEL shows, changed. -/
def State.modStation (s : State) (f : Station → Station) : State :=
  { s with mgmt := { s.mgmt with stns := SMap.put s.mgmt.stns s.mgmt.stnSel.toNat (f s.station) } }

/-- MGMT (R413), by offset. -/
def State.putMgmt (s : State) (o : Nat) (v : Word) : State :=
  if o = 0x40 then { s with mgmt := { s.mgmt with stnSel := v.setWidth 2 } }
  else if o = 0x44 then (s.modStation fun x => { x with en := v.getLsbD 31, port := v.setWidth 16 }).judgeRelay
  else if 0x50 ≤ o ∧ o ≤ 0x5C then s.modStation fun x => { x with addr := setAt x.addr ((o - 0x50) / 4) v }
  else s.storePol (0xB00000 + o) v

/-! ### Writes to the unit window (R24-R37, R74, R115, R188, R259) -/

/-- UCB_CTL: the four control bits, and then RESET where it is written 1. -/
def State.ctlRegWrite (s : State) (p : Path) (v : Word) : State :=
  let s := s.ctlWrite p fun c =>
    { c with hold := v.getLsbD 4, fence := v.getLsbD 3, drain := v.getLsbD 1, enable := v.getLsbD 0 }
  if v.getLsbD 2 then s.resetWrite p else s

/-- The level registers of one unit that store what is written. -/
def State.levelWrite (p : Path) (o : Nat) (v : Word) (s : State) (u : URef) : State :=
  match u with
  | .tray t =>
    if o = 0x54 then s.modTray t fun x => { x with flags := x.flags &&& ~~~ (v.setWidth 7) }
    else if o = 0x224 then s.modTray t fun x => { x with proof := { x.proof with jsel := v.setWidth 9 } }
    else if o = 0x324 then
      let s := if v.getLsbD 0 then s.stripTray (.tray t) else s
      if v.getLsbD 1 then s.relockUnit (.tray t) else s
    else if o = 0x328 then s.setPath p { s.path p with ringSel := BitVec.ofNat 11 (min 1055 (bitsOf v 10 0)) }
    else s
  | .cluster c => if o = 0x4C then s.modCluster c fun x => { x with flags := x.flags &&& ~~~ (v.setWidth 5) } else s
  | _ => s

/-- A write to the window, by offset from 0x100_1000. -/
def State.windowWrite (s : State) (p : Path) (o : Nat) (v : Word) : State :=
  if o = 0x04 then s.ctlRegWrite p v
  else if o = 0x0C then s.mapField p (v.setWidth 6)
  else if o = 0x10 then s.vfField p v
  else if o = 0x14 then s.narrowWrite p (State.missUnit v) (State.missPid v)
  else if o = 0x24 then s.ownerField p (v.setWidth 6)
  else s.narrowWrite p (State.levelWrite p o v) fun s _ => s

/-- UNIT (R24). -/
def State.putUnit (s : State) (p : Path) (a : Nat) (v : Word) : State :=
  if a = 0x1000000 then s.after (execUnitSelWrite p v s)
  else if a = 0x1000004 then s.after (execUnitSelModeWrite p v s)
  else if 0x1001000 ≤ a ∧ a < 0x1002000 then
    s.windowed p (.regWrite p (BitVec.ofNat 26 a) v) fun s => s.windowWrite p (a - 0x1001000) v
  else s

/-! ### Any write -/

/-- A 32-bit register written, by CSR address. -/
def State.putReg (s : State) (p : Path) (a : Nat) (v : Word) : State :=
  if a < 0x100000 then s.putMod p a v
  else if a < 0x200000 then s.putGov p a v
  else if a < 0x300000 then s.putTime (a - 0x200000) v
  else if a < 0x400000 then s.putCs p (a - 0x300000) v
  else if a < 0x500000 then s.putSteer p (a - 0x400000) v
  else if a < 0x600000 then s.putFab p (a - 0x500000) v
  else if a < 0x700000 then s.putHost p (a - 0x600000) v
  else if a < 0x800000 then s.putLight p (a - 0x700000) v
  else if a < 0x900000 then s.putFw p (a - 0x800000) v
  else if a < 0xA00000 then s.putMem p (a - 0x900000) v
  else if a < 0xB00000 then s.putProof p (a - 0xA00000) v
  else if a < 0xC00000 then s.putMgmt (a - 0xB00000) v
  else s.putUnit p a v

/-- A 64-bit register written whole, by the CSR address of its low word; the others cannot be written. -/
def State.putWide (s : State) (p : Path) (a : Nat) (v : BitVec 64) : State :=
  let c := s.shownCtx p
  let q := s.path p
  if a = 0x902424 then s.setPath p { q with rbase := v }
  else if a = 0x90242C then s.setPath p { q with rsize := v }
  else if inRun a 0x602600 0x602620 then
    let r := (a - 0x602600) / 8
    let x := (s.ctx c).ring r
    if x.en then s else s.setRing c r { x with base := v }
  else if a = 0x602630 then s.statusSet c v (s.ctx c).scount.toNat
  else if a = 0x602640 then s.setCtx c { s.ctx c with mbase := v }
  else s

/-- What a write of the register at CSR address `a` is held under (R14). -/
def State.heldKey (s : State) (p : Path) (a : Nat) : Nat := a + 2 ^ 27 * s.chosen p a

/-- A write of a low word is held on its path. -/
def State.lowWrite (s : State) (p : Path) (a : Nat) (v : Word) : State := s.setPath p { s.path p with wl := [(s.heldKey p a, v)] }

/-- A write of a high word takes effect with the low word that its path holds of the same register, or is ignored. -/
def State.highWrite (s : State) (p : Path) (a : Nat) (v : Word) : State :=
  match SMap.find (s.path p).wl (s.heldKey p a) with
  | some lo => (s.setPath p { s.path p with wl := [] }).putWide p a (v ++ lo)
  | none => s

/-- A write of a register on a path that carries it (R13, R39). -/
def State.writeReg (s : State) (p : Path) (a : Nat) (v : Word) : State :=
  let c := canon p a
  if !s.carries p ∨ a % 4 ≠ 0 then s
  else if s.wideLow p c then s.lowWrite p c v
  else if 4 ≤ c ∧ s.wideLow p (c - 4) then s.highWrite p (c - 4) v
  else s.putReg p c v

/-- Registers written in ascending order. -/
def State.writeRegs (s : State) (p : Path) (a : Nat) : List Word → State
  | [] => s
  | v :: r => (s.writeReg p a v).writeRegs p (a + 4) r

def execRegWrite (p : Path) (a : CsrAddr) (v : Word) (s : State) : Out := .next (s.writeReg p a.toNat v)

/-! ### 64-bit registers (R14) -/

/-- The address is that of a high word. -/
def State.wideHigh (s : State) (p : Path) (a : Nat) : Bool := decide (4 ≤ canon p a) && s.wideLow p (canon p a - 4)

def execWideLowRead (p : Path) (a : CsrAddr) (s : State) : Out :=
  .next (if s.carries p ∧ s.latches p a.toNat then s.readSent p a.toNat else s)

def execWideHighRead (p : Path) (a : CsrAddr) (s : State) : Out :=
  .next (if s.carries p ∧ (s.wideHigh p a.toNat ∨ a = 0x200004 ∨ a = 0x200008) then s.readSent p a.toNat else s)

def execWideLowWrite (p : Path) (a : CsrAddr) (v : Word) (s : State) : Out :=
  .next (if s.carries p ∧ s.wideLow p (canon p a.toNat) then s.lowWrite p (canon p a.toNat) v else s)

def execWideHighWrite (p : Path) (a : CsrAddr) (v : Word) (s : State) : Out :=
  .next (if s.carries p ∧ s.wideHigh p a.toNat then s.highWrite p (canon p a.toNat - 4) v else s)

/-! ### The end of a wildcard write (R26) -/

/-- A held access of the window is made, whatever has become of its path since: it is held, not dropped (R26). Behind another
wildcard write it is held again. -/
def State.redo (s : State) (c : Instr) : State :=
  match c with
  | .unitSelWrite p v => s.behind p c fun s => s.selWrite p v
  | .unitSelModeWrite p v => s.behind p c fun s => s.selModeWrite p v
  | .ucbHold p on => s.behind p c fun s => s.holdBit p on
  | .ucbFence p on => s.behind p c fun s => s.fenceBit p on
  | .ucbDrain p on => s.behind p c fun s => s.drainBit p on
  | .ucbEnable p on => s.behind p c fun s => s.enableBit p on
  | .ucbReset p => s.behind p c fun s => s.resetWrite p
  | .ucbMapWrite p x => s.behind p c fun s => s.mapField p x
  | .ucbVfWrite p v => s.behind p c fun s => s.vfField p v
  | .ucbOwnerWrite p pid => s.behind p c fun s => s.ownerField p pid
  | .strip p => s.behind p c fun s => s.stripField p
  | .relock p => s.behind p c fun s => s.relockField p
  | .regWrite p a v => s.behind p c fun s => s.windowWrite p (a.toNat - 0x1001000) v
  | _ => s

/-- BUSY returns to 0, and the accesses held on the path go on in their order. -/
def State.delivered (s : State) (p : Path) : State :=
  let q := s.path p
  if q.busy then
    q.heldAcc.foldl (fun s (h : WinAccess) => match h with | .cmd c => s.redo c) (s.setPath p { q with busy := false, heldAcc := [] })
  else s

def execWildcardDelivered (p : Path) (s : State) : Out := .next (s.delivered p)

/-! ### Stage records (R339, R340) -/

/-- The record that the executor has met, if it has this operation. -/
def State.recordOf (s : State) (op : Byte) : Option Rec :=
  if s.mod.recWait = .next then s.mod.recs.head?.filter fun r => r.op == op else none

/-- The record is done and the next one is met. -/
def State.recordDone (s : State) : State := ({ s with mod := { s.mod with recs := s.mod.recs.drop 1 } }).nextRecord

def execRecordWrite (s : State) : Out :=
  .next (match s.recordOf 1 with
    | some r => (s.writeReg .image r.addr.toNat r.value).recordDone
    | none => s)

/-- MODIFY: the register is read, and the masked value written. -/
def State.recordMod (s : State) (r : Rec) : State :=
  let x := s.readReg .image r.addr.toNat
  x.2.writeReg .image r.addr.toNat ((x.1 &&& ~~~ r.mask) ||| (r.value &&& r.mask))

def execRecordModify (s : State) : Out :=
  .next (match s.recordOf 2 with
    | some r => (s.recordMod r).recordDone
    | none => s)

/-- POLL: the register is read; the record is done where the masked value is VALUE. -/
def State.recordRead (s : State) (r : Rec) : State :=
  let x := s.readReg .image r.addr.toNat
  if x.1 &&& r.mask = r.value then x.2.recordDone else x.2

def execRecordPoll (s : State) : Out :=
  .next (match s.recordOf 3 with
    | some r => s.recordRead r
    | none => s)

def execRecordPollTimeout (s : State) : Out := .next (if (s.recordOf 3).isSome then s.halt 3 else s)

def execRecordDelay (s : State) : Out :=
  .next (if (s.recordOf 4).isSome then { s with mod := { s.mod with recWait := .delay } } else s)

def execRecordDelayEnd (s : State) : Out := .next (if s.mod.recWait = .delay then s.recordDone else s)

/-! ### CSR_READ and CSR_WRITE (R397) -/

/-- The path of an HMP session. -/
def hmpPath (n : Nat) : Path := .hmp (BitVec.ofNat 2 n)

/-- The bytes of registers in a message. -/
def wordBytes (l : List Word) : List Byte := l.flatMap fun w => leBytes 4 w.toNat

def execCsrRead (h : HmpHead) (a : CsrAddr) (n : BitVec 8) (s : State) : Out :=
  .next (s.onAuth 0x10 h fun s k _ =>
    if n = 0 ∨ 64 < n.toNat ∨ a.toNat % 4 ≠ 0 then s.mpDrop
    else
      let r := s.readRegs (hmpPath k) a.toNat n.toNat
      r.2.reply k 0x10 h.seq 0 (wordBytes r.1))

def execCsrWrite (h : HmpHead) (a : CsrAddr) (vs : List Word) (s : State) : Out :=
  .next (s.onAuth 0x11 h fun s k _ =>
    if vs = [] ∨ 64 < vs.length ∨ a.toNat % 4 ≠ 0 then s.mpDrop
    else (s.writeRegs (hmpPath k) a.toNat vs).reply k 0x11 h.seq 0 [])

/-! ### RDMA requests (R210-R216) -/

/-- The queue pair behind a local QPN (R212). -/
def qpOf (qpn : BitVec 24) : Option Nat :=
  let n := qpn.toNat
  if 0x1000 ≤ n ∧ n < 0x2000 then some (n - 0x1000) else if 0x100 ≤ n ∧ n < 0x110 then some (4096 + (n - 0x100)) else none

/-- The path of a queue pair. -/
def pathOf (k : Nat) : Path := if k < 4096 then .page (BitVec.ofNat 12 k) else .admin (BitVec.ofNat 4 (k - 4096))

/-- A CE-marked packet: at most one CNP per CNP_INTERVAL (R211). -/
def State.ceMark (s : State) (k : Nat) (ce : Bool) : State :=
  let q := s.qp k
  let due := match q.cnpAt with
    | none => true
    | some t => decide (1000 * s.polF 0x600008 15 8 ≤ s.up - t)
  if ce && due then
    let s := (s.setQp k { q with cnpAt := some s.up }).setHport q.port
      { s.hport q.port with cnpTx := satAdd (s.hport q.port).cnpTx 1 }
    s.roce k .cnp
  else s

/-- The receive buffer of a port as a request finds it: past 75 % full PFC pauses, below 50 % it releases (R211). -/
def State.pfcOut (s : State) (p : BitVec 1) (buf : Nat) : State :=
  let x := s.hport p
  if s.pfcOn p && !x.pausing && decide (1572864 < buf) then (s.setHport p { x with pausing := true }).send (.pfc p true)
  else if x.pausing && decide (buf < 1048576) then (s.setHport p { x with pausing := false }).send (.pfc p false)
  else s

/-- A request refused: NAK, and the queue pair goes to ERROR (R213, R214). The reasons are those of QP_STATE. -/
def State.nak (s : State) (k : Nat) (psn : BitVec 24) (reason : Byte) : State := (s.roce k (.nak psn reason)).qpError k reason

/-- PSN `a` comes before `b`, in the sense of RC: less than half of the numbers away. -/
def psnBefore (a b : BitVec 24) : Bool := decide (a ≠ b) && decide ((b - a).toNat < 8388608)

/-- A host request that arrives and takes `n` PSNs: the frame and the buffer, and, for a queue pair in RTS, `f` where the request is the next
in order. One ahead of its turn is answered with a sequence NAK and dropped (go-back-N, R210); one that was served before is
handed to `again`. -/
def State.hostRequest (s : State) (h : RoceHead) (n : Nat) (again f : State → Nat → State) : State :=
  let s := (s.frameIn h.port).pfcOut h.port h.bufBytes.toNat
  match if h.tagged = s.tagOn (ethOf h.port) then qpOf h.qpn else none with
  | none => s.dropFrame (ethOf h.port)
  | some k =>
    if (s.qp k).st ≠ 1 then s
    else
      let s := s.ceMark k h.ce
      if h.psn = (s.qp k).expPsn then f (s.modQp k fun q => { q with expPsn := h.psn + BitVec.ofNat 24 n }) k
      else if psnBefore (s.qp k).expPsn h.psn then s.roce k (.nak (s.qp k).expPsn 0)
      else again s k

/-- The spaces of R214. -/
inductive RSpace where
  | device (c : CtxNo)
  | pages
  | authPage (a : BitVec 4)
  | csr
deriving DecidableEq, Repr

/-- A key in its space, for a range of `n` bytes from `va`; none is a Remote Access Error (R214). -/
def State.spaceOf (s : State) (k : Nat) (rkey : Word) (va n : Nat) : Option RSpace :=
  let q := s.qp k
  let low := bitsOf rkey 7 0
  let c := BitVec.ofNat 12 k
  let regs (size : Nat) : Bool := va % 4 == 0 && n % 4 == 0 && decide (n ≤ 256) && decide (va + n ≤ size)
  if bitsOf rkey 31 8 ≠ q.keytag.toNat then none
  else if k < 4096 then
    if low = 0x01 ∧ (s.ctx c).inRegion va n ∧ (s.ctx c).translates va then some (.device c)
    else if low = 0x02 ∧ regs 0x3000 then some .pages
    else none
  else if low = 0x10 ∧ regs 0x1000 then some (.authPage (BitVec.ofNat 4 (k - 4096)))
  else if low = 0x11 ∧ q.auth ∧ regs 0x4000000 then some .csr
  else none

/-- A word of the authentication page (R216). -/
def State.authWord (s : State) (a : BitVec 4) (o : Nat) : Word :=
  let q := s.qp (adminQp a)
  if o < 0x30 then wordOf q.nonce.toNat (o / 4)
  else if 0x40 ≤ o ∧ o < 0x50 then wordOf s.fuse.serial.toNat ((o - 0x40) / 4)
  else if 0x100 ≤ o ∧ o < 0x160 then BitVec.ofNat 32 (leNat (Memory.readN q.sig (o - 0x100) 4))
  else if o = 0x160 then q.keyIdx
  else if o = 0x168 then fld 0 q.result
  else 0

/-- Words written to the authentication page. -/
def State.authWrite (s : State) (a : BitVec 4) (o : Nat) (v : Word) : State :=
  let k := adminQp a
  if 0x100 ≤ o ∧ o < 0x160 then s.modQp k fun q => { q with sig := Memory.writeL q.sig (o - 0x100) (leBytes 4 v.toNat) }
  else if o = 0x160 then s.modQp k fun q => { q with keyIdx := v }
  else if o = 0x164 ∧ v.getLsbD 0 then s.authStart k
  else s
def State.authWrites (s : State) (a : BitVec 4) (o : Nat) : List Word → State
  | [] => s
  | v :: r => (s.authWrite a o v).authWrites a (o + 4) r

/-- Bytes as words. -/
def wordsOf (l : List Byte) : List Word :=
  (List.range (l.length / 4)).map fun i => BitVec.ofNat 32 (leNat ((l.drop (4 * i)).take 4))

/-- The WRITE that a packet of `n` bytes belongs to, and whether the packet ends it; none where RC allows no such packet now or the table
of R210 refuses it. What RC allows is taken from the InfiniBand rules (PRESUMED, log entry 93): one WRITE at a time, First and Middle of
a whole path MTU, Last and Only of the rest. -/
def Qp.writeOf (q : Qp) (psn : BitVec 24) (pkt : WritePkt) (rkey : Word) (va n : Nat) : Option (WriteRun × Bool) :=
  match pkt, q.run with
  | .only, none => if n ≤ 4096 then some ({ psn, rkey, va, len := n, got := 0 }, true) else none
  | .first len, none =>
    if n = 4096 ∧ 4096 < len.toNat then some ({ psn, rkey, va, len := len.toNat, got := 0 }, false) else none
  | .middle, some r => if n = 4096 ∧ r.got + 4096 < r.len then some (r, false) else none
  | .last, some r => if 0 < n ∧ n ≤ 4096 ∧ r.got + n = r.len then some (r, true) else none
  | _, _ => none

/-- The acknowledgement of a WRITE that is visible to every reader, or owed while a retraining window holds it (R194, R215). -/
def State.acknowledge (s : State) (k : Nat) (psn : BitVec 24) : State :=
  if s.heldFor (.host k) then s.modQp k fun q => { q with ackDue := some psn } else s.roce k (.ack psn)

/-- `n` bytes of a WRITE placed: it goes on, or it has ended. -/
def State.wrote (s : State) (k : Nat) (psn : BitVec 24) (r : WriteRun) (n : Nat) (last : Bool) : State :=
  if (s.qp k).st ≠ 1 then s
  else if last then (s.modQp k fun q => { q with run := none }).acknowledge k psn
  else s.modQp k fun q => { q with run := some { r with got := r.got + n } }

/-- A packet of a WRITE, which is judged whole with its first packet and with each later one (R214). A packet that meets a poisoned sector
which the WRITE covers in part writes the other sectors (R190). -/
def State.rdmaPut (s : State) (k : Nat) (psn : BitVec 24) (pkt : WritePkt) (rkey : Word) (va : Nat) (data : List Byte)
    (errs : List MemErr) : State :=
  match (s.qp k).writeOf psn pkt rkey va data.length with
  | none => s.nak k psn 4
  | some (r, last) =>
    match s.spaceOf k r.rkey r.va r.len with
    | none => s.nak k psn 2
    | some (.device c) =>
      let a := r.va + r.got
      let s := s.meet errs
      match s.partFault c r.va (r.va + r.len) a data.length with
      | some 0x0207 => s.nak k psn 3
      | some _ => (s.devWritePart (.host k) c r.va (r.va + r.len) a data).nak k psn 3
      | none => (s.devWritePart (.host k) c r.va (r.va + r.len) a data).wrote k psn r data.length last
    | some (.authPage a) => (s.authWrites a r.va (wordsOf data)).wrote k psn r data.length last
    | some .pages => (s.writeRegs (pathOf k) r.va (wordsOf data)).wrote k psn r data.length last
    | some .csr => (s.writeRegs (pathOf k) r.va (wordsOf data)).wrote k psn r data.length last

/-- The PSNs that a READ of `n` bytes takes: one per response packet (R210). -/
def readPsns (n : Nat) : Nat := max 1 ((n + 4095) / 4096)

/-- A READ answered: one packet per path MTU. -/
def State.answered (s : State) (k : Nat) (psn : BitVec 24) (data : List Byte) : State :=
  (List.range (readPsns data.length)).foldl
    (fun s i => s.roce k (.readResp (psn + BitVec.ofNat 24 i) ((data.drop (4096 * i)).take 4096))) s

/-- A request waits behind those of its queue pair that wait (R215). -/
def State.stall (s : State) (k : Nat) (i : Instr) : State := s.modQp k fun q => { q with stalled := q.stalled ++ [i] }
def Qp.waits (q : Qp) : Bool := q.ackDue.isSome || q.stalled != []

/-- A READ served; `i` is its command, which waits where a window holds reads (R194). -/
def State.rdmaGet (s : State) (k : Nat) (psn : BitVec 24) (rkey : Word) (va n : Nat) (mid : List (BitVec 16 × Bool)) (errs : List MemErr)
    (i : Instr) : State :=
  if (s.qp k).run.isSome then s.nak k psn 4
  else match s.spaceOf k rkey va n with
  | none => s.nak k psn 2
  | some (.device c) =>
    if s.readHeld c va n then s.stall k i
    else
      let s := s.meet errs
      if (s.readFault c va n).isSome then s.nak k psn 3
      else (s.devTouch c va n).answered k psn
        ((s.devRead c va n).zipIdx.map fun e => s.midByte c mid (va + e.2) e.1)
  | some (.authPage a) => s.answered k psn (wordBytes ((List.range (n / 4)).map fun i => s.authWord a (va + 4 * i)))
  | some .pages => let r := s.readRegs (pathOf k) va (n / 4); r.2.answered k psn (wordBytes r.1)
  | some .csr => let r := s.readRegs (pathOf k) va (n / 4); r.2.answered k psn (wordBytes r.1)

/-- A request in its turn: served, or behind the others that wait. -/
def State.inTurn (s : State) (k : Nat) (i : Instr) : State :=
  if (s.qp k).st ≠ 1 then s
  else if (s.qp k).waits then s.stall k i
  else match i with
    | .rdmaWrite h pkt rkey va data errs => s.rdmaPut k h.psn pkt rkey va.toNat data errs
    | .rdmaRead h rkey va len errs mid => s.rdmaGet k h.psn rkey va.toNat len.toNat mid errs i
    | _ => s

/-- A WRITE packet that was placed before is acknowledged again, unless its WRITE is still to be acknowledged. -/
def State.ackAgain (s : State) (k : Nat) (psn : BitVec 24) : State :=
  let q := s.qp k
  if q.waits || q.run.any (fun r => !psnBefore psn r.psn) then s else s.roce k (.ack psn)

def execRdmaWrite (h : RoceHead) (pkt : WritePkt) (rkey : Word) (va : BitVec 64) (data : List Byte) (errs : List MemErr) (s : State) : Out :=
  .next (s.hostRequest h 1 (fun s k => s.ackAgain k h.psn) fun s k => s.inTurn k (.rdmaWrite h pkt rkey va data errs))

/-- The READs of a queue pair that wait. -/
def Qp.reads (q : Qp) : Nat := q.stalled.countP fun i => match i with | .rdmaRead .. => true | _ => false

/-- The READ responder resources of R210 are taken: 16 of the queue pair or 1,024 of the module. -/
def State.readsFull (s : State) (k : Nat) : Bool :=
  decide (16 ≤ (s.qp k).reads) || decide (1024 ≤ (s.host.qps.map fun e => e.2.reads).foldl (· + ·) 0)

/-- A READ that arrives: one past the resources is an Invalid Request. -/
def State.readIn (s : State) (k : Nat) (psn : BitVec 24) (i : Instr) : State := if s.readsFull k then s.nak k psn 4 else s.inTurn k i

def execRdmaRead (h : RoceHead) (rkey : Word) (va : BitVec 64) (len : BitVec 32) (errs : List MemErr) (mid : List (BitVec 16 × Bool))
    (s : State) : Out :=
  let i := Instr.rdmaRead h rkey va len errs mid
  .next (s.hostRequest h (readPsns len.toNat) (fun s k => s.readIn k h.psn i) fun s k => s.readIn k h.psn i)

/-! ### The end of a retraining window (R194, R215) -/

/-- What a queue pair owes once nothing of it is held: its acknowledgement, then the requests that waited, in their order. -/
def State.hostOver (s : State) (k : Nat) : State :=
  if s.heldFor (.host k) then s
  else
    let q := s.qp k
    let s := s.modQp k fun q => { q with ackDue := none, stalled := [] }
    let s := match q.ackDue with
      | some psn => s.roce k (.ack psn)
      | none => s
    q.stalled.foldl (fun s i => s.inTurn k i) s

/-- A window closes: held writes and reads are served, and what waited for them goes on. -/
def State.windowOver (s : State) (i : Nat) (us : BitVec 8) : State :=
  if (s.site i).training.isNone then s
  else
    let s := (s.trainEnd i us).heldOver
    (s.host.qps.map (·.1)).foldl State.hostOver s

def execRetrainEnd (site : BitVec 4) (us : BitVec 8) (s : State) : Out := .next (s.windowOver site.toNat us)

end Sys2Proof.Machine
end

