-- ==== Sys2Proof/Machine/Activation.lean ====
section
/-! DEFINITION. The table-driven functions of the cores (R91, R147): a fixed-point value of each function, far finer than the result
formats, and the results that lie within 2 units in the last place of it. -/

set_option Elab.async false

namespace Sys2Proof.Machine

/-! ### Fixed point with 512 fraction bits -/

/-- One, the natural logarithm of 2, the square root of 1/2, 2 / √π and √(2/π). -/
def fxOne : Int := 0x100000000000000000000000000000000000000000000000000000000000000000000000000000000000000000000000000000000000000000000000000000000
def fxLn2 : Int := 0xb17217f7d1cf79abc9e3b39803f2f6af40f343267298b62d8a0d175b8baafa2be7b876206debac98559552fb4afa1b10ed2eae35c138214427573b291169b825
def fxRoot : Int := 0xb504f333f9de6484597d89b3754abe9f1d6f60ba893ba84ced17ac85833399154afc83043ab8a2c3a8b1fe6fdc83db390f74a85e439c7b4a780487363dfa2768
def fxErfC : Int := 0x120dd750429b6d11ae3a914fed7fd8688281341d7587cea2e7342b06199cc416180eb39f0b24e1e2281806c12d98f35d77a3e9ddc91c394f0e9eedf0efffd84a2
def fxGeluC : Int := 0xcc42299ea1b284687e59e2805d5c717fa7053e60a24e0db1808e369004c73a5d3bf158aa88fa7b6e47eba75766e9d11bd6284ef2e17c2a264f1d32688be119ff

/-- Products and quotients of fixed-point numbers. -/
def fxMul (a b : Int) : Int := a * b / fxOne
def fxDiv (a b : Int) : Int := a * fxOne / b

/-- A finite value in fixed point. -/
def fxOf : FVal → Int
  | .num neg m e => (if neg then -1 else 1) * (m * 2 ^ (e + 512).toNat : Nat)
  | _ => 0

/-- A fixed-point number as a value; `neg` is its sign where it is 0. -/
def fxVal (neg : Bool) (x : Int) : FVal := .num (if x = 0 then neg else decide (x < 0)) x.natAbs (-512)

/-- `n` terms of the series of the exponential, from term `k`, which is `t`. -/
def fxExpSum : Nat → Int → Nat → Int → Int
  | 0, _, _, _ => 0
  | n + 1, x, k, t => t + fxExpSum n x (k + 1) (fxMul t x / (k + 1))

/-- The exponential of a number from -200 to 200; beyond, a number outside every result format, or 0. -/
def fxExp (x : Int) : Int :=
  if x < -200 * fxOne then 0
  else if 200 * fxOne < x then fxOne * 2 ^ 256
  else
    let k := x / fxLn2
    let y := fxExpSum 110 (x - k * fxLn2) 0 fxOne
    if 0 ≤ k then y * 2 ^ k.toNat else y / 2 ^ (-k).toNat

/-- `n` terms of the series of the inverse hyperbolic tangent of a number whose square is `y2`: term `k` has the power `p`. -/
def fxAtanhSum : Nat → Int → Nat → Int → Int
  | 0, _, _, _ => 0
  | n + 1, y2, k, p => p / (2 * k + 1) + fxAtanhSum n y2 (k + 1) (fxMul p y2)

/-- The natural logarithm of `m 2^e`. -/
def fxLog (m : Nat) (e : Int) : Int :=
  let l := bitLen m
  let f : Int := (m * 2 ^ (513 - l) : Nat)
  let y := fxDiv (f - fxOne) (f + fxOne)
  (e + l - 1) * fxLn2 + 2 * fxAtanhSum 170 (fxMul y y) 0 y

/-- `n` terms of the series of the error function: term `k` has the power and factorial `t`, and `w` is the square. -/
def fxErfSum : Nat → Int → Nat → Int → Int
  | 0, _, _, _ => 0
  | n + 1, w, k, t => t / (2 * k + 1) + fxErfSum n w (k + 1) (-(fxMul t w) / (k + 1))

/-- The normal distribution function: beyond 16 on either side it is 1 or 0 in every result format. -/
def fxPhi (x : Int) : Int :=
  if x < -16 * fxOne then 0
  else if 16 * fxOne < x then fxOne
  else
    let z := fxMul x fxRoot
    (fxOne + fxMul fxErfC (fxErfSum 650 (fxMul z z) 0 z)) / 2

/-- The logistic function and the hyperbolic tangent. -/
def fxSigmoid (x : Int) : Int := if 0 ≤ x then fxDiv fxOne (fxOne + fxExp (-x)) else fxDiv (fxExp x) (fxOne + fxExp x)
def fxTanh (x : Int) : Int :=
  let e := fxExp (-2 * (x.natAbs : Int))
  let t := fxDiv (fxOne - e) (fxOne + e)
  if x < 0 then -t else t

/-- `n` Newton steps toward the integer square root of `a` from `r`. -/
def rootSteps : Nat → Nat → Nat → Nat
  | 0, _, r => r
  | n + 1, a, r => rootSteps n a ((r + a / r) / 2)

/-- The integer square root, at most one too large. -/
def natRoot (a : Nat) : Nat := if a = 0 then 0 else rootSteps 24 a (2 ^ ((bitLen a + 1) / 2))

/-- The function `f` of R147 at a finite value, in fixed point. -/
def fxFunc (f : Nat) (x : FVal) (m : Nat) (e : Int) : Int :=
  let v := fxOf x
  if f = 0 then fxExp v
  else if f = 1 then fxLog m e
  else if f = 2 then fxDiv fxOne v
  else if f = 3 then (natRoot (fxOne.toNat * fxOne.toNat * fxOne.toNat / v.toNat) : Nat)
  else if f = 4 then (natRoot (v.toNat * fxOne.toNat) : Nat)
  else if f = 5 then fxSigmoid v
  else if f = 6 then fxTanh v
  else if f = 7 then
    let u := fxMul fxGeluC (v + 44715 * fxMul (fxMul v v) v / 1000000)
    fxMul v (fxSigmoid (2 * u))
  else if f = 8 then fxMul v (fxPhi v)
  else fxMul v (fxSigmoid v)

/-! ### Results within 2 units in the last place (R91, R147) -/

/-- The encoding `k` steps from that of `v` in magnitude, where it is finite and within 2 units in the last place of `v`; else that of
`v`, rounded to nearest. -/
def FFmt.nearby (g : FFmt) (v : FVal) (k : Int) : Nat :=
  let b := (g.encode v).1
  let top := 2 ^ (g.frac + g.expo)
  let body := b % top
  let far : Int := body + k
  let c := far.toNat
  let last : Int := (max 1 (body / 2 ^ g.frac) : Nat) - g.bias - g.frac
  let gap := (fxOf (g.decode (b / top * top + c)) - fxOf v).natAbs
  if 0 ≤ far ∧ body < g.infBits ∧ c < g.infBits ∧ gap ≤ 2 * 2 ^ (last + 512).toNat then b / top * top + c else b

end Sys2Proof.Machine
end

