-- ==== Sys2Proof/Machine/Vector.lean ====
section
/-! DEFINITION. The rows that compute on a thread's own core (05, R144-R150): conversions, VEC, ACTIVATE, REDUCE and
MATMUL_EXACT. -/

set_option Elab.async false

namespace Sys2Proof.Machine

/-! ### Conversion to BS8 and to planes (R144, R145) -/

/-- CONVERT_BS8: vector `v` becomes vector FIRST + v of the group sequence. -/
def State.convertBs8Run (s : State) (k n : Nat) (t : Thread) (d : BitVec 512) : State :=
  let a := opnd d 0x10
  let b := opnd d 0x18
  let cnt := dN d 0x20 4
  let stride := dN d 0x24 4
  let first := dN d 0x28 1
  let f := dN d 0x29 1
  let z := fmtSize f
  let src := rowsExtent cnt stride (32 * z)
  let dst := 2112 * ((first + cnt - 1) / 64 + 1)
  s.checked k n t d
    { fmt := hdrOk d false && bodyOk d [(0x10, 8), (0x18, 8), (0x20, 4), (0x24, 4), (0x28, 1), (0x29, 1)] && a.among anySp &&
        b.among anySp && decide (first ≤ 63) && decide (f ≤ 4)
      align := alignedTo z a.off && alignedTo z stride && alignedTo 64 b.off, zero := cnt == 0
      ext := s.fits t a src && s.fits t b dst, trans := s.maps t a && s.maps t b } none fun ct =>
    let w := s.seat k t
    let blocks := (List.range cnt).map fun v =>
      let l := s.getL w (a.plus (v * stride)) (32 * z)
      toBlock ((List.range 32).map (elemF l f))
    let mants (v : Nat) : Opnd := b.plus (2112 * ((first + v) / 64) + 32 * ((first + v) % 64))
    let expAt (v : Nat) : Opnd := b.plus (2112 * ((first + v) / 64) + 2048 + (first + v) % 64)
    let writes := if blocks.all Option.isSome then
        some (blocks.reduceOption.zipIdx.flatMap fun x => [(mants x.2, sbytes x.1.1), (expAt x.2, sbytes [x.1.2])])
      else none
    s.produce k n t d ct [(a, src)] ((List.range cnt).flatMap fun v => [(mants v, 32), (expAt v, 1)]) writes (meets a src b dst)

def execConvertBs8 (c : UnitAddr) (k : SlotNo) (s : State) : Out :=
  .next (s.descStep c k (fun d => opcode d == 0x28) State.convertBs8Run)

/-- CONVERT_PLANE: a 32 x 32 block of weights becomes a plane image and its row exponents. -/
def State.convertPlaneRun (s : State) (k n : Nat) (t : Thread) (d : BitVec 512) : State :=
  let a := opnd d 0x10
  let b := opnd d 0x18
  let e := opnd d 0x20
  let stride := dN d 0x28 4
  let f := dN d 0x2C 1
  let tr := dN d 0x2D 1 % 2 == 1
  let z := fmtSize f
  let src := rowsExtent 32 stride (32 * z)
  s.checked k n t d
    { fmt := hdrOk d false && bodyOk d [(0x10, 8), (0x18, 8), (0x20, 8), (0x28, 4), (0x2C, 1), (0x2D, 1)] && a.among anySp &&
        b.among anySp && e.among anySp && decide (f ≤ 4) && decide (dN d 0x2D 1 < 2)
      align := alignedTo z a.off && alignedTo z stride && alignedTo 64 b.off && alignedTo 32 e.off
      ext := s.fits t a src && s.fits t b 1024 && s.fits t e 32
      trans := s.maps t a && s.maps t b && s.maps t e } none fun ct =>
    let w := s.seat k t
    let rows := (List.range 32).map fun r => s.getL w (a.plus (r * stride)) (32 * z)
    let blocks := (List.range 32).map fun i => toBlock ((List.range 32).map fun j =>
      if tr then elemF (rows.getD j []) f i else elemF (rows.getD i []) f j)
    let writes := if blocks.all Option.isSome then
        let bs := blocks.reduceOption
        some [(b, bs.flatMap fun x => sbytes x.1), (e, sbytes (bs.map (·.2)))]
      else none
    s.produce k n t d ct [(a, src)] [(b, 1024), (e, 32)] writes (meets a src b 1024 || meets a src e 32)

def execConvertPlane (c : UnitAddr) (k : SlotNo) (s : State) : Out :=
  .next (s.descStep c k (fun d => opcode d == 0x29) State.convertPlaneRun)

/-! ### VEC (R91, R146) -/

/-- A value rounded to FP32. -/
def viaF32 (v : FVal) : FVal := fp32.decode (fp32.encode v).1

/-- The smaller and the larger operand: the number where one is NaN; -0 below +0 (IEEE 754-2019). -/
def FVal.minNum (a b : FVal) : FVal :=
  match a, b with
  | .nan, y => y
  | x, .nan => x
  | x, y => match FVal.lt x y with
    | some true => x
    | _ => if FVal.lt y x = some true then y else if x.negative then x else y
def FVal.maxNum (a b : FVal) : FVal :=
  match a, b with
  | .nan, y => y
  | x, .nan => x
  | x, y => match FVal.lt x y with
    | some true => y
    | _ => if FVal.lt y x = some true then x else if x.negative then y else x

/-- A floating-point element operation with one rounding (FMA rounds once, from A B + D). -/
def vecF (op : Nat) (a b dd : FVal) (sc off : FVal) : FVal :=
  if op = 0 then viaF32 (FVal.add a b)
  else if op = 1 then viaF32 (FVal.add a b.neg)
  else if op = 2 then viaF32 (FVal.mul a b)
  else if op = 3 then a.minNum b
  else if op = 4 then a.maxNum b
  else if op = 5 then viaF32 (FVal.add (FVal.mul a b) dd)
  else if op = 6 then viaF32 (FVal.add (FVal.mul a sc) off)
  else a

/-- An INT32 result and whether it saturated. -/
def sat32 (x : Int) : Int × Bool := ((satInt 32 x).toInt, decide (x < -2147483648) || decide (2147483647 < x))

/-- An integer element operation in INT32. -/
def vecI (op : Nat) (a b : Int) : Int × Bool :=
  if op = 0 then sat32 (a + b) else if op = 1 then sat32 (a - b) else if op = 2 then sat32 (a * b)
  else if op = 3 then (min a b, false) else if op = 4 then (max a b, false) else (a, false)

/-- INT_SAT in the cluster of a core (R91). -/
def State.intSat (s : State) (k : Nat) (hit : Bool) : State :=
  if hit then s.modCluster (clusterOfCore k) fun x => { x with flags := x.flags ||| 0x10 } else s

/-- The destination is undefined where it meets a source that it does not equal (R150). -/
def clash (b : Opnd) (m : Nat) (a : Opnd) (n : Nat) (sameSize : Bool) : Bool :=
  meets b m a n && !(sameSize && a == b)

/-- VEC. -/
def State.vecRun (s : State) (k n : Nat) (t : Thread) (d : BitVec 512) : State :=
  let a := opnd d 0x10
  let b := opnd d 0x18
  let r := opnd d 0x20
  let cnt := dN d 0x28 4
  let op := dN d 0x2C 1
  let fi := dN d 0x2D 1
  let fo := dN d 0x2E 1
  let scalar := dN d 0x2F 1 == 1
  let zi := fmtSize fi
  let zo := fmtSize fo
  let one := op == 6 || op == 7
  let bn := if scalar then zi else cnt * zi
  s.checked k n t d
    { fmt := hdrOk d false && bodyOk d [(0x10, 8), (0x18, 8), (0x20, 8), (0x28, 4), (0x2C, 1), (0x2D, 1), (0x2E, 1),
          (0x2F, 1), (0x30, 4), (0x34, 4)] && a.among nearSp && (if one then dN d 0x18 8 == 0 else b.among nearSp) &&
        r.among nearSp && decide (op ≤ 7) && decide (fi ≤ 6) && decide (fo ≤ 6) && decide (dN d 0x2F 1 ≤ 1) &&
        !((op == 5 || op == 6) && isInt fi)
      align := alignedTo zi a.off && (one || alignedTo zi b.off) && alignedTo zo r.off, zero := cnt == 0
      ext := s.fits t a (cnt * zi) && (one || s.fits t b bn) && s.fits t r (cnt * zo) } none fun ct =>
    let w := s.seat k t
    let la := s.getL w a (cnt * zi)
    let lb := if one then [] else s.getL w b bn
    let lr := s.getL w r (cnt * zo)
    let sc := f32 (BitVec.ofNat 32 (dN d 0x30 4))
    let off := f32 (BitVec.ofNat 32 (dN d 0x34 4))
    let bi (i : Nat) : Nat := if scalar then 0 else i
    let undef := clash r (cnt * zo) a (cnt * zi) (zi == zo) || (!one && clash r (cnt * zo) b bn (zi == zo))
    let elems : List (List Byte × Bool) := (List.range cnt).map fun i =>
      if isInt fi then
        let x := vecI op (elemI la fi i) (if one then 0 else elemI lb fi (bi i))
        (putInt fo x.1, x.2)
      else
        let dd := if isInt fo then ofInt (elemI lr fo i) else elemF lr fo i
        (putFloat fo (vecF op (elemF la fi i) (if one then .nan else elemF lb fi (bi i)) dd sc off), false)
    (s.intSat k (elems.any (·.2))).produce k n t d ct [] [(r, cnt * zo)] (some [(r, elems.flatMap (·.1))]) undef

def execVec (c : UnitAddr) (k : SlotNo) (s : State) : Out := .next (s.descStep c k (fun d => opcode d == 0x30) State.vecRun)

/-! ### ACTIVATE (R91, R147) -/

/-- A value is 1. -/
def FVal.isOne : FVal → Bool
  | .num false m e => e ≤ 0 && m == 2 ^ (-e).toNat
  | _ => false

/-- The results that the special values fix (R147: the recommended functions of IEEE 754-2019); `none` where a table gives the value. -/
def special (f : Nat) (x : FVal) : Option FVal :=
  match x with
  | .nan => some .nan
  | .inf neg =>
    if f = 0 then some (if neg then .num false 0 0 else .inf false)
    else if f = 1 ∨ f = 4 then some (if neg then .nan else .inf false)
    else if f = 2 then some (.num neg 0 0)
    else if f = 3 then some (if neg then .nan else .num false 0 0)
    else if f = 6 then some (.num neg 1 0)
    else none
  | .num neg m _ =>
    if m = 0 then
      if f = 0 then some (.num false 1 0)
      else if f = 1 then some (.inf true)
      else if f = 2 ∨ f = 3 then some (.inf neg)
      else if f = 4 ∨ f = 6 then some x
      else none
    else if f = 1 && x.isOne then some (.num false 0 0)
    else if neg && (f == 1 || f == 3 || f == 4) then some .nan
    else none

/-- One element: a special value; or the table's result, within 2 units in the last place, the same on every run and every core (R91);
or at an infinity that no rule speaks of a free value. -/
def activation (f fmt : Nat) (x : FVal) (bits : Nat) : List Byte :=
  match special f x, x with
  | some v, _ => putFloat fmt v
  | none, .num neg m e =>
    leBytes (fmtSize fmt) ((fmtOf fmt).nearby (fxVal neg (fxFunc f x m e)) (Config.steps (16 * fmt + f) (BitVec.ofNat 32 bits) % 5 - 2))
  | none, _ => leBytes (fmtSize fmt) (Config.activation (16 * fmt + f) (BitVec.ofNat 32 bits)).toNat

/-- ACTIVATE. -/
def State.activateRun (s : State) (k n : Nat) (t : Thread) (d : BitVec 512) : State :=
  let a := opnd d 0x10
  let r := opnd d 0x18
  let cnt := dN d 0x20 4
  let fn := dN d 0x24 1
  let f := dN d 0x25 1
  let scale := dN d 0x26 1 % 2 == 1
  let z := fmtSize f
  s.checked k n t d
    { fmt := hdrOk d false && bodyOk d [(0x10, 8), (0x18, 8), (0x20, 4), (0x24, 1), (0x25, 1), (0x26, 1), (0x28, 4)] &&
        a.among nearSp && r.among nearSp && decide (fn ≤ 9) && decide (f ≤ 1) && decide (dN d 0x26 1 < 2)
      align := alignedTo z a.off && alignedTo z r.off, zero := cnt == 0
      ext := s.fits t a (cnt * z) && s.fits t r (cnt * z) } none fun ct =>
    let l := s.getL (s.seat k t) a (cnt * z)
    let sc := f32 (BitVec.ofNat 32 (dN d 0x28 4))
    let out := (List.range cnt).flatMap fun i =>
      let x := elemF l f i
      let y := if scale then viaF32 (FVal.mul sc x) else x
      activation fn f y (fp32.encode y).1
    s.produce k n t d ct [] [(r, cnt * z)] (some [(r, out)]) (clash r (cnt * z) a (cnt * z) true)

def execActivate (c : UnitAddr) (k : SlotNo) (s : State) : Out :=
  .next (s.descStep c k (fun d => opcode d == 0x33) State.activateRun)

/-! ### REDUCE (R148) -/

/-- The signed number of a finite value in units of 2^g. -/
def FVal.units (g : Int) (v : FVal) : Int :=
  let x : Int := (v.mant * 2 ^ (v.expo - g).toNat : Nat)
  if v.negative then -x else x

/-- The exponent of the last set bit of `m 2^e`, found in at most `n` steps. -/
def lastBit : Nat → Nat → Int → Int
  | 0, _, e => e
  | n + 1, m, e => if m % 2 = 0 then lastBit n (m / 2) (e + 1) else e

/-- The sum of finite values that every order of additions gives, where there is one: zeros alone; or multiples of one power of two
that all partial sums hold exactly. -/
def sureSum (vs : List FVal) : Option FVal :=
  let nz := vs.filter fun v => v.mant != 0
  match nz.map fun v => lastBit 64 v.mant v.expo with
  | [] => some (.num (vs.all FVal.negative) 0 0)
  | e :: es =>
    let g := es.foldl min e
    let xs := nz.map (FVal.units g)
    let size := (xs.map Int.natAbs).foldl (· + ·) 0
    let x := xs.foldl (· + ·) 0
    if size ≤ 2 ^ 24 ∧ -149 ≤ g ∧ g + bitLen size ≤ 128 ∧ size * 2 ^ (g + 149).toNat < 2 ^ 277 then
      some (if x = 0 then .num false 0 0 else .num (decide (x < 0)) x.natAbs g)
    else none

/-- No partial sum of the finite values overflows away from the infinity of sign `neg`: they have its sign, or are small. -/
def keepsInf (neg : Bool) (vs : List FVal) : Bool :=
  vs.all fun v => !v.finite || v.mant == 0 || v.negative == neg ||
    decide (v.mant * vs.length * 2 ^ (v.expo + 300).toNat ≤ 2 ^ 427)

/-- A sum over the fixed tree, whose shape is open (R148): what every tree gives where all give the same, and for one or two elements;
else a free value of the elements. -/
def treeSum (f : Nat) (vs : List FVal) : FVal :=
  let free := f32 (Config.tree f (vs.map toF32))
  match f, vs with
  | _, [a] => viaF32 a
  | 0, [a, b] => viaF32 (FVal.add a b)
  | _, _ =>
    if vs.any (· == .nan) || (vs.contains (.inf true) && vs.contains (.inf false)) then .nan
    else if vs.contains (.inf true) then (if keepsInf true vs then .inf true else free)
    else if vs.contains (.inf false) then (if keepsInf false vs then .inf false else free)
    else (sureSum vs).getD free

/-- The first extreme element: its index and value, NaN left out; `better x y` says that x beats y. -/
def extreme (better : FVal → FVal → Bool) (vs : List FVal) : Option (Nat × FVal) :=
  (vs.zipIdx.filter fun x => x.1 != .nan).foldl (fun a x => match a with
    | some y => if better x.1 y.2 then some (x.2, x.1) else a
    | none => some (x.2, x.1)) none

/-- The result of one row. -/
def reduceRow (op : Nat) (vs : List FVal) : List Byte :=
  let less (x y : FVal) : Bool := FVal.lt x y == some true
  if op = 0 then putFloat 0 (treeSum 0 vs)
  else if op = 1 then putFloat 0 (treeSum 1 (vs.map fun v => FVal.mul v v))
  else if op = 2 then putFloat 0 (vs.foldl FVal.maxNum .nan)
  else if op = 3 then putFloat 0 (vs.foldl FVal.minNum .nan)
  else leBytes 4 (match extreme (if op = 4 then fun x y => less y x else less) vs with
    | some x => x.1
    | none => 0xFFFFFFFF)

/-- REDUCE. -/
def State.reduceRun (s : State) (k n : Nat) (t : Thread) (d : BitVec 512) : State :=
  let a := opnd d 0x10
  let r := opnd d 0x18
  let rows := dN d 0x20 4
  let len := dN d 0x24 4
  let stride := dN d 0x28 4
  let op := dN d 0x2C 1
  let f := dN d 0x2D 1
  let z := fmtSize f
  let src := rowsExtent rows stride (len * z)
  s.checked k n t d
    { fmt := hdrOk d false && bodyOk d [(0x10, 8), (0x18, 8), (0x20, 4), (0x24, 4), (0x28, 4), (0x2C, 1), (0x2D, 1)] &&
        a.among nearSp && r.among nearSp && decide (op ≤ 5) && decide (f ≤ 2)
      align := alignedTo z a.off && alignedTo z stride && alignedTo 4 r.off, zero := rows == 0 || len == 0
      ext := s.fits t a src && s.fits t r (4 * rows) } none fun ct =>
    let w := s.seat k t
    let out := (List.range rows).flatMap fun i =>
      let l := s.getL w (a.plus (i * stride)) (len * z)
      reduceRow op ((List.range len).map (elemF l f))
    s.produce k n t d ct [] [(r, 4 * rows)] (some [(r, out)]) (meets r (4 * rows) a src)

def execReduce (c : UnitAddr) (k : SlotNo) (s : State) : Out :=
  .next (s.descStep c k (fun d => opcode d == 0x34) State.reduceRun)

/-! ### MATMUL_EXACT (R91, R149) -/

/-- Products added in ascending k, saturating at each sum: the value and whether a sum saturated. -/
def dotI (init : Int) (l : List (Int × Int)) : Int × Bool :=
  l.foldl (fun a x => let y := sat32 (a.1 + x.1 * x.2); (y.1, a.2 || y.2)) (init, false)

/-- Fused multiply-adds in ascending k, each rounded once to FP32. -/
def dotF (init : FVal) (l : List (FVal × FVal)) : FVal :=
  l.foldl (fun a x => viaF32 (FVal.add (FVal.mul x.1 x.2) a)) init

/-- MATMUL_EXACT. -/
def State.matmulRun (s : State) (k n : Nat) (t : Thread) (d : BitVec 512) : State :=
  let a := opnd d 0x10
  let b := opnd d 0x18
  let r := opnd d 0x20
  let mm := dN d 0x28 2
  let nn := dN d 0x2A 2
  let kk := dN d 0x2C 2
  let lda := dN d 0x2E 2
  let ldb := dN d 0x30 2
  let ldc := dN d 0x32 2
  let f := dN d 0x34 1
  let acc := dN d 0x35 1 % 2 == 1
  let bt := dN d 0x35 1 / 2 % 2 == 1
  let z := fmtSize f
  let na := z * rowsExtent mm lda kk
  let nb := z * (if bt then rowsExtent nn ldb kk else rowsExtent kk ldb nn)
  let nc := 4 * rowsExtent mm ldc nn
  s.checked k n t d
    { fmt := hdrOk d false && bodyOk d [(0x10, 8), (0x18, 8), (0x20, 8), (0x28, 2), (0x2A, 2), (0x2C, 2), (0x2E, 2),
          (0x30, 2), (0x32, 2), (0x34, 1), (0x35, 1)] && a.among nearSp && b.among nearSp && r.among nearSp && decide (f ≤ 5) &&
        decide (dN d 0x35 1 < 4) && !(decide (1 < mm) && decide (ldc < nn))
      align := alignedTo z a.off && alignedTo z b.off && alignedTo 4 r.off, zero := mm == 0 || nn == 0 || kk == 0
      ext := s.fits t a na && s.fits t b nb && s.fits t r nc } none fun ct =>
    let w := s.seat k t
    let la := s.getL w a na
    let lb := s.getL w b nb
    let lc := s.getL w r nc
    let ai (m x : Nat) : Nat := m * lda + x
    let bi (x j : Nat) : Nat := if bt then j * ldb + x else x * ldb + j
    let cell (m j : Nat) : List Byte × Bool :=
      if f = 5 then
        let x := dotI (if acc then elemI lc 6 (m * ldc + j) else 0)
          ((List.range kk).map fun i => (elemI la 5 (ai m i), elemI lb 5 (bi i j)))
        (putInt 6 x.1, x.2)
      else
        (putFloat 0 (dotF (if acc then elemF lc 0 (m * ldc + j) else .num false 0 0)
          ((List.range kk).map fun i => (elemF la f (ai m i), elemF lb f (bi i j)))), false)
    let rows : List (List (List Byte × Bool)) := (List.range mm).map fun m => (List.range nn).map fun j => cell m j
    (s.intSat k (rows.any fun l => l.any (·.2))).produce k n t d ct [] ((List.range mm).map fun m => (r.plus (4 * ldc * m), 4 * nn))
      (some (rows.zipIdx.map fun x => (r.plus (4 * ldc * x.2), x.1.flatMap (·.1)))) (meets r nc a na || meets r nc b nb)

def execMatmulExact (c : UnitAddr) (k : SlotNo) (s : State) : Out :=
  .next (s.descStep c k (fun d => opcode d == 0x38) State.matmulRun)

end Sys2Proof.Machine
end

