-- ==== Sys2Proof/Machine/Dispatch.lean ====
section
/-! DEFINITION. One arm per command: a direct call of its meaning. -/

namespace Sys2Proof.Machine

/-- The effect of a command on everything but the queue. -/
def exec (i : Instr) (s : State) : Host.Outcome State Fault Refusal :=
  match i with
  | .regWrite p a v => Sys2Proof.Machine.execRegWrite p a v s
  | .wideLowRead p a => Sys2Proof.Machine.execWideLowRead p a s
  | .wideHighRead p a => Sys2Proof.Machine.execWideHighRead p a s
  | .wideLowWrite p a v => Sys2Proof.Machine.execWideLowWrite p a v s
  | .wideHighWrite p a v => Sys2Proof.Machine.execWideHighWrite p a v s
  | .unitSelWrite p v => Sys2Proof.Machine.execUnitSelWrite p v s
  | .unitSelModeWrite p v => Sys2Proof.Machine.execUnitSelModeWrite p v s
  | .wildcardDelivered p => Sys2Proof.Machine.execWildcardDelivered p s
  | .ucbHold p on => Sys2Proof.Machine.execUcbHold p on s
  | .ucbFence p on => Sys2Proof.Machine.execUcbFence p on s
  | .ucbReset p => Sys2Proof.Machine.execUcbReset p s
  | .ucbDrain p on => Sys2Proof.Machine.execUcbDrain p on s
  | .ucbEnable p on => Sys2Proof.Machine.execUcbEnable p on s
  | .ucbMapWrite p phys => Sys2Proof.Machine.execUcbMapWrite p phys s
  | .mapPersisted u => Sys2Proof.Machine.execMapPersisted u s
  | .ucbVfWrite p v => Sys2Proof.Machine.execUcbVfWrite p v s
  | .ucbOwnerWrite p pid => Sys2Proof.Machine.execUcbOwnerWrite p pid s
  | .ucbTempRead p => Sys2Proof.Machine.execUcbTempRead p s
  | .selfTestDone u passed crcOk lockOk => Sys2Proof.Machine.execSelfTestDone u passed crcOk lockOk s
  | .drainComplete u => Sys2Proof.Machine.execDrainComplete u s
  | .exposureIssue u => Sys2Proof.Machine.execExposureIssue u s
  | .proofVerdict u => Sys2Proof.Machine.execProofVerdict u s
  | .loadStart u => Sys2Proof.Machine.execLoadStart u s
  | .loadRowWrite u => Sys2Proof.Machine.execLoadRowWrite u s
  | .swapExecute u => Sys2Proof.Machine.execSwapExecute u s
  | .swapRefreshDue u => Sys2Proof.Machine.execSwapRefreshDue u s
  | .inplaceRefreshDue u => Sys2Proof.Machine.execInplaceRefreshDue u s
  | .backgroundReloadDue u => Sys2Proof.Machine.execBackgroundReloadDue u s
  | .idleBoundary u => Sys2Proof.Machine.execIdleBoundary u s
  | .vstepPauseEnd u => Sys2Proof.Machine.execVstepPauseEnd u s
  | .modeSettleEnd u => Sys2Proof.Machine.execModeSettleEnd u s
  | .coreIssueCycle c ecc => Sys2Proof.Machine.execCoreIssueCycle c ecc s
  | .threadDispatch u => Sys2Proof.Machine.execThreadDispatch u s
  | .windowCleared c k => Sys2Proof.Machine.execWindowCleared c k s
  | .tallyApply u => Sys2Proof.Machine.execTallyApply u s
  | .tallyWaitTimeout c k => Sys2Proof.Machine.execTallyWaitTimeout c k s
  | .clockStepApply u => Sys2Proof.Machine.execClockStepApply u s
  | .queueAdmit c k => Sys2Proof.Machine.execQueueAdmit c k s
  | .ctxThreadsWrite p v => Sys2Proof.Machine.execCtxThreadsWrite p v s
  | .chainFetchDone c k errs => Sys2Proof.Machine.execChainFetchDone c k errs s
  | .nop c k => Sys2Proof.Machine.execNop c k s
  | .endThread c k => Sys2Proof.Machine.execEndThread c k s
  | .jump c k => Sys2Proof.Machine.execJump c k s
  | .unknownOpcode c k => Sys2Proof.Machine.execUnknownOpcode c k s
  | .threadStart c k => Sys2Proof.Machine.execThreadStart c k s
  | .tallyAdd c k => Sys2Proof.Machine.execTallyAdd c k s
  | .tallySet c k => Sys2Proof.Machine.execTallySet c k s
  | .tallyWait c k => Sys2Proof.Machine.execTallyWait c k s
  | .copy c k => Sys2Proof.Machine.execCopy c k s
  | .fill c k => Sys2Proof.Machine.execFill c k s
  | .fabricPut c k => Sys2Proof.Machine.execFabricPut c k s
  | .fabricGet c k => Sys2Proof.Machine.execFabricGet c k s
  | .moverDone id errs => Sys2Proof.Machine.execMoverDone id errs s
  | .expose c k => Sys2Proof.Machine.execExpose c k s
  | .planeLoad c k => Sys2Proof.Machine.execPlaneLoad c k s
  | .planeSwap c k => Sys2Proof.Machine.execPlaneSwap c k s
  | .accRead c k => Sys2Proof.Machine.execAccRead c k s
  | .accWrite c k => Sys2Proof.Machine.execAccWrite c k s
  | .convertBs8 c k => Sys2Proof.Machine.execConvertBs8 c k s
  | .convertPlane c k => Sys2Proof.Machine.execConvertPlane c k s
  | .vec c k => Sys2Proof.Machine.execVec c k s
  | .activate c k => Sys2Proof.Machine.execActivate c k s
  | .reduce c k => Sys2Proof.Machine.execReduce c k s
  | .matmulExact c k => Sys2Proof.Machine.execMatmulExact c k s
  | .seqOpen c k => Sys2Proof.Machine.execSeqOpen c k s
  | .seqClose c k => Sys2Proof.Machine.execSeqClose c k s
  | .seqAppend c k => Sys2Proof.Machine.execSeqAppend c k s
  | .seqReserveDone c k => Sys2Proof.Machine.execSeqReserveDone c k s
  | .seqEntriesVisible slot first errs => Sys2Proof.Machine.execSeqEntriesVisible slot first errs s
  | .seqQuery c k => Sys2Proof.Machine.execSeqQuery c k s
  | .publish c k => Sys2Proof.Machine.execPublish c k s
  | .putOpen m => Sys2Proof.Machine.execPutOpen m s
  | .putData m => Sys2Proof.Machine.execPutData m s
  | .getReq m errs => Sys2Proof.Machine.execGetReq m errs s
  | .getData m => Sys2Proof.Machine.execGetData m s
  | .msgAccept m errs => Sys2Proof.Machine.execMsgAccept m errs s
  | .msgRefuse m => Sys2Proof.Machine.execMsgRefuse m s
  | .msgDone m => Sys2Proof.Machine.execMsgDone m s
  | .pageRead m errs => Sys2Proof.Machine.execPageRead m errs s
  | .pageWrite m => Sys2Proof.Machine.execPageWrite m s
  | .pageData m => Sys2Proof.Machine.execPageData m s
  | .msgAbort m => Sys2Proof.Machine.execMsgAbort m s
  | .transferNoProgress id => Sys2Proof.Machine.execTransferNoProgress id s
  | .guestExposure u => Sys2Proof.Machine.execGuestExposure u s
  | .partnerReport u x => Sys2Proof.Machine.execPartnerReport u x s
  | .partnerTimeout u x => Sys2Proof.Machine.execPartnerTimeout u x s
  | .refereeReport u x outs => Sys2Proof.Machine.execRefereeReport u x outs s
  | .secondRefereeReport u x outs => Sys2Proof.Machine.execSecondRefereeReport u x outs s
  | .epochEnd u => Sys2Proof.Machine.execEpochEnd u s
  | .rateIntervalEnd u => Sys2Proof.Machine.execRateIntervalEnd u s
  | .scoreDecay u sec => Sys2Proof.Machine.execScoreDecay u sec s
  | .spareRestoreDone u lost => Sys2Proof.Machine.execSpareRestoreDone u lost s
  | .reseed p => Sys2Proof.Machine.execReseed p s
  | .relearn p => Sys2Proof.Machine.execRelearn p s
  | .scrubRead site sector bad => Sys2Proof.Machine.execScrubRead site sector bad s
  | .dieErase site die => Sys2Proof.Machine.execDieErase site die s
  | .retrainStart site die => Sys2Proof.Machine.execRetrainStart site die s
  | .retrainEnd site us => Sys2Proof.Machine.execRetrainEnd site us s
  | .ctxCreate p pid => Sys2Proof.Machine.execCtxCreate p pid s
  | .ctxDestroy p => Sys2Proof.Machine.execCtxDestroy p s
  | .ctxFence p => Sys2Proof.Machine.execCtxFence p s
  | .ctxUnfence p => Sys2Proof.Machine.execCtxUnfence p s
  | .ctxReset p => Sys2Proof.Machine.execCtxReset p s
  | .ctxResetDone c => Sys2Proof.Machine.execCtxResetDone c s
  | .ctxDestroyDone c => Sys2Proof.Machine.execCtxDestroyDone c s
  | .regionAllocate p v => Sys2Proof.Machine.execRegionAllocate p v s
  | .regionAllocateDone c r => Sys2Proof.Machine.execRegionAllocateDone c r s
  | .regionRelease p v => Sys2Proof.Machine.execRegionRelease p v s
  | .regionReleaseDone c r => Sys2Proof.Machine.execRegionReleaseDone c r s
  | .regionQuery p v => Sys2Proof.Machine.execRegionQuery p v s
  | .ctxTbgrantWrite p v => Sys2Proof.Machine.execCtxTbgrantWrite p v s
  | .lenderLost node => Sys2Proof.Machine.execLenderLost node s
  | .powerSample watts vinA vinB holdup => Sys2Proof.Machine.execPowerSample watts vinA vinB holdup s
  | .powerCapStep => Sys2Proof.Machine.execPowerCapStep s
  | .powerCapWithdraw => Sys2Proof.Machine.execPowerCapWithdraw s
  | .rdmaWrite h pkt rkey va data errs => Sys2Proof.Machine.execRdmaWrite h pkt rkey va data errs s
  | .rdmaRead h rkey va len errs mid => Sys2Proof.Machine.execRdmaRead h rkey va len errs mid s
  | .cnpReceived qp => Sys2Proof.Machine.execCnpReceived qp s
  | .dcqcnRateTimer qp => Sys2Proof.Machine.execDcqcnRateTimer qp s
  | .dcqcnByteCounter qp => Sys2Proof.Machine.execDcqcnByteCounter qp s
  | .pfcFrame port prio pause => Sys2Proof.Machine.execPfcFrame port prio pause s
  | .ackTimeout qp => Sys2Proof.Machine.execAckTimeout qp s
  | .mirrorAck qp => Sys2Proof.Machine.execMirrorAck qp s
  | .mirrorNak qp => Sys2Proof.Machine.execMirrorNak qp s
  | .arpRequest port ip tagged => Sys2Proof.Machine.execArpRequest port ip tagged s
  | .neighbourSolicitation port ip tagged => Sys2Proof.Machine.execNeighbourSolicitation port ip tagged s
  | .icmpEcho port v6 ip tagged => Sys2Proof.Machine.execIcmpEcho port v6 ip tagged s
  | .frameDropped port why => Sys2Proof.Machine.execFrameDropped port why s
  | .hostLinkChange port up => Sys2Proof.Machine.execHostLinkChange port up s
  | .qpConnect p => Sys2Proof.Machine.execQpConnect p s
  | .qpReset p => Sys2Proof.Machine.execQpReset p s
  | .authGo a => Sys2Proof.Machine.execAuthGo a s
  | .authVerifyDone a => Sys2Proof.Machine.execAuthVerifyDone a s
  | .authLockoutEnd a => Sys2Proof.Machine.execAuthLockoutEnd a s
  | .ringEnable p r v => Sys2Proof.Machine.execRingEnable p r v s
  | .ringDisable p r v => Sys2Proof.Machine.execRingDisable p r v s
  | .ringScan c r => Sys2Proof.Machine.execRingScan c r s
  | .ringIdle c r => Sys2Proof.Machine.execRingIdle c r s
  | .ringNop c r => Sys2Proof.Machine.execRingNop c r s
  | .ringStart c r => Sys2Proof.Machine.execRingStart c r s
  | .ringRelease c r => Sys2Proof.Machine.execRingRelease c r s
  | .statusRegionConfig p v => Sys2Proof.Machine.execStatusRegionConfig p v s
  | .laserFail u laser => Sys2Proof.Machine.execLaserFail u laser s
  | .combFail comb => Sys2Proof.Machine.execCombFail comb s
  | .combSpareLocked q => Sys2Proof.Machine.execCombSpareLocked q s
  | .refAccepted power offset => Sys2Proof.Machine.execRefAccepted power offset s
  | .refLost => Sys2Proof.Machine.execRefLost s
  | .refLocked offset => Sys2Proof.Machine.execRefLocked offset s
  | .carrierRefused x k offset => Sys2Proof.Machine.execCarrierRefused x k offset s
  | .carrierReadmitted x k offset => Sys2Proof.Machine.execCarrierReadmitted x k offset s
  | .ringLockTimeout r => Sys2Proof.Machine.execRingLockTimeout r s
  | .ringLocked r heater pn => Sys2Proof.Machine.execRingLocked r heater pn s
  | .tagCheckDue t => Sys2Proof.Machine.execTagCheckDue t s
  | .tagCheckDone t bad => Sys2Proof.Machine.execTagCheckDone t bad s
  | .sensorSample t temps => Sys2Proof.Machine.execSensorSample t temps s
  | .tempSettled u => Sys2Proof.Machine.execTempSettled u s
  | .calAgeDue t => Sys2Proof.Machine.execCalAgeDue t s
  | .stripSlice u beats => Sys2Proof.Machine.execStripSlice u beats s
  | .stripEnd u f => Sys2Proof.Machine.execStripEnd u f s
  | .calSetStage t => Sys2Proof.Machine.execCalSetStage t s
  | .relockAll p => Sys2Proof.Machine.execRelockAll p s
  | .stripAll p => Sys2Proof.Machine.execStripAll p s
  | .relock p => Sys2Proof.Machine.execRelock p s
  | .strip p => Sys2Proof.Machine.execStrip p s
  | .lightCalWrite p v => Sys2Proof.Machine.execLightCalWrite p v s
  | .lkSlewRead p => Sys2Proof.Machine.execLkSlewRead p s
  | .flitIdle x k f => Sys2Proof.Machine.execFlitIdle x k f s
  | .flitData x k f => Sys2Proof.Machine.execFlitData x k f s
  | .flitNak x k f => Sys2Proof.Machine.execFlitNak x k f s
  | .channelGrow l x => Sys2Proof.Machine.execChannelGrow l x s
  | .channelShrink l x k => Sys2Proof.Machine.execChannelShrink l x k s
  | .lineGrant q => Sys2Proof.Machine.execLineGrant q s
  | .lineWait x => Sys2Proof.Machine.execLineWait x s
  | .channelLocked x k rx offset => Sys2Proof.Machine.execChannelLocked x k rx offset s
  | .shortCheckDone x k rx errors => Sys2Proof.Machine.execShortCheckDone x k rx errors s
  | .berWindow10ms x k bits errs => Sys2Proof.Machine.execBerWindow10ms x k bits errs s
  | .berWindow1s x k bits errs height width => Sys2Proof.Machine.execBerWindow1s x k bits errs height width s
  | .uncorrectableBurst x k n => Sys2Proof.Machine.execUncorrectableBurst x k n s
  | .fecAlignmentLoss x k => Sys2Proof.Machine.execFecAlignmentLoss x k s
  | .readyCriterionBits x k => Sys2Proof.Machine.execReadyCriterionBits x k s
  | .channelFailedRetry x k rx => Sys2Proof.Machine.execChannelFailedRetry x k rx s
  | .alsDark port => Sys2Proof.Machine.execAlsDark port s
  | .alsLineRelease port => Sys2Proof.Machine.execAlsLineRelease port s
  | .alsProbeTimer port => Sys2Proof.Machine.execAlsProbeTimer port s
  | .probe p port => Sys2Proof.Machine.execProbe p port s
  | .probeEnd port => Sys2Proof.Machine.execProbeEnd port s
  | .alsRestored port power => Sys2Proof.Machine.execAlsRestored port power s
  | .steerSwitchGo p slot => Sys2Proof.Machine.execSteerSwitchGo p slot s
  | .prepare h id t planId digest => Sys2Proof.Machine.execPrepare h id t planId digest s
  | .slReady h id => Sys2Proof.Machine.execSlReady h id s
  | .refuseFrame h id code => Sys2Proof.Machine.execRefuseFrame h id code s
  | .commit h id => Sys2Proof.Machine.execCommit h id s
  | .abortFrame h id code => Sys2Proof.Machine.execAbortFrame h id code s
  | .commitAck h id => Sys2Proof.Machine.execCommitAck h id s
  | .outcomeFrame h id code resume => Sys2Proof.Machine.execOutcomeFrame h id code resume s
  | .prepareResend => Sys2Proof.Machine.execPrepareResend s
  | .readyDeadline => Sys2Proof.Machine.execReadyDeadline s
  | .commitResend => Sys2Proof.Machine.execCommitResend s
  | .quiesceStart => Sys2Proof.Machine.execQuiesceStart s
  | .quiesceEnd => Sys2Proof.Machine.execQuiesceEnd s
  | .switchT => Sys2Proof.Machine.execSwitchT s
  | .elementsLatched => Sys2Proof.Machine.execElementsLatched s
  | .lightVerify badPorts => Sys2Proof.Machine.execLightVerify badPorts s
  | .trafficResume => Sys2Proof.Machine.execTrafficResume s
  | .commitMissing => Sys2Proof.Machine.execCommitMissing s
  | .elementSettleTimeout inp outp => Sys2Proof.Machine.execElementSettleTimeout inp outp s
  | .hotSwapLatchRelease => Sys2Proof.Machine.execHotSwapLatchRelease s
  | .hotSwapLatchClose => Sys2Proof.Machine.execHotSwapLatchClose s
  | .bypass p => Sys2Proof.Machine.execBypass p s
  | .restore p => Sys2Proof.Machine.execRestore p s
  | .steerAbort p => Sys2Proof.Machine.execSteerAbort p s
  | .bypassLatched => Sys2Proof.Machine.execBypassLatched s
  | .govCopy g => Sys2Proof.Machine.execGovCopy g s
  | .govSecondCopyTimeout r seq => Sys2Proof.Machine.execGovSecondCopyTimeout r seq s
  | .govSelfcheckDone okA okB => Sys2Proof.Machine.execGovSelfcheckDone okA okB s
  | .govSwap p => Sys2Proof.Machine.execGovSwap p s
  | .govRoleSwapped => Sys2Proof.Machine.execGovRoleSwapped s
  | .resync p => Sys2Proof.Machine.execResync p s
  | .resyncDone => Sys2Proof.Machine.execResyncDone s
  | .keepA p => Sys2Proof.Machine.execKeepA p s
  | .keepB p => Sys2Proof.Machine.execKeepB p s
  | .splitReport h seq epoch => Sys2Proof.Machine.execSplitReport h seq epoch s
  | .discovery h d => Sys2Proof.Machine.execDiscovery h d s
  | .slLink h x k n => Sys2Proof.Machine.execSlLink h x k n s
  | .timeMarker h m => Sys2Proof.Machine.execTimeMarker h m s
  | .healthRelay h m => Sys2Proof.Machine.execHealthRelay h m s
  | .discoverySend port => Sys2Proof.Machine.execDiscoverySend port s
  | .discoverySilence port => Sys2Proof.Machine.execDiscoverySilence port s
  | .planLoad p slot => Sys2Proof.Machine.execPlanLoad p slot s
  | .planLoadDone => Sys2Proof.Machine.execPlanLoadDone s
  | .planErase p slot => Sys2Proof.Machine.execPlanErase p slot s
  | .planMarkRewrite => Sys2Proof.Machine.execPlanMarkRewrite s
  | .planAccept p port => Sys2Proof.Machine.execPlanAccept p port s
  | .spareOffer node => Sys2Proof.Machine.execSpareOffer node s
  | .powerUp vinA vinB => Sys2Proof.Machine.execPowerUp vinA vinB s
  | .stagePower => Sys2Proof.Machine.execStagePower s
  | .stageImage => Sys2Proof.Machine.execStageImage s
  | .stageGovern okA okB h4Ok => Sys2Proof.Machine.execStageGovern okA okB h4Ok s
  | .stageSites => Sys2Proof.Machine.execStageSites s
  | .stageMemory failed => Sys2Proof.Machine.execStageMemory failed s
  | .stageLight => Sys2Proof.Machine.execStageLight s
  | .stageTrays => Sys2Proof.Machine.execStageTrays s
  | .stageFabric => Sys2Proof.Machine.execStageFabric s
  | .stageHost => Sys2Proof.Machine.execStageHost s
  | .stageReady => Sys2Proof.Machine.execStageReady s
  | .recordWrite => Sys2Proof.Machine.execRecordWrite s
  | .recordModify => Sys2Proof.Machine.execRecordModify s
  | .recordPoll => Sys2Proof.Machine.execRecordPoll s
  | .recordPollTimeout => Sys2Proof.Machine.execRecordPollTimeout s
  | .recordDelay => Sys2Proof.Machine.execRecordDelay s
  | .recordDelayEnd => Sys2Proof.Machine.execRecordDelayEnd s
  | .modStageGo p v => Sys2Proof.Machine.execModStageGo p v s
  | .modReset p v => Sys2Proof.Machine.execModReset p v s
  | .s7Timeout => Sys2Proof.Machine.execS7Timeout s
  | .sitePowerOn site => Sys2Proof.Machine.execSitePowerOn site s
  | .siteReportTimeout site => Sys2Proof.Machine.execSiteReportTimeout site s
  | .bayLaserStart n => Sys2Proof.Machine.execBayLaserStart n s
  | .tableCrcReturn u t crcOk => Sys2Proof.Machine.execTableCrcReturn u t crcOk s
  | .tableCrcTimeout u t => Sys2Proof.Machine.execTableCrcTimeout u t s
  | .resetStopDone r => Sys2Proof.Machine.execResetStopDone r s
  | .endpointDrainTimeout pid => Sys2Proof.Machine.execEndpointDrainTimeout pid s
  | .ptpAnnounce m utc => Sys2Proof.Machine.execPtpAnnounce m utc s
  | .ptpSync clock seq rx origin twoStep => Sys2Proof.Machine.execPtpSync clock seq rx origin twoStep s
  | .ptpFollowUp clock seq origin => Sys2Proof.Machine.execPtpFollowUp clock seq origin s
  | .ptpDelayResp clock seq t4 => Sys2Proof.Machine.execPtpDelayResp clock seq t4 s
  | .delayReqSend => Sys2Proof.Machine.execDelayReqSend s
  | .announceTimeout => Sys2Proof.Machine.execAnnounceTimeout s
  | .txStamp marker id t => Sys2Proof.Machine.execTxStamp marker id t s
  | .forceStep p => Sys2Proof.Machine.execForceStep p s
  | .timeSet p => Sys2Proof.Machine.execTimeSet p s
  | .heldStepApply => Sys2Proof.Machine.execHeldStepApply s
  | .ttArm p n => Sys2Proof.Machine.execTtArm p n s
  | .ttCancel p n => Sys2Proof.Machine.execTtCancel p n s
  | .triggerStrip n => Sys2Proof.Machine.execTriggerStrip n s
  | .triggerSnapshot n => Sys2Proof.Machine.execTriggerSnapshot n s
  | .triggerMarker n => Sys2Proof.Machine.execTriggerMarker n s
  | .fwOpen p config => Sys2Proof.Machine.execFwOpen p config s
  | .fwErase p config => Sys2Proof.Machine.execFwErase p config s
  | .slotVerifyDone slot ok => Sys2Proof.Machine.execSlotVerifyDone slot ok s
  | .activateHitless p => Sys2Proof.Machine.execActivateHitless p s
  | .hitlessGovernorBooted => Sys2Proof.Machine.execHitlessGovernorBooted s
  | .hitlessSiteRestarted => Sys2Proof.Machine.execHitlessSiteRestarted s
  | .activateReset p => Sys2Proof.Machine.execActivateReset p s
  | .selectConfig p => Sys2Proof.Machine.execSelectConfig p s
  | .confirm p => Sys2Proof.Machine.execConfirm p s
  | .rollback p => Sys2Proof.Machine.execRollback p s
  | .save p => Sys2Proof.Machine.execSave p s
  | .settingsConvert p => Sys2Proof.Machine.execSettingsConvert p s
  | .settingsEmpty p => Sys2Proof.Machine.execSettingsEmpty p s
  | .fwLockWrite p v => Sys2Proof.Machine.execFwLockWrite p v s
  | .keyInstall h idx key sig => Sys2Proof.Machine.execKeyInstall h idx key sig s
  | .keyRemove h idx sig => Sys2Proof.Machine.execKeyRemove h idx sig s
  | .fwAttest p => Sys2Proof.Machine.execFwAttest p s
  | .attestReportDone => Sys2Proof.Machine.execAttestReportDone s
  | .hmpOpen h => Sys2Proof.Machine.execHmpOpen h s
  | .hmpAuth h keyIdx sig => Sys2Proof.Machine.execHmpAuth h keyIdx sig s
  | .hmpAuthVerified n => Sys2Proof.Machine.execHmpAuthVerified n s
  | .hmpClose h => Sys2Proof.Machine.execHmpClose h s
  | .keepalive h => Sys2Proof.Machine.execKeepalive h s
  | .csrRead h a n => Sys2Proof.Machine.execCsrRead h a n s
  | .csrWrite h a vs => Sys2Proof.Machine.execCsrWrite h a vs s
  | .xferOpen h kind size => Sys2Proof.Machine.execXferOpen h kind size s
  | .xferData h off data => Sys2Proof.Machine.execXferData h off data s
  | .xferClose h => Sys2Proof.Machine.execXferClose h s
  | .certRead h off => Sys2Proof.Machine.execCertRead h off s
  | .noticeAck node epoch seq => Sys2Proof.Machine.execNoticeAck node epoch seq s
  | .sessionTimeout n => Sys2Proof.Machine.execSessionTimeout n s
  | .hmpLockoutEnd ip => Sys2Proof.Machine.execHmpLockoutEnd ip s
  | .noticeResend seq => Sys2Proof.Machine.execNoticeResend seq s
  | .mgmtLink up => Sys2Proof.Machine.execMgmtLink up s
  | .relayStart => Sys2Proof.Machine.execRelayStart s
  | .telemetry => Sys2Proof.Machine.execTelemetry s
  | .bucketRefill => Sys2Proof.Machine.execBucketRefill s
  | .persist p => Sys2Proof.Machine.execPersist p s
  | .persistDone => Sys2Proof.Machine.execPersistDone s
  | .csClear p upto => Sys2Proof.Machine.execCsClear p upto s
  | .inputLost connB => Sys2Proof.Machine.execInputLost connB s
  | .inputRegained connB vin => Sys2Proof.Machine.execInputRegained connB vin s
  | .powerFailSignal => Sys2Proof.Machine.execPowerFailSignal s
  | .controlOff => Sys2Proof.Machine.execControlOff s
  | .holdupDegraded => Sys2Proof.Machine.execHoldupDegraded s
  | .coolantAlarm => Sys2Proof.Machine.execCoolantAlarm s
  | .thermalWithdraw => Sys2Proof.Machine.execThermalWithdraw s
  | .thermalTrip => Sys2Proof.Machine.execThermalTrip s
  | .safelightDown port => Sys2Proof.Machine.execSafelightDown port s
  | .safelightUp port => Sys2Proof.Machine.execSafelightUp port s
  | .govWatchdog => Sys2Proof.Machine.execGovWatchdog s
  | .linkAddressResolved qp mac => Sys2Proof.Machine.execLinkAddressResolved qp mac s
  | .triggerActionNone n => Sys2Proof.Machine.execTriggerActionNone n s

end Sys2Proof.Machine
end

