-- ==== Sys2Proof/Machine/Idle.lean ====
section
/-! DEFINITION. What passes with time when no command waits (log entry 5). -/

set_option Elab.async false

namespace Sys2Proof.Machine

/-- `n` ns of crystal time pass: the uptime clock moves by `n`, and the device clock by what its frequency makes of it (R362,
R364). -/
def tick (s : State) (n : Nat) : State :=
  let total := (s.time.frac + (n : Int) * (1000000000 + s.time.freq)).toNat
  { s with time := { s.time with now := DevTime.plus s.time.now (total / 1000000000), frac := ((total % 1000000000 : Nat) : Int),
                                 up := s.time.up + n } }

/-- A site's step of a hitless update that waited under R380 begins once no condition holds. -/
def State.hitlessGo (s : State) : State :=
  if s.fw.op = .hitless ∧ s.fw.hstep = 7 then s.hitlessSite s.fw.site.toNat else s

/-- An idle step: 40 ns, one period of the 25 MHz crystal, with the boot's progress (R340) and a hitless update's (R384). -/
def idle (s : State) : State := if s.mod.on then (tick s 40).settleStage.hitlessGo else s

end Sys2Proof.Machine
end

