-- ==== Sys2Proof/Safety.lean ====
section
/-! DEFINITION. What counts as a safe run of the block, the parts of the state that a frame names, and the canonical form of its
memories. -/

set_option Elab.async false

namespace Sys2Proof.Safety
open Sys2Proof.Machine

/-- The step of a state answers a next state. -/
def Goes (s : State) : Prop := ∃ t, step s = .next t

/-- The command answers a next state in which `P` holds. -/
def Completes (c : Instr) (s : State) (P : State → Prop) : Prop := ∃ t, exec c s = .next t ∧ P t

/-- A tray whose buffer keeps the canonical form and whose beats add up (R70): saturated, TRAY_BEATS is what its four parts
saturate to. -/
def TraySound (t : Tray) : Prop :=
  Memory.wf t.tb = true ∧ t.cnt.beats.toNat =
    min (2 ^ 64 - 1) (t.cnt.exposures.toNat + t.cnt.dead.toNat + t.cnt.loadwait.toNat + t.cnt.idle.toNat)

/-- A core whose local store, and a site whose device memory, keeps the canonical form. -/
def CoreSound (c : Core) : Prop := Memory.wf c.ls = true
def SiteSound (x : Site) : Prop := Memory.wf x.mem = true

/-- What every step keeps: the byte memories that the spec gives the block, tray buffers, local stores and device memory and remote
pages, in canonical form, and the beats of every tray. -/
structure Sound (s : State) : Prop where
  trays : ∀ e ∈ s.trays, TraySound e.2
  cores : ∀ e ∈ s.cores, CoreSound e.2
  sites : ∀ e ∈ s.mem.sites, SiteSound e.2
  remote : Memory.wf s.mem.remote = true

/-- The parts of the state. -/
inductive Part where
  /-- the queue of commands -/
  | pending
  /-- what is fixed at manufacture -/
  | fuse
  /-- the count of free values taken -/
  | fv
  /-- what was sent -/
  | sent
  /-- the stored module registers -/
  | csr
  /-- the registers of the access paths -/
  | paths
  /-- the retouch map of trays -/
  | map
  /-- the retouch map of clusters -/
  | cmap
  /-- the trays -/
  | trays
  /-- the clusters -/
  | clusters
  /-- the cores, their threads and local stores -/
  | cores
  /-- the numbering of threads, descriptors and transfers -/
  | nextId
  /-- the start requests -/
  | starts
  /-- the descriptors in flight -/
  | outst
  /-- the movements of the mover -/
  | movers
  /-- the status records -/
  | subs
  /-- the sequence slots -/
  | seqs
  /-- the sites and device memory -/
  | sites
  /-- remote pages and what of them is marked bad -/
  | remote
  /-- the pages lent -/
  | lent
  /-- the host reads that wait for a retraining window -/
  | heldR
  /-- the contexts -/
  | ctxs
  /-- placement, power samples and cap, and the pool -/
  | memOther
  /-- queue pairs and host ports -/
  | host
  /-- light sources -/
  | light
  /-- the fabric -/
  | fab
  /-- the steering matrix -/
  | steer
  /-- the governors -/
  | gov
  /-- the plans -/
  | plan
  /-- boot, resets, tables and power -/
  | mod
  /-- the time base -/
  | time
  /-- firmware, settings and keys -/
  | fw
  /-- the contact sheet -/
  | cs
  /-- the management port -/
  | mgmt
  /-- PROOF_MISSES -/
  | proofMisses
  /-- PROOF_REFEREED -/
  | proofRefereed
  /-- PROOF_NOMAJ -/
  | proofNomaj
  /-- the trays that owe an acknowledgement of seeds -/
  | seedsOwed
deriving DecidableEq, Repr

/-- A part reads the same in two states. -/
def Part.same (p : Part) (s t : State) : Prop :=
  match p with
  | .pending => t.pending = s.pending
  | .fuse => t.fuse = s.fuse
  | .fv => t.fv = s.fv
  | .sent => t.sent = s.sent
  | .csr => t.csr = s.csr
  | .paths => t.paths = s.paths
  | .map => t.map = s.map
  | .cmap => t.cmap = s.cmap
  | .trays => t.trays = s.trays
  | .clusters => t.clusters = s.clusters
  | .cores => t.cores = s.cores
  | .nextId => t.nextId = s.nextId
  | .starts => t.starts = s.starts
  | .outst => t.outst = s.outst
  | .movers => t.movers = s.movers
  | .subs => t.subs = s.subs
  | .seqs => t.seqs = s.seqs
  | .sites => t.mem.sites = s.mem.sites
  | .remote => t.mem.remote = s.mem.remote ∧ t.mem.remBad = s.mem.remBad
  | .lent => t.mem.lent = s.mem.lent
  | .heldR => t.mem.heldR = s.mem.heldR
  | .ctxs => t.mem.ctxs = s.mem.ctxs
  | .memOther => t.mem.rot = s.mem.rot ∧ t.mem.samples = s.mem.samples ∧ t.mem.avg = s.mem.avg ∧ t.mem.step = s.mem.step ∧
      t.mem.exhausted = s.mem.exhausted ∧ t.mem.thermal = s.mem.thermal ∧ t.mem.pool = s.mem.pool
  | .host => t.host = s.host
  | .light => t.light = s.light
  | .fab => t.fab = s.fab
  | .steer => t.steer = s.steer
  | .gov => t.gov = s.gov
  | .plan => t.plan = s.plan
  | .mod => t.mod = s.mod
  | .time => t.time = s.time
  | .fw => t.fw = s.fw
  | .cs => t.cs = s.cs
  | .mgmt => t.mgmt = s.mgmt
  | .proofMisses => t.proofMisses = s.proofMisses
  | .proofRefereed => t.proofRefereed = s.proofRefereed
  | .proofNomaj => t.proofNomaj = s.proofNomaj
  | .seedsOwed => t.seedsOwed = s.seedsOwed

/-- Nothing but the named parts differs. -/
def Frame (ps : List Part) (s t : State) : Prop := ∀ p, p ∉ ps → p.same s t

/-- The parts that a command may change. -/
def touches : Instr → List Part
  | .regWrite _ _ _ | .wildcardDelivered _ | .ucbReset _ | .ucbMapWrite _ _ | .retrainEnd _ _ | .rdmaWrite _ _ _ _ _ _ |
    .rdmaRead _ _ _ _ _ _ | .recordWrite | .recordModify | .csrWrite _ _ _ =>
    [.fv, .sent, .csr, .paths, .map, .cmap, .trays, .clusters, .cores, .nextId, .starts, .outst, .movers, .subs, .seqs,
    .sites, .remote, .lent, .heldR, .ctxs, .memOther, .host, .light, .fab, .steer, .gov, .plan, .mod, .time, .fw, .cs, .mgmt,
    .proofMisses, .proofRefereed, .proofNomaj, .seedsOwed]
  | .wideLowRead _ _ | .wideHighRead _ _ | .ucbTempRead _ =>
    [.sent, .paths, .trays, .clusters]
  | .wideLowWrite _ _ _ | .unitSelWrite _ _ | .unitSelModeWrite _ _ | .regionQuery _ _ =>
    [.paths]
  | .wideHighWrite _ _ _ =>
    [.sent, .paths, .subs, .sites, .remote, .ctxs, .fab]
  | .ucbHold _ _ | .ucbFence _ _ | .ucbDrain _ _ | .ucbEnable _ _ =>
    [.fv, .sent, .paths, .trays, .clusters, .cores, .nextId, .starts, .outst, .subs, .sites, .remote, .ctxs, .host, .fab]
  | .mapPersisted _ =>
    [.map, .cmap]
  | .ucbVfWrite _ _ | .ucbOwnerWrite _ _ =>
    [.paths, .trays, .clusters]
  | .selfTestDone _ _ _ _ =>
    [.fv, .sent, .map, .cmap, .trays, .clusters, .cores, .nextId, .starts, .outst, .subs, .sites, .remote, .ctxs, .host, .fab,
    .gov, .mod, .cs, .mgmt]
  | .drainComplete _ =>
    [.sent, .trays, .clusters, .cores, .gov, .cs, .mgmt]
  | .exposureIssue _ | .queueAdmit _ _ | .expose _ _ | .planeLoad _ _ | .planeSwap _ _ | .convertBs8 _ _ | .convertPlane _ _ |
    .vec _ _ | .activate _ _ | .reduce _ _ | .matmulExact _ _ | .seqQuery _ _ =>
    [.fv, .sent, .trays, .clusters, .cores, .nextId, .outst, .subs, .sites, .remote, .ctxs, .host, .fab]
  | .proofVerdict _ | .partnerReport _ _ =>
    [.fv, .sent, .map, .trays, .clusters, .cores, .nextId, .starts, .outst, .movers, .subs, .seqs, .sites, .remote, .ctxs,
    .host, .fab, .gov, .mod, .cs, .mgmt, .proofMisses, .proofRefereed]
  | .loadStart _ | .swapRefreshDue _ | .inplaceRefreshDue _ | .backgroundReloadDue _ | .vstepPauseEnd _ | .modeSettleEnd _ |
    .rateIntervalEnd _ | .relearn _ | .relockAll _ | .stripAll _ | .bayLaserStart _ =>
    [.trays]
  | .loadRowWrite _ | .swapExecute _ =>
    [.fv, .sent, .trays, .clusters, .cores, .outst, .subs, .sites, .remote, .ctxs, .host, .fab, .gov, .cs, .mgmt]
  | .idleBoundary _ =>
    [.sent, .trays, .gov, .cs, .mgmt]
  | .coreIssueCycle _ _ =>
    [.fv, .sent, .trays, .clusters, .cores, .nextId, .starts, .outst, .movers, .subs, .seqs, .sites, .remote, .ctxs, .host,
    .fab]
  | .threadDispatch _ | .threadStart _ _ =>
    [.fv, .sent, .clusters, .cores, .nextId, .starts, .outst, .subs, .sites, .remote, .ctxs, .host, .fab]
  | .windowCleared _ _ =>
    [.cores]
  | .tallyApply _ | .tallyWaitTimeout _ _ | .nop _ _ | .endThread _ _ | .jump _ _ | .unknownOpcode _ _ | .tallyAdd _ _ |
    .tallySet _ _ | .tallyWait _ _ | .seqAppend _ _ | .publish _ _ | .putData _ =>
    [.fv, .sent, .clusters, .cores, .nextId, .outst, .subs, .sites, .remote, .ctxs, .host, .fab]
  | .clockStepApply _ =>
    [.clusters]
  | .ctxThreadsWrite _ _ =>
    [.cores, .ctxs]
  | .chainFetchDone _ _ _ =>
    [.fv, .sent, .clusters, .cores, .nextId, .outst, .subs, .sites, .remote, .ctxs, .host, .fab, .gov, .cs, .mgmt]
  | .copy _ _ | .fill _ _ | .fabricPut _ _ | .fabricGet _ _ | .accRead _ _ | .accWrite _ _ =>
    [.fv, .sent, .clusters, .cores, .nextId, .outst, .movers, .subs, .sites, .remote, .ctxs, .host, .fab]
  | .moverDone _ _ =>
    [.fv, .sent, .trays, .clusters, .cores, .nextId, .outst, .movers, .subs, .sites, .remote, .ctxs, .host, .fab, .gov, .cs,
    .mgmt]
  | .seqOpen _ _ =>
    [.fv, .sent, .trays, .clusters, .cores, .nextId, .outst, .subs, .seqs, .sites, .remote, .ctxs, .host, .fab]
  | .seqClose _ _ | .seqReserveDone _ _ =>
    [.fv, .sent, .clusters, .cores, .nextId, .outst, .subs, .seqs, .sites, .remote, .ctxs, .host, .fab]
  | .seqEntriesVisible _ _ _ =>
    [.fv, .sent, .trays, .clusters, .cores, .nextId, .outst, .subs, .seqs, .sites, .remote, .ctxs, .host, .fab, .gov, .cs,
    .mgmt]
  | .putOpen _ =>
    [.sent, .nextId, .fab]
  | .getReq _ _ =>
    [.sent, .sites, .heldR, .ctxs, .fab, .gov, .cs, .mgmt]
  | .getData _ | .msgRefuse _ | .msgDone _ | .transferNoProgress _ =>
    [.fv, .sent, .trays, .clusters, .cores, .nextId, .outst, .movers, .subs, .sites, .remote, .ctxs, .host, .fab]
  | .msgAccept _ _ =>
    [.fv, .sent, .trays, .clusters, .cores, .nextId, .outst, .movers, .subs, .sites, .remote, .heldR, .ctxs, .host, .fab,
    .gov, .cs, .mgmt]
  | .pageRead _ _ =>
    [.sent, .sites, .heldR, .fab, .gov, .cs, .mgmt]
  | .pageWrite _ =>
    [.sent, .sites, .lent, .fab]
  | .pageData _ =>
    [.remote, .fab]
  | .msgAbort _ =>
    [.fv, .sent, .sites, .remote, .ctxs, .fab]
  | .guestExposure _ | .spareRestoreDone _ _ | .tempSettled _ =>
    [.fv, .sent, .trays, .gov, .cs, .mgmt]
  | .partnerTimeout _ _ | .refereeReport _ _ _ =>
    [.fv, .sent, .map, .trays, .clusters, .cores, .nextId, .starts, .outst, .movers, .subs, .seqs, .sites, .remote, .ctxs,
    .host, .fab, .gov, .mod, .cs, .mgmt, .proofRefereed]
  | .secondRefereeReport _ _ _ =>
    [.fv, .sent, .map, .cmap, .trays, .clusters, .cores, .nextId, .starts, .outst, .movers, .subs, .seqs, .sites, .remote,
    .ctxs, .host, .fab, .gov, .mod, .cs, .mgmt, .proofRefereed, .proofNomaj]
  | .epochEnd _ | .laserFail _ _ | .ringLockTimeout _ | .stripSlice _ _ =>
    [.fv, .sent, .map, .trays, .clusters, .cores, .nextId, .starts, .outst, .movers, .subs, .seqs, .sites, .remote, .ctxs,
    .host, .fab, .gov, .mod, .cs, .mgmt]
  | .scoreDecay _ _ =>
    [.fv, .sent, .map, .cmap, .trays, .clusters, .cores, .nextId, .starts, .outst, .movers, .subs, .seqs, .sites, .remote,
    .ctxs, .host, .fab, .gov, .mod, .cs, .mgmt]
  | .reseed _ =>
    [.fv, .trays, .mod, .seedsOwed]
  | .scrubRead _ _ _ | .dieErase _ _ | .retrainStart _ _ =>
    [.sent, .sites, .gov, .cs, .mgmt]
  | .ctxCreate _ _ =>
    [.paths, .ctxs]
  | .ctxDestroy _ | .ctxFence _ | .ctxUnfence _ | .ctxReset _ | .ctxResetDone _ =>
    [.fv, .sent, .paths, .trays, .clusters, .cores, .nextId, .starts, .outst, .movers, .subs, .seqs, .sites, .remote, .ctxs,
    .host, .fab]
  | .ctxDestroyDone _ =>
    [.fv, .sent, .paths, .trays, .clusters, .cores, .nextId, .starts, .outst, .movers, .subs, .seqs, .sites, .remote, .ctxs,
    .host, .fab, .gov, .cs, .mgmt]
  | .regionAllocate _ _ =>
    [.paths, .sites, .ctxs, .memOther]
  | .regionAllocateDone _ _ | .regionRelease _ _ =>
    [.sent, .paths, .sites, .remote, .ctxs, .fab]
  | .regionReleaseDone _ _ =>
    [.paths, .sites, .ctxs]
  | .ctxTbgrantWrite _ _ =>
    [.sent, .ctxs, .gov, .cs, .mgmt]
  | .lenderLost _ =>
    [.sent, .paths, .sites, .remote, .ctxs, .gov, .cs, .mgmt]
  | .powerSample _ _ _ _ =>
    [.memOther, .mod]
  | .powerCapStep | .powerCapWithdraw | .thermalWithdraw =>
    [.sent, .memOther, .gov, .cs, .mgmt]
  | .cnpReceived _ | .mirrorAck _ | .qpReset _ | .authGo _ | .authLockoutEnd _ =>
    [.host]
  | .dcqcnRateTimer _ | .dcqcnByteCounter _ | .linkAddressResolved _ _ =>
    [.fv, .host]
  | .pfcFrame _ _ _ | .qpConnect _ =>
    [.fv, .sent, .host]
  | .ackTimeout _ | .authVerifyDone _ =>
    [.fv, .sent, .host, .gov, .cs, .mgmt]
  | .mirrorNak _ =>
    [.sent, .ctxs, .host, .gov, .cs, .mgmt]
  | .arpRequest _ _ _ | .neighbourSolicitation _ _ _ | .icmpEcho _ _ _ _ =>
    [.fv, .sent, .host, .mgmt]
  | .frameDropped _ _ =>
    [.fv, .host, .mgmt]
  | .hostLinkChange _ _ =>
    [.sent, .host, .gov, .cs, .mgmt]
  | .ringEnable _ _ _ =>
    [.sent, .sites, .remote, .ctxs, .fab]
  | .ringDisable _ _ _ | .ringIdle _ _ =>
    [.ctxs]
  | .ringScan _ _ =>
    [.sent, .ctxs, .fab, .gov, .cs, .mgmt]
  | .ringNop _ _ =>
    [.sent, .sites, .remote, .ctxs, .fab, .gov, .cs, .mgmt]
  | .ringStart _ _ =>
    [.fv, .sent, .clusters, .cores, .nextId, .starts, .outst, .subs, .sites, .remote, .ctxs, .host, .fab, .gov, .cs, .mgmt]
  | .ringRelease _ _ =>
    [.fv, .sent, .subs, .sites, .remote, .ctxs, .host, .fab, .gov, .cs, .mgmt]
  | .statusRegionConfig _ _ =>
    [.sent, .subs, .sites, .remote, .ctxs, .fab]
  | .combFail _ =>
    [.sent, .light, .fab, .gov, .cs, .mgmt]
  | .combSpareLocked _ =>
    [.light, .fab]
  | .refAccepted _ _ =>
    [.sent, .light, .gov, .cs, .mgmt]
  | .refLost =>
    [.fv, .sent, .light, .gov, .cs, .mgmt]
  | .refLocked _ =>
    [.light]
  | .carrierRefused _ _ _ | .flitNak _ _ _ | .channelLocked _ _ _ _ | .shortCheckDone _ _ _ _ | .berWindow10ms _ _ _ _ |
    .uncorrectableBurst _ _ _ | .fecAlignmentLoss _ _ | .readyCriterionBits _ _ =>
    [.sent, .fab, .gov, .cs, .mgmt]
  | .carrierReadmitted _ _ _ | .channelFailedRetry _ _ _ =>
    [.fab]
  | .ringLocked _ _ _ | .tagCheckDue _ =>
    [.trays, .fab]
  | .tagCheckDone _ _ =>
    [.fv, .sent, .map, .trays, .clusters, .cores, .nextId, .starts, .outst, .movers, .subs, .seqs, .sites, .remote, .ctxs,
    .host, .light, .fab, .gov, .mod, .cs, .mgmt]
  | .sensorSample _ _ =>
    [.sent, .trays, .light, .fab, .gov, .cs, .mgmt]
  | .calAgeDue _ =>
    [.sent, .trays, .fab, .gov, .cs, .mgmt]
  | .stripEnd _ _ =>
    [.fv, .trays, .cores, .light]
  | .calSetStage _ =>
    [.fv, .sent, .trays, .fab, .gov, .cs, .mgmt]
  | .relock _ | .strip _ =>
    [.paths, .trays]
  | .lightCalWrite _ _ =>
    [.sent, .csr, .trays, .gov, .cs, .mgmt]
  | .lkSlewRead _ =>
    [.sent, .paths, .trays]
  | .flitIdle _ _ _ | .flitData _ _ _ | .channelGrow _ _ | .channelShrink _ _ _ | .lineGrant _ | .alsLineRelease _ =>
    [.fv, .sent, .light, .fab, .gov]
  | .lineWait _ | .govRoleSwapped | .resyncDone | .noticeResend _ | .mgmtLink _ | .persistDone | .csClear _ _ |
    .holdupDegraded | .coolantAlarm | .safelightDown _ | .safelightUp _ =>
    [.sent, .gov, .cs, .mgmt]
  | .berWindow1s _ _ _ _ _ _ | .alsProbeTimer _ | .probe _ _ | .probeEnd _ =>
    [.fv, .sent, .fab, .gov, .cs, .mgmt]
  | .alsDark _ | .discovery _ _ | .discoverySilence _ =>
    [.fv, .sent, .light, .fab, .gov, .plan, .cs, .mgmt]
  | .alsRestored _ _ =>
    [.fv, .sent, .light, .fab, .gov, .cs, .mgmt]
  | .steerSwitchGo _ _ =>
    [.fv, .sent, .csr, .steer, .gov]
  | .prepare _ _ _ _ _ | .slReady _ _ | .refuseFrame _ _ _ | .commitAck _ _ =>
    [.sent, .steer, .gov]
  | .commit _ _ =>
    [.sent, .steer, .gov, .time, .cs, .mgmt]
  | .abortFrame _ _ _ | .readyDeadline | .trafficResume | .commitMissing | .bypass _ | .steerAbort _ =>
    [.fv, .sent, .light, .fab, .steer, .gov, .plan, .time, .cs, .mgmt]
  | .outcomeFrame _ _ _ _ | .govSelfcheckDone _ _ =>
    [.sent, .steer, .gov, .cs, .mgmt]
  | .prepareResend | .commitResend | .discoverySend _ =>
    [.sent, .gov]
  | .quiesceStart | .lightVerify _ =>
    [.fab, .steer]
  | .quiesceEnd =>
    []
  | .switchT =>
    [.fv, .sent, .paths, .sites, .remote, .lent, .ctxs, .memOther, .light, .fab, .steer, .gov, .plan, .time, .cs, .mgmt]
  | .elementsLatched | .elementSettleTimeout _ _ | .restore _ =>
    [.fv, .sent, .light, .fab, .steer, .gov, .cs, .mgmt]
  | .hotSwapLatchRelease | .inputLost _ | .powerFailSignal | .thermalTrip =>
    [.fv, .sent, .trays, .clusters, .cores, .starts, .outst, .movers, .subs, .seqs, .sites, .light, .fab, .steer, .gov, .plan,
    .mod, .time, .cs, .mgmt]
  | .hotSwapLatchClose =>
    [.fv, .sent, .paths, .sites, .remote, .lent, .ctxs, .memOther, .light, .fab, .steer, .gov, .plan, .cs, .mgmt]
  | .bypassLatched =>
    [.fv, .sent, .fab, .steer, .gov, .cs, .mgmt]
  | .govCopy _ | .govSecondCopyTimeout _ _ | .splitReport _ _ _ =>
    [.sent, .steer, .gov, .fw, .cs, .mgmt]
  | .govSwap _ | .resync _ =>
    [.csr, .gov]
  | .keepA _ | .keepB _ =>
    [.sent, .csr, .steer, .gov, .cs, .mgmt]
  | .slLink _ _ _ _ =>
    [.sent, .fab, .gov]
  | .timeMarker _ _ =>
    [.sent, .gov, .time]
  | .healthRelay _ _ | .noticeAck _ _ _ | .telemetry =>
    [.sent, .gov, .mgmt]
  | .planLoad _ _ | .planErase _ _ =>
    [.csr, .plan]
  | .planLoadDone | .spareOffer _ =>
    [.sent, .gov, .plan, .cs, .mgmt]
  | .planMarkRewrite =>
    [.plan]
  | .planAccept _ _ =>
    [.fv, .sent, .csr, .light, .fab, .gov, .plan, .cs, .mgmt]
  | .powerUp _ _ =>
    [.sent, .steer, .gov, .mod, .cs, .mgmt]
  | .stagePower | .recordPollTimeout | .recordDelayEnd | .modStageGo _ _ =>
    [.sent, .gov, .mod, .cs, .mgmt]
  | .stageImage =>
    [.sent, .gov, .plan, .mod, .fw, .cs, .mgmt]
  | .stageGovern _ _ _ =>
    [.fv, .sent, .gov, .mod, .fw, .cs, .mgmt]
  | .stageSites | .recordDelay | .inputRegained _ _ =>
    [.mod]
  | .stageMemory _ | .siteReportTimeout _ =>
    [.fv, .sent, .trays, .clusters, .cores, .nextId, .starts, .outst, .subs, .sites, .remote, .ctxs, .host, .fab, .gov, .mod,
    .cs, .mgmt]
  | .stageLight =>
    [.light, .mod]
  | .stageTrays =>
    [.fv, .sent, .map, .trays, .clusters, .cores, .nextId, .starts, .outst, .subs, .sites, .remote, .ctxs, .host, .fab, .gov,
    .mod, .cs, .mgmt]
  | .stageFabric =>
    [.fv, .sent, .paths, .sites, .remote, .lent, .ctxs, .memOther, .light, .fab, .steer, .gov, .plan, .mod, .cs, .mgmt]
  | .stageHost =>
    [.fv, .sent, .host, .gov, .mod, .cs, .mgmt]
  | .stageReady =>
    [.fv, .sent, .host, .light, .fab, .gov, .mod, .cs, .mgmt]
  | .recordPoll =>
    [.sent, .paths, .trays, .clusters, .gov, .mod, .cs, .mgmt]
  | .modReset _ _ | .activateReset _ | .rollback _ | .controlOff | .govWatchdog =>
    [.sent, .csr, .paths, .map, .cmap, .trays, .clusters, .cores, .starts, .outst, .movers, .subs, .seqs, .sites, .remote,
    .lent, .heldR, .ctxs, .memOther, .host, .light, .fab, .steer, .gov, .plan, .mod, .time, .fw, .cs, .mgmt, .proofMisses,
    .proofRefereed, .proofNomaj, .seedsOwed]
  | .s7Timeout =>
    [.fv, .sent, .light, .fab, .gov, .mod, .cs, .mgmt]
  | .sitePowerOn _ =>
    [.sent, .sites, .gov, .mod, .cs, .mgmt]
  | .tableCrcReturn _ _ _ | .tableCrcTimeout _ _ =>
    [.fv, .sent, .map, .cmap, .trays, .clusters, .cores, .nextId, .starts, .outst, .subs, .sites, .remote, .ctxs, .host, .fab,
    .gov, .mod, .cs, .mgmt, .seedsOwed]
  | .resetStopDone _ | .endpointDrainTimeout _ =>
    [.fv, .sent, .trays, .clusters, .cores, .nextId, .starts, .outst, .movers, .subs, .seqs, .sites, .remote, .ctxs, .host,
    .fab, .gov, .mod, .cs, .mgmt]
  | .ptpAnnounce _ _ | .announceTimeout | .txStamp _ _ _ | .ttArm _ _ =>
    [.sent, .gov, .time, .cs, .mgmt]
  | .ptpSync _ _ _ _ _ | .ptpFollowUp _ _ _ =>
    [.fv, .sent, .trays, .gov, .time, .cs, .mgmt]
  | .ptpDelayResp _ _ _ | .forceStep _ | .ttCancel _ _ =>
    [.time]
  | .delayReqSend =>
    [.sent, .time]
  | .timeSet _ | .heldStepApply | .triggerStrip _ | .triggerSnapshot _ | .triggerMarker _ | .triggerActionNone _ =>
    [.sent, .trays, .gov, .time, .cs, .mgmt]
  | .fwOpen _ _ | .fwErase _ _ | .activateHitless _ | .selectConfig _ | .confirm _ | .save _ =>
    [.sent, .csr, .gov, .fw, .cs, .mgmt]
  | .slotVerifyDone _ _ | .fwLockWrite _ _ | .keyInstall _ _ _ _ | .keyRemove _ _ _ =>
    [.sent, .gov, .fw, .cs, .mgmt]
  | .hitlessGovernorBooted =>
    [.sent, .trays, .clusters, .cores, .gov, .fw, .cs, .mgmt]
  | .hitlessSiteRestarted =>
    [.trays, .clusters, .cores, .fw]
  | .settingsConvert _ | .settingsEmpty _ =>
    [.fv, .sent, .csr, .gov, .fw, .cs, .mgmt]
  | .fwAttest _ =>
    [.fw]
  | .attestReportDone =>
    [.fv, .sent, .gov, .fw, .cs, .mgmt]
  | .hmpOpen _ =>
    [.fv, .sent, .mgmt]
  | .hmpAuth _ _ _ | .hmpAuthVerified _ =>
    [.fv, .sent, .paths, .gov, .cs, .mgmt]
  | .hmpClose _ =>
    [.sent, .paths, .mgmt]
  | .keepalive _ | .certRead _ _ =>
    [.sent, .mgmt]
  | .csrRead _ _ _ =>
    [.sent, .paths, .trays, .clusters, .mgmt]
  | .xferOpen _ _ _ =>
    [.sent, .plan, .mgmt]
  | .xferData _ _ _ =>
    [.fv, .sent, .gov, .plan, .fw, .cs, .mgmt]
  | .xferClose _ =>
    [.sent, .fw, .mgmt]
  | .sessionTimeout _ =>
    [.paths, .mgmt]
  | .hmpLockoutEnd _ | .relayStart =>
    [.mgmt]
  | .bucketRefill | .persist _ =>
    [.cs]

/-- The access path on which a command arrives, where it is an access of one. -/
def accessPath : Instr → Option Path
  | .regWrite p _ _ | .wideLowRead p _ | .wideHighRead p _ | .wideLowWrite p _ _ | .wideHighWrite p _ _ | .unitSelWrite p _ |
    .unitSelModeWrite p _ | .ucbHold p _ | .ucbFence p _ | .ucbReset p | .ucbDrain p _ | .ucbEnable p _ | .ucbMapWrite p _ |
    .ucbVfWrite p _ | .ucbOwnerWrite p _ | .ucbTempRead p | .ctxThreadsWrite p _ | .reseed p | .relearn p | .ctxCreate p _ |
    .ctxDestroy p | .ctxFence p | .ctxUnfence p | .ctxReset p | .regionAllocate p _ | .regionRelease p _ | .regionQuery p _ |
    .ctxTbgrantWrite p _ | .qpConnect p | .qpReset p | .ringEnable p _ _ | .ringDisable p _ _ | .statusRegionConfig p _ |
    .relockAll p | .stripAll p | .relock p | .strip p | .lightCalWrite p _ | .lkSlewRead p | .probe p _ | .steerSwitchGo p _ |
    .bypass p | .restore p | .steerAbort p | .govSwap p | .resync p | .keepA p | .keepB p | .planLoad p _ | .planErase p _ |
    .planAccept p _ | .modStageGo p _ | .modReset p _ | .forceStep p | .timeSet p | .ttArm p _ | .ttCancel p _ | .fwOpen p _ |
    .fwErase p _ | .activateHitless p | .activateReset p | .selectConfig p | .confirm p | .rollback p | .save p |
    .settingsConvert p | .settingsEmpty p | .fwLockWrite p _ | .fwAttest p | .persist p | .csClear p _ => some p
  | _ => none

/-- Whether only a privileged path may give the command. -/
def isPrivileged (c : Instr) : Bool :=
  (accessPath c).isSome && match c with
    | .regWrite _ _ _ | .wideLowRead _ _ | .wideHighRead _ _ | .wideLowWrite _ _ _ | .wideHighWrite _ _ _ | .regionAllocate _
      _ | .regionRelease _ _ | .regionQuery _ _ | .ringEnable _ _ _ | .ringDisable _ _ _ | .statusRegionConfig _ _ | .csClear _
      _ => false
    | _ => true

/-- The module registers that only store what is written to them. -/
def storedRegs : List Nat :=
  [0x00002C, 0x301000, 0x400008, 0x400014, 0x400018, 0x40001C, 0x600008, 0x60000C, 0x601004, 0x601010, 0x601014,
   0x601020, 0x601024, 0x601028, 0x60102C, 0x601030, 0x601034, 0x601038, 0x60103C, 0x601104, 0x601110, 0x601114] ++
  [0x601120, 0x601124, 0x601128, 0x60112C, 0x601130, 0x601134, 0x601138, 0x60113C, 0x700008, 0x800050, 0x800054, 0x800058,
   0x80005C, 0x800060, 0x800064, 0x800068, 0x80006C, 0x900004, 0x900018, 0xA00004, 0xA00008, 0xA0000C, 0xA00010, 0xA00014] ++
  [0xA00018, 0xA0001C, 0xA00020, 0xB00004, 0xB00010, 0xB00020, 0xB00024, 0xB00028, 0xB0002C, 0xB00030, 0xB00034, 0xB00038,
   0xB0003C]

/-- The thread in slot `n` of the core at address `c`, which is core `k`, is READY, its core issues, its current descriptor is `d`,
and the waits of its header are over (R93, R114, R119, R123). -/
structure Ready (s : State) (c : UnitAddr) (n : SlotNo) (k : Nat) (t : Thread) (d : BitVec 512) : Prop where
  core : s.coreAt c = some k
  thread : s.thread? k n.toNat = some t
  cur : t.cur = some d
  st : t.st = .ready
  issues : Machine.issues (s.core k).ctl.st = true
  order : dFlag d 4 = false ∨ (s.outst.any fun o => o.thread == t.id) = false
  wait : dFlag d 7 = false ∨ t.waited = true ∨
    dN d 4 4 ≤ (s.tally (clusterOfCore k) (BitVec.ofNat 6 (dN d 3 1))).toNat

/-- The checks of R127 find nothing. -/
structure Passes (c : Checks) : Prop where
  fmt : c.fmt = true
  align : c.align = true
  zero : c.zero = false
  ext : c.ext = true
  trans : c.trans = true

/-- No site retrains a die, and none holds a write (R194). -/
def Quiet (s : State) : Prop := ∀ e ∈ s.mem.sites, e.2.training = none ∧ e.2.heldW = []

/-- After a descriptor that is not the last of its chain or of the space, and whose context is not fenced, its thread goes on with the
next one: it waits for the fetch at the next address (R122). -/
def MovesOn (s r : State) (k : Nat) (n : SlotNo) (t : Thread) (d : BitVec 512) : Prop :=
  dFlag d 1 = false → (s.ctx t.ctx).st ≠ 2 → t.pc.toNat + 64 < 2 ^ 48 →
    ∃ x, r.thread? k n.toNat = some x ∧ x.pc = t.pc + 64 ∧ x.wait = .fetch ∧ x.cur = none

/-- A descriptor that has written near its core goes on, or waits while a site holds an earlier write of its thread (R156, R194). -/
def Finishes (s r : State) (k : Nat) (n : SlotNo) (t : Thread) (d : BitVec 512) : Prop :=
  if s.heldFor (.thread t.id s.nextId) = true then
    (r.thread? k n.toNat).map (fun x => x.wait) = some (.visible s.nextId none)
  else MovesOn s r k n t d

/-- The checks of THREAD_START (R133). -/
def startChecks (s : State) (t : Thread) (d : BitVec 512) : Checks :=
  { fmt := hdrOk d false && bodyOk d [(0x10, 8), (0x18, 4), (0x1C, 1), (0x1D, 1), (0x1E, 1), (0x20, 4)] &&
      (opnd d 0x10).among [0] && decide (dN d 0x1D 1 < 4) && decide (dN d 0x1E 1 < 64) &&
      (dN d 0x1D 1 / 2 % 2 == 1 || dN d 0x20 4 == 0) && decide (1 ≤ dN d 0x1C 1) && decide (dN d 0x1C 1 ≤ 16)
    align := alignedTo 64 (opnd d 0x10).off, ext := s.fits t (opnd d 0x10) 64, trans := s.maps t (opnd d 0x10) }

/-- The start request that a THREAD_START files; none where its end tally lies outside the partition (R133). -/
def startReq (s : State) (k : Nat) (n : SlotNo) (t : Thread) (d : BitVec 512) : Option StartReq :=
  let q (e : Option (Nat × BitVec 6)) : StartReq :=
    { id := s.nextId, ctx := t.ctx, sub := t.sub, chain := BitVec.ofNat 48 (opnd d 0x10).off,
      place := BitVec.ofNat 32 (dN d 0x18 4), lsKib := dN d 0x1C 1, ended := e, parent := some (k, BitVec.ofNat 3 n.toNat) }
  if dN d 0x1D 1 / 2 % 2 = 1 then
    (s.clusterIn (BitVec.ofNat 32 (dN d 0x20 4)) t.pid).map fun c => q (some (c, BitVec.ofNat 6 (dN d 0x1E 1)))
  else some (q none)

/-- The checks of COPY (R135). -/
def copyChecks (s : State) (t : Thread) (d : BitVec 512) : Checks :=
  { fmt := hdrOk d true && bodyOk d [(0x10, 8), (0x18, 8), (0x20, 4), (0x24, 4), (0x28, 4), (0x2C, 4)] &&
      (opnd d 0x10).among anySp && (opnd d 0x18).among anySp &&
      !(decide (1 < dN d 0x24 4) && decide (dN d 0x2C 4 < dN d 0x20 4))
    zero := dN d 0x20 4 == 0 || dN d 0x24 4 == 0
    ext := s.fits t (opnd d 0x10) (rowsExtent (dN d 0x24 4) (dN d 0x28 4) (dN d 0x20 4)) &&
      s.fits t (opnd d 0x18) (rowsExtent (dN d 0x24 4) (dN d 0x2C 4) (dN d 0x20 4))
    trans := s.maps t (opnd d 0x10) && s.maps t (opnd d 0x18) }

/-- The checks of FILL (R136). -/
def fillChecks (s : State) (t : Thread) (d : BitVec 512) : Checks :=
  { fmt := hdrOk d true && bodyOk d [(0x10, 8), (0x18, 8), (0x20, 4)] && (opnd d 0x10).among anySp
    align := alignedTo 8 (opnd d 0x10).off && alignedTo 8 (dN d 0x20 4), zero := dN d 0x20 4 == 0
    ext := s.fits t (opnd d 0x10) (dN d 0x20 4), trans := s.maps t (opnd d 0x10) }

/-- The checks of ACC_READ (R142). -/
def accReadChecks (s : State) (t : Thread) (d : BitVec 512) : Checks :=
  { fmt := hdrOk d false && bodyOk d [(0x10, 8), (0x18, 2), (0x1A, 2), (0x1C, 1), (0x1D, 1), (0x20, 4)] &&
      (opnd d 0x10).among anySp && decide (dN d 0x1C 1 < 2) && decide (dN d 0x1D 1 < 3) &&
      decide (32 * fmtSize (dN d 0x1D 1) ≤ dN d 0x20 4)
    align := alignedTo (fmtSize (dN d 0x1D 1)) (opnd d 0x10).off && alignedTo (fmtSize (dN d 0x1D 1)) (dN d 0x20 4)
    zero := dN d 0x1A 2 == 0
    ext := s.fits t (opnd d 0x10) (rowsExtent (dN d 0x1A 2) (dN d 0x20 4) (32 * fmtSize (dN d 0x1D 1))) &&
      decide (dN d 0x18 2 + dN d 0x1A 2 ≤ 512)
    trans := s.maps t (opnd d 0x10) }

/-- The checks of ACC_WRITE (R143). -/
def accWriteChecks (s : State) (t : Thread) (d : BitVec 512) : Checks :=
  { fmt := hdrOk d false && bodyOk d [(0x10, 8), (0x18, 2), (0x1A, 2), (0x1C, 1)] && (opnd d 0x10).among anySp &&
      decide (dN d 0x1C 1 < 2) && (!(dN d 0x1C 1 == 1) || dN d 0x10 8 == 0)
    align := alignedTo 4 (opnd d 0x10).off, zero := dN d 0x1A 2 == 0
    ext := (dN d 0x1C 1 == 1 || s.fits t (opnd d 0x10) (128 * dN d 0x1A 2)) && decide (dN d 0x18 2 + dN d 0x1A 2 ≤ 512)
    trans := dN d 0x1C 1 == 1 || s.maps t (opnd d 0x10) }

/-- The checks of FABRIC_PUT and FABRIC_GET (R138). -/
def fabricChecks (isPut : Bool) (s : State) (t : Thread) (d : BitVec 512) : Checks :=
  { fmt := hdrOk d true && bodyOk d [(0x10, 8), (0x18, 8), (0x20, 4), (0x24, 1), (0x25, 1), (0x26, 1), (0x28, 4)] &&
      (opnd d 0x10).among anySp && decide (dN d 0x18 8 < 2 ^ 48) && decide (dN d 0x24 1 ≤ 63) &&
      decide (dN d 0x25 1 < (if isPut then 2 else 1)) && decide (dN d 0x26 1 < 64) && (dN d 0x25 1 % 2 == 1 || dN d 0x28 4 == 0)
    zero := dN d 0x20 4 == 0, ext := s.fits t (opnd d 0x10) (dN d 0x20 4), trans := s.maps t (opnd d 0x10) }

/-- The peer entry that a fabric descriptor names (R137). -/
def peerEntry (s : State) (t : Thread) (d : BitVec 512) : Word := SMap.get (s.ctx t.ctx).peers (dN d 0x24 1) 0

/-- The movement of a descriptor without ASYNC is with the mover, under the number `nextId`, and its thread waits for it. -/
def Moving (s r : State) (k : Nat) (n : SlotNo) (t : Thread) (d : BitVec 512) : Prop :=
  (∃ m, r.movers = s.movers ++ [m] ∧ m.id = s.nextId ∧ m.core = k ∧ m.thread = t.id ∧ m.d = d) ∧
    (r.thread? k n.toNat).map (fun x => (x.st, x.wait)) = some (.waitData, .mover s.nextId)

/-- A transfer to the peer of the entry is under way. -/
def Opens (s r : State) (t : Thread) (d : BitVec 512) (isPut : Bool) : Prop :=
  ∃ x, r.fab.xfers = s.fab.xfers ++ [x] ∧ x.mine = true ∧ x.isPut = isPut ∧ x.phase = .opening ∧ x.ctx = t.ctx ∧
    x.peerNode.toNat = bitsOf (peerEntry s t d) 15 0 ∧ x.addr = dN d 0x18 8 ∧ x.len = dN d 0x20 4

/-- The checks of EXPOSE (R139). -/
def exposeChecks (s : State) (t : Thread) (d : BitVec 512) : Checks :=
  { fmt := hdrOk d false && bodyOk d [(0x10, 8), (0x18, 4), (0x1C, 1), (0x1D, 1), (0x1E, 2), (0x20, 2)] &&
      (opnd d 0x10).among [2] && decide (dN d 0x1C 1 ≤ 63) && decide (dN d 0x1D 1 ≤ 1)
    align := alignedTo 64 (opnd d 0x10).off, zero := dN d 0x18 4 == 0
    ext := s.fits t (opnd d 0x10) (2112 * ((dN d 0x1C 1 + dN d 0x18 4 - 1) / 64 + 1)) &&
      decide (dN d 0x1E 2 + (dN d 0x18 4 - 1) * dN d 0x20 2 ≤ 511) }

/-- The checks of PLANE_LOAD (R140). -/
def planeLoadChecks (s : State) (t : Thread) (d : BitVec 512) : Checks :=
  { fmt := hdrOk d false && bodyOk d [(0x10, 8), (0x18, 8), (0x20, 1)] && (opnd d 0x10).among [2] && decide (dN d 0x20 1 ≤ 2) &&
      (if dN d 0x20 1 == 0 then (opnd d 0x18).among [2] else dN d 0x18 8 == 0)
    align := alignedTo 64 (opnd d 0x10).off && alignedTo 32 (opnd d 0x18).off
    ext := s.fits t (opnd d 0x10) 1024 && (!(dN d 0x20 1 == 0) || s.fits t (opnd d 0x18) 32) }

/-- The checks of SEQ_OPEN (R151). -/
def seqOpenChecks (s : State) (t : Thread) (d : BitVec 512) : Checks :=
  { fmt := hdrOk d false && bodyOk d [(0x10, 8), (0x18, 3), (0x1C, 2), (0x20, 8)] && (opnd d 0x10).among [0] &&
      (opnd d 0x20).among anySp && decide (dN d 0x1C 2 ≤ 1024)
    align := alignedTo 64 (opnd d 0x10).off && alignedTo 8 (opnd d 0x20).off, zero := dN d 0x18 3 == 0 || dN d 0x1C 2 == 0
    ext := s.fits t (opnd d 0x10) (dN d 0x18 3 * dN d 0x1C 2 * 64) && s.fits t (opnd d 0x20) 8
    trans := s.maps t (opnd d 0x10) && s.maps t (opnd d 0x20) }

/-- The checks of SEQ_APPEND to a slot that is bound (R153). -/
def seqAppendChecks (s : State) (t : Thread) (d : BitVec 512) : Checks :=
  { fmt := hdrOk d false && bodyOk d [(0x10, 1), (0x11, 1), (0x12, 2), (0x14, 3), (0x18, 8), (0x20, 8)] &&
      decide (dN d 0x11 1 < 2) && (opnd d 0x18).among anySp && (opnd d 0x20).among anySp &&
      (dN d 0x11 1 % 2 == 1 || dN d 0x20 8 == 0)
    align := alignedTo 4 (opnd d 0x20).off, zero := dN d 0x14 3 == 0
    ext := s.fits t (opnd d 0x18) (dN d 0x14 3 * (s.seq (dN d 0x10 1)).units.toNat * 64) &&
      (!(dN d 0x11 1 % 2 == 1) || s.fits t (opnd d 0x20) 4)
    trans := s.maps t (opnd d 0x18) && (!(dN d 0x11 1 % 2 == 1) || s.maps t (opnd d 0x20)) }

/-- The checks of SEQ_QUERY (R154). -/
def seqQueryChecks (s : State) (t : Thread) (d : BitVec 512) : Checks :=
  { fmt := hdrOk d false && bodyOk d [(0x10, 1), (0x12, 2), (0x18, 8)] && (opnd d 0x18).among anySp
    align := alignedTo 16 (opnd d 0x18).off, ext := s.fits t (opnd d 0x18) 16, trans := s.maps t (opnd d 0x18) }

/-- The checks of CONVERT_BS8 (R144). -/
def convertBs8Checks (s : State) (t : Thread) (d : BitVec 512) : Checks :=
  { fmt := hdrOk d false && bodyOk d [(0x10, 8), (0x18, 8), (0x20, 4), (0x24, 4), (0x28, 1), (0x29, 1)] &&
      (opnd d 0x10).among anySp && (opnd d 0x18).among anySp && decide (dN d 0x28 1 ≤ 63) && decide (dN d 0x29 1 ≤ 4)
    align := alignedTo (fmtSize (dN d 0x29 1)) (opnd d 0x10).off && alignedTo (fmtSize (dN d 0x29 1)) (dN d 0x24 4) &&
      alignedTo 64 (opnd d 0x18).off
    zero := dN d 0x20 4 == 0
    ext := s.fits t (opnd d 0x10) (rowsExtent (dN d 0x20 4) (dN d 0x24 4) (32 * fmtSize (dN d 0x29 1))) &&
      s.fits t (opnd d 0x18) (2112 * ((dN d 0x28 1 + dN d 0x20 4 - 1) / 64 + 1))
    trans := s.maps t (opnd d 0x10) && s.maps t (opnd d 0x18) }

/-- The checks of CONVERT_PLANE (R145). -/
def convertPlaneChecks (s : State) (t : Thread) (d : BitVec 512) : Checks :=
  { fmt := hdrOk d false && bodyOk d [(0x10, 8), (0x18, 8), (0x20, 8), (0x28, 4), (0x2C, 1), (0x2D, 1)] &&
      (opnd d 0x10).among anySp && (opnd d 0x18).among anySp && (opnd d 0x20).among anySp && decide (dN d 0x2C 1 ≤ 4) &&
      decide (dN d 0x2D 1 < 2)
    align := alignedTo (fmtSize (dN d 0x2C 1)) (opnd d 0x10).off && alignedTo (fmtSize (dN d 0x2C 1)) (dN d 0x28 4) &&
      alignedTo 64 (opnd d 0x18).off && alignedTo 32 (opnd d 0x20).off
    ext := s.fits t (opnd d 0x10) (rowsExtent 32 (dN d 0x28 4) (32 * fmtSize (dN d 0x2C 1))) && s.fits t (opnd d 0x18) 1024 &&
      s.fits t (opnd d 0x20) 32
    trans := s.maps t (opnd d 0x10) && s.maps t (opnd d 0x18) && s.maps t (opnd d 0x20) }

/-- The checks of VEC with two operands (R146). -/
def vecChecks (s : State) (t : Thread) (d : BitVec 512) : Checks :=
  { fmt := hdrOk d false && bodyOk d [(0x10, 8), (0x18, 8), (0x20, 8), (0x28, 4), (0x2C, 1), (0x2D, 1), (0x2E, 1), (0x2F, 1),
        (0x30, 4), (0x34, 4)] && (opnd d 0x10).among nearSp && (opnd d 0x18).among nearSp && (opnd d 0x20).among nearSp &&
      decide (dN d 0x2C 1 ≤ 7) && decide (dN d 0x2D 1 ≤ 6) && decide (dN d 0x2E 1 ≤ 6) && decide (dN d 0x2F 1 ≤ 1)
    align := alignedTo (fmtSize (dN d 0x2D 1)) (opnd d 0x10).off && alignedTo (fmtSize (dN d 0x2D 1)) (opnd d 0x18).off &&
      alignedTo (fmtSize (dN d 0x2E 1)) (opnd d 0x20).off
    zero := dN d 0x28 4 == 0
    ext := s.fits t (opnd d 0x10) (dN d 0x28 4 * fmtSize (dN d 0x2D 1)) &&
      s.fits t (opnd d 0x18) (dN d 0x28 4 * fmtSize (dN d 0x2D 1)) &&
      s.fits t (opnd d 0x20) (dN d 0x28 4 * fmtSize (dN d 0x2E 1)) }

/-- The checks of ACTIVATE (R147). -/
def activateChecks (s : State) (t : Thread) (d : BitVec 512) : Checks :=
  { fmt := hdrOk d false && bodyOk d [(0x10, 8), (0x18, 8), (0x20, 4), (0x24, 1), (0x25, 1), (0x26, 1), (0x28, 4)] &&
      (opnd d 0x10).among nearSp && (opnd d 0x18).among nearSp && decide (dN d 0x24 1 ≤ 9) && decide (dN d 0x25 1 ≤ 1) &&
      decide (dN d 0x26 1 < 2)
    align := alignedTo (fmtSize (dN d 0x25 1)) (opnd d 0x10).off && alignedTo (fmtSize (dN d 0x25 1)) (opnd d 0x18).off
    zero := dN d 0x20 4 == 0
    ext := s.fits t (opnd d 0x10) (dN d 0x20 4 * fmtSize (dN d 0x25 1)) &&
      s.fits t (opnd d 0x18) (dN d 0x20 4 * fmtSize (dN d 0x25 1)) }

/-- The checks of REDUCE (R148). -/
def reduceChecks (s : State) (t : Thread) (d : BitVec 512) : Checks :=
  { fmt := hdrOk d false && bodyOk d [(0x10, 8), (0x18, 8), (0x20, 4), (0x24, 4), (0x28, 4), (0x2C, 1), (0x2D, 1)] &&
      (opnd d 0x10).among nearSp && (opnd d 0x18).among nearSp && decide (dN d 0x2C 1 ≤ 5) && decide (dN d 0x2D 1 ≤ 2)
    align := alignedTo (fmtSize (dN d 0x2D 1)) (opnd d 0x10).off && alignedTo (fmtSize (dN d 0x2D 1)) (dN d 0x28 4) &&
      alignedTo 4 (opnd d 0x18).off
    zero := dN d 0x20 4 == 0 || dN d 0x24 4 == 0
    ext := s.fits t (opnd d 0x10) (rowsExtent (dN d 0x20 4) (dN d 0x28 4) (dN d 0x24 4 * fmtSize (dN d 0x2D 1))) &&
      s.fits t (opnd d 0x18) (4 * dN d 0x20 4) }

/-- The checks of MATMUL_EXACT with one row and without ACC and TRANSPOSE (R149). -/
def matmulChecks (s : State) (t : Thread) (d : BitVec 512) : Checks :=
  { fmt := hdrOk d false && bodyOk d [(0x10, 8), (0x18, 8), (0x20, 8), (0x28, 2), (0x2A, 2), (0x2C, 2), (0x2E, 2), (0x30, 2),
        (0x32, 2), (0x34, 1), (0x35, 1)] && (opnd d 0x10).among nearSp && (opnd d 0x18).among nearSp &&
      (opnd d 0x20).among nearSp && decide (dN d 0x34 1 ≤ 5) && decide (dN d 0x35 1 < 4) &&
      !(decide (1 < dN d 0x28 2) && decide (dN d 0x32 2 < dN d 0x2A 2))
    align := alignedTo (fmtSize (dN d 0x34 1)) (opnd d 0x10).off && alignedTo (fmtSize (dN d 0x34 1)) (opnd d 0x18).off &&
      alignedTo 4 (opnd d 0x20).off
    zero := dN d 0x28 2 == 0 || dN d 0x2A 2 == 0 || dN d 0x2C 2 == 0
    ext := s.fits t (opnd d 0x10) (fmtSize (dN d 0x34 1) * rowsExtent (dN d 0x28 2) (dN d 0x2E 2) (dN d 0x2C 2)) &&
      s.fits t (opnd d 0x18) (fmtSize (dN d 0x34 1) * rowsExtent (dN d 0x2C 2) (dN d 0x30 2) (dN d 0x2A 2)) &&
      s.fits t (opnd d 0x20) (4 * rowsExtent (dN d 0x28 2) (dN d 0x32 2) (dN d 0x2A 2)) }

/-- A message leaves on the link that the route table gives for its destination, with the link's virtual channel; without a route
its bytes wait (R200, R265, R269). -/
def Sends (s t : State) (op : Nat) (m : FabMsg) : Prop :=
  match s.routeTo m.dstNode with
  | some l => ∃ a b, t.sent = a ++ .msg l.toNat (BitVec.ofNat 8 op) { m with srcNode := s.node, link := l, vc := (s.link l).dateline } ::
      (b ++ s.sent)
  | none => ∃ x ∈ t.fab.stuck, x.dst = m.dstNode ∧ x.bytes = msgBytes op { m with srcNode := s.node }

/-- A message is the next one that its link and virtual channel deliver (R265, R268). -/
def Delivered (s : State) (op : Nat) (m : FabMsg) : Prop := (s.link m.link).firstIn m.vc = some (msgBytes op m)

/-- The state without it. -/
def taken (s : State) (op : Nat) (m : FabMsg) : State :=
  s.setLink m.link { s.link m.link with inbox := (s.link m.link).inbox.erase (m.vc, msgBytes op m) }

/-- The transfers left once one has ended. -/
def without (s : State) (x : Xfer) : List Xfer := s.fab.xfers.filter fun y => decide (y.id ≠ x.id)

/-- The symbols of a read sector in error on dies that neither count as erased nor retrain (R191, R194). -/
def wrongDies (s : State) (i : Nat) (bad : List (Fin 36)) : List (Fin 36) :=
  bad.eraseDups.filter fun d => !(s.site i).erased.contains d && (s.site i).training != some d

/-- A write of CTX_TBGRANT for rows `b` to `b + n - 1` takes effect: the rows exist, no other context of the partition holds one of
them, and no thread of the context is started (R202). -/
def Grants (s : State) (c : CtxNo) (b n : Nat) : Prop :=
  b + n ≤ 64 ∧ s.ctxThreads c = 0 ∧
    ∀ e ∈ s.mem.ctxs, e.1 ≠ c.toNat → e.2.st ≠ 0 → e.2.pid = (s.ctx c).pid → n = 0 ∨ e.2.gsize = 0 ∨
      e.2.gbase.toNat + e.2.gsize.toNat ≤ b ∨ b + n ≤ e.2.gbase.toNat

/-- A region command with its GO bit and its operation, on a path that carries, for a context that is not FREE (R199). -/
def RegionGo (s : State) (p : Path) (v : Word) (op : Nat) : Prop :=
  s.carries p = true ∧ v.getLsbD 31 = true ∧ bitsOf v 1 0 = op ∧ (s.ctx (s.shownCtx p)).st ≠ 0

/-- The region that a word of CTX_RCMD names, in the context that a path shows. -/
def regionAt (s : State) (p : Path) (v : Word) : Option Region := SMap.find (s.ctx (s.shownCtx p)).regions (bitsOf v 13 8)

/-- An RDMA request names the queue pair `k`, which is in RTS, in a frame with a tag exactly where its port is set to one (R209, R212). -/
def Arrives (s : State) (h : RoceHead) (k : Nat) : Prop :=
  qpOf h.qpn = some k ∧ h.tagged = s.tagOn (ethOf h.port) ∧ (s.qp k).st = 1

/-- It is the next in order, and none before it waits (R210, R215). -/
def InTurn (s : State) (h : RoceHead) (k : Nat) : Prop := Arrives s h k ∧ h.psn = (s.qp k).expPsn ∧ (s.qp k).waits = false

/-- A packet of a queue pair is sent, or waits behind the others of its port while PFC pauses it (R210, R211). -/
def Packet (s t : State) (k : Nat) (x : RocePkt) : Prop :=
  if (s.hport (s.qp k).port).paused = true then (s.roceHead k, x) ∈ (t.hport (s.qp k).port).txq else .roce (s.roceHead k) x ∈ t.sent

/-- A READ of `n` bytes is answered with one packet of each 4 KiB (R210). -/
def ReadAnswered (s t : State) (k : Nat) (psn : BitVec 24) (data : List Byte) : Prop :=
  ∀ i < readPsns data.length, Packet s t k (.readResp (psn + BitVec.ofNat 24 i) ((data.drop (4096 * i)).take 4096))

/-- A WRITE is acknowledged, or its acknowledgement is owed while a retraining window holds a write of its queue pair (R194, R215). -/
def Acknowledged (s t : State) (k : Nat) (psn : BitVec 24) : Prop :=
  if t.heldFor (.host k) = true then (t.qp k).ackDue = some psn else Packet s t k (.ack psn)

/-- Nothing waits for held writes or reads: no request of a peer or the host, no thread, no transfer that is served (R194, R215). -/
def NothingWaits (s : State) : Prop :=
  s.mem.heldR = [] ∧ (∀ x ∈ s.fab.xfers, x.mine = true) ∧ (∀ k, (s.qp k).waits = false) ∧
    (s.cores.any fun e => e.2.slots.any fun x => match x.2.wait with | .visible _ _ => true | _ => false) = false

/-- The first entry that a ring has taken, whole, in a context that is neither FREE nor RESETTING (R220, R221, R227). -/
def FirstEntry (s : State) (c : CtxNo) (r : BitVec 2) (k : Word) (e : BitVec 512) : Prop :=
  (s.ctx c).st ≠ 0 ∧ (s.ctx c).st ≠ 3 ∧ ((s.ctx c).ring r.toNat).taken.head? = some (k, some e)

/-- That entry is done: CONSUMER has advanced past it. -/
def EntryDone (s t : State) (c : CtxNo) (r : BitVec 2) : Prop :=
  ((t.ctx c).ring r.toNat).consumer = ((s.ctx c).ring r.toNat).consumer + 1 ∧
    ((t.ctx c).ring r.toNat).taken = ((s.ctx c).ring r.toNat).taken.drop 1

/-- The frames dropped at an Ethernet port. -/
def dropped (s : State) : EthPort → BitVec 64
  | .hp0 => (s.hport 0).drop
  | .hp1 => (s.hport 1).drop
  | .mp => s.mgmt.drop

/-- No laser of the group of laser `n` has failed before (R232). -/
def firstOfGroup (t : Tray) (n : Nat) : Prop := ∀ i < 9, t.light.failed.getLsbD (9 * (n / 9) + i) = false

/-- A path that may act on the window selects tray `k`, and no wildcard write of it is at work (R25, R26). -/
def SelectsTray (s : State) (p : Path) (k : Nat) : Prop := s.priv p = true ∧ (s.path p).busy = false ∧ s.selOf p = .one (.tray k)

/-- A slice of `n` beats of a strip that has run `b` ends neither mode (R185, R250). -/
def EndsNoMode (b n : Nat) : Prop := ∀ m ∈ [stripMode, 2 * stripMode], b < m → b + n < m

/-- A set is staged, or adopted at once where no plane is ACTIVE (R66). -/
def SetTaken (s t : State) (k : Nat) (c : CalSet) : Prop :=
  if (s.tray k).hasActive = true then (t.tray k).staged = some c else (t.tray k).cal = c

/-- A flit of a TYPE comes in on an UP channel with a good codeword and CRC (R264). -/
def GoodFlit (s : State) (x : PortNo) (k : ChanNo) (f : Flit) (kind : Nat) (g : FlitF) : Prop :=
  (s.chan x k).rx = .up ∧ f.coded = true ∧ readFlit f.bits = some g ∧ g.kind = kind

/-- It is a DATA flit in CSEQ order and the next one in LSEQ order of its virtual channel on the link of its port (R267, R268). -/
def NextFlit (s : State) (x : PortNo) (k : ChanNo) (f : Flit) (g : FlitF) (l : BitVec 6) : Prop :=
  GoodFlit s x k f 1 g ∧ g.cseq = (s.chan x k).expect ∧ (s.lt x).port.bind s.linkOf = some l ∧ (s.link l).reorder = [] ∧
    g.lseq = if g.vc = true then (s.link l).rxL1 else (s.link l).rxL0

/-- A flit that begins a message and ends it (R265). -/
def WholeMessage (s : State) (l : BitVec 6) (g : FlitF) : Prop :=
  (s.link l).part g.vc = none ∧ 16 ≤ g.payload.length ∧ g.payload.length < 240

/-- A waiting request is served first in its quadrant: it can use a line, and comes before every other that can (R272). -/
def ServedFirst (s : State) (q : Nat) (r : LineReq) : Prop :=
  r ∈ s.fab.waiting ∧ quadOf r.lt = q ∧ (s.bestLine r.lt).isSome = true ∧
    ∀ y ∈ s.fab.waiting, y ≠ r → quadOf y.lt = q → (s.bestLine y.lt).isSome = true → y.first r = false ∧ r.first y = true

/-- A safelight frame is taken for this module: the relay runs, the port's safelight is UP, the frame is whole and allowed on the
port, not one of this module's own that comes back, addressed here, and the first copy of its message (R303, R307, R308, R327). -/
def Accepts (s : State) (h : SlHead) (kind : Nat) (body : List Byte) : Prop :=
  s.gov.relay = true ∧ (s.slPort h.port).st = 2 ∧ slGood h kind body = true ∧ ((s.fport h.port).st ≠ .quarantined ∨ kind = 1) ∧
    ¬(h.src = s.node ∧ h.epoch = s.gov.epoch) ∧ (h.isLocal = true ∨ h.dst = 0xFFFF ∨ h.dst = s.node) ∧
    (s.judgeCopy .slEngine h.src h.epoch h.seq h.govB (BitVec.ofNat 8 kind :: body)).1 = .accepted

/-- A safelight frame goes out in every copy on every port toward its destination (R302, R310). -/
def SlSends (s t : State) (kind : Nat) (dst : Node) (body : List Byte) : Prop :=
  ∀ g ∈ s.govCopies, ∀ p ∈ s.slPorts dst none,
    ∃ seq, .slFrame p (slWhole { s.slHead g dst false with seq := seq, sport := p } kind body) ∈ t.sent

/-- The record at work is done: the next one is met, one that no executor can run halts the stage, and after the last one the
stage is over (R340). -/
def NextRecord (s t : State) : Prop :=
  match s.mod.recs.drop 1 with
  | [] => t.mod.recWait = .idle
  | r :: rest => if r.bad then t.mod.st = 3 ∧ t.mod.code = 4 else t.mod.recs = r :: rest ∧ t.mod.recWait = .next

/-- A unit does not have the right table, and fewer than three repairs of it have been tried (R353). -/
def Repairable (s : State) (a : UnitAddr) (n : TableNo) : Prop :=
  (∃ u, s.resolve a = some u ∧ s.receives u n = true) ∧ SMap.get s.mod.tries (8 * a.toNat + TableNo.code n) 0 < 3

/-- One more repair of it is counted. -/
def Repaired (s t : State) (a : UnitAddr) (n : TableNo) : Prop :=
  SMap.get t.mod.tries (8 * a.toNat + TableNo.code n) 0 = SMap.get s.mod.tries (8 * a.toNat + TableNo.code n) 0 + 1 ∧
    t.mod.repairs = satAdd s.mod.repairs 1 ∧ t.mod.table = BitVec.ofNat 8 (TableNo.code n)

/-- A firmware operation of a privileged path that finds the unit idle and none of the conditions of R380 (R379-R381). -/
def UpdateFree (s : State) (p : Path) : Prop :=
  s.priv p = true ∧ s.fw.op = .idle ∧ s.updMoving = false ∧ s.updHoldup = false ∧ s.updLocked = false

/-- A request on session `n`: the management port is up, the request comes from the session's source, and it is neither kept nor
older than what is kept (R396, R399). -/
structure Serves (s : State) (h : HmpHead) (n : Nat) (x : Sess) : Prop where
  up : s.mpUp = true
  named : s.sessOf h = some (n, x)
  kept : s.sess? n = some x
  source : x.ip = h.ip ∧ x.port = h.port
  unseen : (x.replies.any fun r => r.seq == h.seq) = false
  fresh : x.replies = [] ∨ ∃ r ∈ x.replies, 2147483648 ≤ (r.seq - h.seq).toNat

/-- A reply to a request of a type is sent on a session, to its source (R396, R398). -/
def Replies (t : State) (ty : Byte) (x : Sess) (h : HmpHead) (c : Code) (data : List Byte) : Prop :=
  .hmp x.ip x.port (hmpBytes ty true t.activeB t.gov.simplex x.id h.seq c data) ∈ t.sent

/-- A message of a type goes out to a station, as MGMT_STN_CFG and MGMT_STN_ADDR give it (R402, R404). -/
def ToStation (t : State) (k : Nat) (ty : Byte) (govB simplex : Bool) (seq : Word) (data : List Byte) : Prop :=
  .hmp (BitVec.ofNat 128 (leNat ((SMap.get t.mgmt.stns k {}).addr.flatMap fun w => leBytes 4 w.toNat)))
    (SMap.get t.mgmt.stns k {}).port (hmpBytes ty false govB simplex 0 seq 0 data) ∈ t.sent

/-- All work in flight and all light of the module are gone (R361, R417). -/
def Lost (t : State) : Prop := t.starts = [] ∧ t.movers = [] ∧ t.cores = [] ∧ t.subs = [] ∧ t.outst = []

/-- The code of the first check of R127 that a descriptor fails; none where it has nothing to move. -/
def firstFailure (c : Checks) : Option Code :=
  if !c.fmt then some 0x0104 else if !c.align then some 0x0103 else if c.zero then none else if !c.ext then some 0x0102
  else if !c.trans then some 0x0202 else none

/-- A descriptor is rejected with a code: its thread ends unless CONT is set, its live submission holds the code where it held
none, and nothing has moved. -/
def Rejects (s r : State) (k : Nat) (n : SlotNo) (t : Thread) (d : BitVec 512) (code : Code) : Prop :=
  (dFlag d 2 = false → (r.thread? k n.toNat).map (fun x => x.st) = some ThState.ending) ∧ r.movers = s.movers ∧
    (∀ j, (r.tray j).tb = (s.tray j).tb) ∧ (∀ j, (r.core j).ls = (s.core j).ls) ∧
    ∀ x, s.sub? t.sub = some x → x.live = true → x.fail = none → (r.sub? t.sub).bind (fun y => y.fail) = some code

/-- The destinations of a descriptor that computes on its core, with their lengths (R144-R149). -/
def computeDests (d : BitVec 512) : List (Opnd × Nat) :=
  let op := opcode d
  if op = 0x28 then (List.range (dN d 0x20 4)).flatMap fun i =>
    let v := dN d 0x28 1 + i
    [((opnd d 0x18).plus (2112 * (v / 64) + 32 * (v % 64)), 32), ((opnd d 0x18).plus (2112 * (v / 64) + 2048 + v % 64), 1)]
  else if op = 0x29 then [(opnd d 0x18, 1024), (opnd d 0x20, 32)]
  else if op = 0x30 then [(opnd d 0x20, dN d 0x28 4 * fmtSize (dN d 0x2E 1))]
  else if op = 0x33 then [(opnd d 0x18, dN d 0x20 4 * fmtSize (dN d 0x25 1))]
  else if op = 0x34 then [(opnd d 0x18, 4 * dN d 0x20 4)]
  else if op = 0x38 then
    (List.range (dN d 0x28 2)).map fun i => ((opnd d 0x20).plus (4 * dN d 0x32 2 * i), 4 * dN d 0x2A 2)
  else []

/-- The commands that compute on a core. -/
def computeRows (c : UnitAddr) (n : SlotNo) : List Instr :=
  [.convertBs8 c n, .convertPlane c n, .vec c n, .activate c n, .reduce c n, .matmulExact c n]

/-- An address lies in none of the ranges of a space, counted from the base of the space. -/
def Outside (sp base : Nat) (l : List (Opnd × Nat)) (a : Nat) : Prop :=
  ∀ x ∈ l, x.1.sp = sp → a < base + x.1.off ∨ base + x.1.off + x.2 ≤ a

/-- A write of UCB_OWNER takes effect on a tray (R30). -/
def OwnerFree (s : State) (k : Nat) : Prop := (s.tray k).ctl.st = .off ∨ (s.tray k).ctl.st = .held ∧ (s.tray k).ctl.drained = true

/-- A path that may act on the window selects one unit with no wildcard, and no wildcard write of it is at work (R25, R26). -/
def SelectsOne (s : State) (p : Path) (u : URef) : Prop := s.priv p = true ∧ (s.path p).busy = false ∧ s.selOf p = .one u

end Sys2Proof.Safety
end

