-- ==== Sys2Proof/Certificates/Slice0/Obligations.lean ====
section
/-! DEFINITION. The statements about the block: that every command completes and what it leaves, that a step runs the front
command, what every step keeps, and rules of the spec. -/

set_option Elab.async false

open Sys2Proof Sys2Proof.Machine Sys2Proof.Safety

/-- REGISTER_WRITE, WIDE_LOW_READ, WIDE_HIGH_READ, WIDE_LOW_WRITE, WIDE_HIGH_WRITE, UNIT_SEL_WRITE, UNIT_SEL_MODE_WRITE and
WILDCARD_DELIVERED complete (R14, R15, R24-R26, R220). That latches belong to the path and the register that it shows is the model's
reading (log entry 14). -/
def Obligations.RegisterAccessesComplete : Prop :=
  (∀ (s : State) (p : Path) (a : Nat) (v : Word), s.priv p = true → a ∈ storedRegs →
    Completes (.regWrite p (BitVec.ofNat 26 a) v) s fun t => t.pol a = (polStore a v).getD (s.pol a)) ∧
  (∀ (s : State) (p : Path) (v : Word), s.priv p = true →
    Completes (.regWrite p 0x600004 v) s fun t => t.pol 0x600004 = (polStore 0x600004 v).getD (s.pol 0x600004) ∧
      (bitsOf v 31 16 = 0 → ∀ (c : CtxNo) (r : Nat), ((t.ctx c).ring r).idle = false)) ∧
  (∀ (s : State) (p : Path) (a : CsrAddr), s.carries p = true → s.latches p a.toNat = true →
    SMap.find (s.path p).rl (s.latchKey p a.toNat) = none →
    Completes (.wideLowRead p a) s fun t =>
      t.sent = .csr p a.toNat (s.regNow p a.toNat) :: s.sent ∧ (t.path p).rl = s.latchWords p a.toNat) ∧
  (∀ (s : State) (p : Path) (a : CsrAddr) (v : Word), s.carries p = true → s.wideHigh p a.toNat = true →
    SMap.find (s.path p).rl (s.latchKey p a.toNat) = some v →
    Completes (.wideHighRead p a) s fun t =>
      t.sent = .csr p a.toNat v :: s.sent ∧ SMap.find (t.path p).rl (s.latchKey p a.toNat) = none) ∧
  (∀ (s : State) (p : Path) (a : CsrAddr), s.carries p = true → s.wideHigh p a.toNat = true →
    s.latches p a.toNat = false → SMap.find (s.path p).rl (s.latchKey p a.toNat) = none →
    Completes (.wideHighRead p a) s fun t =>
      t.sent = .csr p a.toNat (s.regNow p a.toNat) :: s.sent ∧ (t.path p).rl = (s.path p).rl) ∧
  (∀ (s : State) (p : Path) (a : CsrAddr) (v : Word), s.carries p = true → s.wideLow p (canon p a.toNat) = true →
    Completes (.wideLowWrite p a v) s fun t =>
      (t.path p).wl = [(s.heldKey p (canon p a.toNat), v)] ∧ ∀ q, q ≠ p → t.path q = s.path q) ∧
  (∀ (s : State) (p : Path) (a : CsrAddr) (v lo : Word), s.carries p = true → s.wideHigh p a.toNat = true →
    SMap.find (s.path p).wl (s.heldKey p (canon p a.toNat - 4)) = some lo →
    Completes (.wideHighWrite p a v) s fun t =>
      (t.path p).wl = [] ∧ (canon p a.toNat = 0x902428 → (t.path p).rbase = v ++ lo) ∧
        (canon p a.toNat = 0x902430 → (t.path p).rsize = v ++ lo)) ∧
  (∀ (s : State) (p : Path) (v : Word), s.priv p = true → (s.path p).busy = false →
    Completes (.unitSelWrite p v) s fun t =>
      t.path p = { s.path p with unitSel := v, code := s.selectionCode v (s.path p).mode } ∧ ∀ q, q ≠ p → t.path q = s.path q) ∧
  (∀ (s : State) (p : Path) (v : Word), s.priv p = true → (s.path p).busy = false →
    Completes (.unitSelModeWrite p v) s fun t =>
      t.path p = { s.path p with mode := v &&& 0x3F03, code := s.selectionCode (s.path p).unitSel (v &&& 0x3F03) } ∧
        ∀ q, q ≠ p → t.path q = s.path q) ∧
  (∀ (s : State) (p : Path), (s.path p).busy = true → (s.path p).heldAcc = [] →
    Completes (.wildcardDelivered p) s fun t => t.path p = { s.path p with busy := false } ∧ ∀ q, q ≠ p → t.path q = s.path q) ∧
  (∀ (s : State) (p : Path) (v : Word), (s.path p).busy = true →
    (s.path p).heldAcc = [.cmd (.unitSelWrite p v)] →
    Completes (.wildcardDelivered p) s fun t => (t.path p).busy = false ∧ (t.path p).heldAcc = [] ∧ (t.path p).unitSel = v)

/-- UCB_HOLD, UCB_FENCE, UCB_DRAIN and UCB_ENABLE complete (R24-R26, R28, R433): for every selection, the trays that it covers,
the cluster or the core hold the bit as written. -/
def Obligations.UnitControlBitsComplete : Prop :=
  (∀ (s : State) (p : Path) (on : Bool) (k : Nat), s.priv p = true → (s.path p).busy = false → k ∈ s.selTrays (s.selOf p) →
    Completes (.ucbHold p on) s (fun t => (t.tray k).ctl.hold = on) ∧
    Completes (.ucbFence p on) s (fun t => (t.tray k).ctl.fence = on) ∧
    Completes (.ucbDrain p on) s (fun t => (t.tray k).ctl.drain = on) ∧
    Completes (.ucbEnable p on) s (fun t => (t.tray k).ctl.enable = on))

/-- The control bits of clusters and of cores (R28, R433). -/
def Obligations.ClusterAndCoreControlBitsComplete : Prop :=
  (∀ (s : State) (p : Path) (on : Bool) (c : Nat), s.priv p = true → (s.path p).busy = false → s.selOf p = .one (.cluster c) →
    Completes (.ucbHold p on) s (fun t => (t.cluster c).ctl.hold = on) ∧
    Completes (.ucbFence p on) s (fun t => (t.cluster c).ctl.fence = on) ∧
    Completes (.ucbDrain p on) s (fun t => (t.cluster c).ctl.drain = on) ∧
    Completes (.ucbEnable p on) s (fun t => (t.cluster c).ctl.enable = on)) ∧
  (∀ (s : State) (p : Path) (on : Bool) (k : Nat), s.priv p = true → (s.path p).busy = false → s.selOf p = .one (.core k) →
    Completes (.ucbHold p on) s (fun t => (t.core k).ctl.hold = on) ∧
    Completes (.ucbFence p on) s (fun t => (t.core k).ctl.fence = on) ∧
    Completes (.ucbDrain p on) s (fun t => (t.core k).ctl.drain = on) ∧
    Completes (.ucbEnable p on) s (fun t => (t.core k).ctl.enable = on))

/-- Wildcard selections (R25, R26): the wide writes raise BUSY, the others answer WILD_ACCESS, and accesses behind a wildcard
write are held on the path. -/
def Obligations.WildcardWritesRaiseBusy : Prop :=
  (∀ (s : State) (p : Path) (us : List URef) (c : Instr), s.priv p = true → (s.path p).busy = false → s.selOf p = .wild us →
    ((∃ on, c = .ucbHold p on ∨ c = .ucbFence p on ∨ c = .ucbDrain p on ∨ c = .ucbEnable p on) ∨ c = .ucbReset p ∨
      ∃ v, c = .ucbVfWrite p v) →
    Completes c s fun t => (t.path p).busy = true ∧ (t.path p).code = 0) ∧
  (∀ (s : State) (p : Path) (us : List URef) (c : Instr), s.priv p = true → (s.path p).busy = false → s.selOf p = .wild us →
    ((∃ x, c = .ucbMapWrite p x) ∨ ∃ pid, c = .ucbOwnerWrite p pid) →
    Completes c s fun t => t.path p = { s.path p with code := 6 } ∧ Frame [.paths] s t) ∧
  (∀ (s : State) (p : Path) (c : Instr), s.priv p = true → (s.path p).busy = true →
    ((∃ on, c = .ucbHold p on ∨ c = .ucbFence p on ∨ c = .ucbDrain p on ∨ c = .ucbEnable p on) ∨ c = .ucbReset p ∨
      (∃ v, c = .ucbVfWrite p v ∨ c = .unitSelWrite p v ∨ c = .unitSelModeWrite p v) ∨ (∃ x, c = .ucbMapWrite p x) ∨
      ∃ pid, c = .ucbOwnerWrite p pid) →
    Completes c s fun t => t.path p = { s.path p with heldAcc := (s.path p).heldAcc ++ [.cmd c] } ∧ Frame [.paths] s t)

/-- UCB_RESET, UCB_MAP_WRITE, UCB_VF_WRITE, UCB_OWNER_WRITE and UCB_TEMP_READ complete (R28-R31, R35, R355). -/
def Obligations.UnitRowsComplete : Prop :=
  (∀ (s : State) (p : Path) (u : URef) (k : Nat), s.priv p = true → (s.path p).busy = false → s.unitsStarted = true →
    s.selOf p = .one u → u ≠ .module → k ∈ (s.resetUnits u).1 →
    Completes (.ucbReset p) s fun t => (t.tray k).ctl.st = .resetting ∨ (t.tray k).ctl.st = .mappedOut) ∧
  (∀ (s : State) (p : Path) (u : URef), s.priv p = true → (s.path p).busy = false → s.unitsStarted = true →
    s.selOf p = .one u → u ≠ .module →
    Completes (.ucbReset p) s fun t => t.mod.resets = s.mod.resets ++
      [{ target := .unit (s.unitAddr u), trays := (s.resetUnits u).1, clusters := (s.resetUnits u).2.1,
         cores := (s.resetUnits u).2.2, ctxs := [] }]) ∧
  (∀ (s : State) (p : Path), s.priv p = true → (s.path p).busy = false → s.unitsStarted = true → s.selOf p = .one .module →
    Completes (.ucbReset p) s fun t => t.mod.cause = 1 ∧ t.mod.stage = 0 ∧ t.mod.count = satAdd s.mod.count 1) ∧
  (∀ (s : State) (p : Path) (pid : Pid) (k : Nat), s.priv p = true → (s.path p).busy = false → s.unitsStarted = true →
    s.selOf p = .part pid → k ∈ s.traysOfPid pid →
    Completes (.ucbReset p) s fun t => (t.tray k).ctl.st = .resetting ∨ (t.tray k).ctl.st = .mappedOut) ∧
  (∀ (s : State) (p : Path) (k i : Nat), s.priv p = true → (s.path p).busy = false → s.selOf p = .one (.tray k) →
    uPhys (s.path p).unitSel = false → s.logTray k = some i → s.spareTrayFree (bayOfTray k) = true →
    (s.tray k).ctl.movable = true →
    Completes (.ucbMapWrite p 8) s fun t => SMap.find t.map (bayOfTray k) = some (i, true, false)) ∧
  (∀ (s : State) (p : Path) (c j : Nat), s.priv p = true → (s.path p).busy = false → s.selOf p = .one (.cluster c) →
    uPhys (s.path p).unitSel = false → s.logCluster c = some j → s.spareClusterFree (trayOfCluster c) = true →
    (s.cluster c).ctl.movable = true →
    Completes (.ucbMapWrite p 19) s fun t => SMap.find t.cmap (trayOfCluster c) = some (j, true, false)) ∧
  (∀ (s : State) (p : Path) (k : Nat) (v : Word), s.priv p = true → (s.path p).busy = false → s.selOf p = .one (.tray k) →
    Completes (.ucbVfWrite p v) s fun t => (t.tray k).floorV.toNat = min 4 (bitsOf v 2 0) ∧ (t.tray k).floorFine = v.getLsbD 8) ∧
  (∀ (s : State) (p : Path) (c : Nat) (v : Word), s.priv p = true → (s.path p).busy = false → s.selOf p = .one (.cluster c) →
    Completes (.ucbVfWrite p v) s fun t => (t.cluster c).floorClk.toNat = bitsOf v 5 4) ∧
  (∀ (s : State) (p : Path) (k : Nat) (pid : Pid), s.priv p = true → (s.path p).busy = false → s.selOf p = .one (.tray k) →
    ((s.tray k).ctl.st = .off ∨ (s.tray k).ctl.st = .held ∧ (s.tray k).ctl.drained = true) →
    Completes (.ucbOwnerWrite p pid) s fun t => (t.tray k).owner = pid) ∧
  (∀ (s : State) (p : Path) (k : Nat), s.priv p = true → s.selOf p = .one (.tray k) →
    Completes (.ucbTempRead p) s fun t => (t.tray k).temp.peak = 0 ∧ (t.tray k).temp.now = (s.tray k).temp.now ∧
      t.sent = .csr p 0x100101C (s.regNow p 0x100101C) :: s.sent)

/-- MAP_PERSISTED, SELF_TEST_DONE and DRAIN_COMPLETE complete (R31-R36). -/
def Obligations.UnitEndRowsComplete : Prop :=
  (∀ (s : State) (u : UnitAddr) (k i : Nat) (b : Bool), s.resolve u = some (.tray k) →
    SMap.find s.map (bayOfTray k) = some (i, true, b) →
    Completes (.mapPersisted u) s fun t => SMap.find t.map (bayOfTray k) = some (i, true, true)) ∧
  (∀ (s : State) (u : UnitAddr) (c i : Nat) (b : Bool), s.resolve u = some (.cluster c) →
    SMap.find s.cmap (trayOfCluster c) = some (i, true, b) →
    Completes (.mapPersisted u) s fun t => SMap.find t.cmap (trayOfCluster c) = some (i, true, true)) ∧
  (∀ (s : State) (u : UnitAddr) (k : Nat), s.resolve u = some (.tray k) → (s.tray k).ctl.st = .starting →
    (s.tray k).light.gridFailed = false → (s.tray k).light.locked = true → (s.tray k).light.acquiring = false →
    Completes (.selfTestDone u true true true) s fun t =>
      (t.tray k).ctl.st ≠ .starting ∧ (t.tray k).ctl.st ≠ .failed ∧
        ((s.tray k).ctl.hold = false → (s.tray k).ctl.upd = false → (s.tray k).ctl.drain = false →
          (s.tray k).ctl.enable = true → (s.tray k).light.devHold = false → (t.tray k).ctl.st = .ready)) ∧
  (∀ (s : State) (u : UnitAddr) (k : Nat), s.resolve u = some (.tray k) → (s.tray k).ctl.st = .starting →
    (s.tray k).light.gridFailed = false → (s.tray k).light.locked = false →
    Completes (.selfTestDone u true true true) s fun t => (t.tray k).ctl.st = .starting) ∧
  (∀ (s : State) (u : UnitAddr) (k : Nat) (a b : Bool), s.resolve u = some (.tray k) → (s.tray k).ctl.st = .starting →
    s.mod.stage ≠ 6 → Completes (.selfTestDone u false a b) s fun t => (t.tray k).ctl.st = .failed) ∧
  (∀ (s : State) (u : UnitAddr) (k : Nat), s.resolve u = some (.core k) → (s.core k).ctl.st = .starting →
    Completes (.selfTestDone u false true true) s fun t => (t.core k).ctl.st = .failed) ∧
  (∀ (s : State) (u : UnitAddr) (k : Nat), s.resolve u = some (.tray k) → (s.tray k).ctl.st = .draining →
    s.trayBusy k = false → (s.tray k).light.devHold = false →
    Completes (.drainComplete u) s fun t =>
      ((s.tray k).ctl.enable = false → (t.tray k).ctl.st = .off ∧ (t.tray k).ctl.drained = true) ∧
      ((s.tray k).ctl.enable = true → (s.tray k).ctl.drain = true → (t.tray k).ctl.st = .held ∧ (t.tray k).ctl.drained = true) ∧
      ((s.tray k).ctl.enable = true → (s.tray k).ctl.drain = false → (s.tray k).ctl.hold = false → (s.tray k).ctl.upd = false →
        (t.tray k).ctl.st = .ready)) ∧
  (∀ (s : State) (u : UnitAddr) (k : Nat), s.resolve u = some (.core k) → (s.core k).ctl.st = .draining →
    (s.core k).busy = false →
    Completes (.drainComplete u) s fun t =>
      ((s.coreCtl k).enable = false → (t.core k).ctl.st = .off ∧ (t.core k).ctl.drained = true) ∧
      ((s.coreCtl k).enable = true → (s.coreCtl k).drain = true → (t.core k).ctl.st = .held ∧ (t.core k).ctl.drained = true))

/-- EXPOSURE_ISSUE, LOAD_START, LOAD_ROW_WRITE, SWAP_EXECUTE, SWAP_REFRESH_DUE, INPLACE_REFRESH_DUE, BACKGROUND_RELOAD_DUE,
IDLE_BOUNDARY, VSTEP_PAUSE_END and MODE_SETTLE_END complete (R58-R64, R67). One EXPOSURE_ISSUE is one beat (log entry 15). -/
def Obligations.ExposureUnitRowsComplete : Prop :=
  (∀ (s : State) (u : UnitAddr) (k adm g v a : Nat) (add : Bool) (d sub : Option Nat) (rest : List QEntry),
    s.trayAt u = some k → (s.tray k).runs = true → (s.tray k).refSwap = false → (s.tray k).pend = [] →
    (s.tray k).expQ = .expo adm g v a add d sub :: rest → (s.tray k).hasActive = true →
    Completes (.exposureIssue u) s fun t => (t.tray k).expQ = rest ∧
      (∃ q, (t.tray k).pend = [q] ∧ q.m = ((s.tray k).vector g v).1 ∧ q.e = ((s.tray k).vector g v).2 ∧ q.acc = a ∧ q.add = add) ∧
      (t.tray k).cnt.exposures = satAdd (s.tray k).cnt.exposures 1) ∧
  (∀ (s : State) (u : UnitAddr) (k : Nat), s.trayAt u = some k → (s.tray k).runs = true →
    (s.tray k).refSwap = false → (s.tray k).pend = [] → (s.tray k).expQ = [] →
    Completes (.exposureIssue u) s fun t => (t.tray k).cnt.beats = satAdd (s.tray k).cnt.beats 1 ∧
      (t.tray k).cnt.idle = satAdd (s.tray k).cnt.idle 1 ∧ (t.tray k).cnt.exposures = (s.tray k).cnt.exposures) ∧
  (∀ (s : State) (u : UnitAddr) (k : Nat) (r : LoadReq) (rest : List LoadReq), s.trayAt u = some k → (s.tray k).dacsFree = true →
    (s.tray k).loadQ = r :: rest → (s.tray k).load = none → (s.tray k).expQ = [] → (s.tray k).refSwap = false →
    Completes (.loadStart u) s fun t => (t.tray k).loadQ = rest ∧ (t.tray k).idlePlane.st = .loading ∧
      ∃ x, (t.tray k).load = some x ∧ x.kind = .user ∧ x.req = r ∧ x.rows = []) ∧
  (∀ (s : State) (u : UnitAddr) (k : Nat) (r : LoadRun), s.trayAt u = some k → (s.tray k).load = some r →
    (s.tray k).inplace = none → (s.tray k).vPause = false → ((s.tray k).nextRow r).contains (-128) = false → r.rows.length < 31 →
    Completes (.loadRowWrite u) s fun t => ∃ x, (t.tray k).load = some x ∧ x.rows = r.rows ++ [(s.tray k).nextRow r]) ∧
  (∀ (s : State) (u : UnitAddr) (k : Nat) (r : LoadRun), s.trayAt u = some k → (s.tray k).load = some r → r.kind = .user →
    (s.tray k).inplace = none → (s.tray k).vPause = false → ((s.tray k).nextRow r).contains (-128) = false → r.rows.length = 31 →
    r.toB = !(s.tray k).activeB → (r.calGen = (s.tray k).cal.gen ∨ r.calGen = (s.tray k).loadGen) →
    Completes (.loadRowWrite u) s fun t => (t.tray k).load = none ∧ ((t.tray k).target r).st = .loaded ∧
      ((t.tray k).target r).gen = ((s.tray k).target r).gen + 1 ∧
      (s.gone r.req.desc = false → ((t.tray k).target r).data.rows = r.rows ++ [(s.tray k).nextRow r])) ∧
  (∀ (s : State) (u : UnitAddr) (k n : Nat), s.trayAt u = some k → (s.tray k).vPause = false → (s.tray k).inplace = some n →
    Completes (.loadRowWrite u) s fun t => (t.tray k).active.written = s.up ∧
      (n + 1 < 32 → (t.tray k).inplace = some (n + 1)) ∧
      (32 ≤ n + 1 → (t.tray k).inplace = none ∧ (t.tray k).active.st = .active ∧
        (t.tray k).cnt.refreshes = satAdd (s.tray k).cnt.refreshes 1)) ∧
  (∀ (s : State) (u : UnitAddr) (k adm : Nat) (d sub : Option Nat) (rest : List QEntry), s.trayAt u = some k →
    (s.tray k).runs = true → (s.tray k).refSwap = false → (s.tray k).expQ = .swap adm d sub :: rest → (s.tray k).load = none → (s.tray k).loadQ = [] →
    (s.tray k).idlePlane.st = .loaded →
    Completes (.swapExecute u) s fun t => (t.tray k).expQ = rest ∧ (t.tray k).activeB = !(s.tray k).activeB ∧
      (t.tray k).hasActive = true ∧ (t.tray k).cnt.swaps = satAdd (s.tray k).cnt.swaps 1) ∧
  (∀ (s : State) (u : UnitAddr) (k : Nat), s.trayAt u = some k → (s.tray k).dacsFree = true →
    (s.tray k).active.st = .active → (s.tray k).idlePlane.st = .empty → (s.tray k).load = none → (s.tray k).loadQ = [] →
    (s.tray k).refSwap = false →
    Completes (.swapRefreshDue u) s fun t => (t.tray k).idlePlane.st = .loading ∧
      ∃ x, (t.tray k).load = some x ∧ x.kind = .swapRefresh) ∧
  (∀ (s : State) (u : UnitAddr) (k : Nat), s.trayAt u = some k → (s.tray k).dacsFree = true →
    (s.tray k).active.st = .active → (s.tray k).refSwap = false →
    Completes (.inplaceRefreshDue u) s fun t => (t.tray k).active.st = .refreshing ∧ (t.tray k).inplace = some 0) ∧
  (∀ (s : State) (u : UnitAddr) (k : Nat), s.trayAt u = some k → (s.tray k).dacsFree = true → (s.tray k).idlePlane.st = .loaded →
    (s.tray k).load = none → (s.tray k).loadQ = [] → (s.tray k).refSwap = false →
    Completes (.backgroundReloadDue u) s fun t => (t.tray k).idlePlane.st = .refreshing ∧
      ∃ x, (t.tray k).load = some x ∧ x.kind = .background) ∧
  (∀ (s : State) (u : UnitAddr) (k : Nat), s.trayAt u = some k → (s.tray k).runs = true → (s.tray k).expQ = [] →
    (s.tray k).refSwap = false → (s.tray k).idleAt = false → (s.tray k).pend = [] →
    Completes (.idleBoundary u) s fun t => (t.tray k).idleAt = true ∧
      ((s.tray k).staged.isSome = true → (s.tray k).hasActive = true →
        (t.tray k).active.st = .refreshing ∧ (t.tray k).inplace = some 0) ∧
      (((s.tray k).staged = none ∨ (s.tray k).hasActive = false) →
        (t.tray k).proof.runOpen = false ∧ (t.tray k).vUse = (s.tray k).vGoal)) ∧
  (∀ (s : State) (u : UnitAddr) (k : Nat), s.trayAt u = some k → (s.tray k).vPause = true →
    Completes (.vstepPauseEnd u) s fun t => t.tray k = { s.tray k with vPause := false, settle := false }) ∧
  (∀ (s : State) (u : UnitAddr) (k : Nat), s.trayAt u = some k → (s.tray k).settle = true → (s.tray k).vPause = false →
    Completes (.modeSettleEnd u) s fun t => t.tray k = { s.tray k with settle := false })

/-- PROOF_VERDICT, REFEREE_REPORT, SECOND_REFEREE_REPORT, GUEST_EXPOSURE, PARTNER_REPORT, PARTNER_TIMEOUT, EPOCH_END,
RATE_INTERVAL_END, SCORE_DECAY, SPARE_RESTORE_DONE, RESEED and RELEARN complete (R161-R178). -/
def Obligations.ProofRowsComplete : Prop :=
  (∀ (s : State) (u : UnitAddr) (k : Nat) (p : Pend) (r : Int × Int), s.trayAt u = some k →
    ((s.tray k).pend.any fun q => q.phase == .settled || q.phase == .awaitRef) = false →
    (s.tray k).pend.find? (fun q => q.phase == .piped) = some p → residuals p.sh p.m p.outs p.pat = r →
    beyondT r.1 p.k p.fine p.allow.toNat = false → beyondT r.2 p.k p.fine p.allow.toNat = false →
    Completes (.proofVerdict u) s fun t =>
      (s.accHeld k p = false → ∀ q ∈ (t.tray k).pend, q.id ≠ p.id) ∧
      (s.accHeld k p = true → ((t.tray k).pending? p.id).map (fun q => q.phase) = some .settled)) ∧
  (∀ (s : State) (u : UnitAddr) (k : Nat) (p : Pend) (r : Int × Int), s.trayAt u = some k →
    ((s.tray k).pend.any fun q => q.phase == .settled || q.phase == .awaitRef) = false →
    (s.tray k).pend.find? (fun q => q.phase == .piped) = some p → residuals p.sh p.m p.outs p.pat = r →
    (beyondT r.1 p.k p.fine p.allow.toNat = true ∨ beyondT r.2 p.k p.fine p.allow.toNat = true) →
    Completes (.proofVerdict u) s fun t => t.proofMisses = satAdd s.proofMisses 1) ∧
  (∀ (s : State) (u : UnitAddr) (k x : Nat) (p : Pend) (err : List Int), s.trayAt u = some k →
    (s.tray k).pending? x = some p → p.phase = .awaitRef → p.ref1.isSome = true → p.out1 = [] → p.partner = 0 →
    Completes (.refereeReport u x err) s fun t => (t.tray k).pending? x = some { p with out1 := p.referee err }) ∧
  (∀ (s : State) (u : UnitAddr) (k x : Nat) (p : Pend) (err : List Int), s.trayAt u = some k →
    (s.tray k).pending? x = some p → p.phase = .awaitRef → p.ref1.isSome = true → p.out1 = [] → p.partner ≠ 0 →
    p.referee err ≠ [] → sameSums p (p.referee err) = true →
    Completes (.refereeReport u x err) s fun t => t.proofRefereed = satAdd s.proofRefereed 1) ∧
  (∀ (s : State) (u : UnitAddr) (k x : Nat) (p : Pend) (err : List Int), s.trayAt u = some k →
    (s.tray k).pending? x = some p → p.phase = .secondRef → p.ref2.isSome = true →
    Completes (.secondRefereeReport u x err) s fun t => t.proofRefereed = satAdd s.proofRefereed 1) ∧
  (∀ (s : State) (u : UnitAddr) (k : Nat) (g : Nat × Nat) (p : Pend) (rest : List (Nat × Nat)), s.trayAt u = some k →
    (s.tray k).proof.guestQ = g :: rest → (s.tray g.1).pending? g.2 = some p → (s.tray k).ctl.st = .ready →
    (s.tray k).runs = true → (s.tray k).load = none → (s.tray k).refSwap = false →
    Completes (.guestExposure u) s fun t => (t.tray k).proof.guestQ = rest ∧
      (t.tray k).proof.guests = satAdd (s.tray k).proof.guests 1 ∧
      ∃ o, (t.tray k).proof.guestDone = (s.tray k).proof.guestDone ++ [(g.1, g.2, o)]) ∧
  (∀ (s : State) (u : UnitAddr) (k : Nat) (g : Nat × Nat) (rest : List (Nat × Nat)), s.trayAt u = some k →
    (s.tray k).proof.guestQ = g :: rest → (s.tray g.1).pending? g.2 = none →
    Completes (.guestExposure u) s fun t => (t.tray k).proof.guestQ = rest ∧
      (t.tray k).proof.guests = (s.tray k).proof.guests) ∧
  (∀ (s : State) (u : UnitAddr) (k x : Nat) (p : Pend) (e : Int), s.trayAt u = some k → (s.tray k).pending? x = some p →
    p.partner = 0 → p.phase = .awaitRef → p.out1 = [] → s.guestMade k x = some (k, x, false, e) →
    Completes (.partnerReport u x) s fun t => (t.tray k).proof.partnerLast = 1 ∧
      (t.tray k).pending? x = some { p with partner := 1, partnerE1 := e }) ∧
  (∀ (s : State) (u : UnitAddr) (k x : Nat) (p : Pend) (e : Int), s.trayAt u = some k → (s.tray k).pending? x = some p →
    p.partner = 0 → p.phase = .awaitRef → p.out1 = [] → s.guestMade k x = some (k, x, true, e) →
    Completes (.partnerReport u x) s fun t => t.proofMisses = satAdd s.proofMisses 1) ∧
  (∀ (s : State) (u : UnitAddr) (k x : Nat) (p : Pend), s.trayAt u = some k → (s.tray k).pending? x = some p →
    p.partner = 0 → p.phase = .awaitRef → p.out1 = [] →
    Completes (.partnerTimeout u x) s fun t => (t.tray k).proof.partnerLast = 3) ∧
  (∀ (s : State) (u : UnitAddr) (k : Nat), s.trayAt u = some k → s.epochLen ≤ (s.tray k).proof.inEpoch → s.monEn = false →
    Completes (.epochEnd u) s fun t => (t.tray k).proof.epoch = (s.tray k).proof.epoch + 1 ∧
      (t.tray k).proof.inEpoch = (s.tray k).proof.inEpoch - s.epochLen ∧ (t.tray k).proof.newSeed = none ∧
      (t.tray k).proof.pattern = (t.tray k).proof.seed.setWidth 32) ∧
  (∀ (s : State) (u : UnitAddr) (k : Nat), s.trayAt u = some k → 16777216 ≤ (s.tray k).proof.rateExp →
    Completes (.rateIntervalEnd u) s fun t => (t.tray k).proof.rateLast = (s.tray k).proof.rateNow ∧
      (t.tray k).proof.rateNow = 0 ∧ (t.tray k).proof.rateExp = (s.tray k).proof.rateExp - 16777216) ∧
  (∀ (s : State) (u : UnitAddr) (k : Nat) (sec : BitVec 16), s.resolve u = some (.tray k) →
    Completes (.scoreDecay u sec) s fun t => (t.tray k).lad.score = ((s.tray k).lad.decay sec.toNat s.halfLife).score) ∧
  (∀ (s : State) (u : UnitAddr) (c : Nat) (sec : BitVec 16), s.resolve u = some (.cluster c) →
    Completes (.scoreDecay u sec) s fun t =>
      (t.cluster c).lad.score = ((s.cluster c).lad.decay sec.toNat s.halfLife).score) ∧
  (∀ (s : State) (u : UnitAddr) (k : Nat) (lost : List (BitVec 16)), s.trayAt u = some k → (s.tray k).restoring = true →
    Completes (.spareRestoreDone u lost) s fun t => (t.tray k).restoring = false ∧ (lost = [] → (t.tray k).tb = (s.tray k).tb)) ∧
  (∀ (s : State) (p : Path), s.priv p = true →
    Completes (.reseed p) s fun t => t.seedsOwed = s.workingTrays ∧
      ∀ k ∈ s.trays.map (·.1), (t.tray k).proof.newSeed.isSome = true) ∧
  (∀ (s : State) (p : Path), s.priv p = true →
    Completes (.relearn p) s fun t => ∀ k ∈ s.trays.map (·.1), (t.tray k).proof.mon.base = none ∧ (t.tray k).proof.mon.ds = [])

/-- CORE_ISSUE_CYCLE, THREAD_DISPATCH, WINDOW_CLEARED, TALLY_APPLY, TALLY_WAIT_TIMEOUT, CLOCK_STEP_APPLY, QUEUE_ADMIT,
CTX_THREADS_WRITE and CHAIN_FETCH_DONE complete (R94, R96, R98, R102, R107, R108, R112, R122, R134). -/
def Obligations.CoreAndThreadRowsComplete : Prop :=
  (∀ (s : State) (c : UnitAddr) (k n : Nat), s.coreAt c = some k → (s.core k).devWork = 0 →
    (s.core k).keepsTurn = false → (s.core k).nextTurn (s.core k).turn = some n →
    issues (s.core k).ctl.st = true →
    Completes (.coreIssueCycle c .clean) s fun t => (t.core k).issue = satAdd (s.core k).issue 1 ∧ (t.core k).turn = n ∧
      (t.cluster (clusterOfCore k)).issue = satAdd (s.cluster (clusterOfCore k)).issue 1) ∧
  (∀ (s : State) (c : UnitAddr) (k : Nat), s.coreAt c = some k → (s.core k).devWork = 0 → (s.core k).slots ≠ [] →
    ((s.core k).slots.any fun e => e.2.st == .ready) = false → (s.core k).keepsTurn = false →
    (s.core k).nextTurn (s.core k).turn = none →
    Completes (.coreIssueCycle c .clean) s fun t =>
      (t.cluster (clusterOfCore k)).stall = satAdd (s.cluster (clusterOfCore k)).stall 1) ∧
  (∀ (s : State) (c : UnitAddr) (k : Nat), s.coreAt c = some k → 0 < (s.core k).devWork → (s.core k).owesTurn = false →
    issues (s.core k).ctl.st = true →
    Completes (.coreIssueCycle c .clean) s fun t => (t.core k).devWork = (s.core k).devWork - 1 ∧
      (t.cluster (clusterOfCore k)).device = satAdd (s.cluster (clusterOfCore k)).device 1) ∧
  (∀ (s : State) (c : UnitAddr) (k : Nat), s.coreAt c = some k →
    Completes (.coreIssueCycle c .corrected) s fun t => (t.cluster (clusterOfCore k)).flags.getLsbD 2 = true) ∧
  (∀ (s : State) (u : UnitAddr) (c k n b : Nat) (r : StartReq), s.clusterAt u = some c →
    s.topStart (s.ableAt c) = some (r, k, n, b) → (if r.first then s.fetchFault r.ctx r.chain.toNat else none) = none →
    r.parent = none →
    Completes (.threadDispatch u) s fun t => t.starts = s.starts.filter (fun x => decide (x.id ≠ r.id)) ∧
      ∃ x, t.thread? k n = some x ∧ x.pc = r.chain ∧ x.ctx = r.ctx ∧ x.base = b ∧ x.size = r.lsKib ∧ x.wait = .fetch) ∧
  (∀ (s : State) (c : UnitAddr) (k : Nat) (n : SlotNo) (x : Thread), s.coreAt c = some k → s.thread? k n.toNat = some x →
    x.st = .ending → (s.movers.any fun m => m.thread == x.id && usesWindow m.d) = false →
    Completes (.windowCleared c n) s fun t => t.thread? k n.toNat = none ∧
      ∀ a, 1024 * x.base ≤ a → a < 1024 * x.base + 1024 * x.size → Memory.read (t.core k).ls a = 0) ∧
  (∀ (s : State) (u : UnitAddr) (c : Nat) (op : TallyOp), s.clusterAt u = some c →
    s.arrives (s.cluster c).inflight = some op →
    Completes (.tallyApply u) s fun t => (t.cluster c).tallies = ((s.cluster c).tallyOp op).tallies) ∧
  (∀ (s : State) (c : UnitAddr) (k : Nat) (n : SlotNo) (x : Thread) (d : BitVec 512) (i : BitVec 6) (v us : Word),
    s.coreAt c = some k → s.thread? k n.toNat = some x → x.wait = .tally i v us → us ≠ 0 → x.cur = some d →
    dFlag d 2 = false →
    Completes (.tallyWaitTimeout c n) s fun t => (t.thread? k n.toNat).map (fun y => y.st) = some .ending) ∧
  (∀ (s : State) (u : UnitAddr) (c : Nat), s.clusterAt u = some c →
    Completes (.clockStepApply u) s fun t => t.cluster c = { s.cluster c with clkUse := s.clkGoal c }) ∧
  (∀ (s : State) (c : UnitAddr) (k : Nat) (n : SlotNo) (x : Thread) (d : BitVec 512) (desc : Nat), s.coreAt c = some k →
    s.thread? k n.toNat = some x → x.st = .waitQueue → x.cur = some d → x.desc = some desc → opcode d = 0x20 →
    (s.tray (trayOfCore k)).admits = true → s.queueAhead (trayOfCore k) d desc = false →
    (0 < x.prog ∨ (s.tray (trayOfCore k)).hasActive = true ∨ (s.tray (trayOfCore k)).swapQueued = true) → x.prog < entriesOf d →
    entriesOf d - x.prog ≤ (s.tray (trayOfCore k)).roomFor d →
    Completes (.queueAdmit c n) s fun t =>
      (t.tray (trayOfCore k)).expQ.length = (s.tray (trayOfCore k)).expQ.length + (entriesOf d - x.prog) ∧
        (t.tray (trayOfCore k)).adm = (s.tray (trayOfCore k)).adm + (entriesOf d - x.prog)) ∧
  (∀ (s : State) (p : Path) (v : Word), s.priv p = true →
    Completes (.ctxThreadsWrite p v) s fun t => (t.ctx (s.shownCtx p)).prio.toNat = bitsOf v 25 24 ∧
      (t.ctx (s.shownCtx p)).tquota = some (BitVec.ofNat 22 (min (bitsOf v 21 0) s.threadCount))) ∧
  (∀ (s : State) (c : UnitAddr) (k : Nat) (n : SlotNo) (x : Thread) (d : BitVec 512) (errs : List MemErr), s.coreAt c = some k →
    s.thread? k n.toNat = some x → x.wait = .fetch → x.nxt = some d →
    Completes (.chainFetchDone c n errs) s fun t => ∃ y, t.thread? k n.toNat = some y ∧ y.cur = some d ∧ y.st = .ready) ∧
  (∀ (s : State) (c : UnitAddr) (k : Nat) (n : SlotNo) (x : Thread) (errs : List MemErr), s.coreAt c = some k →
    s.thread? k n.toNat = some x → x.wait = .fetch → x.nxt = none → (s.meet errs).readHeld x.ctx x.pc.toNat 64 = false →
    (s.meet errs).fetchFault x.ctx x.pc.toNat = none →
    Completes (.chainFetchDone c n errs) s fun t => ∃ y, t.thread? k n.toNat = some y ∧
      y.cur = some ((s.meet errs).descAt x.ctx x.pc.toNat) ∧ y.st = .ready)

/-- NOP, END, JUMP, UNKNOWN_OPCODE, THREAD_START, TALLY_ADD, TALLY_SET and TALLY_WAIT complete (R131-R134). -/
def Obligations.ControlDescriptorsComplete : Prop :=
  (∀ (s : State) (c : UnitAddr) (n : SlotNo) (k : Nat) (t : Thread) (d : BitVec 512), Ready s c n k t d → opcode d = 0x00 →
    hdrOk d false = true → bodyOk d [] = true → (s.ctOf k t d).isSome = true →
    Completes (.nop c n) s fun r => MovesOn s r k n t d) ∧
  (∀ (s : State) (c : UnitAddr) (n : SlotNo) (k : Nat) (t : Thread) (d : BitVec 512), Ready s c n k t d → opcode d = 0x01 →
    hdrOk d false = true → bodyOk d [] = true → (s.ctOf k t d).isSome = true →
    Completes (.endThread c n) s fun r => (r.thread? k n.toNat).map (fun x => x.st) = some .ending) ∧
  (∀ (s : State) (c : UnitAddr) (n : SlotNo) (k : Nat) (t : Thread) (d : BitVec 512), Ready s c n k t d → opcode d = 0x02 →
    hdrOk d false = true → bodyOk d [(0x10, 8)] = true → (opnd d 0x10).among [0] = true → (opnd d 0x10).off % 64 = 0 →
    (s.ctOf k t d).isSome = true → dFlag d 1 = false → (s.ctx t.ctx).st ≠ 2 →
    Completes (.jump c n) s fun r => ∃ x, r.thread? k n.toNat = some x ∧ x.pc = BitVec.ofNat 48 (opnd d 0x10).off ∧
      x.wait = .fetch ∧ x.nxt = none) ∧
  (∀ (s : State) (c : UnitAddr) (n : SlotNo) (k : Nat) (t : Thread) (d : BitVec 512), Ready s c n k t d →
    knownOpcodes.contains (opcode d) = false → dFlag d 2 = false →
    Completes (.unknownOpcode c n) s fun r => (r.thread? k n.toNat).map (fun x => x.st) = some .ending) ∧
  (∀ (s : State) (c : UnitAddr) (n : SlotNo) (k : Nat) (t : Thread) (d : BitVec 512), Ready s c n k t d → opcode d = 0x03 →
    Passes (startChecks s t d) → (s.ctOf k t d).isSome = true →
    s.judgeStart t.ctx (BitVec.ofNat 32 (dN d 0x18 4)) (dN d 0x1C 1) = none → (startReq s k n t d).isSome = true →
    dN d 0x1D 1 % 2 = 0 →
    Completes (.threadStart c n) s fun r => r.starts = s.starts ++ (startReq s k n t d).toList ∧
      (r.thread? k n.toNat).map (fun x => x.wait) = some (.child s.nextId)) ∧
  (∀ (s : State) (c : UnitAddr) (n : SlotNo) (k : Nat) (t : Thread) (d : BitVec 512) (q : StartReq) (ck cn b : Nat),
    Ready s c n k t d → opcode d = 0x03 → Passes (startChecks s t d) → (s.ctOf k t d).isSome = true →
    s.judgeStart t.ctx (BitVec.ofNat 32 (dN d 0x18 4)) (dN d 0x1C 1) = none → startReq s k n t d = some q →
    dN d 0x1D 1 % 2 = 1 → s.placeOf q = some (ck, cn, b) →
    Completes (.threadStart c n) s fun r => ∃ x, r.thread? ck cn = some x ∧ x.pc = q.chain ∧ x.base = b) ∧
  (∀ (s : State) (c : UnitAddr) (n : SlotNo) (k : Nat) (t : Thread) (d : BitVec 512) (m : Nat), Ready s c n k t d →
    opcode d = 0x04 → dN d 0x10 1 % 4 = 0 → tallyFmt d = true → dN d 0x1C 4 = 0 → 1 ≤ dN d 0x18 4 → dN d 0x18 4 ≤ 65535 →
    (s.ctOf k t d).isSome = true → s.tallyTarget k t d = some m →
    Completes (.tallyAdd c n) s fun r =>
      (∃ op, (r.cluster m).inflight = (s.cluster m).inflight ++ [op] ∧ op.isSet = false ∧
        op.tally = BitVec.ofNat 6 (dN d 0x11 1) ∧ op.v = BitVec.ofNat 32 (dN d 0x18 4)) ∧
      (r.thread? k n.toNat).map (fun x => x.wait) = some (.opArrive s.nextId)) ∧
  (∀ (s : State) (c : UnitAddr) (n : SlotNo) (k : Nat) (t : Thread) (d : BitVec 512) (m : Nat), Ready s c n k t d →
    opcode d = 0x04 → dN d 0x10 1 % 4 = 1 → tallyFmt d = true → dN d 0x1C 4 = 0 → (s.ctOf k t d).isSome = true →
    s.tallyTarget k t d = some m →
    Completes (.tallySet c n) s fun r =>
      (∃ op, (r.cluster m).inflight = (s.cluster m).inflight ++ [op] ∧ op.isSet = true ∧
        op.tally = BitVec.ofNat 6 (dN d 0x11 1) ∧ op.v = BitVec.ofNat 32 (dN d 0x18 4)) ∧
      (r.thread? k n.toNat).map (fun x => x.wait) = some (.opArrive s.nextId)) ∧
  (∀ (s : State) (c : UnitAddr) (n : SlotNo) (k : Nat) (t : Thread) (d : BitVec 512), Ready s c n k t d → opcode d = 0x04 →
    dN d 0x10 1 % 4 = 2 → tallyFmt d = true → dN d 0x14 4 = 0 → (s.ctOf k t d).isSome = true →
    Completes (.tallyWait c n) s fun r =>
      (dN d 0x18 4 ≤ (s.tally (clusterOfCore k) (BitVec.ofNat 6 (dN d 0x11 1))).toNat → MovesOn s r k n t d) ∧
      ((s.tally (clusterOfCore k) (BitVec.ofNat 6 (dN d 0x11 1))).toNat < dN d 0x18 4 →
        (r.thread? k n.toNat).map (fun x => x.st) = some .waitTally))

/-- COPY, FILL, ACC_READ, ACC_WRITE, FABRIC_PUT, FABRIC_GET and MOVER_DONE complete (R124, R135, R136, R138, R142, R143). -/
def Obligations.MovementDescriptorsComplete : Prop :=
  (∀ (s : State) (c : UnitAddr) (n : SlotNo) (k : Nat) (t : Thread) (d : BitVec 512), Ready s c n k t d → opcode d = 0x10 →
    Passes (copyChecks s t d) → (s.ctOf k t d).isSome = true → dFlag d 3 = false →
    Completes (.copy c n) s fun r => Moving s r k n t d) ∧
  (∀ (s : State) (c : UnitAddr) (n : SlotNo) (k : Nat) (t : Thread) (d : BitVec 512), Ready s c n k t d → opcode d = 0x10 →
    Passes (copyChecks s t d) → (s.ctOf k t d).isSome = true → dFlag d 3 = true →
    (s.outst.filter fun o => o.thread == t.id && o.isAsync).length < 64 →
    Completes (.copy c n) s fun r => (∃ m, r.movers = s.movers ++ [m] ∧ m.d = d ∧ m.isAsync = true) ∧ MovesOn s r k n t d) ∧
  (∀ (s : State) (c : UnitAddr) (n : SlotNo) (k : Nat) (t : Thread) (d : BitVec 512), Ready s c n k t d → opcode d = 0x11 →
    Passes (fillChecks s t d) → (s.ctOf k t d).isSome = true → dFlag d 3 = false →
    Completes (.fill c n) s fun r => Moving s r k n t d) ∧
  (∀ (s : State) (c : UnitAddr) (n : SlotNo) (k : Nat) (t : Thread) (d : BitVec 512), Ready s c n k t d → opcode d = 0x23 →
    Passes (accReadChecks s t d) → (s.ctOf k t d).isSome = true → (s.tray (trayOfCore k)).ctl.st ≠ .failed →
    Completes (.accRead c n) s fun r => Moving s r k n t d) ∧
  (∀ (s : State) (c : UnitAddr) (n : SlotNo) (k : Nat) (t : Thread) (d : BitVec 512), Ready s c n k t d → opcode d = 0x24 →
    Passes (accWriteChecks s t d) → (s.ctOf k t d).isSome = true → (s.tray (trayOfCore k)).ctl.st ≠ .failed →
    Completes (.accWrite c n) s fun r => Moving s r k n t d) ∧
  (∀ (s : State) (c : UnitAddr) (n : SlotNo) (k : Nat) (t : Thread) (d : BitVec 512), Ready s c n k t d → opcode d = 0x18 →
    Passes (fabricChecks true s t d) → (s.ctOf k t d).isSome = true → (peerEntry s t d).getLsbD 31 = true → dFlag d 3 = false →
    Completes (.fabricPut c n) s fun r => Moving s r k n t d ∧ Opens s r t d true) ∧
  (∀ (s : State) (c : UnitAddr) (n : SlotNo) (k : Nat) (t : Thread) (d : BitVec 512), Ready s c n k t d → opcode d = 0x19 →
    Passes (fabricChecks false s t d) → (s.ctOf k t d).isSome = true → (peerEntry s t d).getLsbD 31 = true → dFlag d 3 = false →
    Completes (.fabricGet c n) s fun r => Moving s r k n t d ∧ Opens s r t d false) ∧
  (∀ (s : State) (id : Nat) (m : MoverOp) (errs : List MemErr), (s.movers.find? fun x => x.id == id) = some m → m.fin = none →
    (opcode m.d = 0x10 ∨ opcode m.d = 0x11 ∨ (opcode m.d = 0x23 ∨ opcode m.d = 0x24) ∧ s.accWaits m = false ∨
      opcode m.d = 0x19 ∧ (s.fab.xfers.any fun x => x.mine && x.op == some m.desc && decide (x.len ≤ x.moved)) = true) →
    Quiet s →
    Completes (.moverDone id errs) s fun r => r.movers = s.movers.filter fun x => decide (x.id ≠ id)) ∧
  (∀ (s : State) (id : Nat) (m : MoverOp) (errs : List MemErr), (s.movers.find? fun x => x.id == id) = some m → m.fin = none →
    opcode m.d = 0x11 → (opnd m.d 0x10).sp = 1 →
    Completes (.moverDone id errs) s fun r => (r.core m.core).ls = Memory.writeL (s.core m.core).ls
      (1024 * m.base + (opnd m.d 0x10).off) ((List.range (dN m.d 0x20 4 / 8)).flatMap fun _ => leBytes 8 (dN m.d 0x18 8)))

/-- EXPOSE, PLANE_LOAD and PLANE_SWAP complete (R61, R102, R139-R141). -/
def Obligations.ExposurePathDescriptorsComplete : Prop :=
  (∀ (s : State) (c : UnitAddr) (n : SlotNo) (k : Nat) (t : Thread) (d : BitVec 512), Ready s c n k t d → opcode d = 0x20 →
    Passes (exposeChecks s t d) → (s.ctOf k t d).isSome = true → (s.tray (trayOfCore k)).admits = true → t.prog = 0 →
    s.queueAhead (trayOfCore k) d s.nextId = false →
    ((s.tray (trayOfCore k)).hasActive = true ∨ (s.tray (trayOfCore k)).swapQueued = true) →
    (s.tray (trayOfCore k)).expQ.length + dN d 0x18 4 ≤ 64 →
    Completes (.expose c n) s fun r => MovesOn s r k n t d ∧
      (r.tray (trayOfCore k)).expQ = (s.tray (trayOfCore k)).expQ ++ (List.range (dN d 0x18 4)).map fun j =>
        exposeEntry d (65536 * (s.ctx t.ctx).gbase.toNat) ((s.tray (trayOfCore k)).adm + j) j s.nextId t.sub) ∧
  (∀ (s : State) (c : UnitAddr) (n : SlotNo) (k : Nat) (t : Thread) (d : BitVec 512), Ready s c n k t d → opcode d = 0x21 →
    Passes (planeLoadChecks s t d) → (s.ctOf k t d).isSome = true → (s.tray (trayOfCore k)).admits = true → t.prog = 0 →
    s.queueAhead (trayOfCore k) d s.nextId = false → (s.tray (trayOfCore k)).loads < 4 →
    Completes (.planeLoad c n) s fun r => MovesOn s r k n t d ∧
      ∃ q, (r.tray (trayOfCore k)).loadQ = (s.tray (trayOfCore k)).loadQ ++ [q] ∧ q.src.toNat = dN d 0x20 1 ∧ q.ctx = t.ctx ∧
        q.image = 65536 * (s.ctx t.ctx).gbase.toNat + (opnd d 0x10).off) ∧
  (∀ (s : State) (c : UnitAddr) (n : SlotNo) (k : Nat) (t : Thread) (d : BitVec 512), Ready s c n k t d → opcode d = 0x22 →
    hdrOk d false = true → bodyOk d [] = true → (s.ctOf k t d).isSome = true → (s.tray (trayOfCore k)).admits = true →
    t.prog = 0 → s.queueAhead (trayOfCore k) d s.nextId = false → (s.tray (trayOfCore k)).expQ.length < 64 →
    Completes (.planeSwap c n) s fun r => MovesOn s r k n t d ∧
      (r.tray (trayOfCore k)).expQ = (s.tray (trayOfCore k)).expQ ++
        [.swap (s.tray (trayOfCore k)).adm (some s.nextId) (some t.sub)])

/-- SEQ_OPEN, SEQ_CLOSE, SEQ_APPEND, SEQ_RESERVE_DONE, SEQ_ENTRIES_VISIBLE, SEQ_QUERY and PUBLISH complete (R109-R111,
R151-R155). -/
def Obligations.SequenceDescriptorsComplete : Prop :=
  (∀ (s : State) (c : UnitAddr) (n : SlotNo) (k : Nat) (t : Thread) (d : BitVec 512) (i : Nat), Ready s c n k t d →
    opcode d = 0x40 → Passes (seqOpenChecks s t d) → (s.ctOf k t d).isSome = true →
    ((List.range 256).find? fun j => (s.seq j).st == 0) = some i → s.seqHeld t.ctx < (s.ctx t.ctx).squota.toNat →
    s.putFault (s.seat k t) (opnd d 0x20) 8 = none →
    Completes (.seqOpen c n) s fun r => (r.seq i).st = 1 ∧ (r.seq i).ctx = t.ctx ∧ (r.seq i).gen = (s.seq i).gen + 1 ∧
      (r.seq i).base = BitVec.ofNat 48 (opnd d 0x10).off ∧ (r.seq i).cap.toNat = dN d 0x18 3 ∧ (r.seq i).reserved = 0 ∧
      (r.seq i).valid = 0) ∧
  (∀ (s : State) (c : UnitAddr) (n : SlotNo) (k : Nat) (t : Thread) (d : BitVec 512), Ready s c n k t d → opcode d = 0x41 →
    hdrOk d false = true → bodyOk d [(0x10, 1), (0x12, 2)] = true → (s.ctOf k t d).isSome = true →
    (s.seq (dN d 0x10 1)).openFor t.ctx (dN d 0x12 2) = true →
    Completes (.seqClose c n) s fun r => ((r.seq (dN d 0x10 1)).st = 2 ∨ (r.seq (dN d 0x10 1)).st = 0) ∧ MovesOn s r k n t d) ∧
  (∀ (s : State) (c : UnitAddr) (n : SlotNo) (k : Nat) (t : Thread) (d : BitVec 512), Ready s c n k t d → opcode d = 0x42 →
    Passes (seqAppendChecks s t d) → (s.ctOf k t d).isSome = true →
    (s.seq (dN d 0x10 1)).openFor t.ctx (dN d 0x12 2) = true →
    (s.seq (dN d 0x10 1)).reserved.toNat + dN d 0x14 3 ≤ (s.seq (dN d 0x10 1)).cap.toNat →
    Completes (.seqAppend c n) s fun r => r.thread? k n.toNat = some { t with st := .waitData, wait := .reserve }) ∧
  (∀ (s : State) (c : UnitAddr) (n : SlotNo) (k : Nat) (t : Thread) (d : BitVec 512), s.coreAt c = some k →
    s.thread? k n.toNat = some t → t.wait = .reserve → t.cur = some d →
    (s.seq (dN d 0x10 1)).openFor t.ctx (dN d 0x12 2) = true →
    (s.seq (dN d 0x10 1)).reserved.toNat + dN d 0x14 3 ≤ (s.seq (dN d 0x10 1)).cap.toNat →
    Completes (.seqReserveDone c n) s fun r =>
      (r.seq (dN d 0x10 1)).reserved.toNat = (s.seq (dN d 0x10 1)).reserved.toNat + dN d 0x14 3 ∧
        (r.thread? k n.toNat).map (fun x => x.wait) =
          some (.append (BitVec.ofNat 8 (dN d 0x10 1)) (s.seq (dN d 0x10 1)).reserved)) ∧
  (∀ (s : State) (slot : BitVec 8) (first : BitVec 24) (k : Nat) (n : SlotNo) (t : Thread) (d : BitVec 512) (errs : List MemErr),
    s.appender slot first = some (k, n.toNat) → s.thread? k n.toNat = some t → t.cur = some d → dN d 0x11 1 % 2 = 0 →
    Quiet s →
    (s.meet errs).getFault (s.seat k t) (opnd d 0x18) (dN d 0x14 3 * (s.seq slot.toNat).units.toNat * 64) = none →
    (s.meet errs).putFault (s.seat k t)
      ⟨0, 0, (s.seq slot.toNat).base.toNat + first.toNat * (s.seq slot.toNat).units.toNat * 64⟩
      (dN d 0x14 3 * (s.seq slot.toNat).units.toNat * 64) = none →
    Completes (.seqEntriesVisible slot first errs) s fun r => MovesOn s r k n t d) ∧
  (∀ (s : State) (c : UnitAddr) (n : SlotNo) (k : Nat) (t : Thread) (d : BitVec 512), Ready s c n k t d → opcode d = 0x43 →
    Passes (seqQueryChecks s t d) → (s.ctOf k t d).isSome = true → (opnd d 0x18).sp = 1 →
    (s.seq (dN d 0x10 1)).boundFor t.ctx (dN d 0x12 2) = true →
    Completes (.seqQuery c n) s fun r => Finishes s r k n t d ∧
      (r.core k).ls = Memory.writeL (s.core k).ls (1024 * t.base + (opnd d 0x18).off)
        (leBytes 4 ((s.seq (dN d 0x10 1)).st.toNat + 65536 * (s.seq (dN d 0x10 1)).gen.toNat) ++
          leBytes 4 (s.seq (dN d 0x10 1)).cap.toNat ++ leBytes 4 (s.seq (dN d 0x10 1)).reserved.toNat ++
          leBytes 4 (s.seq (dN d 0x10 1)).valid.toNat)) ∧
  (∀ (s : State) (c : UnitAddr) (n : SlotNo) (k : Nat) (t : Thread) (d : BitVec 512), Ready s c n k t d → opcode d = 0x50 →
    hdrOk d false = true → bodyOk d [(0x10, 1), (0x14, 4), (0x18, 4), (0x1C, 4)] = true → dN d 0x10 1 < 4 →
    (dN d 0x10 1 % 2 = 1 → dN d 0x14 4 ≤ dN d 0x18 4) → (s.ctOf k t d).isSome = true →
    s.seen t.id s.nextId = true →
    Completes (.publish c n) s fun r => MovesOn s r k n t d ∧ ∀ x, s.sub? t.sub = some x → dFlag d 1 = false →
      (s.ctx t.ctx).st ≠ 2 → t.pc.toNat + 64 < 2 ^ 48 → t.sub = subKey x.ctx x.slot → ∃ y, r.sub? t.sub = some y ∧
        { y with prev := x.prev, at_ := x.at_ } = x.publish (dN d 0x10 1) (dN d 0x14 4) (dN d 0x18 4) (dN d 0x1C 4))

/-- CONVERT_BS8, CONVERT_PLANE, VEC, ACTIVATE, REDUCE and MATMUL_EXACT complete (R144-R149). What ACTIVATE writes for a
finite argument lies within the spec's tolerance of the reference and is a free value in it (log entry 26). -/
def Obligations.VectorDescriptorsComplete : Prop :=
  (∀ (s : State) (c : UnitAddr) (n : SlotNo) (k : Nat) (t : Thread) (d : BitVec 512) (bs : List (List Int × Int)),
    Ready s c n k t d → opcode d = 0x28 → Passes (convertBs8Checks s t d) → (s.ctOf k t d).isSome = true →
    (opnd d 0x10).sp = 1 → (opnd d 0x18).sp = 2 →
    ((List.range (dN d 0x20 4)).map fun v => toBlock ((List.range 32).map (elemF (s.getL (s.seat k t)
      ((opnd d 0x10).plus (v * dN d 0x24 4)) (32 * fmtSize (dN d 0x29 1))) (dN d 0x29 1)))) = bs.map some →
    Completes (.convertBs8 c n) s fun r => Finishes s r k n t d ∧
      (r.tray (trayOfCore k)).tb = (bs.zipIdx.flatMap fun x =>
          [((opnd d 0x18).off + 2112 * ((dN d 0x28 1 + x.2) / 64) + 32 * ((dN d 0x28 1 + x.2) % 64), sbytes x.1.1),
           ((opnd d 0x18).off + 2112 * ((dN d 0x28 1 + x.2) / 64) + 2048 + (dN d 0x28 1 + x.2) % 64, sbytes [x.1.2])]).foldl
        (fun m w => Memory.writeL m ((s.seat k t).grant + w.1) w.2) (s.tray (trayOfCore k)).tb) ∧
  (∀ (s : State) (c : UnitAddr) (n : SlotNo) (k : Nat) (t : Thread) (d : BitVec 512) (bs : List (List Int × Int)),
    Ready s c n k t d → opcode d = 0x29 → Passes (convertPlaneChecks s t d) → (s.ctOf k t d).isSome = true →
    (opnd d 0x10).sp = 1 → (opnd d 0x18).sp = 2 → (opnd d 0x20).sp = 2 → dN d 0x2D 1 = 0 →
    ((List.range 32).map fun i => toBlock ((List.range 32).map fun j => elemF (s.getL (s.seat k t)
      ((opnd d 0x10).plus (i * dN d 0x28 4)) (32 * fmtSize (dN d 0x2C 1))) (dN d 0x2C 1) j)) = bs.map some →
    Completes (.convertPlane c n) s fun r => Finishes s r k n t d ∧
      (r.tray (trayOfCore k)).tb = Memory.writeL (Memory.writeL (s.tray (trayOfCore k)).tb
        ((s.seat k t).grant + (opnd d 0x18).off) (bs.flatMap fun x => sbytes x.1))
        ((s.seat k t).grant + (opnd d 0x20).off) (sbytes (bs.map (·.2)))) ∧
  (∀ (s : State) (c : UnitAddr) (n : SlotNo) (k : Nat) (t : Thread) (d : BitVec 512), Ready s c n k t d → opcode d = 0x30 →
    Passes (vecChecks s t d) → (s.ctOf k t d).isSome = true → (opnd d 0x10).sp = 2 → (opnd d 0x18).sp = 2 →
    (opnd d 0x20).sp = 1 → dN d 0x2C 1 < 6 → dN d 0x2D 1 < 5 → dN d 0x2E 1 < 5 → dN d 0x2F 1 = 0 →
    Completes (.vec c n) s fun r => Finishes s r k n t d ∧
      (r.core k).ls = Memory.writeL (s.core k).ls (1024 * t.base + (opnd d 0x20).off) ((List.range (dN d 0x28 4)).flatMap fun i =>
        putFloat (dN d 0x2E 1) (vecF (dN d 0x2C 1)
          (elemF (s.getL (s.seat k t) (opnd d 0x10) (dN d 0x28 4 * fmtSize (dN d 0x2D 1))) (dN d 0x2D 1) i)
          (elemF (s.getL (s.seat k t) (opnd d 0x18) (dN d 0x28 4 * fmtSize (dN d 0x2D 1))) (dN d 0x2D 1) i)
          (elemF (s.getL (s.seat k t) (opnd d 0x20) (dN d 0x28 4 * fmtSize (dN d 0x2E 1))) (dN d 0x2E 1) i)
          (f32 (BitVec.ofNat 32 (dN d 0x30 4))) (f32 (BitVec.ofNat 32 (dN d 0x34 4)))))) ∧
  (∀ (s : State) (c : UnitAddr) (n : SlotNo) (k : Nat) (t : Thread) (d : BitVec 512), Ready s c n k t d → opcode d = 0x33 →
    Passes (activateChecks s t d) → (s.ctOf k t d).isSome = true → (opnd d 0x10).sp = 2 → (opnd d 0x18).sp = 1 →
    Completes (.activate c n) s fun r => Finishes s r k n t d ∧
      (r.core k).ls = Memory.writeL (s.core k).ls (1024 * t.base + (opnd d 0x18).off) ((List.range (dN d 0x20 4)).flatMap fun i =>
        let x := elemF (s.getL (s.seat k t) (opnd d 0x10) (dN d 0x20 4 * fmtSize (dN d 0x25 1))) (dN d 0x25 1) i
        let y := if dN d 0x26 1 % 2 == 1 then viaF32 (FVal.mul (f32 (BitVec.ofNat 32 (dN d 0x28 4))) x) else x
        activation (dN d 0x24 1) (dN d 0x25 1) y (fp32.encode y).1)) ∧
  (∀ (s : State) (c : UnitAddr) (n : SlotNo) (k : Nat) (t : Thread) (d : BitVec 512), Ready s c n k t d → opcode d = 0x34 →
    Passes (reduceChecks s t d) → (s.ctOf k t d).isSome = true → (opnd d 0x10).sp = 2 → (opnd d 0x18).sp = 1 →
    Completes (.reduce c n) s fun r => Finishes s r k n t d ∧
      (r.core k).ls = Memory.writeL (s.core k).ls (1024 * t.base + (opnd d 0x18).off) ((List.range (dN d 0x20 4)).flatMap fun i =>
        reduceRow (dN d 0x2C 1) ((List.range (dN d 0x24 4)).map (elemF (s.getL (s.seat k t)
          ((opnd d 0x10).plus (i * dN d 0x28 4)) (dN d 0x24 4 * fmtSize (dN d 0x2D 1))) (dN d 0x2D 1))))) ∧
  (∀ (s : State) (c : UnitAddr) (n : SlotNo) (k : Nat) (t : Thread) (d : BitVec 512), Ready s c n k t d → opcode d = 0x38 →
    Passes (matmulChecks s t d) → (s.ctOf k t d).isSome = true → (opnd d 0x10).sp = 2 → (opnd d 0x18).sp = 2 →
    (opnd d 0x20).sp = 1 → dN d 0x28 2 = 1 → dN d 0x34 1 < 5 → dN d 0x35 1 = 0 →
    Completes (.matmulExact c n) s fun r => Finishes s r k n t d ∧
      (r.core k).ls = Memory.writeL (s.core k).ls (1024 * t.base + (opnd d 0x20).off) ((List.range (dN d 0x2A 2)).flatMap fun j =>
        putFloat 0 (dotF (.num false 0 0) ((List.range (dN d 0x2C 2)).map fun i =>
          (elemF (s.getL (s.seat k t) (opnd d 0x10) (fmtSize (dN d 0x34 1) * dN d 0x2C 2)) (dN d 0x34 1) i,
           elemF (s.getL (s.seat k t) (opnd d 0x18) (fmtSize (dN d 0x34 1) * rowsExtent (dN d 0x2C 2) (dN d 0x30 2) (dN d 0x2A 2)))
             (dN d 0x34 1) (i * dN d 0x30 2 + j))))))

/-- The messages of transfers wait for their delivery, and PUT_OPEN, PUT_DATA and GET_REQ complete (R137, R138, R194, R265, R268). -/
def Obligations.TransferOpenRowsComplete : Prop :=
  (∀ (s : State) (m : FabMsg) (errs : List MemErr) (e : Nat × Instr),
    e ∈ [(1, Instr.putOpen m), (2, .putData m), (3, .getReq m errs), (4, .getData m), (5, .msgAccept m errs), (6, .msgRefuse m),
        (7, .msgDone m), (8, .pageRead m errs), (9, .pageWrite m), (10, .pageData m), (11, .msgAbort m)] →
    ¬Delivered s e.1 m → Completes e.2 s fun t => t = s) ∧
  (∀ (s : State) (m : FabMsg), Delivered s 1 m → s.peerJudge m = none →
    Completes (.putOpen m) s fun t => Sends s t 5 (replyTo m) ∧ ∃ x, t.fab.xfers = s.fab.xfers ++ [x] ∧ x.mine = false ∧
      x.isPut = true ∧ x.tag = m.tag ∧ x.peerNode = m.srcNode ∧ x.peerCtx = m.srcCtx ∧ x.addr = m.addr.toNat ∧
      x.len = m.len.toNat ∧ x.moved = 0) ∧
  (∀ (s : State) (m : FabMsg) (code : Code), Delivered s 1 m → s.peerJudge m = some code →
    Completes (.putOpen m) s fun t => Sends s t 6 { replyTo m with status := code } ∧ t.fab.xfers = s.fab.xfers) ∧
  (∀ (s : State) (m : FabMsg) (x : Xfer), Delivered s 2 m → s.served m = some x →
    s.writeFault x.ctx (x.addr + x.moved) (m.data.take (x.len - x.moved)).length = none → x.moved + m.data.length < x.len →
    Completes (.putData m) s fun t => t.xfer? x.id = some { x with moved := x.moved + m.data.length } ∧
      t.mem = (s.devWriteBy (.xfer x.id) x.ctx (x.addr + x.moved) m.data).mem) ∧
  (∀ (s : State) (m : FabMsg) (x : Xfer), Delivered s 2 m → s.served m = some x →
    s.writeFault x.ctx (x.addr + x.moved) (m.data.take (x.len - x.moved)).length = none → x.len ≤ x.moved + m.data.length →
    Quiet s →
    Completes (.putData m) s fun t => t.fab.xfers = without s x ∧ Sends s t 7 { FabMsg.blank with
        tag := x.tag, srcCtx := x.ctx, dstCtx := x.peerCtx, dstNode := x.peerNode, rtEn := x.rt.isSome } ∧
      (∀ c i, x.rt = some (c, i) →
        (t.cluster c).tallies = ((s.cluster c).tallyOp { tally := i, isSet := false, v := 1 }).tallies)) ∧
  (∀ (s : State) (m : FabMsg) (x : Xfer) (code : Code), Delivered s 2 m → s.served m = some x →
    s.writeFault x.ctx (x.addr + x.moved) (m.data.take (x.len - x.moved)).length = some code →
    Completes (.putData m) s fun t => t.fab.xfers = without s x ∧ Sends s t 6 { replyTo m with status := code }) ∧
  (∀ (s : State) (m : FabMsg) (errs : List MemErr), Delivered s 3 m → s.peerJudge m = none →
    (s.meet errs).readHeld m.dstCtx m.addr.toNat m.len.toNat = false →
    (s.meet errs).readFault m.dstCtx m.addr.toNat m.len.toNat = none →
    Completes (.getReq m errs) s fun t => Sends s t 5 (replyTo m) ∧
      Sends s t 4 { replyTo m with addr := m.addr, len := m.len, data := s.devRead m.dstCtx m.addr.toNat m.len.toNat }) ∧
  (∀ (s : State) (m : FabMsg) (code : Code) (errs : List MemErr), Delivered s 3 m → s.peerJudge m = some code →
    Completes (.getReq m errs) s fun t => Sends s t 6 { replyTo m with status := code }) ∧
  (∀ (s : State) (m : FabMsg) (errs : List MemErr), Delivered s 3 m → s.peerJudge m = none →
    (s.meet errs).readHeld m.dstCtx m.addr.toNat m.len.toNat = true →
    Completes (.getReq m errs) s fun t => t.mem.heldR = s.mem.heldR ++ [.getReq m []])

/-- GET_DATA, ACCEPT, REFUSE, DONE, ABORT, PAGE_READ, PAGE_WRITE, PAGE_DATA and TRANSFER_NO_PROGRESS complete
(R137, R138, R200, R265, R269). -/
def Obligations.TransferAnswerRowsComplete : Prop :=
  (∀ (s : State) (m : FabMsg) (x : Xfer) (v : MoverOp), Delivered s 4 m → s.ownXfer m = some x → s.moverOf x = some v →
    x.isPut = false →
    s.putFault (s.moverSeat v) ((opnd v.d 0x10).plus x.moved) (m.data.take (x.len - x.moved)).length = none →
    Completes (.getData m) s fun t =>
      t.xfer? x.id = some { x with moved := x.moved + (m.data.take (x.len - x.moved)).length, phase := .waiting } ∧
      t.cores = (s.putL (s.moverSeat v) ((opnd v.d 0x10).plus x.moved) (m.data.take (x.len - x.moved))).cores ∧
      t.mem = (s.putL (s.moverSeat v) ((opnd v.d 0x10).plus x.moved) (m.data.take (x.len - x.moved))).mem) ∧
  (∀ (s : State) (m : FabMsg) (x : Xfer) (errs : List MemErr), Delivered s 5 m → s.ownXfer m = some x → x.phase = .opening →
    x.isPut = false →
    Completes (.msgAccept m errs) s fun t => t.xfer? x.id = some { x with phase := .waiting }) ∧
  (∀ (s : State) (m : FabMsg) (x : Xfer) (v : MoverOp) (errs : List MemErr), Delivered s 5 m → s.ownXfer m = some x →
    x.phase = .opening → x.isPut = true → s.moverOf x = some v →
    (s.meet errs).getHeld (s.moverSeat v) (opnd v.d 0x10) x.len = false →
    (s.meet errs).getFault (s.moverSeat v) (opnd v.d 0x10) x.len = none →
    Completes (.msgAccept m errs) s fun t => t.xfer? x.id = some { x with phase := .waiting, moved := x.len } ∧
      Sends s t 2 { xferMsg x with data := s.getL (s.moverSeat v) (opnd v.d 0x10) x.len }) ∧
  (∀ (s : State) (m : FabMsg) (x : Xfer), Delivered s 6 m → s.ownXfer m = some x →
    Completes (.msgRefuse m) s fun t => t.fab.xfers = without s x ∧ ∀ v, s.moverOf x = some v → ∀ q ∈ t.movers, q.id ≠ v.id) ∧
  (∀ (s : State) (m : FabMsg) (x : Xfer), Delivered s 7 m → s.ownXfer m = some x → x.isPut = true → x.phase = .waiting →
    Completes (.msgDone m) s fun t => t.fab.xfers = without s x ∧ ∀ v, s.moverOf x = some v → ∀ q ∈ t.movers, q.id ≠ v.id) ∧
  (∀ (s : State) (m : FabMsg) (x : Xfer), Delivered s 11 m → s.served m = some x →
    Completes (.msgAbort m) s fun t => t.fab.xfers = without s x) ∧
  (∀ (s : State) (m : FabMsg) (errs : List MemErr), Delivered s 8 m → s.lendsTo m.srcNode = true →
    (s.meet errs).pageHeld m = false →
    ((List.range m.len.toNat).any fun i => (s.meet errs).lentBad m.srcNode (m.addr.toNat + i) 0 0) = false →
    Completes (.pageRead m errs) s fun t => Sends s t 10 { replyTo m with
      addr := m.addr, len := m.len, data := (List.range m.len.toNat).map fun i => s.lentByte m.srcNode (m.addr.toNat + i) }) ∧
  (∀ (s : State) (m : FabMsg), Delivered s 9 m → s.lendsTo m.srcNode = true →
    Completes (.pageWrite m) s fun t =>
      t.mem = (s.lentPutL m.srcNode m.addr.toNat (m.addr.toNat + m.data.length) m.addr.toNat m.data).mem) ∧
  (∀ (s : State) (m : FabMsg), Delivered s 10 m → s.lender = some m.srcNode →
    Completes (.pageData m) s fun t => t.mem.remote = Memory.writeL s.mem.remote m.addr.toNat m.data) ∧
  (∀ (s : State) (id : Nat) (x : Xfer), s.xfer? id = some x → x.mine = true →
    Completes (.transferNoProgress id) s fun t => t.fab.xfers = without s x ∧
      Sends s t 11 { FabMsg.blank with tag := x.tag, srcCtx := x.ctx, dstCtx := x.peerCtx, dstNode := x.peerNode })

/-- SCRUB_READ, DIE_ERASE, RETRAIN_START, RETRAIN_END, POWER_SAMPLE, POWER_CAP_STEP, POWER_CAP_WITHDRAW and THERMAL_WITHDRAW
complete (R190-R194, R205, R420). That POWER is the mean of the samples present when they are fewer than ten, and that a thermal step
is withdrawn below 95 °C, are the model's readings. -/
def Obligations.SiteMemoryRowsComplete : Prop :=
  (∀ (s : State) (i : BitVec 4) (n : BitVec 31) (bad : List (Fin 36)), i.toNat < s.siteCount → (s.site i.toNat).failed = false →
    ((s.site i.toNat).training = none ∨ (s.site i.toNat).erased.length < 2) → wrongDies s i.toNat bad = [] →
    Completes (.scrubRead i n bad) s fun t => (t.site i.toNat).corr = (s.site i.toNat).corr ∧
      (t.site i.toNat).uncorr = (s.site i.toNat).uncorr ∧
      (n.toNat + 1 < 2147483648 → (t.site i.toNat).passPos = n.toNat + 1 ∧ (t.site i.toNat).pass = (s.site i.toNat).pass) ∧
      (n.toNat + 1 = 2147483648 → (t.site i.toNat).passPos = 0 ∧ (t.site i.toNat).pass = (s.site i.toNat).pass + 1)) ∧
  (∀ (s : State) (i : BitVec 4) (n : BitVec 31) (bad : List (Fin 36)), i.toNat < s.siteCount → (s.site i.toNat).failed = false →
    (s.site i.toNat).erased.length + nb (s.site i.toNat).training.isSome ≤ 1 → (wrongDies s i.toNat bad).length = 1 →
    Completes (.scrubRead i n bad) s fun t => (t.site i.toNat).corr = satAdd (s.site i.toNat).corr 1 ∧
      (t.site i.toNat).poison = (s.site i.toNat).poison) ∧
  (∀ (s : State) (i : BitVec 4) (n : BitVec 31) (bad : List (Fin 36)), i.toNat < s.siteCount → (s.site i.toNat).failed = false →
    ((s.site i.toNat).training = none ∨ (s.site i.toNat).erased.length < 2) → 2 ≤ (wrongDies s i.toNat bad).length →
    Completes (.scrubRead i n bad) s fun t => (t.site i.toNat).uncorr = satAdd (s.site i.toNat).uncorr 1 ∧
      n.toNat ∈ (t.site i.toNat).poison) ∧
  (∀ (s : State) (i : BitVec 4) (die : Fin 36), i.toNat < s.siteCount → die ∉ (s.site i.toNat).erased →
    (s.site i.toNat).erased.length < 2 →
    Completes (.dieErase i die) s fun t => (t.site i.toNat).erased = (s.site i.toNat).erased ++ [die]) ∧
  (∀ (s : State) (i : BitVec 4) (die : Fin 36), i.toNat < s.siteCount → (s.site i.toNat).failed = false →
    (s.site i.toNat).training = none → die ∉ (s.site i.toNat).erased →
    Completes (.retrainStart i die) s fun t => (t.site i.toNat).training = some die ∧
      (t.site i.toNat).windows = satAdd (s.site i.toNat).windows 1) ∧
  (∀ (s : State) (i : BitVec 4) (us : BitVec 8) (die : Fin 36), (s.site i.toNat).training = some die →
    Completes (.retrainEnd i us) s fun t => (t.site i.toNat).training = none ∧ (t.site i.toNat).heldW = [] ∧
      (t.site i.toNat).longest.toNat = max (s.site i.toNat).longest.toNat us.toNat ∧
      (NothingWaits s → (t.site i.toNat).mem = (s.site i.toNat).serve.mem)) ∧
  (∀ (s : State) (w va vb : BitVec 12) (h : BitVec 8),
    Completes (.powerSample w va vb h) s fun t => t.mem.samples = (w.toNat :: s.mem.samples).take 10 ∧
      t.mem.avg = BitVec.ofNat 12 (t.mem.samples.sum / t.mem.samples.length) ∧ t.mod.vinA = va ∧ t.mod.vinB = vb ∧
      t.mod.holdup = h) ∧
  (∀ s : State, s.powerLimit * s.mem.samples.length < s.mem.samples.sum → s.mem.step < 16 →
    Completes .powerCapStep s fun t => t.mem.step = s.mem.step + 1) ∧
  (∀ s : State, (s.hotter 1600 = true) → s.mem.thermal < 16 →
    Completes .powerCapStep s fun t => t.mem.thermal = s.mem.thermal + 1) ∧
  (∀ s : State, 100 * s.mem.samples.sum < 95 * s.powerLimit * s.mem.samples.length → 0 < s.mem.step →
    Completes .powerCapWithdraw s fun t => t.mem.step = s.mem.step - 1) ∧
  (∀ s : State, s.hotter 1519 = false → 0 < s.mem.thermal →
    Completes .thermalWithdraw s fun t => t.mem.thermal = s.mem.thermal - 1)

/-- CTX_CREATE, CTX_DESTROY, CTX_FENCE, CTX_UNFENCE, CTX_RESET, CTX_RESET_DONE, CTX_DESTROY_DONE, REGION_ALLOCATE and its end,
REGION_RELEASE and its end, REGION_QUERY, CTX_TBGRANT_WRITE and LENDER_LOST complete (R195-R202). -/
def Obligations.ContextRowsComplete : Prop :=
  (∀ (s : State) (p : Path) (pid : Pid) (n : CtxNo), s.priv p = true → (s.ctx n).st = 0 →
    (∀ k : CtxNo, k < n → (s.ctx k).st ≠ 0) →
    Completes (.ctxCreate p pid) s fun t => t.ctx n = { st := 1, pid := pid } ∧ (t.path p).ctxOf = n ∧ (t.path p).ctxStatus = 0) ∧
  (∀ (s : State) (p : Path), s.priv p = true → (s.ctx (s.path p).ctxSel).st ≠ 0 → (s.ctx (s.path p).ctxSel).busy = none →
    Completes (.ctxDestroy p) s (fun t => (t.ctx (s.path p).ctxSel).st = 3 ∧
      (t.ctx (s.path p).ctxSel).busy = some (2, pathKey p)) ∧
    Completes (.ctxReset p) s fun t => (t.ctx (s.path p).ctxSel).st = 3 ∧
      (t.ctx (s.path p).ctxSel).busy = some (5, pathKey p)) ∧
  (∀ (s : State) (p : Path), s.priv p = true → (s.ctx (s.path p).ctxSel).st = 1 → (s.ctx (s.path p).ctxSel).busy = none →
    Completes (.ctxFence p) s fun t => (t.ctx (s.path p).ctxSel).st = 2 ∧ (t.path p).ctxOf = (s.path p).ctxSel ∧
      (t.path p).ctxStatus = 0) ∧
  (∀ (s : State) (p : Path), s.priv p = true → (s.ctx (s.path p).ctxSel).st = 2 → (s.ctx (s.path p).ctxSel).busy = none →
    Completes (.ctxUnfence p) s fun t => (t.ctx (s.path p).ctxSel).st = 1 ∧ (t.path p).ctxOf = (s.path p).ctxSel ∧
      (t.path p).ctxStatus = 0) ∧
  (∀ (s : State) (c : CtxNo) (key : Nat), (s.ctx c).busy = some (5, key) → (s.ctx c).waiting = [] → (s.ctx c).st = 3 →
    (∀ j ∈ s.mod.resets, j.stopped = false → c ∉ j.ctxs) →
    Completes (.ctxResetDone c) s fun t => (t.ctx c).busy = none ∧ (t.ctx c).st = (if (s.ctx c).fenced then 2 else 1) ∧
      (SMap.get t.paths key {}).ctxOf = c ∧ (SMap.get t.paths key {}).ctxStatus = 0) ∧
  (∀ (s : State) (c : CtxNo) (key : Nat), (s.ctx c).busy = some (2, key) → (s.ctx c).waiting = [] →
    Completes (.ctxDestroyDone c) s fun t => t.ctx c = {} ∧ (SMap.get t.paths key {}).ctxOf = c ∧
      (SMap.get t.paths key {}).ctxStatus = 0) ∧
  (∀ (s : State) (p : Path) (v : Word) (x : State × List PageAt) (n : Nat), RegionGo s p v 1 →
    n = (s.path p).rsize.toNat / (if v.getLsbD 20 then 1073741824 else 2097152) →
    (s.rStore p v).judgeAlloc (s.shownCtx p) (bitsOf v 13 8) (s.path p).rbase.toNat (s.path p).rsize.toNat (v.getLsbD 20)
      (BitVec.ofNat 2 (bitsOf v 17 16)) (bitsOf v 27 24)
      ((n - (if bitsOf v 17 16 = 2 then
          (takeMost (s.rStore p v).openSites (v.getLsbD 20) n s.mem.rot (s.rStore p v)).2.length else 0)) *
        (if v.getLsbD 20 then 512 else 1)) = none →
    (s.rStore p v).place (BitVec.ofNat 2 (bitsOf v 17 16)) (bitsOf v 27 24) (v.getLsbD 20) n = some x →
    Completes (.regionAllocate p v) s fun t => regionAt t p v =
      some { base := (s.path p).rbase.toNat, size := (s.path p).rsize.toNat, big := v.getLsbD 20,
             place := BitVec.ofNat 2 (bitsOf v 17 16), st := .allocating, pages := x.2, path := pathKey p }) ∧
  (∀ (s : State) (p : Path) (v : Word), RegionGo s p v 1 → (regionAt s p v).isSome = true →
    Completes (.regionAllocate p v) s fun t => (t.path p).rresult.setWidth 16 = 0x0204#16 ∧ regionAt t p v = regionAt s p v) ∧
  (∀ (s : State) (c : CtxNo) (r : BitVec 6) (x : Region), SMap.find (s.ctx c).regions r.toNat = some x → x.st = .allocating →
    Completes (.regionAllocateDone c r) s fun t => SMap.find (t.ctx c).regions r.toNat = some { x with st := .mapped } ∧
      ∀ site off, PageAt.here site off ∈ x.pages → ∀ i < x.pageBytes, (t.site site.toNat).byte (off + i) = 0) ∧
  (∀ (s : State) (p : Path) (v : Word) (x : Region), RegionGo s p v 2 → regionAt s p v = some x →
    (x.st = .mapped ∨ x.st = .lost) → (s.ctx (s.shownCtx p)).regionHeld x = false →
    Completes (.regionRelease p v) s fun t => regionAt t p v = some { x with st := .releasing, path := pathKey p }) ∧
  (∀ (s : State) (c : CtxNo) (r : BitVec 6) (x : Region), SMap.find (s.ctx c).regions r.toNat = some x → x.st = .releasing →
    s.regionBusyBy c x = false →
    Completes (.regionReleaseDone c r) s fun t => SMap.find (t.ctx c).regions r.toNat = none) ∧
  (∀ (s : State) (p : Path) (v : Word) (x : Region), RegionGo s p v 3 → regionAt s p v = some x →
    Completes (.regionQuery p v) s fun t => (t.path p).rbase = BitVec.ofNat 64 x.base ∧
      (t.path p).rsize = BitVec.ofNat 64 x.size ∧ (t.path p).rremote = BitVec.ofNat 32 x.remote2) ∧
  (∀ (s : State) (p : Path) (v : Word), s.priv p = true → Grants s (s.shownCtx p) (bitsOf v 21 16) (bitsOf v 6 0) →
    Completes (.ctxTbgrantWrite p v) s fun t => (t.ctx (s.shownCtx p)).gbase.toNat = bitsOf v 21 16 ∧
      (t.ctx (s.shownCtx p)).gsize.toNat = bitsOf v 6 0) ∧
  (∀ (s : State) (node : Node), s.lender = some node →
    Completes (.lenderLost node) s fun t => ∀ c r x, SMap.find (s.ctx c).regions r = some x → x.pages.any PageAt.remote = true →
      x.st ≠ .releasing → SMap.find (t.ctx c).regions r = some { x with st := .lost })

/-- RDMA_WRITE and RDMA_READ complete (R194, R209, R210, R212-R216). The sequence NAK of a request ahead of its turn is the model's
reading of go-back-N, and what RC allows of packets is presumed (log entry 93). -/
def Obligations.RdmaRowsComplete : Prop :=
  (∀ (s : State) (h : RoceHead) (pkt : WritePkt) (rkey : Word) (va : BitVec 64) (data : List Byte) (errs : List MemErr) (k : Nat)
    (r : WriteRun) (last : Bool) (c : CtxNo), InTurn s h k →
    (s.qp k).writeOf h.psn pkt rkey va.toNat data.length = some (r, last) → s.spaceOf k r.rkey r.va r.len = some (.device c) →
    (s.meet errs).partFault c r.va (r.va + r.len) (r.va + r.got) data.length = none →
    Completes (.rdmaWrite h pkt rkey va data errs) s fun t => (t.qp k).expPsn = h.psn + 1 ∧
      t.mem = ((s.meet errs).devWritePart (.host k) c r.va (r.va + r.len) (r.va + r.got) data).mem ∧
      (last = true → (t.qp k).run = none ∧ Acknowledged s t k h.psn) ∧
      (last = false → (t.qp k).run = some { r with got := r.got + data.length })) ∧
  (∀ (s : State) (h : RoceHead) (pkt : WritePkt) (rkey : Word) (va : BitVec 64) (data : List Byte) (errs : List MemErr) (k : Nat)
    (r : WriteRun) (last : Bool) (a : BitVec 4), InTurn s h k →
    (s.qp k).writeOf h.psn pkt rkey va.toNat data.length = some (r, last) → s.spaceOf k r.rkey r.va r.len = some (.authPage a) →
    Completes (.rdmaWrite h pkt rkey va data errs) s fun t => (t.qp k).expPsn = h.psn + 1 ∧ t.mem = s.mem ∧
      (last = true → Acknowledged s t k h.psn)) ∧
  (∀ (s : State) (h : RoceHead) (pkt : WritePkt) (rkey : Word) (va : BitVec 64) (data : List Byte) (errs : List MemErr) (k : Nat)
    (r : WriteRun) (last : Bool), InTurn s h k →
    (s.qp k).writeOf h.psn pkt rkey va.toNat data.length = some (r, last) →
    (s.spaceOf k r.rkey r.va r.len = some .pages ∨ s.spaceOf k r.rkey r.va r.len = some .csr) →
    Completes (.rdmaWrite h pkt rkey va data errs) s fun t => (t.qp k).st = 1 → (t.qp k).expPsn = h.psn + 1 ∧
      (last = true → t.heldFor (.host k) = false → ∃ p : RoceOut, .roce p (.ack h.psn) ∈ t.sent ∨ (p, .ack h.psn) ∈ (t.hport p.port).txq)) ∧
  (∀ (s : State) (h : RoceHead) (rkey : Word) (va : BitVec 64) (len : BitVec 32) (errs : List MemErr) (mid : List (BitVec 16 × Bool))
    (k : Nat) (c : CtxNo), InTurn s h k → (s.qp k).run = none → s.readsFull k = false →
    s.spaceOf k rkey va.toNat len.toNat = some (.device c) → (s.meet errs).readFault c va.toNat len.toNat = none →
    s.readHeld c va.toNat len.toNat = false →
    Completes (.rdmaRead h rkey va len errs mid) s fun t => (t.qp k).expPsn = h.psn + BitVec.ofNat 24 (readPsns len.toNat) ∧
      ReadAnswered s t k h.psn
        ((s.devRead c va.toNat len.toNat).zipIdx.map fun e => s.midByte c mid (va.toNat + e.2) e.1)) ∧
  (∀ (s : State) (h : RoceHead) (rkey : Word) (va : BitVec 64) (len : BitVec 32) (errs : List MemErr) (mid : List (BitVec 16 × Bool))
    (k : Nat) (c : CtxNo), InTurn s h k → (s.qp k).run = none → s.readsFull k = false →
    s.spaceOf k rkey va.toNat len.toNat = some (.device c) → s.readHeld c va.toNat len.toNat = true →
    Completes (.rdmaRead h rkey va len errs mid) s fun t => (t.qp k).expPsn = h.psn + BitVec.ofNat 24 (readPsns len.toNat) ∧
      (t.qp k).stalled = (s.qp k).stalled ++ [.rdmaRead h rkey va len errs mid] ∧ t.mem = s.mem) ∧
  (∀ (s : State) (h : RoceHead) (rkey : Word) (va : BitVec 64) (len : BitVec 32) (errs : List MemErr) (mid : List (BitVec 16 × Bool))
    (k : Nat) (a : BitVec 4), InTurn s h k → (s.qp k).run = none → s.readsFull k = false →
    s.spaceOf k rkey va.toNat len.toNat = some (.authPage a) →
    Completes (.rdmaRead h rkey va len errs mid) s fun t => (t.qp k).expPsn = h.psn + BitVec.ofNat 24 (readPsns len.toNat) ∧
      ReadAnswered s t k h.psn (wordBytes ((List.range (len.toNat / 4)).map fun i => s.authWord a (va.toNat + 4 * i)))) ∧
  (∀ (s : State) (h : RoceHead) (rkey : Word) (va : BitVec 64) (len : BitVec 32) (errs : List MemErr) (mid : List (BitVec 16 × Bool))
    (k : Nat), InTurn s h k → (s.qp k).run = none → s.readsFull k = false →
    (s.spaceOf k rkey va.toNat len.toNat = some .pages ∨ s.spaceOf k rkey va.toNat len.toNat = some .csr) →
    Completes (.rdmaRead h rkey va len errs mid) s fun t => (t.qp k).expPsn = h.psn + BitVec.ofNat 24 (readPsns len.toNat) ∧
      ∃ data : List Word, data.length = len.toNat / 4 ∧ ReadAnswered s t k h.psn (wordBytes data)) ∧
  (∀ (s : State) (h : RoceHead) (pkt : WritePkt) (rkey : Word) (va : BitVec 64) (data : List Byte) (errs : List MemErr) (k : Nat)
    (r : WriteRun) (last : Bool), InTurn s h k →
    (s.qp k).writeOf h.psn pkt rkey va.toNat data.length = some (r, last) → s.spaceOf k r.rkey r.va r.len = none →
    Completes (.rdmaWrite h pkt rkey va data errs) s fun t => (t.qp k).st = 2 ∧ (t.qp k).reason = 2 ∧
      Packet s t k (.nak h.psn 2) ∧ t.mem = s.mem) ∧
  (∀ (s : State) (h : RoceHead) (rkey : Word) (va : BitVec 64) (len : BitVec 32) (errs : List MemErr) (mid : List (BitVec 16 × Bool))
    (k : Nat), InTurn s h k → (s.qp k).run = none → s.readsFull k = false → s.spaceOf k rkey va.toNat len.toNat = none →
    Completes (.rdmaRead h rkey va len errs mid) s fun t => (t.qp k).st = 2 ∧ (t.qp k).reason = 2 ∧
      Packet s t k (.nak h.psn 2) ∧ t.mem = s.mem) ∧
  (∀ (s : State) (h : RoceHead) (pkt : WritePkt) (rkey : Word) (va : BitVec 64) (data : List Byte) (errs : List MemErr) (k : Nat),
    InTurn s h k → (s.qp k).writeOf h.psn pkt rkey va.toNat data.length = none →
    Completes (.rdmaWrite h pkt rkey va data errs) s fun t => (t.qp k).st = 2 ∧ (t.qp k).reason = 4 ∧
      Packet s t k (.nak h.psn 4) ∧ t.mem = s.mem) ∧
  (∀ (s : State) (h : RoceHead) (rkey : Word) (va : BitVec 64) (len : BitVec 32) (errs : List MemErr) (mid : List (BitVec 16 × Bool))
    (k : Nat), Arrives s h k → h.psn = (s.qp k).expPsn → (16 ≤ (s.qp k).reads ∨ (s.qp k).waits = false ∧ (s.qp k).run.isSome = true) →
    Completes (.rdmaRead h rkey va len errs mid) s fun t => (t.qp k).st = 2 ∧ (t.qp k).reason = 4 ∧
      Packet s t k (.nak h.psn 4) ∧ t.mem = s.mem) ∧
  (∀ (s : State) (h : RoceHead) (pkt : WritePkt) (rkey : Word) (va : BitVec 64) (data : List Byte) (errs : List MemErr) (len : BitVec 32)
    (mid : List (BitVec 16 × Bool)) (k : Nat), Arrives s h k → psnBefore (s.qp k).expPsn h.psn = true →
    Completes (.rdmaWrite h pkt rkey va data errs) s (fun t => Packet s t k (.nak (s.qp k).expPsn 0) ∧ t.mem = s.mem ∧
      (t.qp k).expPsn = (s.qp k).expPsn) ∧
    Completes (.rdmaRead h rkey va len errs mid) s fun t => Packet s t k (.nak (s.qp k).expPsn 0) ∧ t.mem = s.mem ∧
      (t.qp k).expPsn = (s.qp k).expPsn) ∧
  (∀ (s : State) (h : RoceHead) (pkt : WritePkt) (rkey : Word) (va : BitVec 64) (data : List Byte) (errs : List MemErr) (len : BitVec 32)
    (mid : List (BitVec 16 × Bool)), h.tagged ≠ s.tagOn (ethOf h.port) ∨ qpOf h.qpn = none →
    ∀ c ∈ [Instr.rdmaWrite h pkt rkey va data errs, .rdmaRead h rkey va len errs mid],
      Completes c s fun t => dropped t (ethOf h.port) = satAdd (dropped s (ethOf h.port)) 1 ∧ t.mem = s.mem ∧ t.host.qps = s.host.qps)

/-- ARP_REQUEST, NEIGHBOUR_SOLICITATION, ICMP_ECHO, FRAME_DROPPED, HOST_LINK_CHANGE and PFC_FRAME complete (R208, R209, R211, R395). -/
def Obligations.EthernetRowsComplete : Prop :=
  (∀ (s : State) (p : BitVec 1) (ip : BitVec 32) (tag : Bool), ip = s.ip4 p → ip ≠ 0 →
    tag = s.tagOn (ethOf p) →
    Completes (.arpRequest p ip tag) s fun t => t.sent = .arpReply p ip :: s.sent ∧ (t.hport p).drop = (s.hport p).drop) ∧
  (∀ (s : State) (p : BitVec 1) (ip : BitVec 32) (tag : Bool),
    (ip ≠ s.ip4 p ∨ ip = 0 ∨ tag ≠ s.tagOn (ethOf p)) →
    Completes (.arpRequest p ip tag) s fun t => t.sent = s.sent ∧ (t.hport p).drop = satAdd (s.hport p).drop 1) ∧
  (∀ (s : State) (p : EthPort) (ip : BitVec 128) (tag : Bool),
    Completes (.neighbourSolicitation p ip tag) s fun t =>
      if ip = s.ip6 p ∧ ip ≠ 0 ∧ tag = s.tagOn p then t.sent = .naReply p ip :: s.sent ∧ dropped t p = dropped s p
      else t.sent = s.sent ∧ dropped t p = satAdd (dropped s p) 1) ∧
  (∀ (s : State) (p : EthPort) (v6 : Bool) (ip : BitVec 128) (tag : Bool),
    Completes (.icmpEcho p v6 ip tag) s fun t =>
      if ip = s.echoAddr p v6 ∧ ip ≠ 0 ∧ tag = s.tagOn p then t.sent = .echoReply p :: s.sent ∧ dropped t p = dropped s p
      else t.sent = s.sent ∧ dropped t p = satAdd (dropped s p) 1) ∧
  (∀ (s : State) (p : EthPort) (why : DropReason),
    Completes (.frameDropped p why) s fun t =>
      dropped t p = (if why = .qpNotRts then dropped s p else satAdd (dropped s p) 1) ∧ t.sent = s.sent) ∧
  (∀ (s : State) (p : BitVec 1) (up : Bool), (s.hport p).link ≠ up →
    Completes (.hostLinkChange p up) s fun t =>
      t.hport p = { s.hport p with link := up, fec := up, paused := false, pausing := false, txq := [] }) ∧
  (∀ (s : State) (p : BitVec 1) (prio : BitVec 3), s.pfcOn p = true → prio.toNat = bitsOf (s.portCfg p) 30 28 →
    Completes (.pfcFrame p prio true) s fun t => t.hport p = { s.hport p with paused := true } ∧ t.sent = s.sent) ∧
  (∀ (s : State) (p : BitVec 1) (prio : BitVec 3), s.pfcOn p = true → prio.toNat = bitsOf (s.portCfg p) 30 28 →
    (∀ e ∈ (s.hport p).txq, e.1.port = p) →
    Completes (.pfcFrame p prio false) s fun t => (t.hport p).paused = false ∧ (t.hport p).txq = [] ∧
      t.sent = (s.hport p).txq.reverse.map (fun e => .roce e.1 e.2) ++ s.sent)

/-- QP_CONNECT, QP_RESET, CNP_RECEIVED, DCQCN_RATE_TIMER, DCQCN_BYTE_COUNTER, ACK_TIMEOUT, MIRROR_ACK, MIRROR_NAK,
LINK_ADDRESS_RESOLVED, AUTH_GO, AUTH_VERIFY_DONE and AUTH_LOCKOUT_END complete (R210-R213, R216, R226). Rates in whole Mb/s and the cut
before the change of alpha are the model's choices. -/
def Obligations.QueuePairRowsComplete : Prop :=
  (∀ (s : State) (p : Path) (k : Nat), s.priv p = true → (s.path p).qpSel.toNat = k → (s.qp k).st = 0 → (s.qp k).lockout = false →
    Completes (.qpConnect p) s fun t => (t.qp k).st = 1 ∧ (t.qp k).sendPsn = (s.qp k).sqpsn ∧ (t.qp k).expPsn = (s.qp k).rqpsn ∧
      (t.qp k).cfg = (s.qp k).cfg ∧ (t.qp k).op = 1 ∧ (s.nextHop k ≠ 0 → t.sent =
        (if (s.qp k).path.getLsbD 30 = true then .nsRequest (ethOf (s.qp k).port) (s.nextHop k)
          else .arpRequest (s.qp k).port ((s.nextHop k).setWidth 32)) :: s.sent)) ∧
  (∀ (s : State) (p : Path) (k : Nat), s.priv p = true → (s.path p).qpSel.toNat = k →
    Completes (.qpReset p) s fun t => (t.qp k).st = 0 ∧ (t.qp k).cfg = (s.qp k).cfg ∧ (t.qp k).path = (s.qp k).path ∧
      (t.qp k).reason = (s.qp k).reason ∧ (t.qp k).op = 2 ∧ (t.qp k).auth = false ∧ (t.qp k).mirror = [] ∧ (t.qp k).stalled = []) ∧
  (∀ (s : State) (k : BitVec 13), (s.qp k.toNat).st = 1 →
    Completes (.cnpReceived k) s fun t =>
      (t.qp k.toNat).rate = max s.minRate ((s.qp k.toNat).rate * (2 ^ 33 - (s.qp k.toNat).alpha) / 2 ^ 33) ∧
      (t.qp k.toNat).alpha = (s.qp k.toNat).alpha - (s.qp k.toNat).alpha / 2 ^ s.polF 0x600008 31 28 +
        2 ^ 32 / 2 ^ s.polF 0x600008 31 28 ∧
      (t.hport (s.qp k.toNat).port).cnpRx = satAdd (s.hport (s.qp k.toNat).port).cnpRx 1) ∧
  (∀ (s : State) (k : BitVec 13), (s.qp k.toNat).st = 1 → (s.qp k.toNat).rate < 400000 →
    ∀ c ∈ [Instr.dcqcnRateTimer k, .dcqcnByteCounter k],
      Completes c s fun t => (s.qp k.toNat).rate ≤ (t.qp k.toNat).rate ∧ (t.qp k.toNat).rate ≤ 400000) ∧
  (∀ (s : State) (k : BitVec 13), (s.qp k.toNat).st = 1 → (s.qp k.toNat).mirror ≠ [] →
    (s.qp k.toNat).retries < bitsOf (s.qp k.toNat).cfg 31 29 →
    Completes (.ackTimeout k) s fun t => (t.qp k.toNat).retries = (s.qp k.toNat).retries + 1 ∧ (t.qp k.toNat).st = 1 ∧
      (t.hport (s.qp k.toNat).port).retx = satAdd (s.hport (s.qp k.toNat).port).retx (s.qp k.toNat).mirror.length ∧
      ∀ m ∈ (s.qp k.toNat).mirror, Packet s t k.toNat (.mirror m.psn m.va m.key m.data)) ∧
  (∀ (s : State) (k : BitVec 13), (s.qp k.toNat).st = 1 → (s.qp k.toNat).mirror ≠ [] →
    bitsOf (s.qp k.toNat).cfg 31 29 ≤ (s.qp k.toNat).retries →
    Completes (.ackTimeout k) s fun t => (t.qp k.toNat).st = 2 ∧ (t.qp k.toNat).reason = 1) ∧
  (∀ (s : State) (k : BitVec 13),
    Completes (.mirrorAck k) s fun t => (t.qp k.toNat).mirror = (s.qp k.toNat).mirror.drop 1 ∧ (t.qp k.toNat).retries = 0) ∧
  (∀ (s : State) (k : BitVec 13), (s.qp k.toNat).st = 1 → (s.qp k.toNat).mirror ≠ [] → k.toNat < 4096 →
    Completes (.mirrorNak k) s fun t => (t.qp k.toNat).st = 2 ∧ (t.qp k.toNat).reason = 5 ∧
      (t.ctx (BitVec.ofNat 12 k.toNat)).mmode = 0) ∧
  (∀ (s : State) (k : BitVec 13) (mac : BitVec 48),
    Completes (.linkAddressResolved k mac) s fun t => t.qp k.toNat = { s.qp k.toNat with mac := some mac } ∧ t.sent = s.sent) ∧
  (∀ (s : State) (a : BitVec 4), (s.qp (adminQp a)).st = 1 → (s.qp (adminQp a)).verifying = false →
    Completes (.authGo a) s fun t => (t.qp (adminQp a)).verifying = true ∧ (t.qp (adminQp a)).result = 0) ∧
  (∀ (s : State) (a : BitVec 4), (s.qp (adminQp a)).st = 1 → (s.qp (adminQp a)).verifying = true →
    s.authGood (adminQp a) = true →
    Completes (.authVerifyDone a) s fun t => (t.qp (adminQp a)).auth = true ∧ (t.qp (adminQp a)).result = 1 ∧
      (t.qp (adminQp a)).verifying = false) ∧
  (∀ (s : State) (a : BitVec 4), (s.qp (adminQp a)).st = 1 → (s.qp (adminQp a)).verifying = true →
    s.authGood (adminQp a) = false → (s.qp (adminQp a)).refusals < 2 →
    Completes (.authVerifyDone a) s fun t => (t.qp (adminQp a)).auth = (s.qp (adminQp a)).auth ∧
      (t.qp (adminQp a)).result = 2 ∧ (t.qp (adminQp a)).refusals = (s.qp (adminQp a)).refusals + 1) ∧
  (∀ (s : State) (a : BitVec 4), (s.qp (adminQp a)).st = 1 → (s.qp (adminQp a)).verifying = true →
    s.authGood (adminQp a) = false → 2 ≤ (s.qp (adminQp a)).refusals →
    Completes (.authVerifyDone a) s fun t => (t.qp (adminQp a)).st = 2 ∧ (t.qp (adminQp a)).reason = 7 ∧
      (t.qp (adminQp a)).auth = false ∧ (t.qp (adminQp a)).lockout = true) ∧
  (∀ (s : State) (a : BitVec 4), (s.qp (adminQp a)).lockout = true →
    Completes (.authLockoutEnd a) s fun t => (t.qp (adminQp a)).lockout = false ∧ (t.qp (adminQp a)).refusals = 0)

/-- RING_ENABLE, RING_DISABLE, RING_SCAN, RING_IDLE, RING_NOP, RING_START, RING_RELEASE and STATUS_REGION_CONFIG complete
(R217-R222, R227). -/
def Obligations.RingRowsComplete : Prop :=
  (∀ (s : State) (p : Path) (r : BitVec 2) (v : Word) (x : SubRing) (k : Word), s.carries p = true → v.getLsbD 31 = true →
    s.ringOf p r = (s.shownCtx p, x) → x.en = false → s.ringFits (s.shownCtx p) { x with log2 := log2Of v } = true →
    s.producer (s.shownCtx p) x = some k →
    Completes (.ringEnable p r v) s fun t => (t.ctx (s.shownCtx p)).ring r.toNat =
      { x with log2 := log2Of v, en := true, stopped := false, idle := false, code := 0, consumer := k, taken := [] }) ∧
  (∀ (s : State) (p : Path) (r : BitVec 2) (v : Word) (x : SubRing), s.carries p = true → v.getLsbD 31 = true →
    s.ringOf p r = (s.shownCtx p, x) → x.en = false → s.ringFits (s.shownCtx p) { x with log2 := log2Of v } = false →
    Completes (.ringEnable p r v) s fun t => (t.ctx (s.shownCtx p)).ring r.toNat = { x with log2 := log2Of v, code := 0x0607 }) ∧
  (∀ (s : State) (p : Path) (r : BitVec 2) (v : Word) (x : SubRing), s.carries p = true → v.getLsbD 31 = false →
    s.ringOf p r = (s.shownCtx p, x) →
    Completes (.ringDisable p r v) s fun t => (t.ctx (s.shownCtx p)).ring r.toNat =
      if x.en then { x with en := false, idle := false } else { x with log2 := log2Of v }) ∧
  (∀ (s : State) (c : CtxNo) (r : BitVec 2) (x : SubRing) (k : Word), (s.ctx c).ring r.toNat = x → s.host.scanning = true →
    x.en = true → (s.ctx c).st ≠ 0 → (s.ctx c).st ≠ 3 → x.taken = [] → s.producer c x = some k →
    (k - x.consumer).toNat ≤ 2 ^ x.log2.toNat →
    s.readHeld c x.base.toNat 4 = false →
    Completes (.ringScan c r) s fun t => ((t.ctx c).ring r.toNat).taken.map (·.1) =
      (List.range (min 64 (k - x.consumer).toNat)).map fun i => x.consumer + BitVec.ofNat 32 i) ∧
  (∀ (s : State) (c : CtxNo) (r : BitVec 2) (x : SubRing) (k : Word), (s.ctx c).ring r.toNat = x → s.host.scanning = true →
    x.en = true → (s.ctx c).st ≠ 0 → (s.ctx c).st ≠ 3 → x.taken = [] → s.producer c x = some k →
    2 ^ x.log2.toNat < (k - x.consumer).toNat →
    s.readHeld c x.base.toNat 4 = false →
    Completes (.ringScan c r) s fun t => ((t.ctx c).ring r.toNat) =
      { x with en := false, stopped := true, idle := false, code := 0x0606 }) ∧
  (∀ (s : State) (c : CtxNo) (r : BitVec 2), ((s.ctx c).ring r.toNat).en = true → ((s.ctx c).ring r.toNat).taken = [] →
    s.polF 0x600004 31 16 ≠ 0 →
    Completes (.ringIdle c r) s fun t => (t.ctx c).ring r.toNat = { (s.ctx c).ring r.toNat with idle := true }) ∧
  (∀ (s : State) (c : CtxNo) (r : BitVec 2) (k : Word) (e : BitVec 512), FirstEntry s c r k e → dN e 0 1 = 0 →
    s.judgeEntry c e = none →
    Completes (.ringNop c r) s fun t => EntryDone s t c r ∧ t.subs = s.subs ∧ t.starts = s.starts) ∧
  (∀ (s : State) (c : CtxNo) (r : BitVec 2) (k : Word) (e : BitVec 512), FirstEntry s c r k e → dN e 0 1 = 1 →
    s.judgeEntry c e = none → s.judgeStart c (BitVec.ofNat 32 (dN e 0x10 4)) (dN e 0x14 1) = none → dN e 8 8 < 2 ^ 48 →
    Completes (.ringStart c r) s fun t => EntryDone s t c r ∧ (t.record c (dN e 2 2)).st = 1 ∧
      (t.record c (dN e 2 2)).gen = nextGen (s.record c (dN e 2 2)).gen ∧ (t.record c (dN e 2 2)).entry = k ∧
      ∃ q, t.starts = s.starts ++ [q] ∧ q.ctx = c ∧ q.chain = BitVec.ofNat 48 (dN e 8 8) ∧
        q.place = BitVec.ofNat 32 (dN e 0x10 4) ∧ q.lsKib = dN e 0x14 1) ∧
  (∀ (s : State) (c : CtxNo) (r : BitVec 2) (k : Word) (e : BitVec 512), FirstEntry s c r k e → dN e 0 1 = 2 →
    s.judgeEntry c e = none →
    Completes (.ringRelease c r) s fun t => EntryDone s t c r ∧ (t.record c (dN e 2 2)).st = 0) ∧
  (∀ (s : State) (c : CtxNo) (r : BitVec 2) (k : Word) (e : BitVec 512) (code : Code) (i : Instr), FirstEntry s c r k e →
    s.judgeEntry c e = some code →
    (i = .ringStart c r ∧ dN e 0 1 = 1 ∨ i = .ringRelease c r ∧ dN e 0 1 = 2 ∨
      i = .ringNop c r ∧ dN e 0 1 ≠ 1 ∧ dN e 0 1 ≠ 2) →
    Completes i s fun t => EntryDone s t c r ∧
      ((t.ctx c).ring r.toNat).rejects = satAdd ((s.ctx c).ring r.toNat).rejects 1 ∧
      ((t.ctx c).ring r.toNat).lastReject = code ++ k.setWidth 16) ∧
  (∀ (s : State) (p : Path) (v : Word), s.carries p = true → s.statusInUse (s.shownCtx p) = false →
    (bitsOf v 16 0 = 0 ∨ (s.ctx (s.shownCtx p)).inRegion (s.ctx (s.shownCtx p)).sbase.toNat (64 * min 65536 (bitsOf v 16 0)) = true) →
    Completes (.statusRegionConfig p v) s fun t => (t.ctx (s.shownCtx p)).scount.toNat = min 65536 (bitsOf v 16 0) ∧
      ∀ e ∈ t.subs, e.2.ctx ≠ s.shownCtx p)

/-- LASER_FAIL, SENSOR_SAMPLE, TEMP_SETTLED, CAL_AGE_DUE, STRIP_SLICE, STRIP_END, CAL_SET_STAGE, RELOCK_ALL, STRIP_ALL, RELOCK, STRIP,
LIGHT_CAL_WRITE and LK_SLEW_READ complete (R231-R233, R245-R253, R256, R258, R259). -/
def Obligations.TrayLightRowsComplete : Prop :=
  (∀ (s : State) (u : UnitAddr) (k : Nat) (n : Fin 36), s.trayAt u = some k → (s.tray k).tended = true →
    (s.tray k).light.gridFailed = false → firstOfGroup (s.tray k) n.val → n.val % 9 ≠ 8 →
    Completes (.laserFail u n) s fun t => (t.tray k).light.failed.getLsbD n.val = true ∧
      (t.tray k).light.substs = satAdd (s.tray k).light.substs 1 ∧ (t.tray k).light.devHold = true ∧ (t.tray k).light.cause = 3 ∧
      (t.tray k).light.acquiring = true) ∧
  (∀ (s : State) (u : UnitAddr) (k : Nat) (n : Fin 36), s.trayAt u = some k → (s.tray k).tended = true →
    (s.tray k).light.gridFailed = false → firstOfGroup (s.tray k) n.val → n.val % 9 = 8 →
    Completes (.laserFail u n) s fun t => (t.tray k).light.failed.getLsbD n.val = true ∧
      (t.tray k).light.exhausted.getLsbD (n.val / 9) = true ∧ (t.tray k).light.devHold = (s.tray k).light.devHold) ∧
  (∀ (s : State) (u : UnitAddr) (k : Nat) (temps : List (BitVec 16)), s.trayAt u = some k → s.mod.on = true →
    Completes (.sensorSample (.tray u) temps) s fun t => (t.tray k).temp.now = maxTemp temps ∧
      (t.tray k).temp.peak.toInt = max (s.tray k).temp.peak.toInt (maxTemp temps).toInt) ∧
  (∀ (s : State) (u : UnitAddr) (k : Nat) (temps : List (BitVec 16)), s.trayAt u = some k → s.mod.on = true →
    (s.tray k).tended = true → (s.tray k).light.settling = false →
    16 ≤ slewOf ((temps.map BitVec.toInt :: (s.tray k).light.hist).take 101) →
    Completes (.sensorSample (.tray u) temps) s fun t => (t.tray k).light.devHold = true ∧ (t.tray k).light.cause = 1 ∧
      (t.tray k).light.settling = true ∧ (t.tray k).light.tempHolds = satAdd (s.tray k).light.tempHolds 1) ∧
  (∀ (s : State) (u : UnitAddr) (k : Nat), s.trayAt u = some k → (s.tray k).light.settling = true →
    slewOf (s.tray k).light.hist ≤ 8 →
    Completes (.tempSettled u) s fun t => (t.tray k).light.settling = false ∧ (t.tray k).light.acquiring = true ∧
      ∃ c, SetTaken s t k c ∧ c.interim = true ∧ c.gen = (s.tray k).nextSet ∧ c.stamp = (s.tray k).cal.stamp ∧ c.tCal = (s.tray k).cal.tCal) ∧
  (∀ (s : State) (u : UnitAddr) (k : Nat), s.trayAt u = some k → (s.tray k).light.stripRun = none →
    (s.tray k).light.measured = none → (s.tray k).staged = none →
    (128 * s.calDelta ≤ 100 * ((s.tray k).temp.now.toInt - (s.tray k).cal.tCal).natAbs ∨
      ∃ a, s.calAge (s.tray k) = some a ∧ 9 * s.calMaxAge * 1000000000 ≤ 10 * a) →
    Completes (.calAgeDue (.tray u)) s fun t => (t.tray k).light.req.isSome = true) ∧
  (∀ (s : State) (x : PortNo) (temps : List (BitVec 16)),
    Completes (.sensorSample (.lt x) temps) s fun t => (t.lt x).temp = (temps.headD 0).toInt) ∧
  (∀ (s : State) (x : PortNo),
    (128 * s.calDelta ≤ 100 * ((s.lt x).temp - (s.lt x).tCal).natAbs ∨
      ∃ a, (s.lt x).stamp = some a ∧ 9 * s.calMaxAge * 1000000000 ≤ 10 * (s.up - a)) →
    Completes (.calAgeDue (.lt x)) s fun t => (t.lt x).calDue = true) ∧
  (∀ (s : State) (u : UnitAddr) (k : Nat) (n : BitVec 32) (r : StripRun), s.trayAt u = some k → (s.tray k).sliceable = true →
    (s.tray k).light.stripRun = some r → s.shareLeft k n.toNat = true → EndsNoMode r.beats n.toNat ∨ s.fw.patterns = [] →
    Completes (.stripSlice u n) s fun t => (t.tray k).light.stripRun = some { r with beats := r.beats + n.toNat }) ∧
  (∀ (s : State) (u : UnitAddr) (k : Nat) (n : BitVec 32), s.trayAt u = some k → (s.tray k).sliceable = true →
    (s.tray k).light.stripRun = none → s.mayStrip k = true → s.shareLeft k n.toNat = true →
    EndsNoMode 0 n.toNat ∨ s.fw.patterns = [] →
    Completes (.stripSlice u n) s fun t => (t.tray k).light.req = none ∧
      ∃ r, (t.tray k).light.stripRun = some r ∧ r.beats = n.toNat) ∧
  (∀ (s : State) (u : UnitAddr) (k : Nat) (f : StripFigures) (r : StripRun), s.trayAt u = some k →
    (s.tray k).light.stripRun = some r → 2 * stripMode ≤ r.beats →
    Completes (.stripEnd u f) s fun t => (t.tray k).light.stripRun = none ∧
      (t.tray k).light.measured = some { figs := f, sumRes := s.sumResOf k s.fv, stamp := s.up, tables := s.fv } ∧
      (t.tray k).light.strips = satAdd (s.tray k).light.strips 1) ∧
  (∀ (s : State) (u : UnitAddr) (k : Nat) (m : Measured), s.trayAt u = some k →
    (s.tray k).light.measured = some m →
    Completes (.calSetStage (.tray u)) s fun t => (t.tray k).light.measured = none ∧
      ∃ c, SetTaken s t k c ∧ c.gen = (s.tray k).nextSet ∧ c.interim = false ∧ c.tCal = m.figs.tCal ∧
        c.stamp = some m.stamp ∧ c.sumRes = m.sumRes ∧ c.std = m.figs.std ∧ c.fine = m.figs.fine) ∧
  (∀ (s : State) (u : UnitAddr) (k : Nat), s.trayAt u = some k → (s.tray k).light.measured = none → (s.tray k).light.interimDue = true →
    Completes (.calSetStage (.tray u)) s fun t => (t.tray k).light.interimDue = false ∧
      ∃ c, SetTaken s t k c ∧ c.gen = (s.tray k).nextSet ∧ c.interim = true ∧ c.sumRes = (s.tray k).cal.sumRes) ∧
  (∀ (s : State) (x : PortNo), (s.lt x).calDue = true →
    Completes (.calSetStage (.lt x)) s fun t => (t.lt x).staged = some (s.lt x).temp ∧ (t.lt x).tCal = (s.lt x).temp ∧
      (t.lt x).stamp = some s.up ∧ (t.lt x).calDue = false) ∧
  (∀ (s : State) (p : Path), s.priv p = true →
    Completes (.relockAll p) s fun t => ∀ k ∈ s.allTrays, (s.tray k).ctl.st = .ready → (s.tray k).light.lit = true →
      (t.tray k).light.devHold = true ∧ (t.tray k).light.cause = 4 ∧ (t.tray k).light.acquiring = true) ∧
  (∀ (s : State) (p : Path), s.priv p = true →
    Completes (.stripAll p) s fun t => ∀ k ∈ s.allTrays, (t.tray k).light.req.isSome = true) ∧
  (∀ (s : State) (p : Path) (k : Nat), SelectsTray s p k → (s.tray k).tended = true →
    Completes (.relock p) s fun t => (t.tray k).light.devHold = true ∧ (t.tray k).light.cause = 4 ∧
      (t.tray k).light.acquiring = true ∧ (t.path p).code = 0) ∧
  (∀ (s : State) (p : Path) (k : Nat), SelectsTray s p k →
    Completes (.strip p) s fun t => (t.tray k).light.req.isSome = true ∧ (t.tray k).light.stripBit = true ∧
      (t.path p).code = 0) ∧
  (∀ (s : State) (p : Path) (v : Word), s.priv p = true →
    Completes (.lightCalWrite p v) s fun t => t.pol 0x700004 = (polStore 0x700004 v).getD 0) ∧
  (∀ (s : State) (p : Path) (k : Nat), s.priv p = true → s.selOf p = .one (.tray k) →
    Completes (.lkSlewRead p) s fun t => t.sent = .csr p 0x1001310 (s.regNow p 0x1001310) :: s.sent ∧
      (t.tray k).light.slewPeak = 0)

/-- RING_LOCKED, RING_LOCK_TIMEOUT, TAG_CHECK_DUE and TAG_CHECK_DONE complete (R239-R244, R71, R276). -/
def Obligations.RingLockRowsComplete : Prop :=
  (∀ (s : State) (u : UnitAddr) (k : Nat) (i : BitVec 11) (h : BitVec 12) (pn : BitVec 10), s.trayAt u = some k →
    (s.tray k).light.lit = true → ((s.tray k).ring i.toNat).lock = 1 → i.toNat < 1056 →
    Completes (.ringLocked (.tray u i) h pn) s fun t =>
      (t.tray k).ring i.toNat = { (s.tray k).ring i.toNat with lock := 2, heater := h, pn := pn }) ∧
  (∀ (s : State) (x : PortNo) (k : ChanNo) (rx : Bool) (h : BitVec 12) (pn : BitVec 10), (s.ltRing x rx k).lock = 1 →
    Completes (.ringLocked (if rx then .rx x k else .tx x k) h pn) s fun t =>
      t.ltRing x rx k = { s.ltRing x rx k with lock := 2, heater := h, pn := pn }) ∧
  (∀ (s : State) (u : UnitAddr) (k : Nat) (i : BitVec 11), s.trayAt u = some k → (s.tray k).tended = true →
    ((s.tray k).ring i.toNat).lock = 1 → i.toNat < 1056 → (s.tray k).light.gridFailed = false →
    ((s.tray k).ring i.toNat).attempts < 2 →
    Completes (.ringLockTimeout (.tray u i)) s fun t => ((t.tray k).ring i.toNat).lock = 1 ∧
      ((t.tray k).ring i.toNat).attempts = ((s.tray k).ring i.toNat).attempts + 1) ∧
  (∀ (s : State) (x : PortNo) (k : ChanNo) (rx : Bool), (s.ltRing x rx k).lock = 1 → (s.ltRing x rx k).attempts < 2 →
    Completes (.ringLockTimeout (if rx then .rx x k else .tx x k)) s fun t =>
      t.ltRing x rx k = { s.ltRing x rx k with attempts := (s.ltRing x rx k).attempts + 1 }) ∧
  (∀ (s : State) (x : PortNo) (k : ChanNo) (rx : Bool), (s.ltRing x rx k).lock = 1 → 2 ≤ (s.ltRing x rx k).attempts →
    Completes (.ringLockTimeout (if rx then .rx x k else .tx x k)) s fun t => (t.ltRing x rx k).lock = 3 ∧
      (if rx then (t.chan x k).rx else (t.chan x k).tx) = .failed) ∧
  (∀ (s : State) (u : UnitAddr) (k : Nat), s.trayAt u = some k → (s.tray k).tended = true → (s.tray k).allLocked = true →
    (s.tray k).light.gridFailed = false →
    Completes (.tagCheckDue (.tray u)) s fun t => (t.tray k).light.checking = true) ∧
  (∀ (s : State) (x : PortNo), (s.lt x).port.isSome = true → (s.lt x).acquires = false →
    Completes (.tagCheckDue (.lt x)) s fun t => t.lt x = { s.lt x with checking := true }) ∧
  (∀ (s : State) (u : UnitAddr) (k : Nat), s.trayAt u = some k → (s.tray k).tended = true → (s.tray k).light.checking = true →
    Completes (.tagCheckDone (.tray u) []) s fun t => (t.tray k).light.locked = true ∧ (t.tray k).light.checking = false ∧
      (t.tray k).light.acquiring = false ∧ ((s.tray k).light.settling = false → (t.tray k).light.devHold = false)) ∧
  (∀ (s : State) (u : UnitAddr) (k : Nat) (i : BitVec 11), s.trayAt u = some k → (s.tray k).tended = true →
    (s.tray k).light.checking = true → (s.tray k).light.acquiring = false → i.toNat < 1056 →
    Completes (.tagCheckDone (.tray u) [(i, .mislock)]) s fun t =>
      (t.tray k).light.mislocks = satAdd (s.tray k).light.mislocks 1 ∧ (t.tray k).light.lastRing = i ∧
      (t.tray k).light.devHold = true ∧ (t.tray k).light.cause = 2 ∧ (t.tray k).light.acquiring = true ∧
      ((t.tray k).ring i.toNat).mislock = true) ∧
  (∀ (s : State) (x : PortNo), (s.lt x).checking = true →
    Completes (.tagCheckDone (.lt x) []) s fun t => (t.lt x).checking = false) ∧
  (∀ (s : State) (x : PortNo) (k : ChanNo) (f : TagFault), (s.lt x).checking = true → (s.chan x k).rx = .up →
    Completes (.tagCheckDone (.lt x) [(BitVec.ofNat 11 (16 + k.toNat), f)]) s fun t => (t.chan x k).rx = .retrain ∧
      (t.ltRing x true k).tagOk = false) ∧
  (∀ (s : State) (x : PortNo) (k : ChanNo) (f : TagFault), (s.lt x).checking = true → (s.chan x k).tx = .up →
    Completes (.tagCheckDone (.lt x) [(BitVec.ofNat 11 k.toNat, f)]) s fun t => (t.chan x k).tx = .retrain ∧
      (t.ltRing x false k).tagOk = false)

/-- COMB_FAIL, COMB_SPARE_LOCKED, REF_ACCEPTED, REF_LOCKED, REF_LOST, CARRIER_REFUSED and CARRIER_READMITTED complete
(R235-R239, R244). -/
def Obligations.CombAndReferenceRowsComplete : Prop :=
  (∀ (s : State) (c : Fin 56) (b : Nat), s.combSt c.val = 0 → (combsOf (c.val / 14)).find? (fun b => s.combSt b == 1) = some b →
    Completes (.combFail c) s fun t => t.combSt c.val = 2 ∧ t.combSt b = 3) ∧
  (∀ (s : State) (c : Fin 56), s.combSt c.val = 0 → (∀ b ∈ combsOf (c.val / 14), s.combSt b ≠ 1) →
    Completes (.combFail c) s fun t => t.combSt c.val = 2 ∧ (t.comb c.val).lit = 0 ∧
      ∀ e ∈ s.combChans c.val, (t.chan e.1 e.2).tx = .waitLine ∧ (t.chan e.1 e.2).line = none) ∧
  (∀ (s : State) (q : BitVec 2) (b : Nat), (combsOf q.toNat).find? (fun b => s.combSt b == 3) = some b →
    Completes (.combSpareLocked q) s fun t => t.combSt b = 0 ∧ ∀ c ∈ combsOf q.toNat, s.combSt c = 2 → (s.comb c).lit ≠ 0 →
      (t.comb c).lit = 0 ∧ ∀ e ∈ s.combChans c, (t.chan e.1 e.2).line = some b) ∧
  (∀ (s : State) (pw off : BitVec 8), s.mod.on = true → (s.light.refSt = 0 ∨ s.light.refSt = 3) → -40 ≤ pw.toInt →
    pw.toInt ≤ 12 → off.toInt.natAbs ≤ 50 →
    Completes (.refAccepted pw off) s fun t => t.light.refSt = 1 ∧ t.light.power = pw ∧ t.light.offset = off) ∧
  (∀ (s : State) (off : BitVec 8), s.light.refSt = 1 → off.toInt.natAbs ≤ 2 →
    Completes (.refLocked off) s fun t => t.light = { s.light with refSt := 2, offset := off }) ∧
  (∀ s : State, (s.light.refSt = 1 ∨ s.light.refSt = 2) →
    Completes .refLost s fun t => t.light.refSt = 3 ∧ t.light.since = s.up) ∧
  (∀ (s : State) (x : PortNo) (k : ChanNo) (off : BitVec 8), 40 < off.toInt.natAbs →
    ((s.chan x k).rx = .locking ∨ (s.chan x k).rx = .training ∨ (s.chan x k).rx = .retrain ∨ (s.chan x k).rx = .up) →
    Completes (.carrierRefused x k off) s fun t => (t.chan x k).rx = .refused ∧ (t.chan x k).offset = off) ∧
  (∀ (s : State) (x : PortNo) (k : ChanNo) (off : BitVec 8), off.toInt.natAbs ≤ 32 → (s.chan x k).rx = .refused →
    Completes (.carrierReadmitted x k off) s fun t => (t.chan x k).rx = .locking ∧ (t.chan x k).offset = off)

/-- CHANNEL_GROW, CHANNEL_SHRINK, LINE_GRANT, LINE_WAIT, CHANNEL_LOCKED and SHORT_CHECK_DONE complete (R237, R271, R272, R276-R279). -/
def Obligations.ChannelRowsComplete : Prop :=
  (∀ (s : State) (l : BitVec 6) (x : PortNo) (k : ChanNo), s.ltOn l x = true → 262144 < (s.link l).backlog →
    s.usedChans x < (s.link l).max.toNat → s.bestLine x = some k →
    Completes (.channelGrow l x) s fun t => (t.chan x k).tx = .locking ∧ (t.chan x k).line = s.freeComb (quadOf x) k ∧
      (t.chan x k).line.isSome = true) ∧
  (∀ (s : State) (l : BitVec 6) (x : PortNo) (k : ChanNo), s.ltOn l x = true → (s.chan x k).tx = .up →
    (s.chan x k).releasing = false → (s.link l).min.toNat < s.keptChans x →
    Completes (.channelShrink l x k) s fun t =>
      if (s.chan x k).unacked = [] then (t.chan x k).tx = .unlit ∧ (t.chan x k).line = none
      else t.chan x k = { s.chan x k with releasing := true }) ∧
  (∀ (s : State) (q : BitVec 2) (r : LineReq) (k : ChanNo), ServedFirst s q.toNat r → s.bestLine r.lt = some k →
    Completes (.lineGrant q) s fun t => t.fab.waiting = s.fab.waiting.erase r ∧ (t.chan r.lt k).tx = .locking) ∧
  (∀ (s : State) (x : PortNo),
    Completes (.lineWait x) s fun t => t = if s.fab.waiting.any (fun r => r.lt == x) then s.event 0x0607 0 0 else s) ∧
  (∀ (s : State) (x : PortNo) (k : ChanNo) (off : BitVec 8), (s.chan x k).rx = .locking →
    Completes (.channelLocked x k true off) s fun t => (t.chan x k).offset = off ∧
      (t.chan x k).rx = (if 40 < off.toInt.natAbs then .refused else .training) ∧ (t.ltRing x true k).tagOk = true) ∧
  (∀ (s : State) (x : PortNo) (k : ChanNo) (off : BitVec 8), (s.chan x k).tx = .locking →
    Completes (.channelLocked x k false off) s fun t => (t.chan x k).tx = .training ∧ (t.ltRing x false k).tagOk = true) ∧
  (∀ (s : State) (x : PortNo) (k : ChanNo) (n : BitVec 32), n.toNat ≤ 1000 →
    ((s.chan x k).rx = .training ∨ (s.chan x k).rx = .retrain) →
    Completes (.shortCheckDone x k true n) s fun t => (t.chan x k).rx = .up ∧ (t.chan x k).bits = 0 ∧ (t.chan x k).errs = 0 ∧
      (t.chan x k).expect = 1 ∧ (t.chan x k).rxAttempts = 0) ∧
  (∀ (s : State) (x : PortNo) (k : ChanNo) (n : BitVec 32), n.toNat ≤ 1000 →
    ((s.chan x k).tx = .training ∨ (s.chan x k).tx = .retrain) →
    Completes (.shortCheckDone x k false n) s fun t => (t.chan x k).tx = .up ∧ (t.chan x k).attempts = 0 ∧
      (t.chan x k).replays = 0) ∧
  (∀ (s : State) (x : PortNo) (k : ChanNo) (n : BitVec 32), 1000 < n.toNat →
    ((s.chan x k).rx = .training ∨ (s.chan x k).rx = .retrain) →
    Completes (.shortCheckDone x k true n) s fun t =>
      (t.chan x k).rx = if (s.chan x k).rxAttempts.toNat < 2 then .retrain else .failed) ∧
  (∀ (s : State) (x : PortNo) (k : ChanNo) (n : BitVec 32), 1000 < n.toNat →
    ((s.chan x k).tx = .training ∨ (s.chan x k).tx = .retrain) →
    Completes (.shortCheckDone x k false n) s fun t =>
      (t.chan x k).tx = if (s.chan x k).attempts.toNat < 2 then .retrain else .failed)

/-- BER_WINDOW_10MS, BER_WINDOW_1S, UNCORRECTABLE_BURST, FEC_ALIGNMENT_LOSS, READY_CRITERION_BITS and CHANNEL_FAILED_RETRY complete
(R276, R279-R282, R285). -/
def Obligations.ChannelWatchRowsComplete : Prop :=
  (∀ (s : State) (x : PortNo) (k : ChanNo) (bits errs : BitVec 64), (s.chan x k).rx = .up →
    Completes (.berWindow10ms x k bits errs) s fun t => (t.chan x k).bits = satAdd (s.chan x k).bits bits.toNat ∧
      (t.chan x k).errs = satAdd (s.chan x k).errs errs.toNat ∧
      (t.chan x k).rx = if 24 * bits.toNat < 100000 * errs.toNat then .retrain else .up) ∧
  (∀ (s : State) (x : PortNo) (k : ChanNo) (bits errs : BitVec 64) (h w : BitVec 16), (s.chan x k).rx = .up →
    Completes (.berWindow1s x k bits errs h w) s fun t => (t.chan x k).height = h ∧ (t.chan x k).width = w ∧
      (errs = 0 → (t.chan x k).nlog = 0xFFFF) ∧ (bits.toNat < 1000000 * errs.toNat → (t.chan x k).degraded = true) ∧
      (1000000 * errs.toNat ≤ bits.toNat → 9 ≤ (s.chan x k).goodWin → (t.chan x k).degraded = false) ∧
      (t.chan x k).rx = .up) ∧
  (∀ (s : State) (x : PortNo) (k : ChanNo) (n : BitVec 16), (s.chan x k).rx = .up →
    Completes (.uncorrectableBurst x k n) s fun t => (t.chan x k).uncorr = satAdd (s.chan x k).uncorr n.toNat ∧
      (t.chan x k).rx = if 16 ≤ n.toNat then .retrain else .up) ∧
  (∀ (s : State) (x : PortNo) (k : ChanNo), (s.chan x k).rx = .up →
    Completes (.fecAlignmentLoss x k) s fun t => (t.chan x k).rx = .retrain ∧
      (t.chan x k).retrains = satAdd (s.chan x k).retrains 1) ∧
  (∀ (s : State) (x : PortNo) (k : ChanNo), (s.chan x k).rx = .up → 100000000000 ≤ (s.chan x k).bits.toNat →
    (s.chan x k).readyOk = false →
    Completes (.readyCriterionBits x k) s fun t =>
      if 1000000 * (s.chan x k).errs.toNat ≤ (s.chan x k).bits.toNat then (t.chan x k).readyOk = true ∧ (t.chan x k).rx = .up
      else (t.chan x k).rx = (if (s.chan x k).readyFails < 2 then .retrain else .failed)) ∧
  (∀ (s : State) (x : PortNo) (k : ChanNo) (p : PortNo), (s.lt x).port = some p → (s.fport p).st = .linked →
    (s.chan x k).rx = .failed → (s.chan x k).peerLit = true →
    Completes (.channelFailedRetry x k true) s fun t => (t.chan x k).rx = .locking ∧ (t.chan x k).rxAttempts = 0 ∧
      (t.ltRing x true k).lock = 1) ∧
  (∀ (s : State) (x : PortNo) (k : ChanNo) (p : PortNo), (s.lt x).port = some p → (s.fport p).st = .linked →
    (s.chan x k).tx = .failed → (s.chan x k).line.isSome = true →
    Completes (.channelFailedRetry x k false) s fun t => (t.chan x k).tx = .locking ∧ (t.chan x k).attempts = 0 ∧
      (t.ltRing x false k).lock = 1)

/-- FLIT_IDLE, FLIT_DATA, FLIT_NAK, ALS_DARK, ALS_LINE_RELEASE, ALS_PROBE_TIMER, PROBE, PROBE_END and ALS_RESTORED complete
(R264, R266-R269, R275, R283, R284). -/
def Obligations.FlitAndShutterRowsComplete : Prop :=
  (∀ (s : State) (x : PortNo) (k : ChanNo) (f : Flit) (g : FlitF), GoodFlit s x k f 0 g →
    Completes (.flitIdle x k f) s fun t => ∃ l, (t.chan x k).unacked =
      ((s.chan x k).unacked.filter fun y => !seqLe y.cseq g.cack) ++ l) ∧
  (∀ (s : State) (x : PortNo) (k : ChanNo) (f : Flit) (g : FlitF), GoodFlit s x k f 1 g → g.cseq = (s.chan x k).expect →
    Completes (.flitData x k f) s fun t => (t.chan x k).expect = (s.chan x k).expect + 1 ∧ (t.chan x k).discarding = false) ∧
  (∀ (s : State) (x : PortNo) (k : ChanNo) (f : Flit) (g : FlitF) (l : BitVec 6), NextFlit s x k f g l →
    Completes (.flitData x k f) s fun t => (t.link l).reorder = [] ∧
      (if g.vc = true then (t.link l).rxL1 = (s.link l).rxL1 + 1 ∧ (t.link l).rxL0 = (s.link l).rxL0
        else (t.link l).rxL0 = (s.link l).rxL0 + 1 ∧ (t.link l).rxL1 = (s.link l).rxL1)) ∧
  (∀ (s : State) (x : PortNo) (k : ChanNo) (f : Flit) (g : FlitF) (l : BitVec 6), NextFlit s x k f g l → WholeMessage s l g →
    headDst g.payload = s.node →
    Completes (.flitData x k f) s fun t => (t.link l).inbox = (s.link l).inbox ++ [(g.vc, g.payload)]) ∧
  (∀ (s : State) (x : PortNo) (k : ChanNo) (f : Flit) (g : FlitF) (l o : BitVec 6), NextFlit s x k f g l → WholeMessage s l g →
    headDst g.payload ≠ s.node → s.routeTo (headDst g.payload) = some o → s.sendChans o = [] →
    Completes (.flitData x k f) s fun t => (t.link o).queue = (s.link o).queue ++
      [{ vc := g.vc || (s.link o).dateline, dst := headDst g.payload, bytes := g.payload }]) ∧
  (∀ (s : State) (x : PortNo) (k : ChanNo) (f : Flit) (g : FlitF) (l : BitVec 6), NextFlit s x k f g l → WholeMessage s l g →
    headDst g.payload ≠ s.node → s.routeTo (headDst g.payload) = none →
    Completes (.flitData x k f) s fun t => t.fab.stuck = s.fab.stuck ++
      [{ vc := g.vc, dst := headDst g.payload, bytes := g.payload }]) ∧
  (∀ (s : State) (x : PortNo) (k : ChanNo) (f : Flit) (g : FlitF), GoodFlit s x k f 1 g → g.cseq ≠ (s.chan x k).expect →
    Completes (.flitData x k f) s fun t => (t.chan x k).expect = (s.chan x k).expect ∧ (t.chan x k).discarding = true) ∧
  (∀ (s : State) (x : PortNo) (k : ChanNo) (f : Flit), (s.chan x k).rx = .up → (f.coded = false ∨ readFlit f.bits = none) →
    ∀ c ∈ [Instr.flitIdle x k f, .flitData x k f, .flitNak x k f],
      Completes c s fun t => t.chan x k = { s.chan x k with discarding := true }) ∧
  (∀ (s : State) (x : PortNo) (k : ChanNo) (f : Flit) (g : FlitF) (keep : List TxFlit), GoodFlit s x k f 2 g →
    keep = ((s.chan x k).unacked.filter fun y => seqLe g.cack y.cseq) → (∀ y ∈ keep, y.sends < 8) →
    Completes (.flitNak x k f) s fun t => (t.chan x k).replays = satAdd (s.chan x k).replays keep.length ∧
      ∃ l, (t.chan x k).unacked = (keep.map fun y => { y with sends := y.sends + 1 }) ++ l) ∧
  (∀ (s : State) (x : PortNo) (k : ChanNo) (f : Flit) (g : FlitF), GoodFlit s x k f 2 g →
    (∃ y ∈ (s.chan x k).unacked, seqLe g.cack y.cseq = true ∧ 8 ≤ y.sends) →
    Completes (.flitNak x k f) s fun t => (t.chan x k).tx = .retrain) ∧
  (∀ (s : State) (p : PortNo), s.mod.on = true → (s.fport p).st ≠ .shutdown →
    Completes (.alsDark p) s fun t => (t.fport p).st = .shutdown ∧ (t.fport p).shutter = true ∧ (t.fport p).txPow = 0x8000 ∧
      (t.fport p).shutdowns = satAdd (s.fport p).shutdowns 1 ∧ (t.slPort p).st = 3) ∧
  (∀ (s : State) (p x : PortNo), (s.fport p).st = .shutdown → s.ltOf p = some x →
    Completes (.alsLineRelease p) s fun t => ∀ k, (t.chan x k).tx = .unlit ∧ (t.chan x k).rx = .unlit) ∧
  (∀ (s : State) (p : PortNo), (s.fport p).st = .shutdown → (s.fport p).probing = false →
    Completes (.alsProbeTimer p) s fun t => (t.fport p).probing = true ∧ (t.fport p).shutter = false ∧
      (t.fport p).probes = satAdd (s.fport p).probes 1 ∧ (t.slPort p).st = 0) ∧
  (∀ (s : State) (q : Path) (p : PortNo), s.priv q = true → (s.fport p).st = .shutdown → (s.fport p).probing = false →
    Completes (.probe q p) s fun t => (t.fport p).probing = true ∧ (t.fport p).probeBit = true ∧ (t.fport p).shutter = false ∧
      (t.fport p).probes = satAdd (s.fport p).probes 1) ∧
  (∀ (s : State) (p : PortNo), (s.fport p).probing = true →
    Completes (.probeEnd p) s fun t => (t.fport p).probing = false ∧ (t.fport p).shutter = true ∧ (t.fport p).txPow = 0x8000 ∧
      (t.slPort p).st = 3) ∧
  (∀ (s : State) (p : PortNo) (pw : BitVec 16), (s.fport p).st = .shutdown → -250 ≤ pw.toInt →
    Completes (.alsRestored p pw) s fun t => (t.fport p).st = .discovering ∧ (t.fport p).shutter = false ∧
      (t.fport p).light = true ∧ (t.fport p).rxPow = pw ∧ (t.slPort p).st = 0)

/-- STEER_SWITCH_GO, PREPARE, READY, REFUSE, COMMIT, ABORT, COMMIT_ACK, OUTCOME, PREPARE_RESEND, READY_DEADLINE and COMMIT_RESEND
complete (R297-R300, R309, R368). -/
def Obligations.SwitchExchangeRowsComplete : Prop :=
  (∀ (s : State) (p : Path) (n : BitVec 2) (pl : Plan), s.priv p = true → s.goRefusal n s.swTime = none →
    (s.plan.slot n).plan = some pl →
    Completes (.steerSwitchGo p n) s fun t => t.steer.phase = 1 ∧ ∃ w, t.steer.sw = some w ∧ w.coord = true ∧ w.slot = n ∧
      w.planId = pl.planId ∧ w.digest = pl.digest ∧ w.t = s.swTime) ∧
  (∀ (s : State) (p : Path) (n : BitVec 2) (c : Code), s.priv p = true → s.goRefusal n s.swTime = some c →
    Completes (.steerSwitchGo p n) s fun t =>
      if s.swPending then t.steer = { s.steer with goCode := some c } else t.steer.phase = 7 ∧ t.steer.code = c) ∧
  (∀ (s : State) (h : SlHead) (id : Word) (tm : DevTime) (planId : Word) (digest : BitVec 384) (n : BitVec 2),
    Accepts s h 0x10 (prepareBytes id tm planId digest) → s.swPending = false → s.steer.done.contains id = false →
    s.mod.st = 2 → s.findPlan planId digest = some n → s.steer.frozen = false → s.steer.latchOpen = false →
    s.lenderShort n = false →
    Completes (.prepare h id tm planId digest) s fun t => t.steer.phase = 1 ∧
      t.steer.sw = some { id := id, coord := false, coordNode := h.src, t := tm, planId := planId, digest := digest, slot := n }) ∧
  (∀ (s : State) (h : SlHead) (id : Word) (w : Switch), Accepts s h 0x11 (leBytes 4 id.toNat) → s.steer.sw = some w →
    w.coord = true → w.id = id → w.ready.contains h.src = false →
    Completes (.slReady h id) s fun t => t.steer.sw = some { w with ready := w.ready ++ [h.src] }) ∧
  (∀ (s : State) (h : SlHead) (id : Word) (code : Code) (w : Switch),
    Accepts s h 0x12 (leBytes 4 id.toNat ++ leBytes 2 code.toNat) → s.steer.sw = some w → w.coord = true → w.id = id →
    (w.refused.any fun e => e.1 == h.src) = false →
    Completes (.refuseFrame h id code) s fun t => t.steer.sw =
      some { w with ready := w.ready.filter (· != h.src), refused := w.refused ++ [(h.src, code)] }) ∧
  (∀ (s : State) (h : SlHead) (id : Word) (w : Switch), Accepts s h 0x13 (leBytes 4 id.toNat) → s.steer.sw = some w →
    w.id = id → w.coord = false → s.steer.phase = 1 →
    Completes (.commit h id) s fun t => t.steer.phase = 2 ∧ t.steer.sw = some { w with committed := true } ∧
      (t.trigger t.steerTT).steer = true ∧ (t.trigger t.steerTT).s = w.t.s) ∧
  (∀ (s : State) (h : SlHead) (id : Word) (code : Code) (w : Switch),
    Accepts s h 0x14 (leBytes 4 id.toNat ++ leBytes 2 code.toNat) → s.steer.sw = some w → w.id = id → w.coord = false →
    s.steer.phase = 1 →
    Completes (.abortFrame h id code) s fun t => t.steer.phase = 7 ∧ t.steer.code = code) ∧
  (∀ (s : State) (h : SlHead) (id : Word) (w : Switch), Accepts s h 0x15 (leBytes 4 id.toNat) → s.steer.sw = some w →
    w.coord = true → w.id = id → w.acks.contains h.src = false →
    Completes (.commitAck h id) s fun t => t.steer.sw = some { w with acks := w.acks ++ [h.src] }) ∧
  (∀ (s : State) (h : SlHead) (id : Word) (code : Code) (r : BitVec 16) (w : Switch),
    Accepts s h 0x16 (leBytes 4 id.toNat ++ leBytes 2 code.toNat ++ leBytes 2 r.toNat) → s.steer.sw = some w →
    w.coord = true → w.id = id →
    Completes (.outcomeFrame h id code r) s fun t =>
      if code = 0 then t.steer.resume.toNat = max s.steer.resume.toNat r.toNat
      else t.steer.failCount = satAdd s.steer.failCount 1) ∧
  (∀ (s : State) (w : Switch), s.steer.sw = some w → w.coord = true → s.steer.phase = 1 →
    Completes .prepareResend s fun t => t.steer = s.steer ∧ ∀ n ∈ s.swNodes w, n ∉ w.ready → (∀ e ∈ w.refused, e.1 ≠ n) →
      SlSends s t 0x10 n (prepareBytes w.id w.t w.planId w.digest)) ∧
  (∀ (s : State) (w : Switch), s.steer.sw = some w → w.coord = true → s.steer.phase = 1 →
    Completes .readyDeadline s fun t =>
      if (s.swNodes w).all (fun n => w.ready.contains n) then
        t.steer.phase = 2 ∧ t.steer.sw = some { w with committed := true } ∧ SlSends s t 0x13 0xFFFF (leBytes 4 w.id.toNat)
      else t.steer.phase = 7 ∧ (∀ e l, w.refused = e :: l → t.steer.code = e.2 ∧ t.steer.failNode = e.1) ∧
        (w.refused = [] → t.steer.code = 0x0406)) ∧
  (∀ (s : State) (w : Switch), s.steer.sw = some w → w.coord = true → s.steer.phase = 2 →
    Completes .commitResend s fun t => t.steer = s.steer ∧ ∀ n ∈ s.swNodes w, n ≠ s.node → n ∉ w.acks →
      SlSends s t 0x13 n (leBytes 4 w.id.toNat))

/-- QUIESCE_START, QUIESCE_END, SWITCH_T, ELEMENTS_LATCHED, LIGHT_VERIFY, TRAFFIC_RESUME, COMMIT_MISSING and STEER_ABORT complete
(R298, R300, R301, R368). -/
def Obligations.SwitchRunRowsComplete : Prop :=
  (∀ (s : State) (w : Switch), s.steer.sw = some w → s.steer.phase = 2 →
    Completes .quiesceStart s fun t => t.steer.sw = some { w with begun := true } ∧
      ∀ l : BitVec 6, (∃ p ∈ (s.link l).ports, p ∈ s.newWays s.activePlan (s.target w)) → (t.link l).quiesced = true) ∧
  (∀ s : State, Completes .quiesceEnd s fun t => t = s) ∧
  (∀ (s : State) (w : Switch) (pl : Plan) (i : Nat), s.steer.sw = some w → s.steer.phase = 2 → s.steer.frozen = false →
    s.steer.latchOpen = false → s.target w = some pl → pl.bySerial s.fuse.serial = some i →
    Completes .switchT s fun t => t.steer.phase = 3 ∧ t.steer.step = 1 ∧ t.steer.inBypass = false ∧ t.steer.moving = true ∧
      t.steer.conn = s.steer.aim (pl.conns i) ∧ (t.plan.slot w.slot).st = 3) ∧
  (∀ (s : State) (w : Switch), s.steer.sw = some w → s.steer.phase = 2 → (s.steer.frozen = true ∨ s.steer.latchOpen = true) →
    Completes .switchT s fun t => t.steer.phase = 8 ∧ t.steer.conn = s.steer.conn) ∧
  (∀ s : State, s.steer.step = 1 →
    Completes .elementsLatched s fun t => t.steer.step = 2 ∧ t.steer.moving = false ∧ (s.steer.phase = 3 → t.steer.phase = 4)) ∧
  (∀ (s : State) (bad : List PortNo), s.steer.step = 2 →
    Completes (.lightVerify bad) s fun t => t.steer.step = 3 ∧ (s.steer.phase = 4 → t.steer.phase = 5)) ∧
  (∀ s : State, s.steer.step = 3 →
    Completes .trafficResume s fun t => t.steer.step = 0 ∧ (∀ l : BitVec 6, (t.link l).quiesced = false) ∧
      (s.steer.phase = 5 → t.steer.phase = 6 ∧ t.steer.code = 0 ∧ t.steer.switches = satAdd s.steer.switches 1)) ∧
  (∀ (s : State) (w : Switch), s.steer.sw = some w → w.coord = false → s.steer.phase = 1 →
    Completes .commitMissing s fun t => t.steer.phase = 8 ∧ t.steer.conn = s.steer.conn) ∧
  (∀ (s : State) (p : Path) (w : Switch), s.priv p = true → s.steer.sw = some w → w.coord = true → s.steer.phase = 1 →
    Completes (.steerAbort p) s fun t => t.steer.phase = 7)

/-- BYPASS, BYPASS_LATCHED, RESTORE, ELEMENT_SETTLE_TIMEOUT, HOT_SWAP_LATCH_RELEASE and HOT_SWAP_LATCH_CLOSE complete (R290-R296,
R311-R313, R359). -/
def Obligations.MatrixRowsComplete : Prop :=
  (∀ (s : State) (p : Path), s.priv p = true →
    Completes (.bypass p) s fun t => t.steer.inBypass = true ∧ t.steer.src = 4 ∧ t.steer.bypassBit = true ∧
      t.steer.conn = s.steer.aim bypassConn ∧ t.steer.moving = true) ∧
  (∀ s : State, s.steer.inBypass = true → s.steer.moving = true →
    Completes .bypassLatched s fun t => t.steer = { s.steer with moving := false, bypassBit := false, changed := [], retried := [] }) ∧
  (∀ (s : State) (p : Path) (pl : Plan) (i : Nat), s.priv p = true → s.judging = true → s.steer.inBypass = true →
    (s.steer.src = 3 ∨ s.steer.src = 4) → s.steer.latchOpen = false → s.steer.frozen = false → s.activePlan = some pl →
    s.selfIdx = some i →
    Completes (.restore p) s fun t => t.steer.inBypass = false ∧ t.steer.step = 1 ∧ t.steer.src = 0 ∧
      t.steer.conn = s.steer.aim (pl.conns i)) ∧
  (∀ (s : State) (a b : BitVec 7), s.steer.moving = true →
    (movedElements s.steer.old s.steer.conn).contains (a.toNat, b.toNat) = true →
    Completes (.elementSettleTimeout a b) s fun t =>
      if s.steer.retried.contains (a.toNat, b.toNat) then t.steer.failed = (a.toNat, b.toNat) :: s.steer.failed
      else t.steer = { s.steer with retried := (a.toNat, b.toNat) :: s.steer.retried }) ∧
  (∀ s : State,
    Completes .hotSwapLatchRelease s fun t => t.steer.latchOpen = true ∧
      (s.mod.on = true → s.noInput = false → t.steer.inBypass = true ∧ t.steer.src = 3 ∧
        t.steer.conn = s.steer.aim bypassConn)) ∧
  (∀ s : State, s.inStage 7 = false →
    Completes .hotSwapLatchClose s fun t => t.steer = { s.steer with latchOpen := false })

/-- GOV_COPY, GOV_SECOND_COPY_TIMEOUT, GOV_SELFCHECK_DONE, GOV_SWAP, GOV_ROLE_SWAPPED, RESYNC, RESYNC_DONE, KEEP_A, KEEP_B,
SPLIT_REPORT, LINK, SAFELIGHT_DOWN and SAFELIGHT_UP complete (R302-R309, R315). -/
def Obligations.GovernorRowsComplete : Prop :=
  (∀ (s : State) (g : GovMsg), (s.judgeCopy g.rcv g.src g.epoch g.seq g.govB g.payload).1 = .accepted →
    Completes (.govCopy g) s fun t => ∃ w, t.gov.wins = w :: s.gov.wins.filter (fun x => !(x.rcv == g.rcv && x.src == g.src)) ∧
      w.rcv = g.rcv ∧ w.src = g.src ∧ w.high = g.seq) ∧
  (∀ (s : State) (g : GovMsg), (s.judgeCopy g.rcv g.src g.epoch g.seq g.govB g.payload).1 = .duplicate →
    Completes (.govCopy g) s fun t => t.gov.dups = satAdd s.gov.dups 1) ∧
  (∀ (s : State) (g : GovMsg), (s.judgeCopy g.rcv g.src g.epoch g.seq g.govB g.payload).1 = .split → s.gov.split = 0 →
    s.gov.simplex = false →
    Completes (.govCopy g) s fun t => t.gov.split = 1 ∧ t.gov.cause = 1 ∧ t.gov.receiver = receiverCode g.rcv ∧
      t.gov.splitSeq = g.seq ∧ t.gov.splits = satAdd s.gov.splits 1 ∧ t.steer.frozen = true) ∧
  (∀ (s : State) (r : GovReceiver) (seq : Word) (w : GovWin) (e : Word × Word × Bool × Bool), s.gov.split = 0 →
    s.gov.simplex = false → w ∈ s.gov.wins → w.rcv = r → w.epoch = s.gov.epoch → e ∈ w.got → e.1 = seq → e.2.2.1 ≠ e.2.2.2 →
    Completes (.govSecondCopyTimeout r seq) s fun t => t.gov.split = 1 ∧ t.gov.cause = 2 ∧ t.gov.splitSeq = seq ∧
      t.steer.frozen = true) ∧
  (∀ (s : State) (h : SlHead) (seq : Word) (epoch : BitVec 16),
    Accepts s h 0x31 (leBytes 4 seq.toNat ++ leBytes 2 epoch.toNat) → s.gov.split = 0 → s.gov.simplex = false →
    Completes (.splitReport h seq epoch) s fun t => t.gov.split = 1 ∧ t.gov.cause = 3 ∧ t.gov.node = h.src ∧
      t.gov.splitSeq = seq ∧ t.steer.frozen = true) ∧
  (∀ s : State, s.gov.split = 1 →
    Completes (.govSelfcheckDone true true) s (fun t => t.gov.split = 2 ∧ t.gov.resultC = 3 ∧ t.steer.frozen = s.steer.frozen) ∧
    Completes (.govSelfcheckDone true false) s (fun t => t.gov.split = 0 ∧ t.gov.roleA = 0 ∧ t.gov.roleB = 2 ∧
      t.gov.simplex = true ∧ t.steer.frozen = false) ∧
    Completes (.govSelfcheckDone false true) s (fun t => t.gov.split = 0 ∧ t.gov.roleA = 2 ∧ t.gov.roleB = 0 ∧
      t.gov.simplex = true ∧ t.steer.frozen = false) ∧
    Completes (.govSelfcheckDone false false) s fun t => t.gov.split = 2 ∧ t.gov.resultC = 5) ∧
  (∀ (s : State) (p : Path), s.priv p = true → s.gov.split = 0 → s.gov.roleA.toNat ≤ 1 → s.gov.roleB.toNat ≤ 1 →
    Completes (.govSwap p) s fun t => t.gov.swapAsked = true) ∧
  (∀ s : State, s.gov.swapAsked = true →
    Completes .govRoleSwapped s fun t => t.gov.roleA = s.gov.roleB ∧ t.gov.roleB = s.gov.roleA ∧
      t.gov.swaps = satAdd s.gov.swaps 1 ∧ t.gov.swapAsked = false) ∧
  (∀ (s : State) (p : Path), s.priv p = true → (s.gov.roleA = 2 ∨ s.gov.roleB = 2) →
    Completes (.resync p) s fun t => t.gov.resyncing = true ∧ (s.gov.roleA = 2 → t.gov.roleA = 3 ∧ t.gov.roleB = s.gov.roleB) ∧
      (s.gov.roleA ≠ 2 → t.gov.roleB = 3 ∧ t.gov.roleA = s.gov.roleA)) ∧
  (∀ s : State, s.gov.resyncing = true →
    Completes .resyncDone s fun t => t.gov.resyncing = false ∧ t.gov.simplex = false ∧ (s.gov.roleA = 3 → t.gov.roleA = 1) ∧
      (s.gov.roleB = 3 → t.gov.roleB = 1)) ∧
  (∀ (s : State) (p : Path), s.priv p = true → s.gov.split = 2 →
    Completes (.keepA p) s (fun t => t.gov.split = 0 ∧ t.gov.roleA = 0 ∧ t.gov.roleB = 2 ∧ t.gov.resultC = 4 ∧
      t.steer.frozen = false) ∧
    Completes (.keepB p) s fun t => t.gov.split = 0 ∧ t.gov.roleA = 2 ∧ t.gov.roleB = 0 ∧ t.gov.resultC = 4 ∧
      t.steer.frozen = false) ∧
  (∀ (s : State) (h : SlHead) (x : PortNo) (k : ChanNo) (n : LinkNote),
    Accepts s h 0x02 (linkBytes n k) → (s.lt x).port = some h.port →
    Completes (.slLink h x k n) s fun t =>
      (n = .lit → (t.chan x k).peerLit = true ∧ ((s.chan x k).rx = .unlit → (t.chan x k).rx = .locking)) ∧
      (n = .dark → (t.chan x k).peerLit = false ∧ (t.chan x k).rx = .unlit) ∧
      (n = .locked → (s.chan x k).line.isSome = true → (t.chan x k).peerLocked = true)) ∧
  (∀ (s : State) (p : PortNo), (s.slPort p).st ≠ 3 → Completes (.safelightDown p) s fun t => (t.slPort p).st = 0) ∧
  (∀ (s : State) (p : PortNo), (s.slPort p).st ≠ 3 → s.mod.on = true →
    Completes (.safelightUp p) s fun t => (t.slPort p).st = 2)

/-- DISCOVERY_SEND, DISCOVERY, DISCOVERY_SILENCE, PLAN_LOAD, PLAN_LOAD_DONE, PLAN_ERASE, PLAN_MARK_REWRITE, PLAN_ACCEPT and SPARE_OFFER
complete (R322-R330, R335). -/
def Obligations.PlanAndDiscoveryRowsComplete : Prop :=
  (∀ (s : State) (p : PortNo), s.gov.relay = true → (s.fport p).st ≠ .shutdown →
    Completes (.discoverySend p) s fun t => ∀ g ∈ s.govCopies, ∃ seq,
      .slFrame p (slWhole { s.slHead g 0xFFFF true with seq := seq, sport := p } 1 (discBytes (s.ownDisc p))) ∈ t.sent) ∧
  (∀ (s : State) (h : SlHead) (d : Disc), Accepts s h 1 (discBytes d) →
    Completes (.discovery h d) s fun t => (t.disc h.port).heard = some (h, d) ∧ (t.disc h.port).silent = false) ∧
  (∀ (s : State) (p : PortNo), s.mod.on = true →
    Completes (.discoverySilence p) s fun t => (t.disc p).silent = true ∧
      ∀ e, s.planPort p = some e → s.judging = true → e.kind ≠ 0 → (s.disc p).adopted = false → (t.disc p).outcome = 3) ∧
  (∀ (s : State) (p : Path) (n : BitVec 2), s.priv p = true →
    Completes (.planLoad p n) s fun t =>
      if s.plan.loading.isSome then t.plan = { s.plan with loadQ := s.plan.loadQ ++ [n] }
      else t.plan.loading = some n ∧ (s.slotTaken n = false → (t.plan.slot n).st = 1)) ∧
  (∀ (s : State) (n : BitVec 2) (pl : Plan), s.plan.loading = some n → s.plan.loadQ = [] →
    s.judgePlan s.plan.staging s.plan.stagedLen n = (0, some pl) →
    Completes (.planLoadDone) s fun t => t.plan.slot n = { st := 2, plan := some pl } ∧ t.plan.result = 0 ∧
      t.plan.loading = none) ∧
  (∀ (s : State) (n : BitVec 2) (code : Code), s.plan.loading = some n → s.plan.loadQ = [] →
    s.judgePlan s.plan.staging s.plan.stagedLen n = (code, none) →
    Completes (.planLoadDone) s fun t => (t.plan.slot n).plan = (s.plan.slot n).plan ∧ t.plan.result = code ∧
      t.plan.loading = none) ∧
  (∀ (s : State) (p : Path) (n : BitVec 2), s.priv p = true →
    Completes (.planErase p n) s fun t =>
      if (s.plan.slot n).st = 2 ∧ s.slotTaken n = false then t.plan.slot n = {} ∧ t.plan.result = 0
      else t.plan = { s.plan with result := 0x040F }) ∧
  (∀ s : State, Completes .planMarkRewrite s fun t => t = { s with plan := { s.plan with mark := s.activeSlot } }) ∧
  (∀ (s : State) (p : Path) (x : PortNo) (h : SlHead) (d : Disc), s.priv p = true → s.swPending = false →
    (s.fport x).st = .quarantined → ((s.disc x).outcome = 5 ∨ (s.disc x).outcome = 6) → (s.disc x).heard = some (h, d) →
    s.isMember d.serial = true → s.named d = some (BitVec.ofNat 8 x.toNat) →
    Completes (.planAccept p x) s fun t => (t.disc x).adopted = true ∧ (t.disc x).outcome = 10 ∧ t.plan.acceptCode = 0) ∧
  (∀ (s : State) (p : Path) (x : PortNo), s.priv p = true → s.swPending = false → (s.fport x).st ≠ .quarantined →
    Completes (.planAccept p x) s fun t => t.plan = { s.plan with acceptCode := 0x0411 }) ∧
  (∀ (s : State) (p : Path) (x : PortNo), s.priv p = true → s.swPending = true →
    Completes (.planAccept p x) s fun t => t.plan = { s.plan with acceptHeld := s.plan.acceptHeld ++ [x] }) ∧
  (∀ (s : State) (n : Node) (pl : Plan) (k : BitVec 2), s.activePlan = some pl →
    ((pl.substs.filter fun e => e.1 == n).findSome? fun e => s.stagedById e.2.2) = some k → s.allMissing n = true →
    Completes (.spareOffer n) s fun t => t.plan.offer = some (n, k))

/-- POWER_UP, STAGE_POWER, STAGE_IMAGE, STAGE_GOVERN, STAGE_SITES, SITE_POWER_ON, SITE_REPORT_TIMEOUT, STAGE_MEMORY, STAGE_LIGHT,
BAY_LASER_START, STAGE_TRAYS, STAGE_FABRIC, S7_TIMEOUT, STAGE_HOST and STAGE_READY complete (R342, R345-R351, R359). -/
def Obligations.BootStageRowsComplete : Prop :=
  (∀ (s : State) (a b : BitVec 12), s.mod.on = false → s.mod.tripped = false → (inRange a = true ∨ inRange b = true) →
    Completes (.powerUp a b) s fun t => t.mod.on = true ∧ t.mod.stage = 0 ∧ t.mod.st = 0 ∧ t.mod.begun = false ∧
      t.steer.inBypass = true ∧ t.mod.vinA = a ∧ t.mod.vinB = b) ∧
  (∀ s : State, s.enters 0 = true →
    Completes .stagePower s fun t => t.mod.stage = 1 ∧ t.mod.begun = false ∧ t.mod.st = 0) ∧
  (∀ s : State, s.enters 1 = true →
    Completes .stageImage s fun t => t.mod.stage = 2 ∧ t.mod.begun = false ∧ (t.mod.image = none → t.mod.mode = 2)) ∧
  (∀ (s : State) (h4 : Bool), s.enters 2 = true →
    Completes (.stageGovern false false h4) s fun t => t.mod.st = 3 ∧ t.mod.code = 8) ∧
  (∀ (s : State) (a b h4 : Bool), s.enters 2 = true → (a = true ∨ b = true) →
    Completes (.stageGovern a b h4) s fun t => t.gov.simplex = !(a && b) ∧ (a = true → t.gov.roleA = 0) ∧
      (a = false → t.gov.roleA = 2 ∧ t.gov.roleB = 0) ∧ (a = true → b = true → t.gov.roleB = 1) ∧ (b = false → t.gov.roleB = 2)) ∧
  (∀ s : State, s.enters 3 = true → Completes .stageSites s fun t => t.mod.begun = true ∧ t.mod.stage = 3) ∧
  (∀ (s : State) (i : BitVec 4), s.inStage 3 = true → i.toNat < s.siteCount →
    Completes (.sitePowerOn i) s fun t => (t.site i.toNat).reported = true) ∧
  (∀ (s : State) (i : BitVec 4), (s.inStage 3 = true ∨ s.enters 4 = true) → i.toNat < s.siteCount →
    (s.site i.toNat).failed = false → (s.site i.toNat).trained = false →
    Completes (.siteReportTimeout i) s fun t => (t.site i.toNat).failed = true) ∧
  (∀ (s : State) (failed : List (BitVec 4 × Fin 36)), s.enters 4 = true →
    Completes (.stageMemory failed) s fun t => ∀ i < s.siteCount, (t.site i).failed = false →
      (t.site i).trained = true ∧ (t.site i).mem = [] ∧ (t.site i).poison = []) ∧
  (∀ s : State, s.enters 5 = true → Completes .stageLight s fun t => t.light.started = true ∧ t.mod.begun = true) ∧
  (∀ (s : State) (n : BitVec 7), s.inStage 5 = true → n.toNat / 8 < s.siteCount → (s.site (n.toNat / 8)).failed = false →
    Completes (.bayLaserStart n) s fun t => ∀ k < 9,
      (s.tray (9 * (8 * s.fuse.sites.getD (n.toNat / 8) 0 + n.toNat % 8) + k)).ctl.st ≠ .mappedOut →
        (t.tray (9 * (8 * s.fuse.sites.getD (n.toNat / 8) 0 + n.toNat % 8) + k)).light.lit = true ∧
        (t.tray (9 * (8 * s.fuse.sites.getD (n.toNat / 8) 0 + n.toNat % 8) + k)).light.acquiring = true) ∧
  (∀ s : State, s.enters 6 = true → (∀ k ∈ s.allTrays, (s.tray k).light.gridFailed = false) →
    Completes .stageTrays s fun t => ∀ k ∈ s.allTrays, (s.tray k).ctl.st = .off → (s.tray k).ctl.enable = true →
      (t.tray k).ctl.st = .starting) ∧
  (∀ (s : State) (pl : Plan) (i : Nat), s.enters 7 = true → s.steer.latchOpen = false → s.activePlan = some pl →
    s.selfIdx = some i →
    Completes .stageFabric s fun t => t.steer.inBypass = false ∧ t.steer.step = 1 ∧ t.steer.conn = s.steer.aim (pl.conns i)) ∧
  (∀ s : State, s.inStage 7 = true → s.mod.recWait = .idle → s.stageRecs 7 = [] →
    Completes .s7Timeout s fun t => t.mod.code = 7 ∧ (s.mod.mode = 0 → t.mod.stage = 8 ∧ t.mod.begun = false) ∧
      (s.mod.mode ≠ 0 → t.mod.st = 1)) ∧
  (∀ s : State, s.enters 8 = true →
    Completes .stageHost s fun t => ∀ a < 16, (s.qp (4096 + a)).carried = true → (s.qp (4096 + a)).lockout = false →
      (t.qp (4096 + a)).st = 1) ∧
  (∀ s : State, s.enters 9 = true →
    Completes .stageReady s fun t => t.mod.st = 2 ∧ t.mod.begun = true ∧ t.host.scanning = true)

/-- RECORD_WRITE, RECORD_MODIFY, RECORD_POLL, RECORD_POLL_TIMEOUT, RECORD_DELAY, RECORD_DELAY_END, MOD_STAGE_GO, MOD_RESET, GOV_WATCHDOG,
TABLE_CRC_RETURN, TABLE_CRC_TIMEOUT, RESET_STOP_DONE and ENDPOINT_DRAIN_TIMEOUT complete (R339-R344, R352-R361). -/
def Obligations.RecordTableAndResetRowsComplete : Prop :=
  (∀ (s : State) (r : Rec), s.recordOf 1 = some r → r.addr.toNat ∈ storedRegs →
    Completes .recordWrite s fun t => NextRecord s t ∧ t.pol r.addr.toNat = (polStore r.addr.toNat r.value).getD (s.pol r.addr.toNat)) ∧
  (∀ (s : State) (r : Rec), s.recordOf 2 = some r → r.addr.toNat ∈ storedRegs →
    Completes .recordModify s fun t => NextRecord s t ∧ t.pol r.addr.toNat =
      (polStore r.addr.toNat (((s.readReg .image r.addr.toNat).1 &&& ~~~r.mask) ||| (r.value &&& r.mask))).getD
        (s.pol r.addr.toNat)) ∧
  (∀ (s : State) (r : Rec), s.recordOf 3 = some r → r.addr.toNat ∈ storedRegs →
    Completes .recordPoll s fun t =>
      if (s.readReg .image r.addr.toNat).1 &&& r.mask = r.value then NextRecord s t
      else t.mod.recs = s.mod.recs ∧ t.mod.recWait = .next) ∧
  (∀ (s : State) (r : Rec), s.recordOf 3 = some r → Completes .recordPollTimeout s fun t => t.mod.st = 3 ∧ t.mod.code = 3) ∧
  (∀ (s : State) (r : Rec), s.recordOf 4 = some r →
    Completes .recordDelay s fun t => t.mod = { s.mod with recWait := .delay }) ∧
  (∀ s : State, s.mod.recWait = .delay → Completes .recordDelayEnd s fun t => NextRecord s t) ∧
  (∀ (s : State) (p : Path) (v : Word), s.priv p = true → p ≠ .image → s.mod.mode ≠ 0 → v.getLsbD 31 = true → s.mod.st = 1 →
    v.setWidth 4 = s.mod.stage + 1 →
    Completes (.modStageGo p v) s fun t => t.mod.stage = s.mod.stage + 1 ∧ t.mod.st = 0 ∧ t.mod.begun = false ∧ t.mod.code = 0) ∧
  (∀ (s : State) (p : Path) (v : Word), s.priv p = true → p ≠ .image → s.mod.mode ≠ 0 → v.getLsbD 31 = true → s.mod.st = 3 →
    v.setWidth 4 = s.mod.stage → s.mod.stage ≠ 2 →
    Completes (.modStageGo p v) s fun t => t.mod.stage = s.mod.stage ∧ t.mod.st = 0 ∧ t.mod.begun = false ∧ t.mod.code = 0) ∧
  (∀ (s : State) (p : Path) (v : Word), s.priv p = true → p ≠ .image → s.mod.on = true → v.getLsbD 31 = true →
    bitsOf v 15 0 = 0xB007 →
    Completes (.modReset p v) s fun t => t.mod.on = true ∧ t.mod.stage = 0 ∧ t.mod.begun = false ∧ t.mod.cause = 1 ∧
      t.mod.count = satAdd s.mod.count 1 ∧ t.starts = [] ∧ t.movers = [] ∧ t.cores = [] ∧ t.fuse = s.fuse ∧ t.pending = s.pending) ∧
  (∀ s : State, s.mod.on = true →
    Completes .govWatchdog s fun t => t.mod.on = true ∧ t.mod.stage = 0 ∧ t.mod.begun = false ∧ t.mod.cause = 2 ∧
      t.mod.count = satAdd s.mod.count 1 ∧ t.starts = [] ∧ t.movers = [] ∧ t.cores = []) ∧
  (∀ (s : State) (a : UnitAddr) (n : TableNo),
    Completes (.tableCrcReturn a n true) s fun t => SMap.find t.mod.tries (8 * a.toNat + TableNo.code n) = none ∧
      ∀ k, n = .seeds → s.resolve a = some (.tray k) → k ∉ t.seedsOwed) ∧
  (∀ (s : State) (a : UnitAddr) (n : TableNo), Repairable s a n →
    Completes (.tableCrcReturn a n false) s (fun t => Repaired s t a n) ∧
    Completes (.tableCrcTimeout a n) s fun t => Repaired s t a n) ∧
  (∀ (s : State) (r : ResetTarget) (j : ResetJob), (s.mod.resets.find? fun x => x.target == r && !x.stopped) = some j →
    (∀ k ∈ j.trays, (s.tray k).ctl.st = .resetting → (s.tray k).proof.guestQ = []) →
    Completes (.resetStopDone r) s fun t => (∀ x ∈ t.mod.resets, x.target = r → x.stopped = true) ∧
      ∀ k ∈ j.trays, (s.tray k).ctl.st = .resetting → (t.tray k).ctl.st = .starting ∨ (t.tray k).ctl.st = .off) ∧
  (∀ (s : State) (pid : Pid) (j : ResetJob),
    (s.mod.resets.find? fun x => x.target == .partition pid && !x.stopped) = some j →
    (∀ k ∈ j.trays, (s.tray k).ctl.st = .resetting → (s.tray k).proof.guestQ = []) →
    Completes (.endpointDrainTimeout pid) s fun t => (∀ x ∈ t.fab.xfers, x.ctx ∉ j.ctxs) ∧
      ∀ x ∈ t.mod.resets, x.target = .partition pid → x.stopped = true)

/-- PTP_ANNOUNCE, PTP_SYNC, PTP_FOLLOW_UP, PTP_DELAY_RESP, DELAY_REQ_SEND, ANNOUNCE_TIMEOUT and TX_STAMP complete (R364-R367). -/
def Obligations.PtpRowsComplete : Prop :=
  (∀ (s : State) (m : PtpMaster) (utc : BitVec 16) (heard : List PtpMaster) (b : PtpMaster), s.ptpOn = true →
    m.domain.toNat = s.polF 0x200010 23 16 → heard = m :: s.time.heard.filter (fun x => !sameMaster x m) →
    bestMaster heard = some b →
    Completes (.ptpAnnounce m utc) s fun t => t.time.heard = heard ∧ t.time.master = some b ∧
      (sameMaster b m = true → t.time.utc = utc) ∧ (s.time.st = 0 → t.time.st = 1)) ∧
  (∀ (s : State) (c : BitVec 64) (q : BitVec 16) (rx o : DevTime), s.fromMaster c = true →
    Completes (.ptpSync c q rx o true) s fun t => t.time = { s.time with sync := some (q, rx) }) ∧
  (∀ (s : State) (c : BitVec 64) (q : BitVec 16) (rx o : DevTime), s.fromMaster c = true → s.time.raws.length < 2 →
    Completes (.ptpSync c q rx o false) s fun t => t.time.lastSync = some (rx, o) ∧
      t.time.raws = ((DevTime.toNs rx : Int) - DevTime.toNs o - s.time.delay) :: s.time.raws) ∧
  (∀ (s : State) (c : BitVec 64) (q : BitVec 16) (rx o : DevTime), s.fromMaster c = true → 2 ≤ s.time.raws.length →
    s.time.set = true → s.time.forceArm = false →
    Completes (.ptpSync c q rx o false) s fun t => t.time.lastSync = some (rx, o) ∧
      t.time.offset = medianOf s.fv ((((DevTime.toNs rx : Int) - DevTime.toNs o - s.time.delay) :: s.time.raws).take 5)) ∧
  (∀ (s : State) (c : BitVec 64) (q : BitVec 16) (rx o : DevTime), s.fromMaster c = true → s.time.sync = some (q, rx) →
    Completes (.ptpFollowUp c q o) s fun t => t.time.lastSync = some (rx, o) ∧ t.time.sync = none) ∧
  (∀ (s : State) (c : BitVec 64) (q : BitVec 16) (t4 rx o : DevTime) (e : Bool × BitVec 16 × DevTime), s.fromMaster c = true →
    (s.time.txq.find? fun e => !e.1 && e.2.1 == q) = some e → s.time.lastSync = some (rx, o) →
    Completes (.ptpDelayResp c q t4) s fun t => t.time.txq = s.time.txq.erase e ∧ t.time.delays =
      ((((DevTime.toNs rx : Int) - DevTime.toNs o + (DevTime.toNs t4 - DevTime.toNs e.2.2)) / 2) :: s.time.delays).take 16) ∧
  (∀ s : State, s.ptpOn = true → s.time.master.isSome = true →
    Completes .delayReqSend s fun t => t.time.reqSeq = s.time.reqSeq + 1 ∧ t.sent =
      .delayReq ((s.pol 0x200010).getLsbD 30) (BitVec.ofNat 8 (s.polF 0x200010 23 16)) (s.time.reqSeq + 1) :: s.sent) ∧
  (∀ s : State, (s.time.st = 1 ∨ s.time.st = 2) →
    Completes .announceTimeout s fun t => t.time.st = 3 ∧ t.time.master = none ∧ t.time.since = s.up) ∧
  (∀ (s : State) (m : Bool) (id : BitVec 16) (x : DevTime),
    Completes (.txStamp m id x) s fun t =>
      if s.time.txq.length < 16 then t.time.txq = s.time.txq ++ [(m, id, x)]
      else t.time.txq = s.time.txq ∧ t.time.overflow = satAdd s.time.overflow 1)

/-- FORCE_STEP, TIME_SET, HELD_STEP_APPLY, TT_ARM, TT_CANCEL, TRIGGER_STRIP, TRIGGER_SNAPSHOT, TRIGGER_MARKER, TRIGGER_ACTION_NONE and
TIME_MARKER complete (R366, R368-R371). -/
def Obligations.TriggerRowsComplete : Prop :=
  (∀ (s : State) (p : Path), s.priv p = true →
    Completes (.forceStep p) s fun t =>
      t.time = if s.swPending then { s.time with heldForce := true } else { s.time with forceArm := true }) ∧
  (∀ (s : State) (p : Path), s.priv p = true → s.swPending = true →
    Completes (.timeSet p) s fun t => t.time = { s.time with heldSet := true }) ∧
  (∀ (s : State) (p : Path), s.priv p = true → s.swPending = false →
    Completes (.timeSet p) s fun t => t.time.now = s.timeSetting ∧ t.time.set = true ∧ t.time.refused = false) ∧
  (∀ s : State, s.swPending = false →
    Completes .heldStepApply s fun t => t.time.heldForce = false ∧ t.time.heldSet = false ∧
      (s.time.heldForce = true → t.time.forceArm = true) ∧
      (s.time.heldSet = true → t.time.now = s.timeSetting ∧ t.time.set = true)) ∧
  (∀ (s : State) (p : Path) (n : BitVec 3), s.priv p = true → s.steerHolds n.toNat = false →
    Completes (.ttArm p n) s fun t => (t.trigger n.toNat).fires = 0 ∧ (t.trigger n.toNat).missed = 0 ∧
      (t.trigger n.toNat).st = if (s.trigger n.toNat).periodic = false ∧ (s.trigger n.toNat).time < DevTime.toNs s.now then 3 else 1) ∧
  (∀ (s : State) (p : Path) (n : BitVec 3), s.priv p = true → s.steerHolds n.toNat = false →
    Completes (.ttCancel p n) s fun t => t.trigger n.toNat = { s.trigger n.toNat with st := 0 }) ∧
  (∀ (s : State) (n : BitVec 3) (e : BitVec 4 × Instr),
      e ∈ [(2, Instr.triggerStrip n), (3, .triggerSnapshot n), (4, .triggerMarker n), (0, .triggerActionNone n)] →
      (s.trigger n.toNat).st = 1 → (s.trigger n.toNat).steer = false → (s.trigger n.toNat).action = e.1 →
      Completes e.2 s fun t => (t.trigger n.toNat).fires = satAdd (s.trigger n.toNat).fires 1 ∧
        (t.trigger n.toNat).st = if (s.trigger n.toNat).periodic then 1 else 2) ∧
  (∀ (s : State) (n : BitVec 3), (s.trigger n.toNat).st = 1 → (s.trigger n.toNat).steer = false →
    (s.trigger n.toNat).action = 2 →
    Completes (.triggerStrip n) s fun t => ∀ k ∈ s.allTrays, (s.tray k).ctl.st = .ready → (t.tray k).light.req.isSome = true) ∧
  (∀ (s : State) (n : BitVec 3), (s.trigger n.toNat).st = 1 → (s.trigger n.toNat).steer = false →
    (s.trigger n.toNat).action = 4 →
    Completes (.triggerMarker n) s fun t => t.time.markNo = s.time.markNo + 1 ∧
      SlSends s t 0x20 (s.trigger n.toNat).dst
        (markerBytes { mark := s.time.markNo, tt := BitVec.ofNat 8 n.toNat, prev := s.lastStamp.getD ⟨0, 0⟩ })) ∧
  (∀ (s : State) (h : SlHead) (m : Marker), Accepts s h 0x20 (markerBytes m) →
    Completes (.timeMarker h m) s fun t =>
      t.time.marks = (h.src, m.mark, s.now) :: s.time.marks.filter (fun e => e.1 != h.src))

/-- FW_OPEN, FW_ERASE, SLOT_VERIFY_DONE, ACTIVATE_HITLESS, HITLESS_GOVERNOR_BOOTED, HITLESS_SITE_RESTARTED, ACTIVATE_RESET and
SELECT_CONFIG complete (R374-R384). -/
def Obligations.ImageRowsComplete : Prop :=
  (∀ (s : State) (p : Path) (config : Bool), UpdateFree s p → (s.fw.slot (s.dlSlot config)).st ≠ 3 → s.rollTarget config = false →
    Completes (.fwOpen p config) s fun t => (t.fw.slot (s.dlSlot config)).st = 1 ∧ t.fw.target = s.dlSlot config ∧
      t.fw.status = 0) ∧
  (∀ (s : State) (p : Path) (config : Bool), s.priv p = true → s.fw.op = .idle → (s.fw.slot (s.dlSlot config)).st ≠ 3 →
    s.rollTarget config = false →
    Completes (.fwErase p config) s fun t => t.fw.slot (s.dlSlot config) = {} ∧ t.fw.status = 0) ∧
  (∀ (s : State) (p : Path) (config : Bool), s.priv p = true → s.fw.op ≠ .idle → (s.fw.slot (s.dlSlot config)).st ≠ 3 →
    ∀ c ∈ [Instr.fwOpen p config, .fwErase p config],
      Completes c s fun t => t.fw = { s.fw with status := 0x070E }) ∧
  (∀ (s : State) (n : BitVec 2) (ok : Bool), ((s.fw.slot n).st = 2 ∨ (s.fw.slot n).st = 3) →
    Completes (.slotVerifyDone n ok) s fun t => (ok = false → (t.fw.slot n).st = 7) ∧
      (ok = true → n.toNat < 2 → (t.fw.slot n).st = 4) ∧
      (ok = true → 2 ≤ n.toNat → ∀ i, Image.read ((s.fw.slot n).header ++ (s.fw.slot n).buf) = some i →
        (t.fw.slot n).st = 4 ∧ (t.fw.slot n).image = some i) ∧
      (s.fw.op = .verify n → t.fw.op = .idle)) ∧
  (∀ (s : State) (p : Path), UpdateFree s p → s.newImage.st = 4 → s.fw.sel.trial = false → s.newImage.hitless = true →
    s.newImage.stateFrom.toNat ≤ s.fw.runVersion.toNat →
    Completes (.activateHitless p) s fun t => t.fw.op = .hitless ∧ t.fw.sel.trial = true ∧ t.fw.sel.fwB = !s.fw.runB ∧
      t.gov.simplex = true ∧ (s.gov.roleA = 1 → t.gov.roleA = 3) ∧ (s.gov.roleB = 1 → t.gov.roleB = 3)) ∧
  (∀ s : State, s.fw.op = .hitless → s.updFault = 0 → s.fw.hstep = 3 → (s.gov.roleA = 3 ∨ s.gov.roleB = 3) →
    Completes .hitlessGovernorBooted s fun t => t.fw.runB = !s.fw.runB ∧ t.fw.runVersion = s.newImage.version ∧
      (s.gov.roleA = 3 → t.gov.roleA = 0) ∧ (s.gov.roleA = 0 → t.gov.roleA = 3) ∧ (s.gov.roleB = 3 → t.gov.roleB = 0) ∧
      (s.gov.roleB = 0 → t.gov.roleB = 3) ∧ t.gov.swaps = satAdd s.gov.swaps 1) ∧
  (∀ s : State, s.fw.op = .hitless → s.updFault = 0 → s.fw.hstep = 5 → (s.gov.roleA = 3 ∨ s.gov.roleB = 3) →
    Completes .hitlessGovernorBooted s fun t => t.gov.simplex = false ∧ (s.gov.roleA = 3 → t.gov.roleA = 1) ∧
      (s.gov.roleB = 3 → t.gov.roleB = 1) ∧ (s.siteFrom 0 = none → t.fw.op = .idle)) ∧
  (∀ s : State, s.fw.op = .hitless → s.fw.hstep = 8 →
    Completes .hitlessSiteRestarted s fun t =>
      (s.siteFrom (s.fw.site.toNat + 1) = none → t.fw.op = .idle ∧ t.fw.phase = 0) ∧
      (∀ k, s.siteFrom (s.fw.site.toNat + 1) = some k → t.fw.site = BitVec.ofNat 4 k ∧ t.fw.op = .hitless)) ∧
  (∀ (s : State) (p : Path), UpdateFree s p → (s.newImage.st = 4 ∨ s.newImage.st = 5) → s.fw.sel.trial = false →
    Completes (.activateReset p) s fun t => t.mod.stage = 0 ∧ t.mod.begun = false ∧ t.mod.cause = 3 ∧ t.fw.sel.trial = true ∧
      t.fw.sel.fwB = (!s.fw.runB) ∧ t.fw.sel.tries = 3 ∧ Lost t) ∧
  (∀ (s : State) (p : Path), UpdateFree s p → (s.fw.slot s.otherCfg).st = 4 →
    Completes (.selectConfig p) s fun t => t.fw.sel.cfgB = (!s.fw.sel.cfgB) ∧ t.fw.status = 0)

/-- CONFIRM, ROLLBACK, SAVE, SETTINGS_CONVERT, SETTINGS_EMPTY, FW_LOCK_WRITE, FW_ATTEST and ATTEST_REPORT_DONE complete
(R381-R391). -/
def Obligations.SettingsAndAttestationRowsComplete : Prop :=
  (∀ (s : State) (p : Path), s.priv p = true → s.fw.op = .idle → s.fw.sel.trial = true →
    Completes (.confirm p) s fun t => t.fw.sel.trial = false ∧ t.fw.sel.fwB = s.fw.sel.fwB ∧ t.fw.status = 0) ∧
  (∀ (s : State) (p : Path), s.priv p = true → s.fw.op = .idle → s.fw.sel.trial = true →
    Completes (.rollback p) s fun t => t.mod.stage = 0 ∧ t.mod.begun = false ∧ t.mod.cause = 3 ∧ t.fw.sel.trial = false ∧
      t.fw.sel.fwB = (!s.fw.sel.fwB) ∧ Lost t) ∧
  (∀ (s : State) (p : Path), s.priv p = true → s.fw.op = .idle → s.saveLocked = false →
    Completes (.save p) s fun t => t.fw.status = 0 ∧
      (if s.fw.useB = some false then t.fw.bankB else t.fw.bankA).ok = true ∧
      (if s.fw.useB = some false then t.fw.bankB else t.fw.bankA).entries.map (fun r => (r.addr, r.value)) =
        s.savedEntries.map fun r => (r.addr, r.value)) ∧
  (∀ (s : State) (p : Path) (b : Bank), s.priv p = true → s.fw.foreign = true → s.fw.foreignBank = some b →
    Completes (.settingsEmpty p) s fun t => t.fw.status = 0 ∧ t.fw.foreign = false ∧
      (if s.fw.foreignB then t.fw.bankA else t.fw.bankB).entries = [] ∧
      (if s.fw.foreignB then t.fw.bankA else t.fw.bankB).seq = b.seq + 1) ∧
  (∀ (s : State) (p : Path) (b : Bank), s.priv p = true → s.fw.foreign = true → s.fw.foreignBank = some b →
    (s.fw.slot s.fw.activeFw).schemaConvMin.toNat ≤ b.schema.toNat → b.schema.toNat ≤ s.fw.schema.toNat →
    (s.fw.slot s.fw.activeFw).h4 = false →
    Completes (.settingsConvert p) s fun t => t.fw.status = 0 ∧ t.fw.foreign = false ∧
      (if s.fw.foreignB then t.fw.bankA else t.fw.bankB).entries.map (fun r => (r.addr, r.mask)) =
        b.entries.map fun r => (r.addr, r.mask)) ∧
  (∀ (s : State) (p : Path) (v : Word), s.priv p = true →
    Completes (.fwLockWrite p v) s fun t => t.fw.ownerLock = v.getLsbD 31 ∧
      t.fw.minSvn.toNat = max s.fw.minSvn.toNat (bitsOf v 15 0)) ∧
  (∀ (s : State) (p : Path), s.priv p = true → Completes (.fwAttest p) s fun t => t.fw = { s.fw with reporting := true }) ∧
  (∀ s : State, s.fw.reporting = true →
    Completes .attestReportDone s fun t => t.fw.reporting = false ∧ t.fw.valid = true ∧ t.fw.report.length = 608 ∧
      t.fw.reports = satAdd s.fw.reports 1)

/-- OPEN, AUTH, HMP_AUTH_VERIFIED, CLOSE, KEEPALIVE and CERT_READ complete (R390, R396-R399). -/
def Obligations.ManagementSessionsComplete : Prop :=
  (∀ (s : State) (h : HmpHead) (n : Nat), s.mpUp = true → (∀ e ∈ s.mgmt.sess, e.2.ip ≠ h.ip) → s.mgmt.lockouts.contains h.ip = false →
    s.freeSess = some n →
    Completes (.hmpOpen h) s fun t => ∃ x, t.sess? n = some x ∧ x.ip = h.ip ∧ x.port = h.port ∧ x.auth = false ∧
      Replies t 0x01 x h 0 (s.openReply x.nonce)) ∧
  (∀ (s : State) (h : HmpHead), s.mpUp = true → (∀ e ∈ s.mgmt.sess, e.2.ip ≠ h.ip) →
    Completes (.hmpOpen h) s fun t =>
      (s.mgmt.lockouts.contains h.ip = true → Replies t 0x01 { id := 0, ip := h.ip, port := h.port } h 0x0608 []) ∧
      (s.mgmt.lockouts.contains h.ip = false → s.freeSess = none →
        Replies t 0x01 { id := 0, ip := h.ip, port := h.port } h 0x0609 [])) ∧
  (∀ (s : State) (h : HmpHead) (n : Nat) (x : Sess) (i : BitVec 8) (sig : BitVec 768), Serves s h n x → x.verifying = none →
    (SMap.find s.fw.keys i.toNat).isSome = true →
    Completes (.hmpAuth h i sig) s fun t => t.sess? n = some { x with verifying := some (h.seq, i, sig) }) ∧
  (∀ (s : State) (n : BitVec 2) (x : Sess) (q : Word) (i : BitVec 8) (sig : BitVec 768), s.sess? n.toNat = some x →
    x.verifying = some (q, i, sig) → s.sessGood x i sig = true →
    Completes (.hmpAuthVerified n) s fun t => Replies t 0x02 x ⟨x.id, x.ip, x.port, q⟩ 0 [] ∧
      ∃ y, t.sess? n.toNat = some y ∧ y.auth = true ∧ y.verifying = none ∧ y.id = x.id) ∧
  (∀ (s : State) (n : BitVec 2) (x : Sess) (q : Word) (i : BitVec 8) (sig : BitVec 768), s.sess? n.toNat = some x →
    x.verifying = some (q, i, sig) → s.sessGood x i sig = false →
    Completes (.hmpAuthVerified n) s fun t => Replies t 0x02 x ⟨x.id, x.ip, x.port, q⟩ 0x0608 [] ∧
      (x.refusals < 2 → ∃ y, t.sess? n.toNat = some y ∧ y.auth = x.auth ∧ y.refusals = x.refusals + 1) ∧
      (2 ≤ x.refusals → t.sess? n.toNat = none ∧ x.ip ∈ t.mgmt.lockouts)) ∧
  (∀ (s : State) (h : HmpHead) (n : Nat) (x : Sess), Serves s h n x →
    Completes (.hmpClose h) s (fun t => Replies t 0x03 x h 0 [] ∧ t.sess? n = none) ∧
    Completes (.keepalive h) s fun t => Replies t 0x04 x h 0 [] ∧ (t.sess? n).isSome = true) ∧
  (∀ (s : State) (h : HmpHead) (n : Nat) (x : Sess) (off : Word), Serves s h n x →
    Completes (.certRead h off) s fun t => Replies t 0x30 x h 0 ((s.fuse.cert.drop off.toNat).take 1024))

/-- CSR_READ, CSR_WRITE, XFER_OPEN, XFER_DATA, XFER_CLOSE, SESSION_TIMEOUT, HMP_LOCKOUT_END, KEY_INSTALL and KEY_REMOVE complete
(R389, R397-R400). -/
def Obligations.ManagementRequestsComplete : Prop :=
  (∀ (s : State) (h : HmpHead) (n : Nat) (x : Sess) (a : CsrAddr) (k : BitVec 8), Serves s h n x → x.auth = true → 1 ≤ k.toNat →
    k.toNat ≤ 64 → a.toNat % 4 = 0 →
    Completes (.csrRead h a k) s fun t => Replies t 0x10 x h 0 (wordBytes (s.readRegs (hmpPath n) a.toNat k.toNat).1)) ∧
  (∀ (s : State) (h : HmpHead) (n : Nat) (x : Sess) (a : Nat) (v : Word), Serves s h n x → x.auth = true → n < 4 →
    a ∈ storedRegs →
    Completes (.csrWrite h (BitVec.ofNat 26 a) [v]) s fun t => Replies t 0x11 x h 0 [] ∧ t.pol a = (polStore a v).getD (s.pol a)) ∧
  (∀ (s : State) (h : HmpHead) (n : Nat) (x : Sess) (k : BitVec 8) (size : Word), Serves s h n x →
    (x.auth = true ∨ s.unowned = true ∧ k = 5) → s.xferFault x k size = 0 →
    Completes (.xferOpen h k size) s fun t => Replies t 0x20 x h 0 [] ∧ (k = 3 → t.plan.stagedLen = 0) ∧
      (t.sess? n).bind (fun y => y.xfer) = some { kind := k, size := size.toNat }) ∧
  (∀ (s : State) (h : HmpHead) (n : Nat) (x : Sess) (y : HXfer) (off : Word) (data : List Byte),
    Serves s h n x → (x.auth = true ∨ s.unowned = true ∧ y.kind = 5) → x.xfer = some y → off.toNat = y.next →
    off.toNat + data.length ≤ y.size → data.length ≤ 1024 →
    Completes (.xferData h off data) s fun t =>
      (y.kind = 3 → Replies t 0x21 x h 0 [] ∧ t.plan.stagedLen = y.next + data.length ∧
        t.plan.staging = Memory.writeL s.plan.staging y.next data) ∧
      ((y.kind = 1 ∨ y.kind = 2) →
        Replies t 0x21 x h (s.takeUnits { y with next := y.next + data.length, data := y.data ++ data } 4).2.2 [] ∧
        t.fw = (s.takeUnits { y with next := y.next + data.length, data := y.data ++ data } 4).1.fw) ∧
      (y.kind ≠ 1 → y.kind ≠ 2 → y.kind ≠ 3 → Replies t 0x21 x h 0 [] ∧ (t.sess? n).bind (fun z => z.xfer) =
        some { y with next := y.next + data.length, data := y.data ++ data })) ∧
  (∀ (s : State) (h : HmpHead) (n : Nat) (x : Sess) (y : HXfer), Serves s h n x →
    (x.auth = true ∨ s.unowned = true ∧ y.kind = 5) → x.xfer = some y →
    Completes (.xferClose h) s fun t => (t.sess? n).bind (fun z => z.xfer) = none ∧
      (y.kind ≠ 4 → y.kind ≠ 5 → Replies t 0x22 x h 0 []) ∧ (y.kind = 5 → Replies t 0x22 x h 0x070C []) ∧
      (y.kind = 4 → Replies t 0x22 x h (s.takePack (y.next == y.size) y.data).2 [] ∧
        t.fw = (s.takePack (y.next == y.size) y.data).1.fw)) ∧
  (∀ (s : State) (h : HmpHead) (n : Nat) (x : Sess) (i : BitVec 2) (key sig : BitVec 768), Serves s h n x →
    (x.auth = true ∨ s.unowned = true) → x.kind = some 5 →
    (if s.unowned = true then i = 0 else s.keySigned i (keyBytes key) sig = true) →
    Completes (.keyInstall h i key sig) s fun t => Replies t 0x22 x h 0 [] ∧ t.fw.keys = SMap.put s.fw.keys i.toNat key) ∧
  (∀ (s : State) (h : HmpHead) (n : Nat) (x : Sess) (i : BitVec 2) (sig : BitVec 768), Serves s h n x → x.auth = true →
    x.kind = some 5 → s.keySigned i (leBytes 48 0) sig = true →
    (SMap.find s.fw.keys i.toNat).isSome = true → 1 < s.fw.keys.length →
    Completes (.keyRemove h i sig) s fun t => Replies t 0x22 x h 0 [] ∧ t.fw.keys = SMap.del s.fw.keys i.toNat) ∧
  (∀ (s : State) (n : BitVec 2), Completes (.sessionTimeout n) s fun t => t.sess? n.toNat = none) ∧
  (∀ (s : State) (ip : BitVec 128), Completes (.hmpLockoutEnd ip) s fun t => ip ∉ t.mgmt.lockouts)

/-- NOTICE_ACK, HEALTH_RELAY, NOTICE_RESEND, MGMT_LINK, RELAY_START, TELEMETRY, BUCKET_REFILL, PERSIST, PERSIST_DONE and CS_CLEAR
complete (R401-R410). -/
def Obligations.NoticeRowsComplete : Prop :=
  (∀ (s : State) (epoch : BitVec 16) (seq : Word), s.mpUp = true →
    Completes (.noticeAck s.node epoch seq) s fun t =>
      t.mgmt.notices = s.mgmt.notices.filter (fun n => !(n.node == s.node && n.epoch == epoch && n.seq == seq))) ∧
  (∀ (s : State) (node epoch : BitVec 16) (seq : Word), s.mpUp = true → node ≠ s.node →
    Completes (.noticeAck node epoch seq) s fun t => SlSends s t 0x30 node (ackBytes node epoch seq)) ∧
  (∀ (s : State) (h : SlHead) (b : List Byte), s.hears h b = true → h.src ≠ s.node → s.mgmt.link = true →
    Completes (.healthRelay h (.notice b)) s fun t => ∀ k ∈ s.stations, ToStation t k 0x40 h.govB h.simplex h.seq b) ∧
  (∀ (s : State) (h : SlHead) (node epoch : BitVec 16) (seq : Word), Accepts s h 0x30 (ackBytes node epoch seq) →
    Completes (.healthRelay h (.ack node epoch seq)) s fun t =>
      t.mgmt.notices = s.mgmt.notices.filter (fun n => !(n.node == node && n.epoch == epoch && n.seq == seq))) ∧
  (∀ (s : State) (seq : Word) (n : Notice), s.mod.on = true → (s.mgmt.notices.find? fun n => n.seq == seq) = some n →
    s.noticesWait = false →
    Completes (.noticeResend seq) s fun t =>
      (n.sends < 60 → t.mgmt.notices = s.mgmt.notices.map fun x => if x.seq = seq then { x with sends := x.sends + 1 } else x) ∧
      (60 ≤ n.sends → t.mgmt.notices = s.mgmt.notices.filter (fun x => x.seq != seq) ∧
        t.mgmt.givenUp = satAdd s.mgmt.givenUp 1)) ∧
  (∀ (s : State) (up : Bool), s.mod.on = true → s.mgmt.link ≠ up →
    Completes (.mgmtLink up) s fun t => t.mgmt.link = up ∧ (up = true → s.stations ≠ [] → t.mgmt.relaying = false)) ∧
  (∀ s : State, s.mod.on = true → (s.mgmt.link = false ∨ s.stations = []) →
    Completes .relayStart s fun t => t.mgmt.relaying = true) ∧
  (∀ s : State, s.polF 0xB00004 31 16 ≠ 0 → s.mpUp = true →
    Completes .telemetry s fun t => t.mgmt.counts = [0, 0, 0, 0, 0, 0, 0] ∧
      ∀ k ∈ s.stations, ToStation t k 0x42 s.activeB s.gov.simplex t.gov.seq s.telemetryBytes) ∧
  (∀ s : State, (s.cs.taken.map fun e => e.1).Nodup →
    Completes .bucketRefill s fun t => ∀ code, SMap.get t.cs.taken code 0 = SMap.get s.cs.taken code 0 - s.polF 0x301000 7 0) ∧
  (∀ (s : State) (p : Path), s.priv p = true → s.cs.writing = none →
    (s.cs.lastPersist = none ∨ ∃ u, s.cs.lastPersist = some u ∧ 10000000000 ≤ s.up - u) →
    Completes (.persist p) s fun t => t.cs.writing = some (!s.cs.newerP1, s.lastRecords) ∧ t.cs.persistBit = true) ∧
  (∀ (s : State) (to1 : Bool) (l : List CsRec), s.cs.writing = some (to1, l) →
    Completes .persistDone s fun t => t.cs.writing = none ∧ t.cs.newerP1 = to1 ∧
      (if to1 then t.cs.p1 else t.cs.p0) = some l) ∧
  (∀ (s : State) (p : Path) (upto : Word), s.carries p = true →
    Completes (.csClear p upto) s fun t => t.cs.next = s.cs.next + 1 ∧
      (∀ e ∈ t.cs.recs, e.2.index ≠ s.cs.next → e.2.index.toNat ≤ upto.toNat → e.2.valid = false) ∧
      ∃ r, SMap.find t.cs.recs (s.cs.next.toNat % 8192) = some r ∧ r.code = 0x0109 ∧ r.valid = true)

/-- INPUT_LOST, INPUT_REGAINED, POWER_FAIL_SIGNAL, CONTROL_OFF, HOLDUP_DEGRADED, COOLANT_ALARM and THERMAL_TRIP complete
(R415-R420, R292). -/
def Obligations.InputPowerRowsComplete : Prop :=
  (∀ s : State, s.mod.lostA = false → Completes (.inputLost false) s fun t => t.mod.lostA = true) ∧
  (∀ s : State, s.mod.lostB = false → Completes (.inputLost true) s fun t => t.mod.lostB = true) ∧
  (∀ (s : State) (v : BitVec 12), 400 < v.toNat →
    Completes (.inputRegained false v) s (fun t => t.mod = { s.mod with lostA := false, vinA := v }) ∧
    Completes (.inputRegained true v) s fun t => t.mod = { s.mod with lostB := false, vinB := v }) ∧
  (∀ s : State, s.noInput = true → s.mod.on = true → s.mod.powerFail = false →
    Completes .powerFailSignal s fun t => t.mod.powerFail = true ∧ t.steer.inBypass = true ∧ t.steer.src = 2 ∧
      t.light.started = false ∧ Lost t ∧ t.cs.writing.isSome = true) ∧
  (∀ s : State, s.mod.powerFail = true →
    Completes .controlOff s fun t => (s.noInput = true → t.mod.on = false ∧ t.mod.tripped = false) ∧
      (s.mod.lostA = false → inRange s.mod.vinA = true → s.mod.tripped = false →
        t.mod.on = true ∧ t.mod.stage = 0 ∧ t.mod.begun = false)) ∧
  (∀ s : State, s.mod.on = true → s.mod.st = 2 → s.mod.holdup.toNat < 90 →
    Completes .holdupDegraded s fun t => t = s.event 0x0110 0 0) ∧
  (∀ s : State, s.mod.on = true → Completes .coolantAlarm s fun t => t = s.event 0x0111 0 0) ∧
  (∀ s : State, s.mod.on = true → s.mod.tripped = false →
    Completes .thermalTrip s fun t => t.mod.tripped = true ∧ t.mod.powerFail = true)

/-- A step runs the command at the front of the queue on the state with the rest of the queue: commands act in their order of
arrival (R27). The queue itself is the form of this model. -/
def Obligations.StepRunsTheFrontCommand : Prop :=
  ∀ (s : State) (c : Instr) (rest : List Instr), step { s with pending := c :: rest } = exec c { s with pending := rest }

/-- On an empty queue a step answers a next state; nothing happens in a module that is off. The model's choice: log entry 5. -/
def Obligations.EmptyQueueLetsTimePass : Prop :=
  ∀ s : State, s.pending = [] → ∃ t, step s = .next t ∧ t.pending = [] ∧ (s.mod.on = false → t = s)

/-- No command stops the block: what its rules do not allow changes nothing, as a write to an address without a register does
(R16, R38). -/
def Obligations.EveryStepAnswersANextState : Prop := ∀ s : State, Goes s

/-- Every step keeps the fuses, which are fixed at manufacture (R2), and takes exactly the front command: commands act in their
order of arrival (R27). -/
def Obligations.StepTakesExactlyOneCommand : Prop := ∀ s t : State, step s = .next t → t.pending = s.pending.drop 1 ∧ t.fuse = s.fuse

/-- Every step keeps `Sound`: TRAY_BEATS = TRAY_EXPOSURES + TRAY_DEAD + TRAY_LOADWAIT + TRAY_IDLE in every tray (R70), up to
saturation, and the canonical form of every byte memory, which is the form of this model. -/
def Obligations.StepKeepsMemoriesAndBeats : Prop := ∀ s t : State, Sound s → step s = .next t → Sound t

/-- The invariant of StepKeepsMemoriesAndBeats holds at reset. -/
def Obligations.ResetIsSound : Prop := Sound State.reset

/-- What reset leaves: UNIT_SEL 0, which selects the module (R24), units OFF (R31), empty queues (R61) and tallies at 0 (R98). -/
def Obligations.ResetLeavesNothingAtWork : Prop :=
  State.reset.pending = [] ∧ (∀ p, (State.reset.path p).unitSel = 0 ∧ (State.reset.path p).mode = 0) ∧
    State.reset.resolve 0 = some .module ∧
    (∀ k, (State.reset.tray k).ctl.st = .off ∧ (State.reset.tray k).expQ = [] ∧ (State.reset.tray k).loadQ = [] ∧
      (State.reset.tray k).hasActive = false) ∧
    (∀ c i, State.reset.tally c i = 0) ∧ (∀ c, (State.reset.ctx c).st = 0) ∧
    (∀ k n, State.reset.thread? k n = none) ∧ State.reset.outst = [] ∧ State.reset.movers = []

/-- The frame of every command: only the parts that `touches` lists may differ. -/
def Obligations.CommandsTouchOnlyTheirParts : Prop := ∀ (c : Instr) (s t : State), exec c s = .next t → Frame (touches c) s t

/-- Access control: an access on a path that does not carry it, and a privileged one on a context's pages, changes nothing. -/
def Obligations.UncarriedAccessChangesNothing : Prop :=
  ∀ (c : Instr) (s : State) (p : Path), accessPath c = some p →
    (s.carries p = false ∨ isPrivileged c = true ∧ privileged p = false) → exec c s = .next s

/-- R23, over the fields of R22: an address names no unit exactly where one of its conditions holds. -/
def Obligations.AddressesAreInvalidAsStated : Prop :=
  ∀ (s : State) (u : UnitAddr),
    let f (lo n : Nat) : Nat := (u.extractLsb' lo n).toNat
    let phys := u.getLsbD 31
    s.resolve u = none ↔
      f 0 6 ≠ 0 ∨ 6 ≤ f 28 3 ∨
      (f 28 3 < 5 ∧ f 6 4 ≠ 0) ∨ (f 28 3 < 4 ∧ f 10 6 ≠ 0) ∨ (f 28 3 < 3 ∧ f 16 4 ≠ 0) ∨ (f 28 3 < 2 ∧ f 20 4 ≠ 0) ∨
      (f 28 3 < 1 ∧ f 24 4 ≠ 0) ∨
      (2 ≤ f 28 3 ∧ 7 < f 20 4) ∨ (3 ≤ f 28 3 ∧ (if phys then 8 else 7) < f 16 4) ∨
      (4 ≤ f 28 3 ∧ (if phys then 19 else 18) < f 10 6) ∨
      (1 ≤ f 28 3 ∧ (if phys then f 24 4 ∉ s.fuse.sites else s.fuse.sites.length ≤ f 24 4))

/-- R30. Clusters and cores have no owner of their own: a write there changes no tray. -/
def Obligations.OwnerWritesTakeEffectWhereAllowed : Prop :=
  ∀ (s : State) (p : Path) (u : URef) (pid : Pid), SelectsOne s p u →
    Completes (.ucbOwnerWrite p pid) s fun t => t.cs = s.cs ∧
      (∀ k, k ∈ s.traysUnder u → OwnerFree s k → (t.tray k).owner = pid) ∧
      (∀ k, ¬(k ∈ s.traysUnder u ∧ OwnerFree s k) → (t.tray k).owner = (s.tray k).owner)

/-- R101: every tally of the 19 logical clusters of a tray that changes owner reads 0 afterwards, and no other tally changes. -/
def Obligations.OwnerChangeClearsTallies : Prop :=
  ∀ (s : State) (p : Path) (u : URef) (pid : Pid), SelectsOne s p u →
    Completes (.ucbOwnerWrite p pid) s fun t =>
      (∀ k ∈ s.traysUnder u, OwnerFree s k → (s.tray k).owner ≠ pid →
        (s.clustersOfTray k).length = 19 ∧ ∀ c ∈ s.clustersOfTray k, ∀ i, t.tally c i = 0) ∧
      ∀ c, (∀ k ∈ s.traysUnder u, OwnerFree s k → (s.tray k).owner ≠ pid → c ∉ s.clustersOfTray k) →
        ∀ i, t.tally c i = s.tally c i

/-- R290: the bypass state of a matrix without failed elements. -/
def Obligations.BypassJoinsPairedPorts : Prop :=
  ∀ (s : State) (p : Path), s.priv p = true → s.steer.failed = [] →
    Completes (.bypass p) s fun t => t.steer.inBypass = true ∧
      ∀ a b, (a, b) ∈ t.steer.conn ↔ ∃ m < 32, (a = 2 * m ∧ b = 2 * m + 1) ∨ (a = 2 * m + 1 ∧ b = 2 * m)

/-- The frame of the selection registers: a selection made on one path never changes what another path sees (R24). -/
def Obligations.SelectionsBelongToTheirPath : Prop :=
  ∀ (s t : State) (p : Path) (v : Word), exec (.unitSelWrite p v) s = .next t ∨ exec (.unitSelModeWrite p v) s = .next t →
    Frame [.paths] s t ∧ ∀ q, q ≠ p → t.path q = s.path q

/-- The frame of the registers that only store what their access codes store (R15). -/
def Obligations.StoredRegistersChangeAlone : Prop :=
  ∀ (s t : State) (p : Path) (a : Nat) (v : Word), privileged p = true → a ∈ storedRegs →
    exec (.regWrite p (BitVec.ofNat 26 a) v) s = .next t → Frame [.csr] s t ∧ ∀ b, b ≠ a → t.pol b = s.pol b

/-- The frame of the descriptors that compute on a core: the destination ranges are those of `computeDests`, in the local store
from the window of the thread, in the tray buffer from the grant of its context. -/
def Obligations.ComputingWritesOnlyItsDestination : Prop :=
  ∀ (s r : State) (c : UnitAddr) (n : SlotNo) (k : Nat) (t : Thread) (d : BitVec 512), s.coreAt c = some k →
    s.thread? k n.toNat = some t → t.cur = some d → ∀ i ∈ computeRows c n, exec i s = .next r →
      (∀ j, j ≠ k → (r.core j).ls = (s.core j).ls) ∧
      (∀ a, Outside 1 (1024 * t.base) (computeDests d) a → Memory.read (r.core k).ls a = Memory.read (s.core k).ls a) ∧
      (∀ j, j ≠ trayOfCore k → (r.tray j).tb = (s.tray j).tb) ∧
      (∀ a, Outside 2 (s.seat k t).grant (computeDests d) a →
        Memory.read (r.tray (trayOfCore k)).tb a = Memory.read (s.tray (trayOfCore k)).tb a)

/-- The order of the checks of R127, and that a rejected descriptor moves no data (R96, R127); a count of zero comes before the
extent. -/
def Obligations.RejectedDescriptorsMoveNothing : Prop :=
  ∀ (s : State) (c : UnitAddr) (n : SlotNo) (k : Nat) (t : Thread) (d : BitVec 512) (code : Code), Ready s c n k t d →
    (opcode d = 0x10 → firstFailure (copyChecks s t d) = some code → Completes (.copy c n) s fun r => Rejects s r k n t d code) ∧
    (opcode d = 0x11 → firstFailure (fillChecks s t d) = some code → Completes (.fill c n) s fun r => Rejects s r k n t d code) ∧
    (opcode d = 0x23 → firstFailure (accReadChecks s t d) = some code →
      Completes (.accRead c n) s fun r => Rejects s r k n t d code) ∧
    (opcode d = 0x24 → firstFailure (accWriteChecks s t d) = some code →
      Completes (.accWrite c n) s fun r => Rejects s r k n t d code) ∧
    (opcode d = 0x28 → firstFailure (convertBs8Checks s t d) = some code →
      Completes (.convertBs8 c n) s fun r => Rejects s r k n t d code) ∧
    (opcode d = 0x29 → firstFailure (convertPlaneChecks s t d) = some code →
      Completes (.convertPlane c n) s fun r => Rejects s r k n t d code) ∧
    (opcode d = 0x33 → firstFailure (activateChecks s t d) = some code →
      Completes (.activate c n) s fun r => Rejects s r k n t d code) ∧
    (opcode d = 0x34 → firstFailure (reduceChecks s t d) = some code →
      Completes (.reduce c n) s fun r => Rejects s r k n t d code)
end

