-- ==== Sys2Proof/Laws/State.lean ====
section
/-! SUPPORT. What each setter of a part of the state leaves, and what is read back after it: every lemma of a setter and a
field it does not touch is true by rfl. -/

set_option Elab.async false

namespace Sys2Proof.Machine

/-! ### Sparse maps -/

theorem SMap.find_ins_self {α : Type} (k : Nat) (v : α) : ∀ m : SMap α, (∀ e ∈ m, e.1 ≠ k) → SMap.find (SMap.ins k v m) k = some v
  | [], _ => by simp [SMap.ins, SMap.find]
  | (a, b) :: r, h => by
    unfold SMap.ins
    split
    · simp [SMap.find]
    · have ha : a ≠ k := h (a, b) (by simp)
      simp only [SMap.find, ha, if_false]
      exact SMap.find_ins_self k v r fun e he => h e (List.mem_cons_of_mem _ he)

theorem SMap.find_ins_ne {α : Type} {k j : Nat} (v : α) (hj : j ≠ k) : ∀ m : SMap α, SMap.find (SMap.ins k v m) j = SMap.find m j
  | [] => by simp [SMap.ins, SMap.find, hj.symm]
  | (a, b) :: r => by
    unfold SMap.ins
    split
    · simp [SMap.find, hj.symm]
    · simp only [SMap.find, SMap.find_ins_ne v hj r]

theorem SMap.mem_del {α : Type} {k : Nat} {m : SMap α} {e : Nat × α} (h : e ∈ SMap.del m k) : e.1 ≠ k := by
  simpa [SMap.del] using (List.mem_filter.mp h).2

theorem SMap.find_del_ne {α : Type} {k j : Nat} (hj : j ≠ k) : ∀ m : SMap α, SMap.find (SMap.del m k) j = SMap.find m j
  | [] => rfl
  | (a, b) :: r => by
    have ih := SMap.find_del_ne hj r
    by_cases ha : a = k
    · subst ha
      simpa [SMap.del, SMap.find, hj.symm] using ih
    · have : SMap.del ((a, b) :: r) k = (a, b) :: SMap.del r k := by simp [SMap.del, ha]
      rw [this]
      simp only [SMap.find, ih]

theorem SMap.find_del_self {α : Type} (k : Nat) : ∀ m : SMap α, SMap.find (SMap.del m k) k = none
  | [] => rfl
  | (a, b) :: r => by
    have ih := SMap.find_del_self k r
    by_cases ha : a = k
    · subst ha
      simpa [SMap.del] using ih
    · have : SMap.del ((a, b) :: r) k = (a, b) :: SMap.del r k := by simp [SMap.del, ha]
      rw [this]
      simp only [SMap.find, ha, if_false, ih]

@[simp] theorem SMap.find_put_self {α : Type} (m : SMap α) (k : Nat) (v : α) : SMap.find (SMap.put m k v) k = some v :=
  SMap.find_ins_self k v _ fun _ h => SMap.mem_del h

theorem SMap.find_put_ne {α : Type} {k j : Nat} (hj : j ≠ k) (m : SMap α) (v : α) :
    SMap.find (SMap.put m k v) j = SMap.find m j := by
  rw [SMap.put, SMap.find_ins_ne v hj, SMap.find_del_ne hj]

@[simp] theorem SMap.get_put_self {α : Type} (m : SMap α) (k : Nat) (v d : α) : SMap.get (SMap.put m k v) k d = v := by
  simp [SMap.get]

theorem SMap.get_put_ne {α : Type} {k j : Nat} (hj : j ≠ k) (m : SMap α) (v d : α) :
    SMap.get (SMap.put m k v) j d = SMap.get m j d := by
  rw [SMap.get, SMap.get, SMap.find_put_ne hj]

/-- What a sparse map reads after a write, by key. -/
theorem SMap.get_put {α : Type} (m : SMap α) (k j : Nat) (v d : α) :
    SMap.get (SMap.put m k v) j d = if j = k then v else SMap.get m j d := by
  split
  · next h => subst h; exact SMap.get_put_self m j v d
  · next h => exact SMap.get_put_ne h m v d

/-- Paths have different keys. -/
theorem pathKey_inj {p q : Path} (h : pathKey p = pathKey q) : p = q := by
  cases p <;> cases q <;> simp only [pathKey] at h <;> first
    | rfl
    | (exfalso; omega)
    | (congr 1; exact BitVec.eq_of_toNat_eq (by omega))

/-! ### What is read back -/

@[simp] theorem State.setPath_self (s : State) (k : Path) (v : PathSt) : (s.setPath k v).path k = v := by simp [State.path, State.setPath]
theorem State.setPath_ne (s : State) {k j : Path} (h : j ≠ k) (v : PathSt) : (s.setPath k v).path j = s.path j :=
  SMap.get_put_ne (fun e => h (pathKey_inj e)) _ _ _
@[simp] theorem State.setTray_self (s : State) (k : Nat) (v : Tray) : (s.setTray k v).tray k = v := by simp [State.tray, State.setTray]
theorem State.setTray_ne (s : State) {k j : Nat} (h : j ≠ k) (v : Tray) : (s.setTray k v).tray j = s.tray j :=
  SMap.get_put_ne (h) _ _ _
@[simp] theorem State.setCluster_self (s : State) (k : Nat) (v : Cluster) : (s.setCluster k v).cluster k = v := by simp [State.cluster, State.setCluster]
theorem State.setCluster_ne (s : State) {k j : Nat} (h : j ≠ k) (v : Cluster) : (s.setCluster k v).cluster j = s.cluster j :=
  SMap.get_put_ne (h) _ _ _
@[simp] theorem State.setCore_self (s : State) (k : Nat) (v : Core) : (s.setCore k v).core k = v := by simp [State.core, State.setCore]
theorem State.setCore_ne (s : State) {k j : Nat} (h : j ≠ k) (v : Core) : (s.setCore k v).core j = s.core j := by
  simp only [State.core, State.setCore, SMap.find_put_ne h]
  rfl
@[simp] theorem State.setSite_self (s : State) (k : Nat) (v : Site) : (s.setSite k v).site k = v := by simp [State.site, State.setSite]
theorem State.setSite_ne (s : State) {k j : Nat} (h : j ≠ k) (v : Site) : (s.setSite k v).site j = s.site j :=
  SMap.get_put_ne (h) _ _ _
@[simp] theorem State.setCtx_self (s : State) (k : CtxNo) (v : Ctx) : (s.setCtx k v).ctx k = v := by simp [State.ctx, State.setCtx]
theorem State.setCtx_ne (s : State) {k j : CtxNo} (h : j ≠ k) (v : Ctx) : (s.setCtx k v).ctx j = s.ctx j :=
  SMap.get_put_ne (fun e => h (BitVec.eq_of_toNat_eq e)) _ _ _
@[simp] theorem State.setSeq_self (s : State) (k : Nat) (v : SeqSlot) : (s.setSeq k v).seq k = v := by simp [State.seq, State.setSeq]
theorem State.setSeq_ne (s : State) {k j : Nat} (h : j ≠ k) (v : SeqSlot) : (s.setSeq k v).seq j = s.seq j :=
  SMap.get_put_ne (h) _ _ _
@[simp] theorem State.setSub_self (s : State) (k : Nat) (v : Sub) : (s.setSub k v).sub? k = some v := by simp [State.sub?, State.setSub]
theorem State.setSub_ne (s : State) {k j : Nat} (h : j ≠ k) (v : Sub) : (s.setSub k v).sub? j = s.sub? j :=
  SMap.find_put_ne (h) _ _
@[simp] theorem State.setQp_self (s : State) (k : Nat) (v : Qp) : (s.setQp k v).qp k = v := by simp [State.qp, State.setQp]
theorem State.setQp_ne (s : State) {k j : Nat} (h : j ≠ k) (v : Qp) : (s.setQp k v).qp j = s.qp j :=
  SMap.get_put_ne (h) _ _ _
@[simp] theorem State.setComb_self (s : State) (k : Nat) (v : Comb) : (s.setComb k v).comb k = v := by simp [State.comb, State.setComb]
theorem State.setComb_ne (s : State) {k j : Nat} (h : j ≠ k) (v : Comb) : (s.setComb k v).comb j = s.comb j :=
  SMap.get_put_ne (h) _ _ _
@[simp] theorem State.setFport_self (s : State) (k : PortNo) (v : FPort) : (s.setFport k v).fport k = v := by simp [State.fport, State.setFport]
theorem State.setFport_ne (s : State) {k j : PortNo} (h : j ≠ k) (v : FPort) : (s.setFport k v).fport j = s.fport j :=
  SMap.get_put_ne (fun e => h (BitVec.eq_of_toNat_eq e)) _ _ _
@[simp] theorem State.setLt_self (s : State) (k : PortNo) (v : Lt) : (s.setLt k v).lt k = v := by simp [State.lt, State.setLt]
theorem State.setLt_ne (s : State) {k j : PortNo} (h : j ≠ k) (v : Lt) : (s.setLt k v).lt j = s.lt j :=
  SMap.get_put_ne (fun e => h (BitVec.eq_of_toNat_eq e)) _ _ _
@[simp] theorem State.setLink_self (s : State) (k : BitVec 6) (v : LLink) : (s.setLink k v).link k = v := by simp [State.link, State.setLink]
theorem State.setLink_ne (s : State) {k j : BitVec 6} (h : j ≠ k) (v : LLink) : (s.setLink k v).link j = s.link j :=
  SMap.get_put_ne (fun e => h (BitVec.eq_of_toNat_eq e)) _ _ _
@[simp] theorem State.setSlPort_self (s : State) (k : PortNo) (v : SlPort) : (s.setSlPort k v).slPort k = v := by simp [State.slPort, State.setSlPort]
theorem State.setSlPort_ne (s : State) {k j : PortNo} (h : j ≠ k) (v : SlPort) : (s.setSlPort k v).slPort j = s.slPort j :=
  SMap.get_put_ne (fun e => h (BitVec.eq_of_toNat_eq e)) _ _ _
@[simp] theorem State.setDisc_self (s : State) (k : PortNo) (v : PortDisc) : (s.setDisc k v).disc k = v := by simp [State.disc, State.setDisc]
theorem State.setDisc_ne (s : State) {k j : PortNo} (h : j ≠ k) (v : PortDisc) : (s.setDisc k v).disc j = s.disc j :=
  SMap.get_put_ne (fun e => h (BitVec.eq_of_toNat_eq e)) _ _ _
@[simp] theorem State.setTrigger_self (s : State) (k : Nat) (v : Trigger) : (s.setTrigger k v).trigger k = v := by simp [State.trigger, State.setTrigger]
theorem State.setTrigger_ne (s : State) {k j : Nat} (h : j ≠ k) (v : Trigger) : (s.setTrigger k v).trigger j = s.trigger j :=
  SMap.get_put_ne (h) _ _ _
@[simp] theorem State.setSess_self (s : State) (k : Nat) (v : Sess) : (s.setSess k v).sess? k = some v := by simp [State.sess?, State.setSess]
theorem State.setSess_ne (s : State) {k j : Nat} (h : j ≠ k) (v : Sess) : (s.setSess k v).sess? j = s.sess? j :=
  SMap.find_put_ne (h) _ _
@[simp] theorem State.setPol_self (s : State) (k : Nat) (v : Word) : (s.setPol k v).pol k = v := by simp [State.pol, State.setPol]
theorem State.setPol_ne (s : State) {k j : Nat} (h : j ≠ k) (v : Word) : (s.setPol k v).pol j = s.pol j :=
  SMap.get_put_ne (h) _ _ _

/-! ### What each setter leaves -/

@[simp] theorem State.setPath_pending (s : State) (k : Path) (v : PathSt) : (s.setPath k v).pending = s.pending := rfl
@[simp] theorem State.setPath_fuse (s : State) (k : Path) (v : PathSt) : (s.setPath k v).fuse = s.fuse := rfl
@[simp] theorem State.setPath_fv (s : State) (k : Path) (v : PathSt) : (s.setPath k v).fv = s.fv := rfl
@[simp] theorem State.setPath_sent (s : State) (k : Path) (v : PathSt) : (s.setPath k v).sent = s.sent := rfl
@[simp] theorem State.setPath_csr (s : State) (k : Path) (v : PathSt) : (s.setPath k v).csr = s.csr := rfl
@[simp] theorem State.setPath_map (s : State) (k : Path) (v : PathSt) : (s.setPath k v).map = s.map := rfl
@[simp] theorem State.setPath_cmap (s : State) (k : Path) (v : PathSt) : (s.setPath k v).cmap = s.cmap := rfl
@[simp] theorem State.setPath_trays (s : State) (k : Path) (v : PathSt) : (s.setPath k v).trays = s.trays := rfl
@[simp] theorem State.setPath_clusters (s : State) (k : Path) (v : PathSt) : (s.setPath k v).clusters = s.clusters := rfl
@[simp] theorem State.setPath_cores (s : State) (k : Path) (v : PathSt) : (s.setPath k v).cores = s.cores := rfl
@[simp] theorem State.setPath_nextId (s : State) (k : Path) (v : PathSt) : (s.setPath k v).nextId = s.nextId := rfl
@[simp] theorem State.setPath_starts (s : State) (k : Path) (v : PathSt) : (s.setPath k v).starts = s.starts := rfl
@[simp] theorem State.setPath_outst (s : State) (k : Path) (v : PathSt) : (s.setPath k v).outst = s.outst := rfl
@[simp] theorem State.setPath_movers (s : State) (k : Path) (v : PathSt) : (s.setPath k v).movers = s.movers := rfl
@[simp] theorem State.setPath_subs (s : State) (k : Path) (v : PathSt) : (s.setPath k v).subs = s.subs := rfl
@[simp] theorem State.setPath_seqs (s : State) (k : Path) (v : PathSt) : (s.setPath k v).seqs = s.seqs := rfl
@[simp] theorem State.setPath_mem (s : State) (k : Path) (v : PathSt) : (s.setPath k v).mem = s.mem := rfl
@[simp] theorem State.setPath_host (s : State) (k : Path) (v : PathSt) : (s.setPath k v).host = s.host := rfl
@[simp] theorem State.setPath_light (s : State) (k : Path) (v : PathSt) : (s.setPath k v).light = s.light := rfl
@[simp] theorem State.setPath_fab (s : State) (k : Path) (v : PathSt) : (s.setPath k v).fab = s.fab := rfl
@[simp] theorem State.setPath_steer (s : State) (k : Path) (v : PathSt) : (s.setPath k v).steer = s.steer := rfl
@[simp] theorem State.setPath_gov (s : State) (k : Path) (v : PathSt) : (s.setPath k v).gov = s.gov := rfl
@[simp] theorem State.setPath_plan (s : State) (k : Path) (v : PathSt) : (s.setPath k v).plan = s.plan := rfl
@[simp] theorem State.setPath_mod (s : State) (k : Path) (v : PathSt) : (s.setPath k v).mod = s.mod := rfl
@[simp] theorem State.setPath_time (s : State) (k : Path) (v : PathSt) : (s.setPath k v).time = s.time := rfl
@[simp] theorem State.setPath_fw (s : State) (k : Path) (v : PathSt) : (s.setPath k v).fw = s.fw := rfl
@[simp] theorem State.setPath_cs (s : State) (k : Path) (v : PathSt) : (s.setPath k v).cs = s.cs := rfl
@[simp] theorem State.setPath_mgmt (s : State) (k : Path) (v : PathSt) : (s.setPath k v).mgmt = s.mgmt := rfl
@[simp] theorem State.setPath_proofMisses (s : State) (k : Path) (v : PathSt) : (s.setPath k v).proofMisses = s.proofMisses := rfl
@[simp] theorem State.setPath_proofRefereed (s : State) (k : Path) (v : PathSt) : (s.setPath k v).proofRefereed = s.proofRefereed := rfl
@[simp] theorem State.setPath_proofNomaj (s : State) (k : Path) (v : PathSt) : (s.setPath k v).proofNomaj = s.proofNomaj := rfl
@[simp] theorem State.setPath_seedsOwed (s : State) (k : Path) (v : PathSt) : (s.setPath k v).seedsOwed = s.seedsOwed := rfl
@[simp] theorem State.setPath_trayAt (s : State) (k : Path) (v : PathSt) (j : Nat) : (s.setPath k v).tray j = s.tray j := rfl
@[simp] theorem State.setPath_clusterAt (s : State) (k : Path) (v : PathSt) (j : Nat) : (s.setPath k v).cluster j = s.cluster j := rfl
@[simp] theorem State.setPath_coreAt (s : State) (k : Path) (v : PathSt) (j : Nat) : (s.setPath k v).core j = s.core j := rfl
@[simp] theorem State.setPath_siteAt (s : State) (k : Path) (v : PathSt) (j : Nat) : (s.setPath k v).site j = s.site j := rfl
@[simp] theorem State.setPath_ctxAt (s : State) (k : Path) (v : PathSt) (j : CtxNo) : (s.setPath k v).ctx j = s.ctx j := rfl
@[simp] theorem State.setPath_seqAt (s : State) (k : Path) (v : PathSt) (j : Nat) : (s.setPath k v).seq j = s.seq j := rfl
@[simp] theorem State.setPath_subAt (s : State) (k : Path) (v : PathSt) (j : Nat) : (s.setPath k v).sub? j = s.sub? j := rfl
@[simp] theorem State.setPath_qpAt (s : State) (k : Path) (v : PathSt) (j : Nat) : (s.setPath k v).qp j = s.qp j := rfl
@[simp] theorem State.setPath_combAt (s : State) (k : Path) (v : PathSt) (j : Nat) : (s.setPath k v).comb j = s.comb j := rfl
@[simp] theorem State.setPath_fportAt (s : State) (k : Path) (v : PathSt) (j : PortNo) : (s.setPath k v).fport j = s.fport j := rfl
@[simp] theorem State.setPath_ltAt (s : State) (k : Path) (v : PathSt) (j : PortNo) : (s.setPath k v).lt j = s.lt j := rfl
@[simp] theorem State.setPath_linkAt (s : State) (k : Path) (v : PathSt) (j : BitVec 6) : (s.setPath k v).link j = s.link j := rfl
@[simp] theorem State.setPath_slPortAt (s : State) (k : Path) (v : PathSt) (j : PortNo) : (s.setPath k v).slPort j = s.slPort j := rfl
@[simp] theorem State.setPath_discAt (s : State) (k : Path) (v : PathSt) (j : PortNo) : (s.setPath k v).disc j = s.disc j := rfl
@[simp] theorem State.setPath_triggerAt (s : State) (k : Path) (v : PathSt) (j : Nat) : (s.setPath k v).trigger j = s.trigger j := rfl
@[simp] theorem State.setPath_sessAt (s : State) (k : Path) (v : PathSt) (j : Nat) : (s.setPath k v).sess? j = s.sess? j := rfl
@[simp] theorem State.setPath_polAt (s : State) (k : Path) (v : PathSt) (j : Nat) : (s.setPath k v).pol j = s.pol j := rfl
@[simp] theorem State.setTray_pending (s : State) (k : Nat) (v : Tray) : (s.setTray k v).pending = s.pending := rfl
@[simp] theorem State.setTray_fuse (s : State) (k : Nat) (v : Tray) : (s.setTray k v).fuse = s.fuse := rfl
@[simp] theorem State.setTray_fv (s : State) (k : Nat) (v : Tray) : (s.setTray k v).fv = s.fv := rfl
@[simp] theorem State.setTray_sent (s : State) (k : Nat) (v : Tray) : (s.setTray k v).sent = s.sent := rfl
@[simp] theorem State.setTray_csr (s : State) (k : Nat) (v : Tray) : (s.setTray k v).csr = s.csr := rfl
@[simp] theorem State.setTray_paths (s : State) (k : Nat) (v : Tray) : (s.setTray k v).paths = s.paths := rfl
@[simp] theorem State.setTray_map (s : State) (k : Nat) (v : Tray) : (s.setTray k v).map = s.map := rfl
@[simp] theorem State.setTray_cmap (s : State) (k : Nat) (v : Tray) : (s.setTray k v).cmap = s.cmap := rfl
@[simp] theorem State.setTray_clusters (s : State) (k : Nat) (v : Tray) : (s.setTray k v).clusters = s.clusters := rfl
@[simp] theorem State.setTray_cores (s : State) (k : Nat) (v : Tray) : (s.setTray k v).cores = s.cores := rfl
@[simp] theorem State.setTray_nextId (s : State) (k : Nat) (v : Tray) : (s.setTray k v).nextId = s.nextId := rfl
@[simp] theorem State.setTray_starts (s : State) (k : Nat) (v : Tray) : (s.setTray k v).starts = s.starts := rfl
@[simp] theorem State.setTray_outst (s : State) (k : Nat) (v : Tray) : (s.setTray k v).outst = s.outst := rfl
@[simp] theorem State.setTray_movers (s : State) (k : Nat) (v : Tray) : (s.setTray k v).movers = s.movers := rfl
@[simp] theorem State.setTray_subs (s : State) (k : Nat) (v : Tray) : (s.setTray k v).subs = s.subs := rfl
@[simp] theorem State.setTray_seqs (s : State) (k : Nat) (v : Tray) : (s.setTray k v).seqs = s.seqs := rfl
@[simp] theorem State.setTray_mem (s : State) (k : Nat) (v : Tray) : (s.setTray k v).mem = s.mem := rfl
@[simp] theorem State.setTray_host (s : State) (k : Nat) (v : Tray) : (s.setTray k v).host = s.host := rfl
@[simp] theorem State.setTray_light (s : State) (k : Nat) (v : Tray) : (s.setTray k v).light = s.light := rfl
@[simp] theorem State.setTray_fab (s : State) (k : Nat) (v : Tray) : (s.setTray k v).fab = s.fab := rfl
@[simp] theorem State.setTray_steer (s : State) (k : Nat) (v : Tray) : (s.setTray k v).steer = s.steer := rfl
@[simp] theorem State.setTray_gov (s : State) (k : Nat) (v : Tray) : (s.setTray k v).gov = s.gov := rfl
@[simp] theorem State.setTray_plan (s : State) (k : Nat) (v : Tray) : (s.setTray k v).plan = s.plan := rfl
@[simp] theorem State.setTray_mod (s : State) (k : Nat) (v : Tray) : (s.setTray k v).mod = s.mod := rfl
@[simp] theorem State.setTray_time (s : State) (k : Nat) (v : Tray) : (s.setTray k v).time = s.time := rfl
@[simp] theorem State.setTray_fw (s : State) (k : Nat) (v : Tray) : (s.setTray k v).fw = s.fw := rfl
@[simp] theorem State.setTray_cs (s : State) (k : Nat) (v : Tray) : (s.setTray k v).cs = s.cs := rfl
@[simp] theorem State.setTray_mgmt (s : State) (k : Nat) (v : Tray) : (s.setTray k v).mgmt = s.mgmt := rfl
@[simp] theorem State.setTray_proofMisses (s : State) (k : Nat) (v : Tray) : (s.setTray k v).proofMisses = s.proofMisses := rfl
@[simp] theorem State.setTray_proofRefereed (s : State) (k : Nat) (v : Tray) : (s.setTray k v).proofRefereed = s.proofRefereed := rfl
@[simp] theorem State.setTray_proofNomaj (s : State) (k : Nat) (v : Tray) : (s.setTray k v).proofNomaj = s.proofNomaj := rfl
@[simp] theorem State.setTray_seedsOwed (s : State) (k : Nat) (v : Tray) : (s.setTray k v).seedsOwed = s.seedsOwed := rfl
@[simp] theorem State.setTray_pathAt (s : State) (k : Nat) (v : Tray) (p : Path) : (s.setTray k v).path p = s.path p := rfl
@[simp] theorem State.setTray_clusterAt (s : State) (k : Nat) (v : Tray) (j : Nat) : (s.setTray k v).cluster j = s.cluster j := rfl
@[simp] theorem State.setTray_coreAt (s : State) (k : Nat) (v : Tray) (j : Nat) : (s.setTray k v).core j = s.core j := rfl
@[simp] theorem State.setTray_siteAt (s : State) (k : Nat) (v : Tray) (j : Nat) : (s.setTray k v).site j = s.site j := rfl
@[simp] theorem State.setTray_ctxAt (s : State) (k : Nat) (v : Tray) (j : CtxNo) : (s.setTray k v).ctx j = s.ctx j := rfl
@[simp] theorem State.setTray_seqAt (s : State) (k : Nat) (v : Tray) (j : Nat) : (s.setTray k v).seq j = s.seq j := rfl
@[simp] theorem State.setTray_subAt (s : State) (k : Nat) (v : Tray) (j : Nat) : (s.setTray k v).sub? j = s.sub? j := rfl
@[simp] theorem State.setTray_qpAt (s : State) (k : Nat) (v : Tray) (j : Nat) : (s.setTray k v).qp j = s.qp j := rfl
@[simp] theorem State.setTray_combAt (s : State) (k : Nat) (v : Tray) (j : Nat) : (s.setTray k v).comb j = s.comb j := rfl
@[simp] theorem State.setTray_fportAt (s : State) (k : Nat) (v : Tray) (j : PortNo) : (s.setTray k v).fport j = s.fport j := rfl
@[simp] theorem State.setTray_ltAt (s : State) (k : Nat) (v : Tray) (j : PortNo) : (s.setTray k v).lt j = s.lt j := rfl
@[simp] theorem State.setTray_linkAt (s : State) (k : Nat) (v : Tray) (j : BitVec 6) : (s.setTray k v).link j = s.link j := rfl
@[simp] theorem State.setTray_slPortAt (s : State) (k : Nat) (v : Tray) (j : PortNo) : (s.setTray k v).slPort j = s.slPort j := rfl
@[simp] theorem State.setTray_discAt (s : State) (k : Nat) (v : Tray) (j : PortNo) : (s.setTray k v).disc j = s.disc j := rfl
@[simp] theorem State.setTray_triggerAt (s : State) (k : Nat) (v : Tray) (j : Nat) : (s.setTray k v).trigger j = s.trigger j := rfl
@[simp] theorem State.setTray_sessAt (s : State) (k : Nat) (v : Tray) (j : Nat) : (s.setTray k v).sess? j = s.sess? j := rfl
@[simp] theorem State.setTray_polAt (s : State) (k : Nat) (v : Tray) (j : Nat) : (s.setTray k v).pol j = s.pol j := rfl
@[simp] theorem State.setCluster_pending (s : State) (k : Nat) (v : Cluster) : (s.setCluster k v).pending = s.pending := rfl
@[simp] theorem State.setCluster_fuse (s : State) (k : Nat) (v : Cluster) : (s.setCluster k v).fuse = s.fuse := rfl
@[simp] theorem State.setCluster_fv (s : State) (k : Nat) (v : Cluster) : (s.setCluster k v).fv = s.fv := rfl
@[simp] theorem State.setCluster_sent (s : State) (k : Nat) (v : Cluster) : (s.setCluster k v).sent = s.sent := rfl
@[simp] theorem State.setCluster_csr (s : State) (k : Nat) (v : Cluster) : (s.setCluster k v).csr = s.csr := rfl
@[simp] theorem State.setCluster_paths (s : State) (k : Nat) (v : Cluster) : (s.setCluster k v).paths = s.paths := rfl
@[simp] theorem State.setCluster_map (s : State) (k : Nat) (v : Cluster) : (s.setCluster k v).map = s.map := rfl
@[simp] theorem State.setCluster_cmap (s : State) (k : Nat) (v : Cluster) : (s.setCluster k v).cmap = s.cmap := rfl
@[simp] theorem State.setCluster_trays (s : State) (k : Nat) (v : Cluster) : (s.setCluster k v).trays = s.trays := rfl
@[simp] theorem State.setCluster_cores (s : State) (k : Nat) (v : Cluster) : (s.setCluster k v).cores = s.cores := rfl
@[simp] theorem State.setCluster_nextId (s : State) (k : Nat) (v : Cluster) : (s.setCluster k v).nextId = s.nextId := rfl
@[simp] theorem State.setCluster_starts (s : State) (k : Nat) (v : Cluster) : (s.setCluster k v).starts = s.starts := rfl
@[simp] theorem State.setCluster_outst (s : State) (k : Nat) (v : Cluster) : (s.setCluster k v).outst = s.outst := rfl
@[simp] theorem State.setCluster_movers (s : State) (k : Nat) (v : Cluster) : (s.setCluster k v).movers = s.movers := rfl
@[simp] theorem State.setCluster_subs (s : State) (k : Nat) (v : Cluster) : (s.setCluster k v).subs = s.subs := rfl
@[simp] theorem State.setCluster_seqs (s : State) (k : Nat) (v : Cluster) : (s.setCluster k v).seqs = s.seqs := rfl
@[simp] theorem State.setCluster_mem (s : State) (k : Nat) (v : Cluster) : (s.setCluster k v).mem = s.mem := rfl
@[simp] theorem State.setCluster_host (s : State) (k : Nat) (v : Cluster) : (s.setCluster k v).host = s.host := rfl
@[simp] theorem State.setCluster_light (s : State) (k : Nat) (v : Cluster) : (s.setCluster k v).light = s.light := rfl
@[simp] theorem State.setCluster_fab (s : State) (k : Nat) (v : Cluster) : (s.setCluster k v).fab = s.fab := rfl
@[simp] theorem State.setCluster_steer (s : State) (k : Nat) (v : Cluster) : (s.setCluster k v).steer = s.steer := rfl
@[simp] theorem State.setCluster_gov (s : State) (k : Nat) (v : Cluster) : (s.setCluster k v).gov = s.gov := rfl
@[simp] theorem State.setCluster_plan (s : State) (k : Nat) (v : Cluster) : (s.setCluster k v).plan = s.plan := rfl
@[simp] theorem State.setCluster_mod (s : State) (k : Nat) (v : Cluster) : (s.setCluster k v).mod = s.mod := rfl
@[simp] theorem State.setCluster_time (s : State) (k : Nat) (v : Cluster) : (s.setCluster k v).time = s.time := rfl
@[simp] theorem State.setCluster_fw (s : State) (k : Nat) (v : Cluster) : (s.setCluster k v).fw = s.fw := rfl
@[simp] theorem State.setCluster_cs (s : State) (k : Nat) (v : Cluster) : (s.setCluster k v).cs = s.cs := rfl
@[simp] theorem State.setCluster_mgmt (s : State) (k : Nat) (v : Cluster) : (s.setCluster k v).mgmt = s.mgmt := rfl
@[simp] theorem State.setCluster_proofMisses (s : State) (k : Nat) (v : Cluster) : (s.setCluster k v).proofMisses = s.proofMisses := rfl
@[simp] theorem State.setCluster_proofRefereed (s : State) (k : Nat) (v : Cluster) : (s.setCluster k v).proofRefereed = s.proofRefereed := rfl
@[simp] theorem State.setCluster_proofNomaj (s : State) (k : Nat) (v : Cluster) : (s.setCluster k v).proofNomaj = s.proofNomaj := rfl
@[simp] theorem State.setCluster_seedsOwed (s : State) (k : Nat) (v : Cluster) : (s.setCluster k v).seedsOwed = s.seedsOwed := rfl
@[simp] theorem State.setCluster_pathAt (s : State) (k : Nat) (v : Cluster) (p : Path) : (s.setCluster k v).path p = s.path p := rfl
@[simp] theorem State.setCluster_trayAt (s : State) (k : Nat) (v : Cluster) (j : Nat) : (s.setCluster k v).tray j = s.tray j := rfl
@[simp] theorem State.setCluster_siteAt (s : State) (k : Nat) (v : Cluster) (j : Nat) : (s.setCluster k v).site j = s.site j := rfl
@[simp] theorem State.setCluster_ctxAt (s : State) (k : Nat) (v : Cluster) (j : CtxNo) : (s.setCluster k v).ctx j = s.ctx j := rfl
@[simp] theorem State.setCluster_seqAt (s : State) (k : Nat) (v : Cluster) (j : Nat) : (s.setCluster k v).seq j = s.seq j := rfl
@[simp] theorem State.setCluster_subAt (s : State) (k : Nat) (v : Cluster) (j : Nat) : (s.setCluster k v).sub? j = s.sub? j := rfl
@[simp] theorem State.setCluster_qpAt (s : State) (k : Nat) (v : Cluster) (j : Nat) : (s.setCluster k v).qp j = s.qp j := rfl
@[simp] theorem State.setCluster_combAt (s : State) (k : Nat) (v : Cluster) (j : Nat) : (s.setCluster k v).comb j = s.comb j := rfl
@[simp] theorem State.setCluster_fportAt (s : State) (k : Nat) (v : Cluster) (j : PortNo) : (s.setCluster k v).fport j = s.fport j := rfl
@[simp] theorem State.setCluster_ltAt (s : State) (k : Nat) (v : Cluster) (j : PortNo) : (s.setCluster k v).lt j = s.lt j := rfl
@[simp] theorem State.setCluster_linkAt (s : State) (k : Nat) (v : Cluster) (j : BitVec 6) : (s.setCluster k v).link j = s.link j := rfl
@[simp] theorem State.setCluster_slPortAt (s : State) (k : Nat) (v : Cluster) (j : PortNo) : (s.setCluster k v).slPort j = s.slPort j := rfl
@[simp] theorem State.setCluster_discAt (s : State) (k : Nat) (v : Cluster) (j : PortNo) : (s.setCluster k v).disc j = s.disc j := rfl
@[simp] theorem State.setCluster_triggerAt (s : State) (k : Nat) (v : Cluster) (j : Nat) : (s.setCluster k v).trigger j = s.trigger j := rfl
@[simp] theorem State.setCluster_sessAt (s : State) (k : Nat) (v : Cluster) (j : Nat) : (s.setCluster k v).sess? j = s.sess? j := rfl
@[simp] theorem State.setCluster_polAt (s : State) (k : Nat) (v : Cluster) (j : Nat) : (s.setCluster k v).pol j = s.pol j := rfl
@[simp] theorem State.setCore_pending (s : State) (k : Nat) (v : Core) : (s.setCore k v).pending = s.pending := rfl
@[simp] theorem State.setCore_fuse (s : State) (k : Nat) (v : Core) : (s.setCore k v).fuse = s.fuse := rfl
@[simp] theorem State.setCore_fv (s : State) (k : Nat) (v : Core) : (s.setCore k v).fv = s.fv := rfl
@[simp] theorem State.setCore_sent (s : State) (k : Nat) (v : Core) : (s.setCore k v).sent = s.sent := rfl
@[simp] theorem State.setCore_csr (s : State) (k : Nat) (v : Core) : (s.setCore k v).csr = s.csr := rfl
@[simp] theorem State.setCore_paths (s : State) (k : Nat) (v : Core) : (s.setCore k v).paths = s.paths := rfl
@[simp] theorem State.setCore_map (s : State) (k : Nat) (v : Core) : (s.setCore k v).map = s.map := rfl
@[simp] theorem State.setCore_cmap (s : State) (k : Nat) (v : Core) : (s.setCore k v).cmap = s.cmap := rfl
@[simp] theorem State.setCore_trays (s : State) (k : Nat) (v : Core) : (s.setCore k v).trays = s.trays := rfl
@[simp] theorem State.setCore_clusters (s : State) (k : Nat) (v : Core) : (s.setCore k v).clusters = s.clusters := rfl
@[simp] theorem State.setCore_nextId (s : State) (k : Nat) (v : Core) : (s.setCore k v).nextId = s.nextId := rfl
@[simp] theorem State.setCore_starts (s : State) (k : Nat) (v : Core) : (s.setCore k v).starts = s.starts := rfl
@[simp] theorem State.setCore_outst (s : State) (k : Nat) (v : Core) : (s.setCore k v).outst = s.outst := rfl
@[simp] theorem State.setCore_movers (s : State) (k : Nat) (v : Core) : (s.setCore k v).movers = s.movers := rfl
@[simp] theorem State.setCore_subs (s : State) (k : Nat) (v : Core) : (s.setCore k v).subs = s.subs := rfl
@[simp] theorem State.setCore_seqs (s : State) (k : Nat) (v : Core) : (s.setCore k v).seqs = s.seqs := rfl
@[simp] theorem State.setCore_mem (s : State) (k : Nat) (v : Core) : (s.setCore k v).mem = s.mem := rfl
@[simp] theorem State.setCore_host (s : State) (k : Nat) (v : Core) : (s.setCore k v).host = s.host := rfl
@[simp] theorem State.setCore_light (s : State) (k : Nat) (v : Core) : (s.setCore k v).light = s.light := rfl
@[simp] theorem State.setCore_fab (s : State) (k : Nat) (v : Core) : (s.setCore k v).fab = s.fab := rfl
@[simp] theorem State.setCore_steer (s : State) (k : Nat) (v : Core) : (s.setCore k v).steer = s.steer := rfl
@[simp] theorem State.setCore_gov (s : State) (k : Nat) (v : Core) : (s.setCore k v).gov = s.gov := rfl
@[simp] theorem State.setCore_plan (s : State) (k : Nat) (v : Core) : (s.setCore k v).plan = s.plan := rfl
@[simp] theorem State.setCore_mod (s : State) (k : Nat) (v : Core) : (s.setCore k v).mod = s.mod := rfl
@[simp] theorem State.setCore_time (s : State) (k : Nat) (v : Core) : (s.setCore k v).time = s.time := rfl
@[simp] theorem State.setCore_fw (s : State) (k : Nat) (v : Core) : (s.setCore k v).fw = s.fw := rfl
@[simp] theorem State.setCore_cs (s : State) (k : Nat) (v : Core) : (s.setCore k v).cs = s.cs := rfl
@[simp] theorem State.setCore_mgmt (s : State) (k : Nat) (v : Core) : (s.setCore k v).mgmt = s.mgmt := rfl
@[simp] theorem State.setCore_proofMisses (s : State) (k : Nat) (v : Core) : (s.setCore k v).proofMisses = s.proofMisses := rfl
@[simp] theorem State.setCore_proofRefereed (s : State) (k : Nat) (v : Core) : (s.setCore k v).proofRefereed = s.proofRefereed := rfl
@[simp] theorem State.setCore_proofNomaj (s : State) (k : Nat) (v : Core) : (s.setCore k v).proofNomaj = s.proofNomaj := rfl
@[simp] theorem State.setCore_seedsOwed (s : State) (k : Nat) (v : Core) : (s.setCore k v).seedsOwed = s.seedsOwed := rfl
@[simp] theorem State.setCore_pathAt (s : State) (k : Nat) (v : Core) (p : Path) : (s.setCore k v).path p = s.path p := rfl
@[simp] theorem State.setCore_trayAt (s : State) (k : Nat) (v : Core) (j : Nat) : (s.setCore k v).tray j = s.tray j := rfl
@[simp] theorem State.setCore_clusterAt (s : State) (k : Nat) (v : Core) (j : Nat) : (s.setCore k v).cluster j = s.cluster j := rfl
@[simp] theorem State.setCore_siteAt (s : State) (k : Nat) (v : Core) (j : Nat) : (s.setCore k v).site j = s.site j := rfl
@[simp] theorem State.setCore_ctxAt (s : State) (k : Nat) (v : Core) (j : CtxNo) : (s.setCore k v).ctx j = s.ctx j := rfl
@[simp] theorem State.setCore_seqAt (s : State) (k : Nat) (v : Core) (j : Nat) : (s.setCore k v).seq j = s.seq j := rfl
@[simp] theorem State.setCore_subAt (s : State) (k : Nat) (v : Core) (j : Nat) : (s.setCore k v).sub? j = s.sub? j := rfl
@[simp] theorem State.setCore_qpAt (s : State) (k : Nat) (v : Core) (j : Nat) : (s.setCore k v).qp j = s.qp j := rfl
@[simp] theorem State.setCore_combAt (s : State) (k : Nat) (v : Core) (j : Nat) : (s.setCore k v).comb j = s.comb j := rfl
@[simp] theorem State.setCore_fportAt (s : State) (k : Nat) (v : Core) (j : PortNo) : (s.setCore k v).fport j = s.fport j := rfl
@[simp] theorem State.setCore_ltAt (s : State) (k : Nat) (v : Core) (j : PortNo) : (s.setCore k v).lt j = s.lt j := rfl
@[simp] theorem State.setCore_linkAt (s : State) (k : Nat) (v : Core) (j : BitVec 6) : (s.setCore k v).link j = s.link j := rfl
@[simp] theorem State.setCore_slPortAt (s : State) (k : Nat) (v : Core) (j : PortNo) : (s.setCore k v).slPort j = s.slPort j := rfl
@[simp] theorem State.setCore_discAt (s : State) (k : Nat) (v : Core) (j : PortNo) : (s.setCore k v).disc j = s.disc j := rfl
@[simp] theorem State.setCore_triggerAt (s : State) (k : Nat) (v : Core) (j : Nat) : (s.setCore k v).trigger j = s.trigger j := rfl
@[simp] theorem State.setCore_sessAt (s : State) (k : Nat) (v : Core) (j : Nat) : (s.setCore k v).sess? j = s.sess? j := rfl
@[simp] theorem State.setCore_polAt (s : State) (k : Nat) (v : Core) (j : Nat) : (s.setCore k v).pol j = s.pol j := rfl
@[simp] theorem State.setSite_pending (s : State) (k : Nat) (v : Site) : (s.setSite k v).pending = s.pending := rfl
@[simp] theorem State.setSite_fuse (s : State) (k : Nat) (v : Site) : (s.setSite k v).fuse = s.fuse := rfl
@[simp] theorem State.setSite_fv (s : State) (k : Nat) (v : Site) : (s.setSite k v).fv = s.fv := rfl
@[simp] theorem State.setSite_sent (s : State) (k : Nat) (v : Site) : (s.setSite k v).sent = s.sent := rfl
@[simp] theorem State.setSite_csr (s : State) (k : Nat) (v : Site) : (s.setSite k v).csr = s.csr := rfl
@[simp] theorem State.setSite_paths (s : State) (k : Nat) (v : Site) : (s.setSite k v).paths = s.paths := rfl
@[simp] theorem State.setSite_map (s : State) (k : Nat) (v : Site) : (s.setSite k v).map = s.map := rfl
@[simp] theorem State.setSite_cmap (s : State) (k : Nat) (v : Site) : (s.setSite k v).cmap = s.cmap := rfl
@[simp] theorem State.setSite_trays (s : State) (k : Nat) (v : Site) : (s.setSite k v).trays = s.trays := rfl
@[simp] theorem State.setSite_clusters (s : State) (k : Nat) (v : Site) : (s.setSite k v).clusters = s.clusters := rfl
@[simp] theorem State.setSite_cores (s : State) (k : Nat) (v : Site) : (s.setSite k v).cores = s.cores := rfl
@[simp] theorem State.setSite_nextId (s : State) (k : Nat) (v : Site) : (s.setSite k v).nextId = s.nextId := rfl
@[simp] theorem State.setSite_starts (s : State) (k : Nat) (v : Site) : (s.setSite k v).starts = s.starts := rfl
@[simp] theorem State.setSite_outst (s : State) (k : Nat) (v : Site) : (s.setSite k v).outst = s.outst := rfl
@[simp] theorem State.setSite_movers (s : State) (k : Nat) (v : Site) : (s.setSite k v).movers = s.movers := rfl
@[simp] theorem State.setSite_subs (s : State) (k : Nat) (v : Site) : (s.setSite k v).subs = s.subs := rfl
@[simp] theorem State.setSite_seqs (s : State) (k : Nat) (v : Site) : (s.setSite k v).seqs = s.seqs := rfl
@[simp] theorem State.setSite_host (s : State) (k : Nat) (v : Site) : (s.setSite k v).host = s.host := rfl
@[simp] theorem State.setSite_light (s : State) (k : Nat) (v : Site) : (s.setSite k v).light = s.light := rfl
@[simp] theorem State.setSite_fab (s : State) (k : Nat) (v : Site) : (s.setSite k v).fab = s.fab := rfl
@[simp] theorem State.setSite_steer (s : State) (k : Nat) (v : Site) : (s.setSite k v).steer = s.steer := rfl
@[simp] theorem State.setSite_gov (s : State) (k : Nat) (v : Site) : (s.setSite k v).gov = s.gov := rfl
@[simp] theorem State.setSite_plan (s : State) (k : Nat) (v : Site) : (s.setSite k v).plan = s.plan := rfl
@[simp] theorem State.setSite_mod (s : State) (k : Nat) (v : Site) : (s.setSite k v).mod = s.mod := rfl
@[simp] theorem State.setSite_time (s : State) (k : Nat) (v : Site) : (s.setSite k v).time = s.time := rfl
@[simp] theorem State.setSite_fw (s : State) (k : Nat) (v : Site) : (s.setSite k v).fw = s.fw := rfl
@[simp] theorem State.setSite_cs (s : State) (k : Nat) (v : Site) : (s.setSite k v).cs = s.cs := rfl
@[simp] theorem State.setSite_mgmt (s : State) (k : Nat) (v : Site) : (s.setSite k v).mgmt = s.mgmt := rfl
@[simp] theorem State.setSite_proofMisses (s : State) (k : Nat) (v : Site) : (s.setSite k v).proofMisses = s.proofMisses := rfl
@[simp] theorem State.setSite_proofRefereed (s : State) (k : Nat) (v : Site) : (s.setSite k v).proofRefereed = s.proofRefereed := rfl
@[simp] theorem State.setSite_proofNomaj (s : State) (k : Nat) (v : Site) : (s.setSite k v).proofNomaj = s.proofNomaj := rfl
@[simp] theorem State.setSite_seedsOwed (s : State) (k : Nat) (v : Site) : (s.setSite k v).seedsOwed = s.seedsOwed := rfl
@[simp] theorem State.setSite_pathAt (s : State) (k : Nat) (v : Site) (p : Path) : (s.setSite k v).path p = s.path p := rfl
@[simp] theorem State.setSite_trayAt (s : State) (k : Nat) (v : Site) (j : Nat) : (s.setSite k v).tray j = s.tray j := rfl
@[simp] theorem State.setSite_clusterAt (s : State) (k : Nat) (v : Site) (j : Nat) : (s.setSite k v).cluster j = s.cluster j := rfl
@[simp] theorem State.setSite_coreAt (s : State) (k : Nat) (v : Site) (j : Nat) : (s.setSite k v).core j = s.core j := rfl
@[simp] theorem State.setSite_ctxAt (s : State) (k : Nat) (v : Site) (j : CtxNo) : (s.setSite k v).ctx j = s.ctx j := rfl
@[simp] theorem State.setSite_seqAt (s : State) (k : Nat) (v : Site) (j : Nat) : (s.setSite k v).seq j = s.seq j := rfl
@[simp] theorem State.setSite_subAt (s : State) (k : Nat) (v : Site) (j : Nat) : (s.setSite k v).sub? j = s.sub? j := rfl
@[simp] theorem State.setSite_qpAt (s : State) (k : Nat) (v : Site) (j : Nat) : (s.setSite k v).qp j = s.qp j := rfl
@[simp] theorem State.setSite_combAt (s : State) (k : Nat) (v : Site) (j : Nat) : (s.setSite k v).comb j = s.comb j := rfl
@[simp] theorem State.setSite_fportAt (s : State) (k : Nat) (v : Site) (j : PortNo) : (s.setSite k v).fport j = s.fport j := rfl
@[simp] theorem State.setSite_ltAt (s : State) (k : Nat) (v : Site) (j : PortNo) : (s.setSite k v).lt j = s.lt j := rfl
@[simp] theorem State.setSite_linkAt (s : State) (k : Nat) (v : Site) (j : BitVec 6) : (s.setSite k v).link j = s.link j := rfl
@[simp] theorem State.setSite_slPortAt (s : State) (k : Nat) (v : Site) (j : PortNo) : (s.setSite k v).slPort j = s.slPort j := rfl
@[simp] theorem State.setSite_discAt (s : State) (k : Nat) (v : Site) (j : PortNo) : (s.setSite k v).disc j = s.disc j := rfl
@[simp] theorem State.setSite_triggerAt (s : State) (k : Nat) (v : Site) (j : Nat) : (s.setSite k v).trigger j = s.trigger j := rfl
@[simp] theorem State.setSite_sessAt (s : State) (k : Nat) (v : Site) (j : Nat) : (s.setSite k v).sess? j = s.sess? j := rfl
@[simp] theorem State.setSite_polAt (s : State) (k : Nat) (v : Site) (j : Nat) : (s.setSite k v).pol j = s.pol j := rfl
@[simp] theorem State.setCtx_pending (s : State) (k : CtxNo) (v : Ctx) : (s.setCtx k v).pending = s.pending := rfl
@[simp] theorem State.setCtx_fuse (s : State) (k : CtxNo) (v : Ctx) : (s.setCtx k v).fuse = s.fuse := rfl
@[simp] theorem State.setCtx_fv (s : State) (k : CtxNo) (v : Ctx) : (s.setCtx k v).fv = s.fv := rfl
@[simp] theorem State.setCtx_sent (s : State) (k : CtxNo) (v : Ctx) : (s.setCtx k v).sent = s.sent := rfl
@[simp] theorem State.setCtx_csr (s : State) (k : CtxNo) (v : Ctx) : (s.setCtx k v).csr = s.csr := rfl
@[simp] theorem State.setCtx_paths (s : State) (k : CtxNo) (v : Ctx) : (s.setCtx k v).paths = s.paths := rfl
@[simp] theorem State.setCtx_map (s : State) (k : CtxNo) (v : Ctx) : (s.setCtx k v).map = s.map := rfl
@[simp] theorem State.setCtx_cmap (s : State) (k : CtxNo) (v : Ctx) : (s.setCtx k v).cmap = s.cmap := rfl
@[simp] theorem State.setCtx_trays (s : State) (k : CtxNo) (v : Ctx) : (s.setCtx k v).trays = s.trays := rfl
@[simp] theorem State.setCtx_clusters (s : State) (k : CtxNo) (v : Ctx) : (s.setCtx k v).clusters = s.clusters := rfl
@[simp] theorem State.setCtx_cores (s : State) (k : CtxNo) (v : Ctx) : (s.setCtx k v).cores = s.cores := rfl
@[simp] theorem State.setCtx_nextId (s : State) (k : CtxNo) (v : Ctx) : (s.setCtx k v).nextId = s.nextId := rfl
@[simp] theorem State.setCtx_starts (s : State) (k : CtxNo) (v : Ctx) : (s.setCtx k v).starts = s.starts := rfl
@[simp] theorem State.setCtx_outst (s : State) (k : CtxNo) (v : Ctx) : (s.setCtx k v).outst = s.outst := rfl
@[simp] theorem State.setCtx_movers (s : State) (k : CtxNo) (v : Ctx) : (s.setCtx k v).movers = s.movers := rfl
@[simp] theorem State.setCtx_subs (s : State) (k : CtxNo) (v : Ctx) : (s.setCtx k v).subs = s.subs := rfl
@[simp] theorem State.setCtx_seqs (s : State) (k : CtxNo) (v : Ctx) : (s.setCtx k v).seqs = s.seqs := rfl
@[simp] theorem State.setCtx_host (s : State) (k : CtxNo) (v : Ctx) : (s.setCtx k v).host = s.host := rfl
@[simp] theorem State.setCtx_light (s : State) (k : CtxNo) (v : Ctx) : (s.setCtx k v).light = s.light := rfl
@[simp] theorem State.setCtx_fab (s : State) (k : CtxNo) (v : Ctx) : (s.setCtx k v).fab = s.fab := rfl
@[simp] theorem State.setCtx_steer (s : State) (k : CtxNo) (v : Ctx) : (s.setCtx k v).steer = s.steer := rfl
@[simp] theorem State.setCtx_gov (s : State) (k : CtxNo) (v : Ctx) : (s.setCtx k v).gov = s.gov := rfl
@[simp] theorem State.setCtx_plan (s : State) (k : CtxNo) (v : Ctx) : (s.setCtx k v).plan = s.plan := rfl
@[simp] theorem State.setCtx_mod (s : State) (k : CtxNo) (v : Ctx) : (s.setCtx k v).mod = s.mod := rfl
@[simp] theorem State.setCtx_time (s : State) (k : CtxNo) (v : Ctx) : (s.setCtx k v).time = s.time := rfl
@[simp] theorem State.setCtx_fw (s : State) (k : CtxNo) (v : Ctx) : (s.setCtx k v).fw = s.fw := rfl
@[simp] theorem State.setCtx_cs (s : State) (k : CtxNo) (v : Ctx) : (s.setCtx k v).cs = s.cs := rfl
@[simp] theorem State.setCtx_mgmt (s : State) (k : CtxNo) (v : Ctx) : (s.setCtx k v).mgmt = s.mgmt := rfl
@[simp] theorem State.setCtx_proofMisses (s : State) (k : CtxNo) (v : Ctx) : (s.setCtx k v).proofMisses = s.proofMisses := rfl
@[simp] theorem State.setCtx_proofRefereed (s : State) (k : CtxNo) (v : Ctx) : (s.setCtx k v).proofRefereed = s.proofRefereed := rfl
@[simp] theorem State.setCtx_proofNomaj (s : State) (k : CtxNo) (v : Ctx) : (s.setCtx k v).proofNomaj = s.proofNomaj := rfl
@[simp] theorem State.setCtx_seedsOwed (s : State) (k : CtxNo) (v : Ctx) : (s.setCtx k v).seedsOwed = s.seedsOwed := rfl
@[simp] theorem State.setCtx_pathAt (s : State) (k : CtxNo) (v : Ctx) (p : Path) : (s.setCtx k v).path p = s.path p := rfl
@[simp] theorem State.setCtx_trayAt (s : State) (k : CtxNo) (v : Ctx) (j : Nat) : (s.setCtx k v).tray j = s.tray j := rfl
@[simp] theorem State.setCtx_clusterAt (s : State) (k : CtxNo) (v : Ctx) (j : Nat) : (s.setCtx k v).cluster j = s.cluster j := rfl
@[simp] theorem State.setCtx_coreAt (s : State) (k : CtxNo) (v : Ctx) (j : Nat) : (s.setCtx k v).core j = s.core j := rfl
@[simp] theorem State.setCtx_siteAt (s : State) (k : CtxNo) (v : Ctx) (j : Nat) : (s.setCtx k v).site j = s.site j := rfl
@[simp] theorem State.setCtx_seqAt (s : State) (k : CtxNo) (v : Ctx) (j : Nat) : (s.setCtx k v).seq j = s.seq j := rfl
@[simp] theorem State.setCtx_subAt (s : State) (k : CtxNo) (v : Ctx) (j : Nat) : (s.setCtx k v).sub? j = s.sub? j := rfl
@[simp] theorem State.setCtx_qpAt (s : State) (k : CtxNo) (v : Ctx) (j : Nat) : (s.setCtx k v).qp j = s.qp j := rfl
@[simp] theorem State.setCtx_combAt (s : State) (k : CtxNo) (v : Ctx) (j : Nat) : (s.setCtx k v).comb j = s.comb j := rfl
@[simp] theorem State.setCtx_fportAt (s : State) (k : CtxNo) (v : Ctx) (j : PortNo) : (s.setCtx k v).fport j = s.fport j := rfl
@[simp] theorem State.setCtx_ltAt (s : State) (k : CtxNo) (v : Ctx) (j : PortNo) : (s.setCtx k v).lt j = s.lt j := rfl
@[simp] theorem State.setCtx_linkAt (s : State) (k : CtxNo) (v : Ctx) (j : BitVec 6) : (s.setCtx k v).link j = s.link j := rfl
@[simp] theorem State.setCtx_slPortAt (s : State) (k : CtxNo) (v : Ctx) (j : PortNo) : (s.setCtx k v).slPort j = s.slPort j := rfl
@[simp] theorem State.setCtx_discAt (s : State) (k : CtxNo) (v : Ctx) (j : PortNo) : (s.setCtx k v).disc j = s.disc j := rfl
@[simp] theorem State.setCtx_triggerAt (s : State) (k : CtxNo) (v : Ctx) (j : Nat) : (s.setCtx k v).trigger j = s.trigger j := rfl
@[simp] theorem State.setCtx_sessAt (s : State) (k : CtxNo) (v : Ctx) (j : Nat) : (s.setCtx k v).sess? j = s.sess? j := rfl
@[simp] theorem State.setCtx_polAt (s : State) (k : CtxNo) (v : Ctx) (j : Nat) : (s.setCtx k v).pol j = s.pol j := rfl
@[simp] theorem State.setSeq_pending (s : State) (k : Nat) (v : SeqSlot) : (s.setSeq k v).pending = s.pending := rfl
@[simp] theorem State.setSeq_fuse (s : State) (k : Nat) (v : SeqSlot) : (s.setSeq k v).fuse = s.fuse := rfl
@[simp] theorem State.setSeq_fv (s : State) (k : Nat) (v : SeqSlot) : (s.setSeq k v).fv = s.fv := rfl
@[simp] theorem State.setSeq_sent (s : State) (k : Nat) (v : SeqSlot) : (s.setSeq k v).sent = s.sent := rfl
@[simp] theorem State.setSeq_csr (s : State) (k : Nat) (v : SeqSlot) : (s.setSeq k v).csr = s.csr := rfl
@[simp] theorem State.setSeq_paths (s : State) (k : Nat) (v : SeqSlot) : (s.setSeq k v).paths = s.paths := rfl
@[simp] theorem State.setSeq_map (s : State) (k : Nat) (v : SeqSlot) : (s.setSeq k v).map = s.map := rfl
@[simp] theorem State.setSeq_cmap (s : State) (k : Nat) (v : SeqSlot) : (s.setSeq k v).cmap = s.cmap := rfl
@[simp] theorem State.setSeq_trays (s : State) (k : Nat) (v : SeqSlot) : (s.setSeq k v).trays = s.trays := rfl
@[simp] theorem State.setSeq_clusters (s : State) (k : Nat) (v : SeqSlot) : (s.setSeq k v).clusters = s.clusters := rfl
@[simp] theorem State.setSeq_cores (s : State) (k : Nat) (v : SeqSlot) : (s.setSeq k v).cores = s.cores := rfl
@[simp] theorem State.setSeq_nextId (s : State) (k : Nat) (v : SeqSlot) : (s.setSeq k v).nextId = s.nextId := rfl
@[simp] theorem State.setSeq_starts (s : State) (k : Nat) (v : SeqSlot) : (s.setSeq k v).starts = s.starts := rfl
@[simp] theorem State.setSeq_outst (s : State) (k : Nat) (v : SeqSlot) : (s.setSeq k v).outst = s.outst := rfl
@[simp] theorem State.setSeq_movers (s : State) (k : Nat) (v : SeqSlot) : (s.setSeq k v).movers = s.movers := rfl
@[simp] theorem State.setSeq_subs (s : State) (k : Nat) (v : SeqSlot) : (s.setSeq k v).subs = s.subs := rfl
@[simp] theorem State.setSeq_mem (s : State) (k : Nat) (v : SeqSlot) : (s.setSeq k v).mem = s.mem := rfl
@[simp] theorem State.setSeq_host (s : State) (k : Nat) (v : SeqSlot) : (s.setSeq k v).host = s.host := rfl
@[simp] theorem State.setSeq_light (s : State) (k : Nat) (v : SeqSlot) : (s.setSeq k v).light = s.light := rfl
@[simp] theorem State.setSeq_fab (s : State) (k : Nat) (v : SeqSlot) : (s.setSeq k v).fab = s.fab := rfl
@[simp] theorem State.setSeq_steer (s : State) (k : Nat) (v : SeqSlot) : (s.setSeq k v).steer = s.steer := rfl
@[simp] theorem State.setSeq_gov (s : State) (k : Nat) (v : SeqSlot) : (s.setSeq k v).gov = s.gov := rfl
@[simp] theorem State.setSeq_plan (s : State) (k : Nat) (v : SeqSlot) : (s.setSeq k v).plan = s.plan := rfl
@[simp] theorem State.setSeq_mod (s : State) (k : Nat) (v : SeqSlot) : (s.setSeq k v).mod = s.mod := rfl
@[simp] theorem State.setSeq_time (s : State) (k : Nat) (v : SeqSlot) : (s.setSeq k v).time = s.time := rfl
@[simp] theorem State.setSeq_fw (s : State) (k : Nat) (v : SeqSlot) : (s.setSeq k v).fw = s.fw := rfl
@[simp] theorem State.setSeq_cs (s : State) (k : Nat) (v : SeqSlot) : (s.setSeq k v).cs = s.cs := rfl
@[simp] theorem State.setSeq_mgmt (s : State) (k : Nat) (v : SeqSlot) : (s.setSeq k v).mgmt = s.mgmt := rfl
@[simp] theorem State.setSeq_proofMisses (s : State) (k : Nat) (v : SeqSlot) : (s.setSeq k v).proofMisses = s.proofMisses := rfl
@[simp] theorem State.setSeq_proofRefereed (s : State) (k : Nat) (v : SeqSlot) : (s.setSeq k v).proofRefereed = s.proofRefereed := rfl
@[simp] theorem State.setSeq_proofNomaj (s : State) (k : Nat) (v : SeqSlot) : (s.setSeq k v).proofNomaj = s.proofNomaj := rfl
@[simp] theorem State.setSeq_seedsOwed (s : State) (k : Nat) (v : SeqSlot) : (s.setSeq k v).seedsOwed = s.seedsOwed := rfl
@[simp] theorem State.setSeq_pathAt (s : State) (k : Nat) (v : SeqSlot) (p : Path) : (s.setSeq k v).path p = s.path p := rfl
@[simp] theorem State.setSeq_trayAt (s : State) (k : Nat) (v : SeqSlot) (j : Nat) : (s.setSeq k v).tray j = s.tray j := rfl
@[simp] theorem State.setSeq_clusterAt (s : State) (k : Nat) (v : SeqSlot) (j : Nat) : (s.setSeq k v).cluster j = s.cluster j := rfl
@[simp] theorem State.setSeq_coreAt (s : State) (k : Nat) (v : SeqSlot) (j : Nat) : (s.setSeq k v).core j = s.core j := rfl
@[simp] theorem State.setSeq_siteAt (s : State) (k : Nat) (v : SeqSlot) (j : Nat) : (s.setSeq k v).site j = s.site j := rfl
@[simp] theorem State.setSeq_ctxAt (s : State) (k : Nat) (v : SeqSlot) (j : CtxNo) : (s.setSeq k v).ctx j = s.ctx j := rfl
@[simp] theorem State.setSeq_subAt (s : State) (k : Nat) (v : SeqSlot) (j : Nat) : (s.setSeq k v).sub? j = s.sub? j := rfl
@[simp] theorem State.setSeq_qpAt (s : State) (k : Nat) (v : SeqSlot) (j : Nat) : (s.setSeq k v).qp j = s.qp j := rfl
@[simp] theorem State.setSeq_combAt (s : State) (k : Nat) (v : SeqSlot) (j : Nat) : (s.setSeq k v).comb j = s.comb j := rfl
@[simp] theorem State.setSeq_fportAt (s : State) (k : Nat) (v : SeqSlot) (j : PortNo) : (s.setSeq k v).fport j = s.fport j := rfl
@[simp] theorem State.setSeq_ltAt (s : State) (k : Nat) (v : SeqSlot) (j : PortNo) : (s.setSeq k v).lt j = s.lt j := rfl
@[simp] theorem State.setSeq_linkAt (s : State) (k : Nat) (v : SeqSlot) (j : BitVec 6) : (s.setSeq k v).link j = s.link j := rfl
@[simp] theorem State.setSeq_slPortAt (s : State) (k : Nat) (v : SeqSlot) (j : PortNo) : (s.setSeq k v).slPort j = s.slPort j := rfl
@[simp] theorem State.setSeq_discAt (s : State) (k : Nat) (v : SeqSlot) (j : PortNo) : (s.setSeq k v).disc j = s.disc j := rfl
@[simp] theorem State.setSeq_triggerAt (s : State) (k : Nat) (v : SeqSlot) (j : Nat) : (s.setSeq k v).trigger j = s.trigger j := rfl
@[simp] theorem State.setSeq_sessAt (s : State) (k : Nat) (v : SeqSlot) (j : Nat) : (s.setSeq k v).sess? j = s.sess? j := rfl
@[simp] theorem State.setSeq_polAt (s : State) (k : Nat) (v : SeqSlot) (j : Nat) : (s.setSeq k v).pol j = s.pol j := rfl
@[simp] theorem State.setSub_pending (s : State) (k : Nat) (v : Sub) : (s.setSub k v).pending = s.pending := rfl
@[simp] theorem State.setSub_fuse (s : State) (k : Nat) (v : Sub) : (s.setSub k v).fuse = s.fuse := rfl
@[simp] theorem State.setSub_fv (s : State) (k : Nat) (v : Sub) : (s.setSub k v).fv = s.fv := rfl
@[simp] theorem State.setSub_sent (s : State) (k : Nat) (v : Sub) : (s.setSub k v).sent = s.sent := rfl
@[simp] theorem State.setSub_csr (s : State) (k : Nat) (v : Sub) : (s.setSub k v).csr = s.csr := rfl
@[simp] theorem State.setSub_paths (s : State) (k : Nat) (v : Sub) : (s.setSub k v).paths = s.paths := rfl
@[simp] theorem State.setSub_map (s : State) (k : Nat) (v : Sub) : (s.setSub k v).map = s.map := rfl
@[simp] theorem State.setSub_cmap (s : State) (k : Nat) (v : Sub) : (s.setSub k v).cmap = s.cmap := rfl
@[simp] theorem State.setSub_trays (s : State) (k : Nat) (v : Sub) : (s.setSub k v).trays = s.trays := rfl
@[simp] theorem State.setSub_clusters (s : State) (k : Nat) (v : Sub) : (s.setSub k v).clusters = s.clusters := rfl
@[simp] theorem State.setSub_cores (s : State) (k : Nat) (v : Sub) : (s.setSub k v).cores = s.cores := rfl
@[simp] theorem State.setSub_nextId (s : State) (k : Nat) (v : Sub) : (s.setSub k v).nextId = s.nextId := rfl
@[simp] theorem State.setSub_starts (s : State) (k : Nat) (v : Sub) : (s.setSub k v).starts = s.starts := rfl
@[simp] theorem State.setSub_outst (s : State) (k : Nat) (v : Sub) : (s.setSub k v).outst = s.outst := rfl
@[simp] theorem State.setSub_movers (s : State) (k : Nat) (v : Sub) : (s.setSub k v).movers = s.movers := rfl
@[simp] theorem State.setSub_seqs (s : State) (k : Nat) (v : Sub) : (s.setSub k v).seqs = s.seqs := rfl
@[simp] theorem State.setSub_mem (s : State) (k : Nat) (v : Sub) : (s.setSub k v).mem = s.mem := rfl
@[simp] theorem State.setSub_host (s : State) (k : Nat) (v : Sub) : (s.setSub k v).host = s.host := rfl
@[simp] theorem State.setSub_light (s : State) (k : Nat) (v : Sub) : (s.setSub k v).light = s.light := rfl
@[simp] theorem State.setSub_fab (s : State) (k : Nat) (v : Sub) : (s.setSub k v).fab = s.fab := rfl
@[simp] theorem State.setSub_steer (s : State) (k : Nat) (v : Sub) : (s.setSub k v).steer = s.steer := rfl
@[simp] theorem State.setSub_gov (s : State) (k : Nat) (v : Sub) : (s.setSub k v).gov = s.gov := rfl
@[simp] theorem State.setSub_plan (s : State) (k : Nat) (v : Sub) : (s.setSub k v).plan = s.plan := rfl
@[simp] theorem State.setSub_mod (s : State) (k : Nat) (v : Sub) : (s.setSub k v).mod = s.mod := rfl
@[simp] theorem State.setSub_time (s : State) (k : Nat) (v : Sub) : (s.setSub k v).time = s.time := rfl
@[simp] theorem State.setSub_fw (s : State) (k : Nat) (v : Sub) : (s.setSub k v).fw = s.fw := rfl
@[simp] theorem State.setSub_cs (s : State) (k : Nat) (v : Sub) : (s.setSub k v).cs = s.cs := rfl
@[simp] theorem State.setSub_mgmt (s : State) (k : Nat) (v : Sub) : (s.setSub k v).mgmt = s.mgmt := rfl
@[simp] theorem State.setSub_proofMisses (s : State) (k : Nat) (v : Sub) : (s.setSub k v).proofMisses = s.proofMisses := rfl
@[simp] theorem State.setSub_proofRefereed (s : State) (k : Nat) (v : Sub) : (s.setSub k v).proofRefereed = s.proofRefereed := rfl
@[simp] theorem State.setSub_proofNomaj (s : State) (k : Nat) (v : Sub) : (s.setSub k v).proofNomaj = s.proofNomaj := rfl
@[simp] theorem State.setSub_seedsOwed (s : State) (k : Nat) (v : Sub) : (s.setSub k v).seedsOwed = s.seedsOwed := rfl
@[simp] theorem State.setSub_pathAt (s : State) (k : Nat) (v : Sub) (p : Path) : (s.setSub k v).path p = s.path p := rfl
@[simp] theorem State.setSub_trayAt (s : State) (k : Nat) (v : Sub) (j : Nat) : (s.setSub k v).tray j = s.tray j := rfl
@[simp] theorem State.setSub_clusterAt (s : State) (k : Nat) (v : Sub) (j : Nat) : (s.setSub k v).cluster j = s.cluster j := rfl
@[simp] theorem State.setSub_coreAt (s : State) (k : Nat) (v : Sub) (j : Nat) : (s.setSub k v).core j = s.core j := rfl
@[simp] theorem State.setSub_siteAt (s : State) (k : Nat) (v : Sub) (j : Nat) : (s.setSub k v).site j = s.site j := rfl
@[simp] theorem State.setSub_ctxAt (s : State) (k : Nat) (v : Sub) (j : CtxNo) : (s.setSub k v).ctx j = s.ctx j := rfl
@[simp] theorem State.setSub_seqAt (s : State) (k : Nat) (v : Sub) (j : Nat) : (s.setSub k v).seq j = s.seq j := rfl
@[simp] theorem State.setSub_qpAt (s : State) (k : Nat) (v : Sub) (j : Nat) : (s.setSub k v).qp j = s.qp j := rfl
@[simp] theorem State.setSub_combAt (s : State) (k : Nat) (v : Sub) (j : Nat) : (s.setSub k v).comb j = s.comb j := rfl
@[simp] theorem State.setSub_fportAt (s : State) (k : Nat) (v : Sub) (j : PortNo) : (s.setSub k v).fport j = s.fport j := rfl
@[simp] theorem State.setSub_ltAt (s : State) (k : Nat) (v : Sub) (j : PortNo) : (s.setSub k v).lt j = s.lt j := rfl
@[simp] theorem State.setSub_linkAt (s : State) (k : Nat) (v : Sub) (j : BitVec 6) : (s.setSub k v).link j = s.link j := rfl
@[simp] theorem State.setSub_slPortAt (s : State) (k : Nat) (v : Sub) (j : PortNo) : (s.setSub k v).slPort j = s.slPort j := rfl
@[simp] theorem State.setSub_discAt (s : State) (k : Nat) (v : Sub) (j : PortNo) : (s.setSub k v).disc j = s.disc j := rfl
@[simp] theorem State.setSub_triggerAt (s : State) (k : Nat) (v : Sub) (j : Nat) : (s.setSub k v).trigger j = s.trigger j := rfl
@[simp] theorem State.setSub_sessAt (s : State) (k : Nat) (v : Sub) (j : Nat) : (s.setSub k v).sess? j = s.sess? j := rfl
@[simp] theorem State.setSub_polAt (s : State) (k : Nat) (v : Sub) (j : Nat) : (s.setSub k v).pol j = s.pol j := rfl
@[simp] theorem State.setQp_pending (s : State) (k : Nat) (v : Qp) : (s.setQp k v).pending = s.pending := rfl
@[simp] theorem State.setQp_fuse (s : State) (k : Nat) (v : Qp) : (s.setQp k v).fuse = s.fuse := rfl
@[simp] theorem State.setQp_fv (s : State) (k : Nat) (v : Qp) : (s.setQp k v).fv = s.fv := rfl
@[simp] theorem State.setQp_sent (s : State) (k : Nat) (v : Qp) : (s.setQp k v).sent = s.sent := rfl
@[simp] theorem State.setQp_csr (s : State) (k : Nat) (v : Qp) : (s.setQp k v).csr = s.csr := rfl
@[simp] theorem State.setQp_paths (s : State) (k : Nat) (v : Qp) : (s.setQp k v).paths = s.paths := rfl
@[simp] theorem State.setQp_map (s : State) (k : Nat) (v : Qp) : (s.setQp k v).map = s.map := rfl
@[simp] theorem State.setQp_cmap (s : State) (k : Nat) (v : Qp) : (s.setQp k v).cmap = s.cmap := rfl
@[simp] theorem State.setQp_trays (s : State) (k : Nat) (v : Qp) : (s.setQp k v).trays = s.trays := rfl
@[simp] theorem State.setQp_clusters (s : State) (k : Nat) (v : Qp) : (s.setQp k v).clusters = s.clusters := rfl
@[simp] theorem State.setQp_cores (s : State) (k : Nat) (v : Qp) : (s.setQp k v).cores = s.cores := rfl
@[simp] theorem State.setQp_nextId (s : State) (k : Nat) (v : Qp) : (s.setQp k v).nextId = s.nextId := rfl
@[simp] theorem State.setQp_starts (s : State) (k : Nat) (v : Qp) : (s.setQp k v).starts = s.starts := rfl
@[simp] theorem State.setQp_outst (s : State) (k : Nat) (v : Qp) : (s.setQp k v).outst = s.outst := rfl
@[simp] theorem State.setQp_movers (s : State) (k : Nat) (v : Qp) : (s.setQp k v).movers = s.movers := rfl
@[simp] theorem State.setQp_subs (s : State) (k : Nat) (v : Qp) : (s.setQp k v).subs = s.subs := rfl
@[simp] theorem State.setQp_seqs (s : State) (k : Nat) (v : Qp) : (s.setQp k v).seqs = s.seqs := rfl
@[simp] theorem State.setQp_mem (s : State) (k : Nat) (v : Qp) : (s.setQp k v).mem = s.mem := rfl
@[simp] theorem State.setQp_light (s : State) (k : Nat) (v : Qp) : (s.setQp k v).light = s.light := rfl
@[simp] theorem State.setQp_fab (s : State) (k : Nat) (v : Qp) : (s.setQp k v).fab = s.fab := rfl
@[simp] theorem State.setQp_steer (s : State) (k : Nat) (v : Qp) : (s.setQp k v).steer = s.steer := rfl
@[simp] theorem State.setQp_gov (s : State) (k : Nat) (v : Qp) : (s.setQp k v).gov = s.gov := rfl
@[simp] theorem State.setQp_plan (s : State) (k : Nat) (v : Qp) : (s.setQp k v).plan = s.plan := rfl
@[simp] theorem State.setQp_mod (s : State) (k : Nat) (v : Qp) : (s.setQp k v).mod = s.mod := rfl
@[simp] theorem State.setQp_time (s : State) (k : Nat) (v : Qp) : (s.setQp k v).time = s.time := rfl
@[simp] theorem State.setQp_fw (s : State) (k : Nat) (v : Qp) : (s.setQp k v).fw = s.fw := rfl
@[simp] theorem State.setQp_cs (s : State) (k : Nat) (v : Qp) : (s.setQp k v).cs = s.cs := rfl
@[simp] theorem State.setQp_mgmt (s : State) (k : Nat) (v : Qp) : (s.setQp k v).mgmt = s.mgmt := rfl
@[simp] theorem State.setQp_proofMisses (s : State) (k : Nat) (v : Qp) : (s.setQp k v).proofMisses = s.proofMisses := rfl
@[simp] theorem State.setQp_proofRefereed (s : State) (k : Nat) (v : Qp) : (s.setQp k v).proofRefereed = s.proofRefereed := rfl
@[simp] theorem State.setQp_proofNomaj (s : State) (k : Nat) (v : Qp) : (s.setQp k v).proofNomaj = s.proofNomaj := rfl
@[simp] theorem State.setQp_seedsOwed (s : State) (k : Nat) (v : Qp) : (s.setQp k v).seedsOwed = s.seedsOwed := rfl
@[simp] theorem State.setQp_pathAt (s : State) (k : Nat) (v : Qp) (p : Path) : (s.setQp k v).path p = s.path p := rfl
@[simp] theorem State.setQp_trayAt (s : State) (k : Nat) (v : Qp) (j : Nat) : (s.setQp k v).tray j = s.tray j := rfl
@[simp] theorem State.setQp_clusterAt (s : State) (k : Nat) (v : Qp) (j : Nat) : (s.setQp k v).cluster j = s.cluster j := rfl
@[simp] theorem State.setQp_coreAt (s : State) (k : Nat) (v : Qp) (j : Nat) : (s.setQp k v).core j = s.core j := rfl
@[simp] theorem State.setQp_siteAt (s : State) (k : Nat) (v : Qp) (j : Nat) : (s.setQp k v).site j = s.site j := rfl
@[simp] theorem State.setQp_ctxAt (s : State) (k : Nat) (v : Qp) (j : CtxNo) : (s.setQp k v).ctx j = s.ctx j := rfl
@[simp] theorem State.setQp_seqAt (s : State) (k : Nat) (v : Qp) (j : Nat) : (s.setQp k v).seq j = s.seq j := rfl
@[simp] theorem State.setQp_subAt (s : State) (k : Nat) (v : Qp) (j : Nat) : (s.setQp k v).sub? j = s.sub? j := rfl
@[simp] theorem State.setQp_combAt (s : State) (k : Nat) (v : Qp) (j : Nat) : (s.setQp k v).comb j = s.comb j := rfl
@[simp] theorem State.setQp_fportAt (s : State) (k : Nat) (v : Qp) (j : PortNo) : (s.setQp k v).fport j = s.fport j := rfl
@[simp] theorem State.setQp_ltAt (s : State) (k : Nat) (v : Qp) (j : PortNo) : (s.setQp k v).lt j = s.lt j := rfl
@[simp] theorem State.setQp_linkAt (s : State) (k : Nat) (v : Qp) (j : BitVec 6) : (s.setQp k v).link j = s.link j := rfl
@[simp] theorem State.setQp_slPortAt (s : State) (k : Nat) (v : Qp) (j : PortNo) : (s.setQp k v).slPort j = s.slPort j := rfl
@[simp] theorem State.setQp_discAt (s : State) (k : Nat) (v : Qp) (j : PortNo) : (s.setQp k v).disc j = s.disc j := rfl
@[simp] theorem State.setQp_triggerAt (s : State) (k : Nat) (v : Qp) (j : Nat) : (s.setQp k v).trigger j = s.trigger j := rfl
@[simp] theorem State.setQp_sessAt (s : State) (k : Nat) (v : Qp) (j : Nat) : (s.setQp k v).sess? j = s.sess? j := rfl
@[simp] theorem State.setQp_polAt (s : State) (k : Nat) (v : Qp) (j : Nat) : (s.setQp k v).pol j = s.pol j := rfl
@[simp] theorem State.setComb_pending (s : State) (k : Nat) (v : Comb) : (s.setComb k v).pending = s.pending := rfl
@[simp] theorem State.setComb_fuse (s : State) (k : Nat) (v : Comb) : (s.setComb k v).fuse = s.fuse := rfl
@[simp] theorem State.setComb_fv (s : State) (k : Nat) (v : Comb) : (s.setComb k v).fv = s.fv := rfl
@[simp] theorem State.setComb_sent (s : State) (k : Nat) (v : Comb) : (s.setComb k v).sent = s.sent := rfl
@[simp] theorem State.setComb_csr (s : State) (k : Nat) (v : Comb) : (s.setComb k v).csr = s.csr := rfl
@[simp] theorem State.setComb_paths (s : State) (k : Nat) (v : Comb) : (s.setComb k v).paths = s.paths := rfl
@[simp] theorem State.setComb_map (s : State) (k : Nat) (v : Comb) : (s.setComb k v).map = s.map := rfl
@[simp] theorem State.setComb_cmap (s : State) (k : Nat) (v : Comb) : (s.setComb k v).cmap = s.cmap := rfl
@[simp] theorem State.setComb_trays (s : State) (k : Nat) (v : Comb) : (s.setComb k v).trays = s.trays := rfl
@[simp] theorem State.setComb_clusters (s : State) (k : Nat) (v : Comb) : (s.setComb k v).clusters = s.clusters := rfl
@[simp] theorem State.setComb_cores (s : State) (k : Nat) (v : Comb) : (s.setComb k v).cores = s.cores := rfl
@[simp] theorem State.setComb_nextId (s : State) (k : Nat) (v : Comb) : (s.setComb k v).nextId = s.nextId := rfl
@[simp] theorem State.setComb_starts (s : State) (k : Nat) (v : Comb) : (s.setComb k v).starts = s.starts := rfl
@[simp] theorem State.setComb_outst (s : State) (k : Nat) (v : Comb) : (s.setComb k v).outst = s.outst := rfl
@[simp] theorem State.setComb_movers (s : State) (k : Nat) (v : Comb) : (s.setComb k v).movers = s.movers := rfl
@[simp] theorem State.setComb_subs (s : State) (k : Nat) (v : Comb) : (s.setComb k v).subs = s.subs := rfl
@[simp] theorem State.setComb_seqs (s : State) (k : Nat) (v : Comb) : (s.setComb k v).seqs = s.seqs := rfl
@[simp] theorem State.setComb_mem (s : State) (k : Nat) (v : Comb) : (s.setComb k v).mem = s.mem := rfl
@[simp] theorem State.setComb_host (s : State) (k : Nat) (v : Comb) : (s.setComb k v).host = s.host := rfl
@[simp] theorem State.setComb_fab (s : State) (k : Nat) (v : Comb) : (s.setComb k v).fab = s.fab := rfl
@[simp] theorem State.setComb_steer (s : State) (k : Nat) (v : Comb) : (s.setComb k v).steer = s.steer := rfl
@[simp] theorem State.setComb_gov (s : State) (k : Nat) (v : Comb) : (s.setComb k v).gov = s.gov := rfl
@[simp] theorem State.setComb_plan (s : State) (k : Nat) (v : Comb) : (s.setComb k v).plan = s.plan := rfl
@[simp] theorem State.setComb_mod (s : State) (k : Nat) (v : Comb) : (s.setComb k v).mod = s.mod := rfl
@[simp] theorem State.setComb_time (s : State) (k : Nat) (v : Comb) : (s.setComb k v).time = s.time := rfl
@[simp] theorem State.setComb_fw (s : State) (k : Nat) (v : Comb) : (s.setComb k v).fw = s.fw := rfl
@[simp] theorem State.setComb_cs (s : State) (k : Nat) (v : Comb) : (s.setComb k v).cs = s.cs := rfl
@[simp] theorem State.setComb_mgmt (s : State) (k : Nat) (v : Comb) : (s.setComb k v).mgmt = s.mgmt := rfl
@[simp] theorem State.setComb_proofMisses (s : State) (k : Nat) (v : Comb) : (s.setComb k v).proofMisses = s.proofMisses := rfl
@[simp] theorem State.setComb_proofRefereed (s : State) (k : Nat) (v : Comb) : (s.setComb k v).proofRefereed = s.proofRefereed := rfl
@[simp] theorem State.setComb_proofNomaj (s : State) (k : Nat) (v : Comb) : (s.setComb k v).proofNomaj = s.proofNomaj := rfl
@[simp] theorem State.setComb_seedsOwed (s : State) (k : Nat) (v : Comb) : (s.setComb k v).seedsOwed = s.seedsOwed := rfl
@[simp] theorem State.setComb_pathAt (s : State) (k : Nat) (v : Comb) (p : Path) : (s.setComb k v).path p = s.path p := rfl
@[simp] theorem State.setComb_trayAt (s : State) (k : Nat) (v : Comb) (j : Nat) : (s.setComb k v).tray j = s.tray j := rfl
@[simp] theorem State.setComb_clusterAt (s : State) (k : Nat) (v : Comb) (j : Nat) : (s.setComb k v).cluster j = s.cluster j := rfl
@[simp] theorem State.setComb_coreAt (s : State) (k : Nat) (v : Comb) (j : Nat) : (s.setComb k v).core j = s.core j := rfl
@[simp] theorem State.setComb_siteAt (s : State) (k : Nat) (v : Comb) (j : Nat) : (s.setComb k v).site j = s.site j := rfl
@[simp] theorem State.setComb_ctxAt (s : State) (k : Nat) (v : Comb) (j : CtxNo) : (s.setComb k v).ctx j = s.ctx j := rfl
@[simp] theorem State.setComb_seqAt (s : State) (k : Nat) (v : Comb) (j : Nat) : (s.setComb k v).seq j = s.seq j := rfl
@[simp] theorem State.setComb_subAt (s : State) (k : Nat) (v : Comb) (j : Nat) : (s.setComb k v).sub? j = s.sub? j := rfl
@[simp] theorem State.setComb_qpAt (s : State) (k : Nat) (v : Comb) (j : Nat) : (s.setComb k v).qp j = s.qp j := rfl
@[simp] theorem State.setComb_fportAt (s : State) (k : Nat) (v : Comb) (j : PortNo) : (s.setComb k v).fport j = s.fport j := rfl
@[simp] theorem State.setComb_ltAt (s : State) (k : Nat) (v : Comb) (j : PortNo) : (s.setComb k v).lt j = s.lt j := rfl
@[simp] theorem State.setComb_linkAt (s : State) (k : Nat) (v : Comb) (j : BitVec 6) : (s.setComb k v).link j = s.link j := rfl
@[simp] theorem State.setComb_slPortAt (s : State) (k : Nat) (v : Comb) (j : PortNo) : (s.setComb k v).slPort j = s.slPort j := rfl
@[simp] theorem State.setComb_discAt (s : State) (k : Nat) (v : Comb) (j : PortNo) : (s.setComb k v).disc j = s.disc j := rfl
@[simp] theorem State.setComb_triggerAt (s : State) (k : Nat) (v : Comb) (j : Nat) : (s.setComb k v).trigger j = s.trigger j := rfl
@[simp] theorem State.setComb_sessAt (s : State) (k : Nat) (v : Comb) (j : Nat) : (s.setComb k v).sess? j = s.sess? j := rfl
@[simp] theorem State.setComb_polAt (s : State) (k : Nat) (v : Comb) (j : Nat) : (s.setComb k v).pol j = s.pol j := rfl
@[simp] theorem State.setFport_pending (s : State) (k : PortNo) (v : FPort) : (s.setFport k v).pending = s.pending := rfl
@[simp] theorem State.setFport_fuse (s : State) (k : PortNo) (v : FPort) : (s.setFport k v).fuse = s.fuse := rfl
@[simp] theorem State.setFport_fv (s : State) (k : PortNo) (v : FPort) : (s.setFport k v).fv = s.fv := rfl
@[simp] theorem State.setFport_sent (s : State) (k : PortNo) (v : FPort) : (s.setFport k v).sent = s.sent := rfl
@[simp] theorem State.setFport_csr (s : State) (k : PortNo) (v : FPort) : (s.setFport k v).csr = s.csr := rfl
@[simp] theorem State.setFport_paths (s : State) (k : PortNo) (v : FPort) : (s.setFport k v).paths = s.paths := rfl
@[simp] theorem State.setFport_map (s : State) (k : PortNo) (v : FPort) : (s.setFport k v).map = s.map := rfl
@[simp] theorem State.setFport_cmap (s : State) (k : PortNo) (v : FPort) : (s.setFport k v).cmap = s.cmap := rfl
@[simp] theorem State.setFport_trays (s : State) (k : PortNo) (v : FPort) : (s.setFport k v).trays = s.trays := rfl
@[simp] theorem State.setFport_clusters (s : State) (k : PortNo) (v : FPort) : (s.setFport k v).clusters = s.clusters := rfl
@[simp] theorem State.setFport_cores (s : State) (k : PortNo) (v : FPort) : (s.setFport k v).cores = s.cores := rfl
@[simp] theorem State.setFport_nextId (s : State) (k : PortNo) (v : FPort) : (s.setFport k v).nextId = s.nextId := rfl
@[simp] theorem State.setFport_starts (s : State) (k : PortNo) (v : FPort) : (s.setFport k v).starts = s.starts := rfl
@[simp] theorem State.setFport_outst (s : State) (k : PortNo) (v : FPort) : (s.setFport k v).outst = s.outst := rfl
@[simp] theorem State.setFport_movers (s : State) (k : PortNo) (v : FPort) : (s.setFport k v).movers = s.movers := rfl
@[simp] theorem State.setFport_subs (s : State) (k : PortNo) (v : FPort) : (s.setFport k v).subs = s.subs := rfl
@[simp] theorem State.setFport_seqs (s : State) (k : PortNo) (v : FPort) : (s.setFport k v).seqs = s.seqs := rfl
@[simp] theorem State.setFport_mem (s : State) (k : PortNo) (v : FPort) : (s.setFport k v).mem = s.mem := rfl
@[simp] theorem State.setFport_host (s : State) (k : PortNo) (v : FPort) : (s.setFport k v).host = s.host := rfl
@[simp] theorem State.setFport_light (s : State) (k : PortNo) (v : FPort) : (s.setFport k v).light = s.light := rfl
@[simp] theorem State.setFport_steer (s : State) (k : PortNo) (v : FPort) : (s.setFport k v).steer = s.steer := rfl
@[simp] theorem State.setFport_gov (s : State) (k : PortNo) (v : FPort) : (s.setFport k v).gov = s.gov := rfl
@[simp] theorem State.setFport_plan (s : State) (k : PortNo) (v : FPort) : (s.setFport k v).plan = s.plan := rfl
@[simp] theorem State.setFport_mod (s : State) (k : PortNo) (v : FPort) : (s.setFport k v).mod = s.mod := rfl
@[simp] theorem State.setFport_time (s : State) (k : PortNo) (v : FPort) : (s.setFport k v).time = s.time := rfl
@[simp] theorem State.setFport_fw (s : State) (k : PortNo) (v : FPort) : (s.setFport k v).fw = s.fw := rfl
@[simp] theorem State.setFport_cs (s : State) (k : PortNo) (v : FPort) : (s.setFport k v).cs = s.cs := rfl
@[simp] theorem State.setFport_mgmt (s : State) (k : PortNo) (v : FPort) : (s.setFport k v).mgmt = s.mgmt := rfl
@[simp] theorem State.setFport_proofMisses (s : State) (k : PortNo) (v : FPort) : (s.setFport k v).proofMisses = s.proofMisses := rfl
@[simp] theorem State.setFport_proofRefereed (s : State) (k : PortNo) (v : FPort) : (s.setFport k v).proofRefereed = s.proofRefereed := rfl
@[simp] theorem State.setFport_proofNomaj (s : State) (k : PortNo) (v : FPort) : (s.setFport k v).proofNomaj = s.proofNomaj := rfl
@[simp] theorem State.setFport_seedsOwed (s : State) (k : PortNo) (v : FPort) : (s.setFport k v).seedsOwed = s.seedsOwed := rfl
@[simp] theorem State.setFport_pathAt (s : State) (k : PortNo) (v : FPort) (p : Path) : (s.setFport k v).path p = s.path p := rfl
@[simp] theorem State.setFport_trayAt (s : State) (k : PortNo) (v : FPort) (j : Nat) : (s.setFport k v).tray j = s.tray j := rfl
@[simp] theorem State.setFport_clusterAt (s : State) (k : PortNo) (v : FPort) (j : Nat) : (s.setFport k v).cluster j = s.cluster j := rfl
@[simp] theorem State.setFport_coreAt (s : State) (k : PortNo) (v : FPort) (j : Nat) : (s.setFport k v).core j = s.core j := rfl
@[simp] theorem State.setFport_siteAt (s : State) (k : PortNo) (v : FPort) (j : Nat) : (s.setFport k v).site j = s.site j := rfl
@[simp] theorem State.setFport_ctxAt (s : State) (k : PortNo) (v : FPort) (j : CtxNo) : (s.setFport k v).ctx j = s.ctx j := rfl
@[simp] theorem State.setFport_seqAt (s : State) (k : PortNo) (v : FPort) (j : Nat) : (s.setFport k v).seq j = s.seq j := rfl
@[simp] theorem State.setFport_subAt (s : State) (k : PortNo) (v : FPort) (j : Nat) : (s.setFport k v).sub? j = s.sub? j := rfl
@[simp] theorem State.setFport_qpAt (s : State) (k : PortNo) (v : FPort) (j : Nat) : (s.setFport k v).qp j = s.qp j := rfl
@[simp] theorem State.setFport_combAt (s : State) (k : PortNo) (v : FPort) (j : Nat) : (s.setFport k v).comb j = s.comb j := rfl
@[simp] theorem State.setFport_ltAt (s : State) (k : PortNo) (v : FPort) (j : PortNo) : (s.setFport k v).lt j = s.lt j := rfl
@[simp] theorem State.setFport_linkAt (s : State) (k : PortNo) (v : FPort) (j : BitVec 6) : (s.setFport k v).link j = s.link j := rfl
@[simp] theorem State.setFport_slPortAt (s : State) (k : PortNo) (v : FPort) (j : PortNo) : (s.setFport k v).slPort j = s.slPort j := rfl
@[simp] theorem State.setFport_discAt (s : State) (k : PortNo) (v : FPort) (j : PortNo) : (s.setFport k v).disc j = s.disc j := rfl
@[simp] theorem State.setFport_triggerAt (s : State) (k : PortNo) (v : FPort) (j : Nat) : (s.setFport k v).trigger j = s.trigger j := rfl
@[simp] theorem State.setFport_sessAt (s : State) (k : PortNo) (v : FPort) (j : Nat) : (s.setFport k v).sess? j = s.sess? j := rfl
@[simp] theorem State.setFport_polAt (s : State) (k : PortNo) (v : FPort) (j : Nat) : (s.setFport k v).pol j = s.pol j := rfl
@[simp] theorem State.setLt_pending (s : State) (k : PortNo) (v : Lt) : (s.setLt k v).pending = s.pending := rfl
@[simp] theorem State.setLt_fuse (s : State) (k : PortNo) (v : Lt) : (s.setLt k v).fuse = s.fuse := rfl
@[simp] theorem State.setLt_fv (s : State) (k : PortNo) (v : Lt) : (s.setLt k v).fv = s.fv := rfl
@[simp] theorem State.setLt_sent (s : State) (k : PortNo) (v : Lt) : (s.setLt k v).sent = s.sent := rfl
@[simp] theorem State.setLt_csr (s : State) (k : PortNo) (v : Lt) : (s.setLt k v).csr = s.csr := rfl
@[simp] theorem State.setLt_paths (s : State) (k : PortNo) (v : Lt) : (s.setLt k v).paths = s.paths := rfl
@[simp] theorem State.setLt_map (s : State) (k : PortNo) (v : Lt) : (s.setLt k v).map = s.map := rfl
@[simp] theorem State.setLt_cmap (s : State) (k : PortNo) (v : Lt) : (s.setLt k v).cmap = s.cmap := rfl
@[simp] theorem State.setLt_trays (s : State) (k : PortNo) (v : Lt) : (s.setLt k v).trays = s.trays := rfl
@[simp] theorem State.setLt_clusters (s : State) (k : PortNo) (v : Lt) : (s.setLt k v).clusters = s.clusters := rfl
@[simp] theorem State.setLt_cores (s : State) (k : PortNo) (v : Lt) : (s.setLt k v).cores = s.cores := rfl
@[simp] theorem State.setLt_nextId (s : State) (k : PortNo) (v : Lt) : (s.setLt k v).nextId = s.nextId := rfl
@[simp] theorem State.setLt_starts (s : State) (k : PortNo) (v : Lt) : (s.setLt k v).starts = s.starts := rfl
@[simp] theorem State.setLt_outst (s : State) (k : PortNo) (v : Lt) : (s.setLt k v).outst = s.outst := rfl
@[simp] theorem State.setLt_movers (s : State) (k : PortNo) (v : Lt) : (s.setLt k v).movers = s.movers := rfl
@[simp] theorem State.setLt_subs (s : State) (k : PortNo) (v : Lt) : (s.setLt k v).subs = s.subs := rfl
@[simp] theorem State.setLt_seqs (s : State) (k : PortNo) (v : Lt) : (s.setLt k v).seqs = s.seqs := rfl
@[simp] theorem State.setLt_mem (s : State) (k : PortNo) (v : Lt) : (s.setLt k v).mem = s.mem := rfl
@[simp] theorem State.setLt_host (s : State) (k : PortNo) (v : Lt) : (s.setLt k v).host = s.host := rfl
@[simp] theorem State.setLt_light (s : State) (k : PortNo) (v : Lt) : (s.setLt k v).light = s.light := rfl
@[simp] theorem State.setLt_steer (s : State) (k : PortNo) (v : Lt) : (s.setLt k v).steer = s.steer := rfl
@[simp] theorem State.setLt_gov (s : State) (k : PortNo) (v : Lt) : (s.setLt k v).gov = s.gov := rfl
@[simp] theorem State.setLt_plan (s : State) (k : PortNo) (v : Lt) : (s.setLt k v).plan = s.plan := rfl
@[simp] theorem State.setLt_mod (s : State) (k : PortNo) (v : Lt) : (s.setLt k v).mod = s.mod := rfl
@[simp] theorem State.setLt_time (s : State) (k : PortNo) (v : Lt) : (s.setLt k v).time = s.time := rfl
@[simp] theorem State.setLt_fw (s : State) (k : PortNo) (v : Lt) : (s.setLt k v).fw = s.fw := rfl
@[simp] theorem State.setLt_cs (s : State) (k : PortNo) (v : Lt) : (s.setLt k v).cs = s.cs := rfl
@[simp] theorem State.setLt_mgmt (s : State) (k : PortNo) (v : Lt) : (s.setLt k v).mgmt = s.mgmt := rfl
@[simp] theorem State.setLt_proofMisses (s : State) (k : PortNo) (v : Lt) : (s.setLt k v).proofMisses = s.proofMisses := rfl
@[simp] theorem State.setLt_proofRefereed (s : State) (k : PortNo) (v : Lt) : (s.setLt k v).proofRefereed = s.proofRefereed := rfl
@[simp] theorem State.setLt_proofNomaj (s : State) (k : PortNo) (v : Lt) : (s.setLt k v).proofNomaj = s.proofNomaj := rfl
@[simp] theorem State.setLt_seedsOwed (s : State) (k : PortNo) (v : Lt) : (s.setLt k v).seedsOwed = s.seedsOwed := rfl
@[simp] theorem State.setLt_pathAt (s : State) (k : PortNo) (v : Lt) (p : Path) : (s.setLt k v).path p = s.path p := rfl
@[simp] theorem State.setLt_trayAt (s : State) (k : PortNo) (v : Lt) (j : Nat) : (s.setLt k v).tray j = s.tray j := rfl
@[simp] theorem State.setLt_clusterAt (s : State) (k : PortNo) (v : Lt) (j : Nat) : (s.setLt k v).cluster j = s.cluster j := rfl
@[simp] theorem State.setLt_coreAt (s : State) (k : PortNo) (v : Lt) (j : Nat) : (s.setLt k v).core j = s.core j := rfl
@[simp] theorem State.setLt_siteAt (s : State) (k : PortNo) (v : Lt) (j : Nat) : (s.setLt k v).site j = s.site j := rfl
@[simp] theorem State.setLt_ctxAt (s : State) (k : PortNo) (v : Lt) (j : CtxNo) : (s.setLt k v).ctx j = s.ctx j := rfl
@[simp] theorem State.setLt_seqAt (s : State) (k : PortNo) (v : Lt) (j : Nat) : (s.setLt k v).seq j = s.seq j := rfl
@[simp] theorem State.setLt_subAt (s : State) (k : PortNo) (v : Lt) (j : Nat) : (s.setLt k v).sub? j = s.sub? j := rfl
@[simp] theorem State.setLt_qpAt (s : State) (k : PortNo) (v : Lt) (j : Nat) : (s.setLt k v).qp j = s.qp j := rfl
@[simp] theorem State.setLt_combAt (s : State) (k : PortNo) (v : Lt) (j : Nat) : (s.setLt k v).comb j = s.comb j := rfl
@[simp] theorem State.setLt_fportAt (s : State) (k : PortNo) (v : Lt) (j : PortNo) : (s.setLt k v).fport j = s.fport j := rfl
@[simp] theorem State.setLt_linkAt (s : State) (k : PortNo) (v : Lt) (j : BitVec 6) : (s.setLt k v).link j = s.link j := rfl
@[simp] theorem State.setLt_slPortAt (s : State) (k : PortNo) (v : Lt) (j : PortNo) : (s.setLt k v).slPort j = s.slPort j := rfl
@[simp] theorem State.setLt_discAt (s : State) (k : PortNo) (v : Lt) (j : PortNo) : (s.setLt k v).disc j = s.disc j := rfl
@[simp] theorem State.setLt_triggerAt (s : State) (k : PortNo) (v : Lt) (j : Nat) : (s.setLt k v).trigger j = s.trigger j := rfl
@[simp] theorem State.setLt_sessAt (s : State) (k : PortNo) (v : Lt) (j : Nat) : (s.setLt k v).sess? j = s.sess? j := rfl
@[simp] theorem State.setLt_polAt (s : State) (k : PortNo) (v : Lt) (j : Nat) : (s.setLt k v).pol j = s.pol j := rfl
@[simp] theorem State.setLink_pending (s : State) (k : BitVec 6) (v : LLink) : (s.setLink k v).pending = s.pending := rfl
@[simp] theorem State.setLink_fuse (s : State) (k : BitVec 6) (v : LLink) : (s.setLink k v).fuse = s.fuse := rfl
@[simp] theorem State.setLink_fv (s : State) (k : BitVec 6) (v : LLink) : (s.setLink k v).fv = s.fv := rfl
@[simp] theorem State.setLink_sent (s : State) (k : BitVec 6) (v : LLink) : (s.setLink k v).sent = s.sent := rfl
@[simp] theorem State.setLink_csr (s : State) (k : BitVec 6) (v : LLink) : (s.setLink k v).csr = s.csr := rfl
@[simp] theorem State.setLink_paths (s : State) (k : BitVec 6) (v : LLink) : (s.setLink k v).paths = s.paths := rfl
@[simp] theorem State.setLink_map (s : State) (k : BitVec 6) (v : LLink) : (s.setLink k v).map = s.map := rfl
@[simp] theorem State.setLink_cmap (s : State) (k : BitVec 6) (v : LLink) : (s.setLink k v).cmap = s.cmap := rfl
@[simp] theorem State.setLink_trays (s : State) (k : BitVec 6) (v : LLink) : (s.setLink k v).trays = s.trays := rfl
@[simp] theorem State.setLink_clusters (s : State) (k : BitVec 6) (v : LLink) : (s.setLink k v).clusters = s.clusters := rfl
@[simp] theorem State.setLink_cores (s : State) (k : BitVec 6) (v : LLink) : (s.setLink k v).cores = s.cores := rfl
@[simp] theorem State.setLink_nextId (s : State) (k : BitVec 6) (v : LLink) : (s.setLink k v).nextId = s.nextId := rfl
@[simp] theorem State.setLink_starts (s : State) (k : BitVec 6) (v : LLink) : (s.setLink k v).starts = s.starts := rfl
@[simp] theorem State.setLink_outst (s : State) (k : BitVec 6) (v : LLink) : (s.setLink k v).outst = s.outst := rfl
@[simp] theorem State.setLink_movers (s : State) (k : BitVec 6) (v : LLink) : (s.setLink k v).movers = s.movers := rfl
@[simp] theorem State.setLink_subs (s : State) (k : BitVec 6) (v : LLink) : (s.setLink k v).subs = s.subs := rfl
@[simp] theorem State.setLink_seqs (s : State) (k : BitVec 6) (v : LLink) : (s.setLink k v).seqs = s.seqs := rfl
@[simp] theorem State.setLink_mem (s : State) (k : BitVec 6) (v : LLink) : (s.setLink k v).mem = s.mem := rfl
@[simp] theorem State.setLink_host (s : State) (k : BitVec 6) (v : LLink) : (s.setLink k v).host = s.host := rfl
@[simp] theorem State.setLink_light (s : State) (k : BitVec 6) (v : LLink) : (s.setLink k v).light = s.light := rfl
@[simp] theorem State.setLink_steer (s : State) (k : BitVec 6) (v : LLink) : (s.setLink k v).steer = s.steer := rfl
@[simp] theorem State.setLink_gov (s : State) (k : BitVec 6) (v : LLink) : (s.setLink k v).gov = s.gov := rfl
@[simp] theorem State.setLink_plan (s : State) (k : BitVec 6) (v : LLink) : (s.setLink k v).plan = s.plan := rfl
@[simp] theorem State.setLink_mod (s : State) (k : BitVec 6) (v : LLink) : (s.setLink k v).mod = s.mod := rfl
@[simp] theorem State.setLink_time (s : State) (k : BitVec 6) (v : LLink) : (s.setLink k v).time = s.time := rfl
@[simp] theorem State.setLink_fw (s : State) (k : BitVec 6) (v : LLink) : (s.setLink k v).fw = s.fw := rfl
@[simp] theorem State.setLink_cs (s : State) (k : BitVec 6) (v : LLink) : (s.setLink k v).cs = s.cs := rfl
@[simp] theorem State.setLink_mgmt (s : State) (k : BitVec 6) (v : LLink) : (s.setLink k v).mgmt = s.mgmt := rfl
@[simp] theorem State.setLink_proofMisses (s : State) (k : BitVec 6) (v : LLink) : (s.setLink k v).proofMisses = s.proofMisses := rfl
@[simp] theorem State.setLink_proofRefereed (s : State) (k : BitVec 6) (v : LLink) : (s.setLink k v).proofRefereed = s.proofRefereed := rfl
@[simp] theorem State.setLink_proofNomaj (s : State) (k : BitVec 6) (v : LLink) : (s.setLink k v).proofNomaj = s.proofNomaj := rfl
@[simp] theorem State.setLink_seedsOwed (s : State) (k : BitVec 6) (v : LLink) : (s.setLink k v).seedsOwed = s.seedsOwed := rfl
@[simp] theorem State.setLink_pathAt (s : State) (k : BitVec 6) (v : LLink) (p : Path) : (s.setLink k v).path p = s.path p := rfl
@[simp] theorem State.setLink_trayAt (s : State) (k : BitVec 6) (v : LLink) (j : Nat) : (s.setLink k v).tray j = s.tray j := rfl
@[simp] theorem State.setLink_clusterAt (s : State) (k : BitVec 6) (v : LLink) (j : Nat) : (s.setLink k v).cluster j = s.cluster j := rfl
@[simp] theorem State.setLink_coreAt (s : State) (k : BitVec 6) (v : LLink) (j : Nat) : (s.setLink k v).core j = s.core j := rfl
@[simp] theorem State.setLink_siteAt (s : State) (k : BitVec 6) (v : LLink) (j : Nat) : (s.setLink k v).site j = s.site j := rfl
@[simp] theorem State.setLink_ctxAt (s : State) (k : BitVec 6) (v : LLink) (j : CtxNo) : (s.setLink k v).ctx j = s.ctx j := rfl
@[simp] theorem State.setLink_seqAt (s : State) (k : BitVec 6) (v : LLink) (j : Nat) : (s.setLink k v).seq j = s.seq j := rfl
@[simp] theorem State.setLink_subAt (s : State) (k : BitVec 6) (v : LLink) (j : Nat) : (s.setLink k v).sub? j = s.sub? j := rfl
@[simp] theorem State.setLink_qpAt (s : State) (k : BitVec 6) (v : LLink) (j : Nat) : (s.setLink k v).qp j = s.qp j := rfl
@[simp] theorem State.setLink_combAt (s : State) (k : BitVec 6) (v : LLink) (j : Nat) : (s.setLink k v).comb j = s.comb j := rfl
@[simp] theorem State.setLink_fportAt (s : State) (k : BitVec 6) (v : LLink) (j : PortNo) : (s.setLink k v).fport j = s.fport j := rfl
@[simp] theorem State.setLink_ltAt (s : State) (k : BitVec 6) (v : LLink) (j : PortNo) : (s.setLink k v).lt j = s.lt j := rfl
@[simp] theorem State.setLink_slPortAt (s : State) (k : BitVec 6) (v : LLink) (j : PortNo) : (s.setLink k v).slPort j = s.slPort j := rfl
@[simp] theorem State.setLink_discAt (s : State) (k : BitVec 6) (v : LLink) (j : PortNo) : (s.setLink k v).disc j = s.disc j := rfl
@[simp] theorem State.setLink_triggerAt (s : State) (k : BitVec 6) (v : LLink) (j : Nat) : (s.setLink k v).trigger j = s.trigger j := rfl
@[simp] theorem State.setLink_sessAt (s : State) (k : BitVec 6) (v : LLink) (j : Nat) : (s.setLink k v).sess? j = s.sess? j := rfl
@[simp] theorem State.setLink_polAt (s : State) (k : BitVec 6) (v : LLink) (j : Nat) : (s.setLink k v).pol j = s.pol j := rfl
@[simp] theorem State.setSlPort_pending (s : State) (k : PortNo) (v : SlPort) : (s.setSlPort k v).pending = s.pending := rfl
@[simp] theorem State.setSlPort_fuse (s : State) (k : PortNo) (v : SlPort) : (s.setSlPort k v).fuse = s.fuse := rfl
@[simp] theorem State.setSlPort_fv (s : State) (k : PortNo) (v : SlPort) : (s.setSlPort k v).fv = s.fv := rfl
@[simp] theorem State.setSlPort_sent (s : State) (k : PortNo) (v : SlPort) : (s.setSlPort k v).sent = s.sent := rfl
@[simp] theorem State.setSlPort_csr (s : State) (k : PortNo) (v : SlPort) : (s.setSlPort k v).csr = s.csr := rfl
@[simp] theorem State.setSlPort_paths (s : State) (k : PortNo) (v : SlPort) : (s.setSlPort k v).paths = s.paths := rfl
@[simp] theorem State.setSlPort_map (s : State) (k : PortNo) (v : SlPort) : (s.setSlPort k v).map = s.map := rfl
@[simp] theorem State.setSlPort_cmap (s : State) (k : PortNo) (v : SlPort) : (s.setSlPort k v).cmap = s.cmap := rfl
@[simp] theorem State.setSlPort_trays (s : State) (k : PortNo) (v : SlPort) : (s.setSlPort k v).trays = s.trays := rfl
@[simp] theorem State.setSlPort_clusters (s : State) (k : PortNo) (v : SlPort) : (s.setSlPort k v).clusters = s.clusters := rfl
@[simp] theorem State.setSlPort_cores (s : State) (k : PortNo) (v : SlPort) : (s.setSlPort k v).cores = s.cores := rfl
@[simp] theorem State.setSlPort_nextId (s : State) (k : PortNo) (v : SlPort) : (s.setSlPort k v).nextId = s.nextId := rfl
@[simp] theorem State.setSlPort_starts (s : State) (k : PortNo) (v : SlPort) : (s.setSlPort k v).starts = s.starts := rfl
@[simp] theorem State.setSlPort_outst (s : State) (k : PortNo) (v : SlPort) : (s.setSlPort k v).outst = s.outst := rfl
@[simp] theorem State.setSlPort_movers (s : State) (k : PortNo) (v : SlPort) : (s.setSlPort k v).movers = s.movers := rfl
@[simp] theorem State.setSlPort_subs (s : State) (k : PortNo) (v : SlPort) : (s.setSlPort k v).subs = s.subs := rfl
@[simp] theorem State.setSlPort_seqs (s : State) (k : PortNo) (v : SlPort) : (s.setSlPort k v).seqs = s.seqs := rfl
@[simp] theorem State.setSlPort_mem (s : State) (k : PortNo) (v : SlPort) : (s.setSlPort k v).mem = s.mem := rfl
@[simp] theorem State.setSlPort_host (s : State) (k : PortNo) (v : SlPort) : (s.setSlPort k v).host = s.host := rfl
@[simp] theorem State.setSlPort_light (s : State) (k : PortNo) (v : SlPort) : (s.setSlPort k v).light = s.light := rfl
@[simp] theorem State.setSlPort_fab (s : State) (k : PortNo) (v : SlPort) : (s.setSlPort k v).fab = s.fab := rfl
@[simp] theorem State.setSlPort_steer (s : State) (k : PortNo) (v : SlPort) : (s.setSlPort k v).steer = s.steer := rfl
@[simp] theorem State.setSlPort_plan (s : State) (k : PortNo) (v : SlPort) : (s.setSlPort k v).plan = s.plan := rfl
@[simp] theorem State.setSlPort_mod (s : State) (k : PortNo) (v : SlPort) : (s.setSlPort k v).mod = s.mod := rfl
@[simp] theorem State.setSlPort_time (s : State) (k : PortNo) (v : SlPort) : (s.setSlPort k v).time = s.time := rfl
@[simp] theorem State.setSlPort_fw (s : State) (k : PortNo) (v : SlPort) : (s.setSlPort k v).fw = s.fw := rfl
@[simp] theorem State.setSlPort_cs (s : State) (k : PortNo) (v : SlPort) : (s.setSlPort k v).cs = s.cs := rfl
@[simp] theorem State.setSlPort_mgmt (s : State) (k : PortNo) (v : SlPort) : (s.setSlPort k v).mgmt = s.mgmt := rfl
@[simp] theorem State.setSlPort_proofMisses (s : State) (k : PortNo) (v : SlPort) : (s.setSlPort k v).proofMisses = s.proofMisses := rfl
@[simp] theorem State.setSlPort_proofRefereed (s : State) (k : PortNo) (v : SlPort) : (s.setSlPort k v).proofRefereed = s.proofRefereed := rfl
@[simp] theorem State.setSlPort_proofNomaj (s : State) (k : PortNo) (v : SlPort) : (s.setSlPort k v).proofNomaj = s.proofNomaj := rfl
@[simp] theorem State.setSlPort_seedsOwed (s : State) (k : PortNo) (v : SlPort) : (s.setSlPort k v).seedsOwed = s.seedsOwed := rfl
@[simp] theorem State.setSlPort_pathAt (s : State) (k : PortNo) (v : SlPort) (p : Path) : (s.setSlPort k v).path p = s.path p := rfl
@[simp] theorem State.setSlPort_trayAt (s : State) (k : PortNo) (v : SlPort) (j : Nat) : (s.setSlPort k v).tray j = s.tray j := rfl
@[simp] theorem State.setSlPort_clusterAt (s : State) (k : PortNo) (v : SlPort) (j : Nat) : (s.setSlPort k v).cluster j = s.cluster j := rfl
@[simp] theorem State.setSlPort_coreAt (s : State) (k : PortNo) (v : SlPort) (j : Nat) : (s.setSlPort k v).core j = s.core j := rfl
@[simp] theorem State.setSlPort_siteAt (s : State) (k : PortNo) (v : SlPort) (j : Nat) : (s.setSlPort k v).site j = s.site j := rfl
@[simp] theorem State.setSlPort_ctxAt (s : State) (k : PortNo) (v : SlPort) (j : CtxNo) : (s.setSlPort k v).ctx j = s.ctx j := rfl
@[simp] theorem State.setSlPort_seqAt (s : State) (k : PortNo) (v : SlPort) (j : Nat) : (s.setSlPort k v).seq j = s.seq j := rfl
@[simp] theorem State.setSlPort_subAt (s : State) (k : PortNo) (v : SlPort) (j : Nat) : (s.setSlPort k v).sub? j = s.sub? j := rfl
@[simp] theorem State.setSlPort_qpAt (s : State) (k : PortNo) (v : SlPort) (j : Nat) : (s.setSlPort k v).qp j = s.qp j := rfl
@[simp] theorem State.setSlPort_combAt (s : State) (k : PortNo) (v : SlPort) (j : Nat) : (s.setSlPort k v).comb j = s.comb j := rfl
@[simp] theorem State.setSlPort_fportAt (s : State) (k : PortNo) (v : SlPort) (j : PortNo) : (s.setSlPort k v).fport j = s.fport j := rfl
@[simp] theorem State.setSlPort_ltAt (s : State) (k : PortNo) (v : SlPort) (j : PortNo) : (s.setSlPort k v).lt j = s.lt j := rfl
@[simp] theorem State.setSlPort_linkAt (s : State) (k : PortNo) (v : SlPort) (j : BitVec 6) : (s.setSlPort k v).link j = s.link j := rfl
@[simp] theorem State.setSlPort_discAt (s : State) (k : PortNo) (v : SlPort) (j : PortNo) : (s.setSlPort k v).disc j = s.disc j := rfl
@[simp] theorem State.setSlPort_triggerAt (s : State) (k : PortNo) (v : SlPort) (j : Nat) : (s.setSlPort k v).trigger j = s.trigger j := rfl
@[simp] theorem State.setSlPort_sessAt (s : State) (k : PortNo) (v : SlPort) (j : Nat) : (s.setSlPort k v).sess? j = s.sess? j := rfl
@[simp] theorem State.setSlPort_polAt (s : State) (k : PortNo) (v : SlPort) (j : Nat) : (s.setSlPort k v).pol j = s.pol j := rfl
@[simp] theorem State.setDisc_pending (s : State) (k : PortNo) (v : PortDisc) : (s.setDisc k v).pending = s.pending := rfl
@[simp] theorem State.setDisc_fuse (s : State) (k : PortNo) (v : PortDisc) : (s.setDisc k v).fuse = s.fuse := rfl
@[simp] theorem State.setDisc_fv (s : State) (k : PortNo) (v : PortDisc) : (s.setDisc k v).fv = s.fv := rfl
@[simp] theorem State.setDisc_sent (s : State) (k : PortNo) (v : PortDisc) : (s.setDisc k v).sent = s.sent := rfl
@[simp] theorem State.setDisc_csr (s : State) (k : PortNo) (v : PortDisc) : (s.setDisc k v).csr = s.csr := rfl
@[simp] theorem State.setDisc_paths (s : State) (k : PortNo) (v : PortDisc) : (s.setDisc k v).paths = s.paths := rfl
@[simp] theorem State.setDisc_map (s : State) (k : PortNo) (v : PortDisc) : (s.setDisc k v).map = s.map := rfl
@[simp] theorem State.setDisc_cmap (s : State) (k : PortNo) (v : PortDisc) : (s.setDisc k v).cmap = s.cmap := rfl
@[simp] theorem State.setDisc_trays (s : State) (k : PortNo) (v : PortDisc) : (s.setDisc k v).trays = s.trays := rfl
@[simp] theorem State.setDisc_clusters (s : State) (k : PortNo) (v : PortDisc) : (s.setDisc k v).clusters = s.clusters := rfl
@[simp] theorem State.setDisc_cores (s : State) (k : PortNo) (v : PortDisc) : (s.setDisc k v).cores = s.cores := rfl
@[simp] theorem State.setDisc_nextId (s : State) (k : PortNo) (v : PortDisc) : (s.setDisc k v).nextId = s.nextId := rfl
@[simp] theorem State.setDisc_starts (s : State) (k : PortNo) (v : PortDisc) : (s.setDisc k v).starts = s.starts := rfl
@[simp] theorem State.setDisc_outst (s : State) (k : PortNo) (v : PortDisc) : (s.setDisc k v).outst = s.outst := rfl
@[simp] theorem State.setDisc_movers (s : State) (k : PortNo) (v : PortDisc) : (s.setDisc k v).movers = s.movers := rfl
@[simp] theorem State.setDisc_subs (s : State) (k : PortNo) (v : PortDisc) : (s.setDisc k v).subs = s.subs := rfl
@[simp] theorem State.setDisc_seqs (s : State) (k : PortNo) (v : PortDisc) : (s.setDisc k v).seqs = s.seqs := rfl
@[simp] theorem State.setDisc_mem (s : State) (k : PortNo) (v : PortDisc) : (s.setDisc k v).mem = s.mem := rfl
@[simp] theorem State.setDisc_host (s : State) (k : PortNo) (v : PortDisc) : (s.setDisc k v).host = s.host := rfl
@[simp] theorem State.setDisc_light (s : State) (k : PortNo) (v : PortDisc) : (s.setDisc k v).light = s.light := rfl
@[simp] theorem State.setDisc_fab (s : State) (k : PortNo) (v : PortDisc) : (s.setDisc k v).fab = s.fab := rfl
@[simp] theorem State.setDisc_steer (s : State) (k : PortNo) (v : PortDisc) : (s.setDisc k v).steer = s.steer := rfl
@[simp] theorem State.setDisc_gov (s : State) (k : PortNo) (v : PortDisc) : (s.setDisc k v).gov = s.gov := rfl
@[simp] theorem State.setDisc_mod (s : State) (k : PortNo) (v : PortDisc) : (s.setDisc k v).mod = s.mod := rfl
@[simp] theorem State.setDisc_time (s : State) (k : PortNo) (v : PortDisc) : (s.setDisc k v).time = s.time := rfl
@[simp] theorem State.setDisc_fw (s : State) (k : PortNo) (v : PortDisc) : (s.setDisc k v).fw = s.fw := rfl
@[simp] theorem State.setDisc_cs (s : State) (k : PortNo) (v : PortDisc) : (s.setDisc k v).cs = s.cs := rfl
@[simp] theorem State.setDisc_mgmt (s : State) (k : PortNo) (v : PortDisc) : (s.setDisc k v).mgmt = s.mgmt := rfl
@[simp] theorem State.setDisc_proofMisses (s : State) (k : PortNo) (v : PortDisc) : (s.setDisc k v).proofMisses = s.proofMisses := rfl
@[simp] theorem State.setDisc_proofRefereed (s : State) (k : PortNo) (v : PortDisc) : (s.setDisc k v).proofRefereed = s.proofRefereed := rfl
@[simp] theorem State.setDisc_proofNomaj (s : State) (k : PortNo) (v : PortDisc) : (s.setDisc k v).proofNomaj = s.proofNomaj := rfl
@[simp] theorem State.setDisc_seedsOwed (s : State) (k : PortNo) (v : PortDisc) : (s.setDisc k v).seedsOwed = s.seedsOwed := rfl
@[simp] theorem State.setDisc_pathAt (s : State) (k : PortNo) (v : PortDisc) (p : Path) : (s.setDisc k v).path p = s.path p := rfl
@[simp] theorem State.setDisc_trayAt (s : State) (k : PortNo) (v : PortDisc) (j : Nat) : (s.setDisc k v).tray j = s.tray j := rfl
@[simp] theorem State.setDisc_clusterAt (s : State) (k : PortNo) (v : PortDisc) (j : Nat) : (s.setDisc k v).cluster j = s.cluster j := rfl
@[simp] theorem State.setDisc_coreAt (s : State) (k : PortNo) (v : PortDisc) (j : Nat) : (s.setDisc k v).core j = s.core j := rfl
@[simp] theorem State.setDisc_siteAt (s : State) (k : PortNo) (v : PortDisc) (j : Nat) : (s.setDisc k v).site j = s.site j := rfl
@[simp] theorem State.setDisc_ctxAt (s : State) (k : PortNo) (v : PortDisc) (j : CtxNo) : (s.setDisc k v).ctx j = s.ctx j := rfl
@[simp] theorem State.setDisc_seqAt (s : State) (k : PortNo) (v : PortDisc) (j : Nat) : (s.setDisc k v).seq j = s.seq j := rfl
@[simp] theorem State.setDisc_subAt (s : State) (k : PortNo) (v : PortDisc) (j : Nat) : (s.setDisc k v).sub? j = s.sub? j := rfl
@[simp] theorem State.setDisc_qpAt (s : State) (k : PortNo) (v : PortDisc) (j : Nat) : (s.setDisc k v).qp j = s.qp j := rfl
@[simp] theorem State.setDisc_combAt (s : State) (k : PortNo) (v : PortDisc) (j : Nat) : (s.setDisc k v).comb j = s.comb j := rfl
@[simp] theorem State.setDisc_fportAt (s : State) (k : PortNo) (v : PortDisc) (j : PortNo) : (s.setDisc k v).fport j = s.fport j := rfl
@[simp] theorem State.setDisc_ltAt (s : State) (k : PortNo) (v : PortDisc) (j : PortNo) : (s.setDisc k v).lt j = s.lt j := rfl
@[simp] theorem State.setDisc_linkAt (s : State) (k : PortNo) (v : PortDisc) (j : BitVec 6) : (s.setDisc k v).link j = s.link j := rfl
@[simp] theorem State.setDisc_slPortAt (s : State) (k : PortNo) (v : PortDisc) (j : PortNo) : (s.setDisc k v).slPort j = s.slPort j := rfl
@[simp] theorem State.setDisc_triggerAt (s : State) (k : PortNo) (v : PortDisc) (j : Nat) : (s.setDisc k v).trigger j = s.trigger j := rfl
@[simp] theorem State.setDisc_sessAt (s : State) (k : PortNo) (v : PortDisc) (j : Nat) : (s.setDisc k v).sess? j = s.sess? j := rfl
@[simp] theorem State.setDisc_polAt (s : State) (k : PortNo) (v : PortDisc) (j : Nat) : (s.setDisc k v).pol j = s.pol j := rfl
@[simp] theorem State.setTrigger_pending (s : State) (k : Nat) (v : Trigger) : (s.setTrigger k v).pending = s.pending := rfl
@[simp] theorem State.setTrigger_fuse (s : State) (k : Nat) (v : Trigger) : (s.setTrigger k v).fuse = s.fuse := rfl
@[simp] theorem State.setTrigger_fv (s : State) (k : Nat) (v : Trigger) : (s.setTrigger k v).fv = s.fv := rfl
@[simp] theorem State.setTrigger_sent (s : State) (k : Nat) (v : Trigger) : (s.setTrigger k v).sent = s.sent := rfl
@[simp] theorem State.setTrigger_csr (s : State) (k : Nat) (v : Trigger) : (s.setTrigger k v).csr = s.csr := rfl
@[simp] theorem State.setTrigger_paths (s : State) (k : Nat) (v : Trigger) : (s.setTrigger k v).paths = s.paths := rfl
@[simp] theorem State.setTrigger_map (s : State) (k : Nat) (v : Trigger) : (s.setTrigger k v).map = s.map := rfl
@[simp] theorem State.setTrigger_cmap (s : State) (k : Nat) (v : Trigger) : (s.setTrigger k v).cmap = s.cmap := rfl
@[simp] theorem State.setTrigger_trays (s : State) (k : Nat) (v : Trigger) : (s.setTrigger k v).trays = s.trays := rfl
@[simp] theorem State.setTrigger_clusters (s : State) (k : Nat) (v : Trigger) : (s.setTrigger k v).clusters = s.clusters := rfl
@[simp] theorem State.setTrigger_cores (s : State) (k : Nat) (v : Trigger) : (s.setTrigger k v).cores = s.cores := rfl
@[simp] theorem State.setTrigger_nextId (s : State) (k : Nat) (v : Trigger) : (s.setTrigger k v).nextId = s.nextId := rfl
@[simp] theorem State.setTrigger_starts (s : State) (k : Nat) (v : Trigger) : (s.setTrigger k v).starts = s.starts := rfl
@[simp] theorem State.setTrigger_outst (s : State) (k : Nat) (v : Trigger) : (s.setTrigger k v).outst = s.outst := rfl
@[simp] theorem State.setTrigger_movers (s : State) (k : Nat) (v : Trigger) : (s.setTrigger k v).movers = s.movers := rfl
@[simp] theorem State.setTrigger_subs (s : State) (k : Nat) (v : Trigger) : (s.setTrigger k v).subs = s.subs := rfl
@[simp] theorem State.setTrigger_seqs (s : State) (k : Nat) (v : Trigger) : (s.setTrigger k v).seqs = s.seqs := rfl
@[simp] theorem State.setTrigger_mem (s : State) (k : Nat) (v : Trigger) : (s.setTrigger k v).mem = s.mem := rfl
@[simp] theorem State.setTrigger_host (s : State) (k : Nat) (v : Trigger) : (s.setTrigger k v).host = s.host := rfl
@[simp] theorem State.setTrigger_light (s : State) (k : Nat) (v : Trigger) : (s.setTrigger k v).light = s.light := rfl
@[simp] theorem State.setTrigger_fab (s : State) (k : Nat) (v : Trigger) : (s.setTrigger k v).fab = s.fab := rfl
@[simp] theorem State.setTrigger_steer (s : State) (k : Nat) (v : Trigger) : (s.setTrigger k v).steer = s.steer := rfl
@[simp] theorem State.setTrigger_gov (s : State) (k : Nat) (v : Trigger) : (s.setTrigger k v).gov = s.gov := rfl
@[simp] theorem State.setTrigger_plan (s : State) (k : Nat) (v : Trigger) : (s.setTrigger k v).plan = s.plan := rfl
@[simp] theorem State.setTrigger_mod (s : State) (k : Nat) (v : Trigger) : (s.setTrigger k v).mod = s.mod := rfl
@[simp] theorem State.setTrigger_fw (s : State) (k : Nat) (v : Trigger) : (s.setTrigger k v).fw = s.fw := rfl
@[simp] theorem State.setTrigger_cs (s : State) (k : Nat) (v : Trigger) : (s.setTrigger k v).cs = s.cs := rfl
@[simp] theorem State.setTrigger_mgmt (s : State) (k : Nat) (v : Trigger) : (s.setTrigger k v).mgmt = s.mgmt := rfl
@[simp] theorem State.setTrigger_proofMisses (s : State) (k : Nat) (v : Trigger) : (s.setTrigger k v).proofMisses = s.proofMisses := rfl
@[simp] theorem State.setTrigger_proofRefereed (s : State) (k : Nat) (v : Trigger) : (s.setTrigger k v).proofRefereed = s.proofRefereed := rfl
@[simp] theorem State.setTrigger_proofNomaj (s : State) (k : Nat) (v : Trigger) : (s.setTrigger k v).proofNomaj = s.proofNomaj := rfl
@[simp] theorem State.setTrigger_seedsOwed (s : State) (k : Nat) (v : Trigger) : (s.setTrigger k v).seedsOwed = s.seedsOwed := rfl
@[simp] theorem State.setTrigger_pathAt (s : State) (k : Nat) (v : Trigger) (p : Path) : (s.setTrigger k v).path p = s.path p := rfl
@[simp] theorem State.setTrigger_trayAt (s : State) (k : Nat) (v : Trigger) (j : Nat) : (s.setTrigger k v).tray j = s.tray j := rfl
@[simp] theorem State.setTrigger_clusterAt (s : State) (k : Nat) (v : Trigger) (j : Nat) : (s.setTrigger k v).cluster j = s.cluster j := rfl
@[simp] theorem State.setTrigger_coreAt (s : State) (k : Nat) (v : Trigger) (j : Nat) : (s.setTrigger k v).core j = s.core j := rfl
@[simp] theorem State.setTrigger_siteAt (s : State) (k : Nat) (v : Trigger) (j : Nat) : (s.setTrigger k v).site j = s.site j := rfl
@[simp] theorem State.setTrigger_ctxAt (s : State) (k : Nat) (v : Trigger) (j : CtxNo) : (s.setTrigger k v).ctx j = s.ctx j := rfl
@[simp] theorem State.setTrigger_seqAt (s : State) (k : Nat) (v : Trigger) (j : Nat) : (s.setTrigger k v).seq j = s.seq j := rfl
@[simp] theorem State.setTrigger_subAt (s : State) (k : Nat) (v : Trigger) (j : Nat) : (s.setTrigger k v).sub? j = s.sub? j := rfl
@[simp] theorem State.setTrigger_qpAt (s : State) (k : Nat) (v : Trigger) (j : Nat) : (s.setTrigger k v).qp j = s.qp j := rfl
@[simp] theorem State.setTrigger_combAt (s : State) (k : Nat) (v : Trigger) (j : Nat) : (s.setTrigger k v).comb j = s.comb j := rfl
@[simp] theorem State.setTrigger_fportAt (s : State) (k : Nat) (v : Trigger) (j : PortNo) : (s.setTrigger k v).fport j = s.fport j := rfl
@[simp] theorem State.setTrigger_ltAt (s : State) (k : Nat) (v : Trigger) (j : PortNo) : (s.setTrigger k v).lt j = s.lt j := rfl
@[simp] theorem State.setTrigger_linkAt (s : State) (k : Nat) (v : Trigger) (j : BitVec 6) : (s.setTrigger k v).link j = s.link j := rfl
@[simp] theorem State.setTrigger_slPortAt (s : State) (k : Nat) (v : Trigger) (j : PortNo) : (s.setTrigger k v).slPort j = s.slPort j := rfl
@[simp] theorem State.setTrigger_discAt (s : State) (k : Nat) (v : Trigger) (j : PortNo) : (s.setTrigger k v).disc j = s.disc j := rfl
@[simp] theorem State.setTrigger_sessAt (s : State) (k : Nat) (v : Trigger) (j : Nat) : (s.setTrigger k v).sess? j = s.sess? j := rfl
@[simp] theorem State.setTrigger_polAt (s : State) (k : Nat) (v : Trigger) (j : Nat) : (s.setTrigger k v).pol j = s.pol j := rfl
@[simp] theorem State.setSess_pending (s : State) (k : Nat) (v : Sess) : (s.setSess k v).pending = s.pending := rfl
@[simp] theorem State.setSess_fuse (s : State) (k : Nat) (v : Sess) : (s.setSess k v).fuse = s.fuse := rfl
@[simp] theorem State.setSess_fv (s : State) (k : Nat) (v : Sess) : (s.setSess k v).fv = s.fv := rfl
@[simp] theorem State.setSess_sent (s : State) (k : Nat) (v : Sess) : (s.setSess k v).sent = s.sent := rfl
@[simp] theorem State.setSess_csr (s : State) (k : Nat) (v : Sess) : (s.setSess k v).csr = s.csr := rfl
@[simp] theorem State.setSess_paths (s : State) (k : Nat) (v : Sess) : (s.setSess k v).paths = s.paths := rfl
@[simp] theorem State.setSess_map (s : State) (k : Nat) (v : Sess) : (s.setSess k v).map = s.map := rfl
@[simp] theorem State.setSess_cmap (s : State) (k : Nat) (v : Sess) : (s.setSess k v).cmap = s.cmap := rfl
@[simp] theorem State.setSess_trays (s : State) (k : Nat) (v : Sess) : (s.setSess k v).trays = s.trays := rfl
@[simp] theorem State.setSess_clusters (s : State) (k : Nat) (v : Sess) : (s.setSess k v).clusters = s.clusters := rfl
@[simp] theorem State.setSess_cores (s : State) (k : Nat) (v : Sess) : (s.setSess k v).cores = s.cores := rfl
@[simp] theorem State.setSess_nextId (s : State) (k : Nat) (v : Sess) : (s.setSess k v).nextId = s.nextId := rfl
@[simp] theorem State.setSess_starts (s : State) (k : Nat) (v : Sess) : (s.setSess k v).starts = s.starts := rfl
@[simp] theorem State.setSess_outst (s : State) (k : Nat) (v : Sess) : (s.setSess k v).outst = s.outst := rfl
@[simp] theorem State.setSess_movers (s : State) (k : Nat) (v : Sess) : (s.setSess k v).movers = s.movers := rfl
@[simp] theorem State.setSess_subs (s : State) (k : Nat) (v : Sess) : (s.setSess k v).subs = s.subs := rfl
@[simp] theorem State.setSess_seqs (s : State) (k : Nat) (v : Sess) : (s.setSess k v).seqs = s.seqs := rfl
@[simp] theorem State.setSess_mem (s : State) (k : Nat) (v : Sess) : (s.setSess k v).mem = s.mem := rfl
@[simp] theorem State.setSess_host (s : State) (k : Nat) (v : Sess) : (s.setSess k v).host = s.host := rfl
@[simp] theorem State.setSess_light (s : State) (k : Nat) (v : Sess) : (s.setSess k v).light = s.light := rfl
@[simp] theorem State.setSess_fab (s : State) (k : Nat) (v : Sess) : (s.setSess k v).fab = s.fab := rfl
@[simp] theorem State.setSess_steer (s : State) (k : Nat) (v : Sess) : (s.setSess k v).steer = s.steer := rfl
@[simp] theorem State.setSess_gov (s : State) (k : Nat) (v : Sess) : (s.setSess k v).gov = s.gov := rfl
@[simp] theorem State.setSess_plan (s : State) (k : Nat) (v : Sess) : (s.setSess k v).plan = s.plan := rfl
@[simp] theorem State.setSess_mod (s : State) (k : Nat) (v : Sess) : (s.setSess k v).mod = s.mod := rfl
@[simp] theorem State.setSess_time (s : State) (k : Nat) (v : Sess) : (s.setSess k v).time = s.time := rfl
@[simp] theorem State.setSess_fw (s : State) (k : Nat) (v : Sess) : (s.setSess k v).fw = s.fw := rfl
@[simp] theorem State.setSess_cs (s : State) (k : Nat) (v : Sess) : (s.setSess k v).cs = s.cs := rfl
@[simp] theorem State.setSess_proofMisses (s : State) (k : Nat) (v : Sess) : (s.setSess k v).proofMisses = s.proofMisses := rfl
@[simp] theorem State.setSess_proofRefereed (s : State) (k : Nat) (v : Sess) : (s.setSess k v).proofRefereed = s.proofRefereed := rfl
@[simp] theorem State.setSess_proofNomaj (s : State) (k : Nat) (v : Sess) : (s.setSess k v).proofNomaj = s.proofNomaj := rfl
@[simp] theorem State.setSess_seedsOwed (s : State) (k : Nat) (v : Sess) : (s.setSess k v).seedsOwed = s.seedsOwed := rfl
@[simp] theorem State.setSess_pathAt (s : State) (k : Nat) (v : Sess) (p : Path) : (s.setSess k v).path p = s.path p := rfl
@[simp] theorem State.setSess_trayAt (s : State) (k : Nat) (v : Sess) (j : Nat) : (s.setSess k v).tray j = s.tray j := rfl
@[simp] theorem State.setSess_clusterAt (s : State) (k : Nat) (v : Sess) (j : Nat) : (s.setSess k v).cluster j = s.cluster j := rfl
@[simp] theorem State.setSess_coreAt (s : State) (k : Nat) (v : Sess) (j : Nat) : (s.setSess k v).core j = s.core j := rfl
@[simp] theorem State.setSess_siteAt (s : State) (k : Nat) (v : Sess) (j : Nat) : (s.setSess k v).site j = s.site j := rfl
@[simp] theorem State.setSess_ctxAt (s : State) (k : Nat) (v : Sess) (j : CtxNo) : (s.setSess k v).ctx j = s.ctx j := rfl
@[simp] theorem State.setSess_seqAt (s : State) (k : Nat) (v : Sess) (j : Nat) : (s.setSess k v).seq j = s.seq j := rfl
@[simp] theorem State.setSess_subAt (s : State) (k : Nat) (v : Sess) (j : Nat) : (s.setSess k v).sub? j = s.sub? j := rfl
@[simp] theorem State.setSess_qpAt (s : State) (k : Nat) (v : Sess) (j : Nat) : (s.setSess k v).qp j = s.qp j := rfl
@[simp] theorem State.setSess_combAt (s : State) (k : Nat) (v : Sess) (j : Nat) : (s.setSess k v).comb j = s.comb j := rfl
@[simp] theorem State.setSess_fportAt (s : State) (k : Nat) (v : Sess) (j : PortNo) : (s.setSess k v).fport j = s.fport j := rfl
@[simp] theorem State.setSess_ltAt (s : State) (k : Nat) (v : Sess) (j : PortNo) : (s.setSess k v).lt j = s.lt j := rfl
@[simp] theorem State.setSess_linkAt (s : State) (k : Nat) (v : Sess) (j : BitVec 6) : (s.setSess k v).link j = s.link j := rfl
@[simp] theorem State.setSess_slPortAt (s : State) (k : Nat) (v : Sess) (j : PortNo) : (s.setSess k v).slPort j = s.slPort j := rfl
@[simp] theorem State.setSess_discAt (s : State) (k : Nat) (v : Sess) (j : PortNo) : (s.setSess k v).disc j = s.disc j := rfl
@[simp] theorem State.setSess_triggerAt (s : State) (k : Nat) (v : Sess) (j : Nat) : (s.setSess k v).trigger j = s.trigger j := rfl
@[simp] theorem State.setSess_polAt (s : State) (k : Nat) (v : Sess) (j : Nat) : (s.setSess k v).pol j = s.pol j := rfl
@[simp] theorem State.setPol_pending (s : State) (k : Nat) (v : Word) : (s.setPol k v).pending = s.pending := rfl
@[simp] theorem State.setPol_fuse (s : State) (k : Nat) (v : Word) : (s.setPol k v).fuse = s.fuse := rfl
@[simp] theorem State.setPol_fv (s : State) (k : Nat) (v : Word) : (s.setPol k v).fv = s.fv := rfl
@[simp] theorem State.setPol_sent (s : State) (k : Nat) (v : Word) : (s.setPol k v).sent = s.sent := rfl
@[simp] theorem State.setPol_paths (s : State) (k : Nat) (v : Word) : (s.setPol k v).paths = s.paths := rfl
@[simp] theorem State.setPol_map (s : State) (k : Nat) (v : Word) : (s.setPol k v).map = s.map := rfl
@[simp] theorem State.setPol_cmap (s : State) (k : Nat) (v : Word) : (s.setPol k v).cmap = s.cmap := rfl
@[simp] theorem State.setPol_trays (s : State) (k : Nat) (v : Word) : (s.setPol k v).trays = s.trays := rfl
@[simp] theorem State.setPol_clusters (s : State) (k : Nat) (v : Word) : (s.setPol k v).clusters = s.clusters := rfl
@[simp] theorem State.setPol_cores (s : State) (k : Nat) (v : Word) : (s.setPol k v).cores = s.cores := rfl
@[simp] theorem State.setPol_nextId (s : State) (k : Nat) (v : Word) : (s.setPol k v).nextId = s.nextId := rfl
@[simp] theorem State.setPol_starts (s : State) (k : Nat) (v : Word) : (s.setPol k v).starts = s.starts := rfl
@[simp] theorem State.setPol_outst (s : State) (k : Nat) (v : Word) : (s.setPol k v).outst = s.outst := rfl
@[simp] theorem State.setPol_movers (s : State) (k : Nat) (v : Word) : (s.setPol k v).movers = s.movers := rfl
@[simp] theorem State.setPol_subs (s : State) (k : Nat) (v : Word) : (s.setPol k v).subs = s.subs := rfl
@[simp] theorem State.setPol_seqs (s : State) (k : Nat) (v : Word) : (s.setPol k v).seqs = s.seqs := rfl
@[simp] theorem State.setPol_mem (s : State) (k : Nat) (v : Word) : (s.setPol k v).mem = s.mem := rfl
@[simp] theorem State.setPol_host (s : State) (k : Nat) (v : Word) : (s.setPol k v).host = s.host := rfl
@[simp] theorem State.setPol_light (s : State) (k : Nat) (v : Word) : (s.setPol k v).light = s.light := rfl
@[simp] theorem State.setPol_fab (s : State) (k : Nat) (v : Word) : (s.setPol k v).fab = s.fab := rfl
@[simp] theorem State.setPol_steer (s : State) (k : Nat) (v : Word) : (s.setPol k v).steer = s.steer := rfl
@[simp] theorem State.setPol_gov (s : State) (k : Nat) (v : Word) : (s.setPol k v).gov = s.gov := rfl
@[simp] theorem State.setPol_plan (s : State) (k : Nat) (v : Word) : (s.setPol k v).plan = s.plan := rfl
@[simp] theorem State.setPol_mod (s : State) (k : Nat) (v : Word) : (s.setPol k v).mod = s.mod := rfl
@[simp] theorem State.setPol_time (s : State) (k : Nat) (v : Word) : (s.setPol k v).time = s.time := rfl
@[simp] theorem State.setPol_fw (s : State) (k : Nat) (v : Word) : (s.setPol k v).fw = s.fw := rfl
@[simp] theorem State.setPol_cs (s : State) (k : Nat) (v : Word) : (s.setPol k v).cs = s.cs := rfl
@[simp] theorem State.setPol_mgmt (s : State) (k : Nat) (v : Word) : (s.setPol k v).mgmt = s.mgmt := rfl
@[simp] theorem State.setPol_proofMisses (s : State) (k : Nat) (v : Word) : (s.setPol k v).proofMisses = s.proofMisses := rfl
@[simp] theorem State.setPol_proofRefereed (s : State) (k : Nat) (v : Word) : (s.setPol k v).proofRefereed = s.proofRefereed := rfl
@[simp] theorem State.setPol_proofNomaj (s : State) (k : Nat) (v : Word) : (s.setPol k v).proofNomaj = s.proofNomaj := rfl
@[simp] theorem State.setPol_seedsOwed (s : State) (k : Nat) (v : Word) : (s.setPol k v).seedsOwed = s.seedsOwed := rfl
@[simp] theorem State.setPol_pathAt (s : State) (k : Nat) (v : Word) (p : Path) : (s.setPol k v).path p = s.path p := rfl
@[simp] theorem State.setPol_trayAt (s : State) (k : Nat) (v : Word) (j : Nat) : (s.setPol k v).tray j = s.tray j := rfl
@[simp] theorem State.setPol_clusterAt (s : State) (k : Nat) (v : Word) (j : Nat) : (s.setPol k v).cluster j = s.cluster j := rfl
@[simp] theorem State.setPol_coreAt (s : State) (k : Nat) (v : Word) (j : Nat) : (s.setPol k v).core j = s.core j := rfl
@[simp] theorem State.setPol_siteAt (s : State) (k : Nat) (v : Word) (j : Nat) : (s.setPol k v).site j = s.site j := rfl
@[simp] theorem State.setPol_ctxAt (s : State) (k : Nat) (v : Word) (j : CtxNo) : (s.setPol k v).ctx j = s.ctx j := rfl
@[simp] theorem State.setPol_seqAt (s : State) (k : Nat) (v : Word) (j : Nat) : (s.setPol k v).seq j = s.seq j := rfl
@[simp] theorem State.setPol_subAt (s : State) (k : Nat) (v : Word) (j : Nat) : (s.setPol k v).sub? j = s.sub? j := rfl
@[simp] theorem State.setPol_qpAt (s : State) (k : Nat) (v : Word) (j : Nat) : (s.setPol k v).qp j = s.qp j := rfl
@[simp] theorem State.setPol_combAt (s : State) (k : Nat) (v : Word) (j : Nat) : (s.setPol k v).comb j = s.comb j := rfl
@[simp] theorem State.setPol_fportAt (s : State) (k : Nat) (v : Word) (j : PortNo) : (s.setPol k v).fport j = s.fport j := rfl
@[simp] theorem State.setPol_ltAt (s : State) (k : Nat) (v : Word) (j : PortNo) : (s.setPol k v).lt j = s.lt j := rfl
@[simp] theorem State.setPol_linkAt (s : State) (k : Nat) (v : Word) (j : BitVec 6) : (s.setPol k v).link j = s.link j := rfl
@[simp] theorem State.setPol_slPortAt (s : State) (k : Nat) (v : Word) (j : PortNo) : (s.setPol k v).slPort j = s.slPort j := rfl
@[simp] theorem State.setPol_discAt (s : State) (k : Nat) (v : Word) (j : PortNo) : (s.setPol k v).disc j = s.disc j := rfl
@[simp] theorem State.setPol_triggerAt (s : State) (k : Nat) (v : Word) (j : Nat) : (s.setPol k v).trigger j = s.trigger j := rfl
@[simp] theorem State.setPol_sessAt (s : State) (k : Nat) (v : Word) (j : Nat) : (s.setPol k v).sess? j = s.sess? j := rfl
@[simp] theorem State.draw_pending (s : State) : (s.draw).pending = s.pending := rfl
@[simp] theorem State.draw_fuse (s : State) : (s.draw).fuse = s.fuse := rfl
@[simp] theorem State.draw_sent (s : State) : (s.draw).sent = s.sent := rfl
@[simp] theorem State.draw_csr (s : State) : (s.draw).csr = s.csr := rfl
@[simp] theorem State.draw_paths (s : State) : (s.draw).paths = s.paths := rfl
@[simp] theorem State.draw_map (s : State) : (s.draw).map = s.map := rfl
@[simp] theorem State.draw_cmap (s : State) : (s.draw).cmap = s.cmap := rfl
@[simp] theorem State.draw_trays (s : State) : (s.draw).trays = s.trays := rfl
@[simp] theorem State.draw_clusters (s : State) : (s.draw).clusters = s.clusters := rfl
@[simp] theorem State.draw_cores (s : State) : (s.draw).cores = s.cores := rfl
@[simp] theorem State.draw_nextId (s : State) : (s.draw).nextId = s.nextId := rfl
@[simp] theorem State.draw_starts (s : State) : (s.draw).starts = s.starts := rfl
@[simp] theorem State.draw_outst (s : State) : (s.draw).outst = s.outst := rfl
@[simp] theorem State.draw_movers (s : State) : (s.draw).movers = s.movers := rfl
@[simp] theorem State.draw_subs (s : State) : (s.draw).subs = s.subs := rfl
@[simp] theorem State.draw_seqs (s : State) : (s.draw).seqs = s.seqs := rfl
@[simp] theorem State.draw_mem (s : State) : (s.draw).mem = s.mem := rfl
@[simp] theorem State.draw_host (s : State) : (s.draw).host = s.host := rfl
@[simp] theorem State.draw_light (s : State) : (s.draw).light = s.light := rfl
@[simp] theorem State.draw_fab (s : State) : (s.draw).fab = s.fab := rfl
@[simp] theorem State.draw_steer (s : State) : (s.draw).steer = s.steer := rfl
@[simp] theorem State.draw_gov (s : State) : (s.draw).gov = s.gov := rfl
@[simp] theorem State.draw_plan (s : State) : (s.draw).plan = s.plan := rfl
@[simp] theorem State.draw_mod (s : State) : (s.draw).mod = s.mod := rfl
@[simp] theorem State.draw_time (s : State) : (s.draw).time = s.time := rfl
@[simp] theorem State.draw_fw (s : State) : (s.draw).fw = s.fw := rfl
@[simp] theorem State.draw_cs (s : State) : (s.draw).cs = s.cs := rfl
@[simp] theorem State.draw_mgmt (s : State) : (s.draw).mgmt = s.mgmt := rfl
@[simp] theorem State.draw_proofMisses (s : State) : (s.draw).proofMisses = s.proofMisses := rfl
@[simp] theorem State.draw_proofRefereed (s : State) : (s.draw).proofRefereed = s.proofRefereed := rfl
@[simp] theorem State.draw_proofNomaj (s : State) : (s.draw).proofNomaj = s.proofNomaj := rfl
@[simp] theorem State.draw_seedsOwed (s : State) : (s.draw).seedsOwed = s.seedsOwed := rfl
@[simp] theorem State.draw_pathAt (s : State) (p : Path) : (s.draw).path p = s.path p := rfl
@[simp] theorem State.draw_trayAt (s : State) (j : Nat) : (s.draw).tray j = s.tray j := rfl
@[simp] theorem State.draw_clusterAt (s : State) (j : Nat) : (s.draw).cluster j = s.cluster j := rfl
@[simp] theorem State.draw_coreAt (s : State) (j : Nat) : (s.draw).core j = s.core j := rfl
@[simp] theorem State.draw_siteAt (s : State) (j : Nat) : (s.draw).site j = s.site j := rfl
@[simp] theorem State.draw_ctxAt (s : State) (j : CtxNo) : (s.draw).ctx j = s.ctx j := rfl
@[simp] theorem State.draw_seqAt (s : State) (j : Nat) : (s.draw).seq j = s.seq j := rfl
@[simp] theorem State.draw_subAt (s : State) (j : Nat) : (s.draw).sub? j = s.sub? j := rfl
@[simp] theorem State.draw_qpAt (s : State) (j : Nat) : (s.draw).qp j = s.qp j := rfl
@[simp] theorem State.draw_combAt (s : State) (j : Nat) : (s.draw).comb j = s.comb j := rfl
@[simp] theorem State.draw_fportAt (s : State) (j : PortNo) : (s.draw).fport j = s.fport j := rfl
@[simp] theorem State.draw_ltAt (s : State) (j : PortNo) : (s.draw).lt j = s.lt j := rfl
@[simp] theorem State.draw_linkAt (s : State) (j : BitVec 6) : (s.draw).link j = s.link j := rfl
@[simp] theorem State.draw_slPortAt (s : State) (j : PortNo) : (s.draw).slPort j = s.slPort j := rfl
@[simp] theorem State.draw_discAt (s : State) (j : PortNo) : (s.draw).disc j = s.disc j := rfl
@[simp] theorem State.draw_triggerAt (s : State) (j : Nat) : (s.draw).trigger j = s.trigger j := rfl
@[simp] theorem State.draw_sessAt (s : State) (j : Nat) : (s.draw).sess? j = s.sess? j := rfl
@[simp] theorem State.draw_polAt (s : State) (j : Nat) : (s.draw).pol j = s.pol j := rfl
@[simp] theorem State.send_pending (s : State) (x : Sent) : (s.send x).pending = s.pending := rfl
@[simp] theorem State.send_fuse (s : State) (x : Sent) : (s.send x).fuse = s.fuse := rfl
@[simp] theorem State.send_fv (s : State) (x : Sent) : (s.send x).fv = s.fv := rfl
@[simp] theorem State.send_csr (s : State) (x : Sent) : (s.send x).csr = s.csr := rfl
@[simp] theorem State.send_paths (s : State) (x : Sent) : (s.send x).paths = s.paths := rfl
@[simp] theorem State.send_map (s : State) (x : Sent) : (s.send x).map = s.map := rfl
@[simp] theorem State.send_cmap (s : State) (x : Sent) : (s.send x).cmap = s.cmap := rfl
@[simp] theorem State.send_trays (s : State) (x : Sent) : (s.send x).trays = s.trays := rfl
@[simp] theorem State.send_clusters (s : State) (x : Sent) : (s.send x).clusters = s.clusters := rfl
@[simp] theorem State.send_cores (s : State) (x : Sent) : (s.send x).cores = s.cores := rfl
@[simp] theorem State.send_nextId (s : State) (x : Sent) : (s.send x).nextId = s.nextId := rfl
@[simp] theorem State.send_starts (s : State) (x : Sent) : (s.send x).starts = s.starts := rfl
@[simp] theorem State.send_outst (s : State) (x : Sent) : (s.send x).outst = s.outst := rfl
@[simp] theorem State.send_movers (s : State) (x : Sent) : (s.send x).movers = s.movers := rfl
@[simp] theorem State.send_subs (s : State) (x : Sent) : (s.send x).subs = s.subs := rfl
@[simp] theorem State.send_seqs (s : State) (x : Sent) : (s.send x).seqs = s.seqs := rfl
@[simp] theorem State.send_mem (s : State) (x : Sent) : (s.send x).mem = s.mem := rfl
@[simp] theorem State.send_host (s : State) (x : Sent) : (s.send x).host = s.host := rfl
@[simp] theorem State.send_light (s : State) (x : Sent) : (s.send x).light = s.light := rfl
@[simp] theorem State.send_fab (s : State) (x : Sent) : (s.send x).fab = s.fab := rfl
@[simp] theorem State.send_steer (s : State) (x : Sent) : (s.send x).steer = s.steer := rfl
@[simp] theorem State.send_gov (s : State) (x : Sent) : (s.send x).gov = s.gov := rfl
@[simp] theorem State.send_plan (s : State) (x : Sent) : (s.send x).plan = s.plan := rfl
@[simp] theorem State.send_mod (s : State) (x : Sent) : (s.send x).mod = s.mod := rfl
@[simp] theorem State.send_time (s : State) (x : Sent) : (s.send x).time = s.time := rfl
@[simp] theorem State.send_fw (s : State) (x : Sent) : (s.send x).fw = s.fw := rfl
@[simp] theorem State.send_cs (s : State) (x : Sent) : (s.send x).cs = s.cs := rfl
@[simp] theorem State.send_mgmt (s : State) (x : Sent) : (s.send x).mgmt = s.mgmt := rfl
@[simp] theorem State.send_proofMisses (s : State) (x : Sent) : (s.send x).proofMisses = s.proofMisses := rfl
@[simp] theorem State.send_proofRefereed (s : State) (x : Sent) : (s.send x).proofRefereed = s.proofRefereed := rfl
@[simp] theorem State.send_proofNomaj (s : State) (x : Sent) : (s.send x).proofNomaj = s.proofNomaj := rfl
@[simp] theorem State.send_seedsOwed (s : State) (x : Sent) : (s.send x).seedsOwed = s.seedsOwed := rfl
@[simp] theorem State.send_pathAt (s : State) (x : Sent) (p : Path) : (s.send x).path p = s.path p := rfl
@[simp] theorem State.send_trayAt (s : State) (x : Sent) (j : Nat) : (s.send x).tray j = s.tray j := rfl
@[simp] theorem State.send_clusterAt (s : State) (x : Sent) (j : Nat) : (s.send x).cluster j = s.cluster j := rfl
@[simp] theorem State.send_coreAt (s : State) (x : Sent) (j : Nat) : (s.send x).core j = s.core j := rfl
@[simp] theorem State.send_siteAt (s : State) (x : Sent) (j : Nat) : (s.send x).site j = s.site j := rfl
@[simp] theorem State.send_ctxAt (s : State) (x : Sent) (j : CtxNo) : (s.send x).ctx j = s.ctx j := rfl
@[simp] theorem State.send_seqAt (s : State) (x : Sent) (j : Nat) : (s.send x).seq j = s.seq j := rfl
@[simp] theorem State.send_subAt (s : State) (x : Sent) (j : Nat) : (s.send x).sub? j = s.sub? j := rfl
@[simp] theorem State.send_qpAt (s : State) (x : Sent) (j : Nat) : (s.send x).qp j = s.qp j := rfl
@[simp] theorem State.send_combAt (s : State) (x : Sent) (j : Nat) : (s.send x).comb j = s.comb j := rfl
@[simp] theorem State.send_fportAt (s : State) (x : Sent) (j : PortNo) : (s.send x).fport j = s.fport j := rfl
@[simp] theorem State.send_ltAt (s : State) (x : Sent) (j : PortNo) : (s.send x).lt j = s.lt j := rfl
@[simp] theorem State.send_linkAt (s : State) (x : Sent) (j : BitVec 6) : (s.send x).link j = s.link j := rfl
@[simp] theorem State.send_slPortAt (s : State) (x : Sent) (j : PortNo) : (s.send x).slPort j = s.slPort j := rfl
@[simp] theorem State.send_discAt (s : State) (x : Sent) (j : PortNo) : (s.send x).disc j = s.disc j := rfl
@[simp] theorem State.send_triggerAt (s : State) (x : Sent) (j : Nat) : (s.send x).trigger j = s.trigger j := rfl
@[simp] theorem State.send_sessAt (s : State) (x : Sent) (j : Nat) : (s.send x).sess? j = s.sess? j := rfl
@[simp] theorem State.send_polAt (s : State) (x : Sent) (j : Nat) : (s.send x).pol j = s.pol j := rfl
@[simp] theorem State.fresh_pending (s : State) : (s.fresh).pending = s.pending := rfl
@[simp] theorem State.fresh_fuse (s : State) : (s.fresh).fuse = s.fuse := rfl
@[simp] theorem State.fresh_fv (s : State) : (s.fresh).fv = s.fv := rfl
@[simp] theorem State.fresh_sent (s : State) : (s.fresh).sent = s.sent := rfl
@[simp] theorem State.fresh_csr (s : State) : (s.fresh).csr = s.csr := rfl
@[simp] theorem State.fresh_paths (s : State) : (s.fresh).paths = s.paths := rfl
@[simp] theorem State.fresh_map (s : State) : (s.fresh).map = s.map := rfl
@[simp] theorem State.fresh_cmap (s : State) : (s.fresh).cmap = s.cmap := rfl
@[simp] theorem State.fresh_trays (s : State) : (s.fresh).trays = s.trays := rfl
@[simp] theorem State.fresh_clusters (s : State) : (s.fresh).clusters = s.clusters := rfl
@[simp] theorem State.fresh_cores (s : State) : (s.fresh).cores = s.cores := rfl
@[simp] theorem State.fresh_starts (s : State) : (s.fresh).starts = s.starts := rfl
@[simp] theorem State.fresh_outst (s : State) : (s.fresh).outst = s.outst := rfl
@[simp] theorem State.fresh_movers (s : State) : (s.fresh).movers = s.movers := rfl
@[simp] theorem State.fresh_subs (s : State) : (s.fresh).subs = s.subs := rfl
@[simp] theorem State.fresh_seqs (s : State) : (s.fresh).seqs = s.seqs := rfl
@[simp] theorem State.fresh_mem (s : State) : (s.fresh).mem = s.mem := rfl
@[simp] theorem State.fresh_host (s : State) : (s.fresh).host = s.host := rfl
@[simp] theorem State.fresh_light (s : State) : (s.fresh).light = s.light := rfl
@[simp] theorem State.fresh_fab (s : State) : (s.fresh).fab = s.fab := rfl
@[simp] theorem State.fresh_steer (s : State) : (s.fresh).steer = s.steer := rfl
@[simp] theorem State.fresh_gov (s : State) : (s.fresh).gov = s.gov := rfl
@[simp] theorem State.fresh_plan (s : State) : (s.fresh).plan = s.plan := rfl
@[simp] theorem State.fresh_mod (s : State) : (s.fresh).mod = s.mod := rfl
@[simp] theorem State.fresh_time (s : State) : (s.fresh).time = s.time := rfl
@[simp] theorem State.fresh_fw (s : State) : (s.fresh).fw = s.fw := rfl
@[simp] theorem State.fresh_cs (s : State) : (s.fresh).cs = s.cs := rfl
@[simp] theorem State.fresh_mgmt (s : State) : (s.fresh).mgmt = s.mgmt := rfl
@[simp] theorem State.fresh_proofMisses (s : State) : (s.fresh).proofMisses = s.proofMisses := rfl
@[simp] theorem State.fresh_proofRefereed (s : State) : (s.fresh).proofRefereed = s.proofRefereed := rfl
@[simp] theorem State.fresh_proofNomaj (s : State) : (s.fresh).proofNomaj = s.proofNomaj := rfl
@[simp] theorem State.fresh_seedsOwed (s : State) : (s.fresh).seedsOwed = s.seedsOwed := rfl
@[simp] theorem State.fresh_pathAt (s : State) (p : Path) : (s.fresh).path p = s.path p := rfl
@[simp] theorem State.fresh_trayAt (s : State) (j : Nat) : (s.fresh).tray j = s.tray j := rfl
@[simp] theorem State.fresh_clusterAt (s : State) (j : Nat) : (s.fresh).cluster j = s.cluster j := rfl
@[simp] theorem State.fresh_coreAt (s : State) (j : Nat) : (s.fresh).core j = s.core j := rfl
@[simp] theorem State.fresh_siteAt (s : State) (j : Nat) : (s.fresh).site j = s.site j := rfl
@[simp] theorem State.fresh_ctxAt (s : State) (j : CtxNo) : (s.fresh).ctx j = s.ctx j := rfl
@[simp] theorem State.fresh_seqAt (s : State) (j : Nat) : (s.fresh).seq j = s.seq j := rfl
@[simp] theorem State.fresh_subAt (s : State) (j : Nat) : (s.fresh).sub? j = s.sub? j := rfl
@[simp] theorem State.fresh_qpAt (s : State) (j : Nat) : (s.fresh).qp j = s.qp j := rfl
@[simp] theorem State.fresh_combAt (s : State) (j : Nat) : (s.fresh).comb j = s.comb j := rfl
@[simp] theorem State.fresh_fportAt (s : State) (j : PortNo) : (s.fresh).fport j = s.fport j := rfl
@[simp] theorem State.fresh_ltAt (s : State) (j : PortNo) : (s.fresh).lt j = s.lt j := rfl
@[simp] theorem State.fresh_linkAt (s : State) (j : BitVec 6) : (s.fresh).link j = s.link j := rfl
@[simp] theorem State.fresh_slPortAt (s : State) (j : PortNo) : (s.fresh).slPort j = s.slPort j := rfl
@[simp] theorem State.fresh_discAt (s : State) (j : PortNo) : (s.fresh).disc j = s.disc j := rfl
@[simp] theorem State.fresh_triggerAt (s : State) (j : Nat) : (s.fresh).trigger j = s.trigger j := rfl
@[simp] theorem State.fresh_sessAt (s : State) (j : Nat) : (s.fresh).sess? j = s.sess? j := rfl
@[simp] theorem State.fresh_polAt (s : State) (j : Nat) : (s.fresh).pol j = s.pol j := rfl

@[simp] theorem State.draw_fv (s : State) : s.draw.fv = s.fv + 1 := rfl
@[simp] theorem State.send_sent (s : State) (x : Sent) : (s.send x).sent = x :: s.sent := rfl
@[simp] theorem State.fresh_nextId (s : State) : s.fresh.nextId = s.nextId + 1 := rfl
@[simp] theorem State.modTray_self (s : State) (k : Nat) (f : Tray → Tray) : (s.modTray k f).tray k = f (s.tray k) := by
  simp [State.modTray]
@[simp] theorem State.modCluster_self (s : State) (k : Nat) (f : Cluster → Cluster) :
    (s.modCluster k f).cluster k = f (s.cluster k) := by simp [State.modCluster]
@[simp] theorem State.modCore_self (s : State) (k : Nat) (f : Core → Core) : (s.modCore k f).core k = f (s.core k) := by
  simp [State.modCore]
theorem State.modTray_ne (s : State) {k j : Nat} (h : j ≠ k) (f : Tray → Tray) : (s.modTray k f).tray j = s.tray j :=
  State.setTray_ne s h _
theorem State.modCluster_ne (s : State) {k j : Nat} (h : j ≠ k) (f : Cluster → Cluster) :
    (s.modCluster k f).cluster j = s.cluster j := State.setCluster_ne s h _

@[simp] theorem State.modTray_pending (s : State) (k : Nat) (f : Tray → Tray) : (s.modTray k f).pending = s.pending := rfl
@[simp] theorem State.modTray_fuse (s : State) (k : Nat) (f : Tray → Tray) : (s.modTray k f).fuse = s.fuse := rfl
@[simp] theorem State.modTray_fv (s : State) (k : Nat) (f : Tray → Tray) : (s.modTray k f).fv = s.fv := rfl
@[simp] theorem State.modTray_sent (s : State) (k : Nat) (f : Tray → Tray) : (s.modTray k f).sent = s.sent := rfl
@[simp] theorem State.modTray_csr (s : State) (k : Nat) (f : Tray → Tray) : (s.modTray k f).csr = s.csr := rfl
@[simp] theorem State.modTray_paths (s : State) (k : Nat) (f : Tray → Tray) : (s.modTray k f).paths = s.paths := rfl
@[simp] theorem State.modTray_map (s : State) (k : Nat) (f : Tray → Tray) : (s.modTray k f).map = s.map := rfl
@[simp] theorem State.modTray_cmap (s : State) (k : Nat) (f : Tray → Tray) : (s.modTray k f).cmap = s.cmap := rfl
@[simp] theorem State.modTray_clusters (s : State) (k : Nat) (f : Tray → Tray) : (s.modTray k f).clusters = s.clusters := rfl
@[simp] theorem State.modTray_cores (s : State) (k : Nat) (f : Tray → Tray) : (s.modTray k f).cores = s.cores := rfl
@[simp] theorem State.modTray_nextId (s : State) (k : Nat) (f : Tray → Tray) : (s.modTray k f).nextId = s.nextId := rfl
@[simp] theorem State.modTray_starts (s : State) (k : Nat) (f : Tray → Tray) : (s.modTray k f).starts = s.starts := rfl
@[simp] theorem State.modTray_outst (s : State) (k : Nat) (f : Tray → Tray) : (s.modTray k f).outst = s.outst := rfl
@[simp] theorem State.modTray_movers (s : State) (k : Nat) (f : Tray → Tray) : (s.modTray k f).movers = s.movers := rfl
@[simp] theorem State.modTray_subs (s : State) (k : Nat) (f : Tray → Tray) : (s.modTray k f).subs = s.subs := rfl
@[simp] theorem State.modTray_seqs (s : State) (k : Nat) (f : Tray → Tray) : (s.modTray k f).seqs = s.seqs := rfl
@[simp] theorem State.modTray_mem (s : State) (k : Nat) (f : Tray → Tray) : (s.modTray k f).mem = s.mem := rfl
@[simp] theorem State.modTray_host (s : State) (k : Nat) (f : Tray → Tray) : (s.modTray k f).host = s.host := rfl
@[simp] theorem State.modTray_light (s : State) (k : Nat) (f : Tray → Tray) : (s.modTray k f).light = s.light := rfl
@[simp] theorem State.modTray_fab (s : State) (k : Nat) (f : Tray → Tray) : (s.modTray k f).fab = s.fab := rfl
@[simp] theorem State.modTray_steer (s : State) (k : Nat) (f : Tray → Tray) : (s.modTray k f).steer = s.steer := rfl
@[simp] theorem State.modTray_gov (s : State) (k : Nat) (f : Tray → Tray) : (s.modTray k f).gov = s.gov := rfl
@[simp] theorem State.modTray_plan (s : State) (k : Nat) (f : Tray → Tray) : (s.modTray k f).plan = s.plan := rfl
@[simp] theorem State.modTray_mod (s : State) (k : Nat) (f : Tray → Tray) : (s.modTray k f).mod = s.mod := rfl
@[simp] theorem State.modTray_time (s : State) (k : Nat) (f : Tray → Tray) : (s.modTray k f).time = s.time := rfl
@[simp] theorem State.modTray_fw (s : State) (k : Nat) (f : Tray → Tray) : (s.modTray k f).fw = s.fw := rfl
@[simp] theorem State.modTray_cs (s : State) (k : Nat) (f : Tray → Tray) : (s.modTray k f).cs = s.cs := rfl
@[simp] theorem State.modTray_mgmt (s : State) (k : Nat) (f : Tray → Tray) : (s.modTray k f).mgmt = s.mgmt := rfl
@[simp] theorem State.modTray_proofMisses (s : State) (k : Nat) (f : Tray → Tray) : (s.modTray k f).proofMisses = s.proofMisses := rfl
@[simp] theorem State.modTray_proofRefereed (s : State) (k : Nat) (f : Tray → Tray) : (s.modTray k f).proofRefereed = s.proofRefereed := rfl
@[simp] theorem State.modTray_proofNomaj (s : State) (k : Nat) (f : Tray → Tray) : (s.modTray k f).proofNomaj = s.proofNomaj := rfl
@[simp] theorem State.modTray_seedsOwed (s : State) (k : Nat) (f : Tray → Tray) : (s.modTray k f).seedsOwed = s.seedsOwed := rfl
@[simp] theorem State.modTray_pathAt (s : State) (k : Nat) (f : Tray → Tray) (p : Path) : (s.modTray k f).path p = s.path p := rfl
@[simp] theorem State.modTray_clusterAt (s : State) (k : Nat) (f : Tray → Tray) (j : Nat) : (s.modTray k f).cluster j = s.cluster j := rfl
@[simp] theorem State.modTray_coreAt (s : State) (k : Nat) (f : Tray → Tray) (j : Nat) : (s.modTray k f).core j = s.core j := rfl
@[simp] theorem State.modTray_siteAt (s : State) (k : Nat) (f : Tray → Tray) (j : Nat) : (s.modTray k f).site j = s.site j := rfl
@[simp] theorem State.modTray_ctxAt (s : State) (k : Nat) (f : Tray → Tray) (j : CtxNo) : (s.modTray k f).ctx j = s.ctx j := rfl
@[simp] theorem State.modTray_seqAt (s : State) (k : Nat) (f : Tray → Tray) (j : Nat) : (s.modTray k f).seq j = s.seq j := rfl
@[simp] theorem State.modTray_subAt (s : State) (k : Nat) (f : Tray → Tray) (j : Nat) : (s.modTray k f).sub? j = s.sub? j := rfl
@[simp] theorem State.modTray_qpAt (s : State) (k : Nat) (f : Tray → Tray) (j : Nat) : (s.modTray k f).qp j = s.qp j := rfl
@[simp] theorem State.modTray_combAt (s : State) (k : Nat) (f : Tray → Tray) (j : Nat) : (s.modTray k f).comb j = s.comb j := rfl
@[simp] theorem State.modTray_fportAt (s : State) (k : Nat) (f : Tray → Tray) (j : PortNo) : (s.modTray k f).fport j = s.fport j := rfl
@[simp] theorem State.modTray_ltAt (s : State) (k : Nat) (f : Tray → Tray) (j : PortNo) : (s.modTray k f).lt j = s.lt j := rfl
@[simp] theorem State.modTray_linkAt (s : State) (k : Nat) (f : Tray → Tray) (j : BitVec 6) : (s.modTray k f).link j = s.link j := rfl
@[simp] theorem State.modTray_slPortAt (s : State) (k : Nat) (f : Tray → Tray) (j : PortNo) : (s.modTray k f).slPort j = s.slPort j := rfl
@[simp] theorem State.modTray_discAt (s : State) (k : Nat) (f : Tray → Tray) (j : PortNo) : (s.modTray k f).disc j = s.disc j := rfl
@[simp] theorem State.modTray_triggerAt (s : State) (k : Nat) (f : Tray → Tray) (j : Nat) : (s.modTray k f).trigger j = s.trigger j := rfl
@[simp] theorem State.modTray_sessAt (s : State) (k : Nat) (f : Tray → Tray) (j : Nat) : (s.modTray k f).sess? j = s.sess? j := rfl
@[simp] theorem State.modTray_polAt (s : State) (k : Nat) (f : Tray → Tray) (j : Nat) : (s.modTray k f).pol j = s.pol j := rfl
@[simp] theorem State.modCluster_pending (s : State) (k : Nat) (f : Cluster → Cluster) : (s.modCluster k f).pending = s.pending := rfl
@[simp] theorem State.modCluster_fuse (s : State) (k : Nat) (f : Cluster → Cluster) : (s.modCluster k f).fuse = s.fuse := rfl
@[simp] theorem State.modCluster_fv (s : State) (k : Nat) (f : Cluster → Cluster) : (s.modCluster k f).fv = s.fv := rfl
@[simp] theorem State.modCluster_sent (s : State) (k : Nat) (f : Cluster → Cluster) : (s.modCluster k f).sent = s.sent := rfl
@[simp] theorem State.modCluster_csr (s : State) (k : Nat) (f : Cluster → Cluster) : (s.modCluster k f).csr = s.csr := rfl
@[simp] theorem State.modCluster_paths (s : State) (k : Nat) (f : Cluster → Cluster) : (s.modCluster k f).paths = s.paths := rfl
@[simp] theorem State.modCluster_map (s : State) (k : Nat) (f : Cluster → Cluster) : (s.modCluster k f).map = s.map := rfl
@[simp] theorem State.modCluster_cmap (s : State) (k : Nat) (f : Cluster → Cluster) : (s.modCluster k f).cmap = s.cmap := rfl
@[simp] theorem State.modCluster_trays (s : State) (k : Nat) (f : Cluster → Cluster) : (s.modCluster k f).trays = s.trays := rfl
@[simp] theorem State.modCluster_cores (s : State) (k : Nat) (f : Cluster → Cluster) : (s.modCluster k f).cores = s.cores := rfl
@[simp] theorem State.modCluster_nextId (s : State) (k : Nat) (f : Cluster → Cluster) : (s.modCluster k f).nextId = s.nextId := rfl
@[simp] theorem State.modCluster_starts (s : State) (k : Nat) (f : Cluster → Cluster) : (s.modCluster k f).starts = s.starts := rfl
@[simp] theorem State.modCluster_outst (s : State) (k : Nat) (f : Cluster → Cluster) : (s.modCluster k f).outst = s.outst := rfl
@[simp] theorem State.modCluster_movers (s : State) (k : Nat) (f : Cluster → Cluster) : (s.modCluster k f).movers = s.movers := rfl
@[simp] theorem State.modCluster_subs (s : State) (k : Nat) (f : Cluster → Cluster) : (s.modCluster k f).subs = s.subs := rfl
@[simp] theorem State.modCluster_seqs (s : State) (k : Nat) (f : Cluster → Cluster) : (s.modCluster k f).seqs = s.seqs := rfl
@[simp] theorem State.modCluster_mem (s : State) (k : Nat) (f : Cluster → Cluster) : (s.modCluster k f).mem = s.mem := rfl
@[simp] theorem State.modCluster_host (s : State) (k : Nat) (f : Cluster → Cluster) : (s.modCluster k f).host = s.host := rfl
@[simp] theorem State.modCluster_light (s : State) (k : Nat) (f : Cluster → Cluster) : (s.modCluster k f).light = s.light := rfl
@[simp] theorem State.modCluster_fab (s : State) (k : Nat) (f : Cluster → Cluster) : (s.modCluster k f).fab = s.fab := rfl
@[simp] theorem State.modCluster_steer (s : State) (k : Nat) (f : Cluster → Cluster) : (s.modCluster k f).steer = s.steer := rfl
@[simp] theorem State.modCluster_gov (s : State) (k : Nat) (f : Cluster → Cluster) : (s.modCluster k f).gov = s.gov := rfl
@[simp] theorem State.modCluster_plan (s : State) (k : Nat) (f : Cluster → Cluster) : (s.modCluster k f).plan = s.plan := rfl
@[simp] theorem State.modCluster_mod (s : State) (k : Nat) (f : Cluster → Cluster) : (s.modCluster k f).mod = s.mod := rfl
@[simp] theorem State.modCluster_time (s : State) (k : Nat) (f : Cluster → Cluster) : (s.modCluster k f).time = s.time := rfl
@[simp] theorem State.modCluster_fw (s : State) (k : Nat) (f : Cluster → Cluster) : (s.modCluster k f).fw = s.fw := rfl
@[simp] theorem State.modCluster_cs (s : State) (k : Nat) (f : Cluster → Cluster) : (s.modCluster k f).cs = s.cs := rfl
@[simp] theorem State.modCluster_mgmt (s : State) (k : Nat) (f : Cluster → Cluster) : (s.modCluster k f).mgmt = s.mgmt := rfl
@[simp] theorem State.modCluster_proofMisses (s : State) (k : Nat) (f : Cluster → Cluster) : (s.modCluster k f).proofMisses = s.proofMisses := rfl
@[simp] theorem State.modCluster_proofRefereed (s : State) (k : Nat) (f : Cluster → Cluster) : (s.modCluster k f).proofRefereed = s.proofRefereed := rfl
@[simp] theorem State.modCluster_proofNomaj (s : State) (k : Nat) (f : Cluster → Cluster) : (s.modCluster k f).proofNomaj = s.proofNomaj := rfl
@[simp] theorem State.modCluster_seedsOwed (s : State) (k : Nat) (f : Cluster → Cluster) : (s.modCluster k f).seedsOwed = s.seedsOwed := rfl
@[simp] theorem State.modCluster_pathAt (s : State) (k : Nat) (f : Cluster → Cluster) (p : Path) : (s.modCluster k f).path p = s.path p := rfl
@[simp] theorem State.modCluster_trayAt (s : State) (k : Nat) (f : Cluster → Cluster) (j : Nat) : (s.modCluster k f).tray j = s.tray j := rfl
@[simp] theorem State.modCluster_siteAt (s : State) (k : Nat) (f : Cluster → Cluster) (j : Nat) : (s.modCluster k f).site j = s.site j := rfl
@[simp] theorem State.modCluster_ctxAt (s : State) (k : Nat) (f : Cluster → Cluster) (j : CtxNo) : (s.modCluster k f).ctx j = s.ctx j := rfl
@[simp] theorem State.modCluster_seqAt (s : State) (k : Nat) (f : Cluster → Cluster) (j : Nat) : (s.modCluster k f).seq j = s.seq j := rfl
@[simp] theorem State.modCluster_subAt (s : State) (k : Nat) (f : Cluster → Cluster) (j : Nat) : (s.modCluster k f).sub? j = s.sub? j := rfl
@[simp] theorem State.modCluster_qpAt (s : State) (k : Nat) (f : Cluster → Cluster) (j : Nat) : (s.modCluster k f).qp j = s.qp j := rfl
@[simp] theorem State.modCluster_combAt (s : State) (k : Nat) (f : Cluster → Cluster) (j : Nat) : (s.modCluster k f).comb j = s.comb j := rfl
@[simp] theorem State.modCluster_fportAt (s : State) (k : Nat) (f : Cluster → Cluster) (j : PortNo) : (s.modCluster k f).fport j = s.fport j := rfl
@[simp] theorem State.modCluster_ltAt (s : State) (k : Nat) (f : Cluster → Cluster) (j : PortNo) : (s.modCluster k f).lt j = s.lt j := rfl
@[simp] theorem State.modCluster_linkAt (s : State) (k : Nat) (f : Cluster → Cluster) (j : BitVec 6) : (s.modCluster k f).link j = s.link j := rfl
@[simp] theorem State.modCluster_slPortAt (s : State) (k : Nat) (f : Cluster → Cluster) (j : PortNo) : (s.modCluster k f).slPort j = s.slPort j := rfl
@[simp] theorem State.modCluster_discAt (s : State) (k : Nat) (f : Cluster → Cluster) (j : PortNo) : (s.modCluster k f).disc j = s.disc j := rfl
@[simp] theorem State.modCluster_triggerAt (s : State) (k : Nat) (f : Cluster → Cluster) (j : Nat) : (s.modCluster k f).trigger j = s.trigger j := rfl
@[simp] theorem State.modCluster_sessAt (s : State) (k : Nat) (f : Cluster → Cluster) (j : Nat) : (s.modCluster k f).sess? j = s.sess? j := rfl
@[simp] theorem State.modCluster_polAt (s : State) (k : Nat) (f : Cluster → Cluster) (j : Nat) : (s.modCluster k f).pol j = s.pol j := rfl
@[simp] theorem State.modCore_pending (s : State) (k : Nat) (f : Core → Core) : (s.modCore k f).pending = s.pending := rfl
@[simp] theorem State.modCore_fuse (s : State) (k : Nat) (f : Core → Core) : (s.modCore k f).fuse = s.fuse := rfl
@[simp] theorem State.modCore_fv (s : State) (k : Nat) (f : Core → Core) : (s.modCore k f).fv = s.fv := rfl
@[simp] theorem State.modCore_sent (s : State) (k : Nat) (f : Core → Core) : (s.modCore k f).sent = s.sent := rfl
@[simp] theorem State.modCore_csr (s : State) (k : Nat) (f : Core → Core) : (s.modCore k f).csr = s.csr := rfl
@[simp] theorem State.modCore_paths (s : State) (k : Nat) (f : Core → Core) : (s.modCore k f).paths = s.paths := rfl
@[simp] theorem State.modCore_map (s : State) (k : Nat) (f : Core → Core) : (s.modCore k f).map = s.map := rfl
@[simp] theorem State.modCore_cmap (s : State) (k : Nat) (f : Core → Core) : (s.modCore k f).cmap = s.cmap := rfl
@[simp] theorem State.modCore_trays (s : State) (k : Nat) (f : Core → Core) : (s.modCore k f).trays = s.trays := rfl
@[simp] theorem State.modCore_clusters (s : State) (k : Nat) (f : Core → Core) : (s.modCore k f).clusters = s.clusters := rfl
@[simp] theorem State.modCore_nextId (s : State) (k : Nat) (f : Core → Core) : (s.modCore k f).nextId = s.nextId := rfl
@[simp] theorem State.modCore_starts (s : State) (k : Nat) (f : Core → Core) : (s.modCore k f).starts = s.starts := rfl
@[simp] theorem State.modCore_outst (s : State) (k : Nat) (f : Core → Core) : (s.modCore k f).outst = s.outst := rfl
@[simp] theorem State.modCore_movers (s : State) (k : Nat) (f : Core → Core) : (s.modCore k f).movers = s.movers := rfl
@[simp] theorem State.modCore_subs (s : State) (k : Nat) (f : Core → Core) : (s.modCore k f).subs = s.subs := rfl
@[simp] theorem State.modCore_seqs (s : State) (k : Nat) (f : Core → Core) : (s.modCore k f).seqs = s.seqs := rfl
@[simp] theorem State.modCore_mem (s : State) (k : Nat) (f : Core → Core) : (s.modCore k f).mem = s.mem := rfl
@[simp] theorem State.modCore_host (s : State) (k : Nat) (f : Core → Core) : (s.modCore k f).host = s.host := rfl
@[simp] theorem State.modCore_light (s : State) (k : Nat) (f : Core → Core) : (s.modCore k f).light = s.light := rfl
@[simp] theorem State.modCore_fab (s : State) (k : Nat) (f : Core → Core) : (s.modCore k f).fab = s.fab := rfl
@[simp] theorem State.modCore_steer (s : State) (k : Nat) (f : Core → Core) : (s.modCore k f).steer = s.steer := rfl
@[simp] theorem State.modCore_gov (s : State) (k : Nat) (f : Core → Core) : (s.modCore k f).gov = s.gov := rfl
@[simp] theorem State.modCore_plan (s : State) (k : Nat) (f : Core → Core) : (s.modCore k f).plan = s.plan := rfl
@[simp] theorem State.modCore_mod (s : State) (k : Nat) (f : Core → Core) : (s.modCore k f).mod = s.mod := rfl
@[simp] theorem State.modCore_time (s : State) (k : Nat) (f : Core → Core) : (s.modCore k f).time = s.time := rfl
@[simp] theorem State.modCore_fw (s : State) (k : Nat) (f : Core → Core) : (s.modCore k f).fw = s.fw := rfl
@[simp] theorem State.modCore_cs (s : State) (k : Nat) (f : Core → Core) : (s.modCore k f).cs = s.cs := rfl
@[simp] theorem State.modCore_mgmt (s : State) (k : Nat) (f : Core → Core) : (s.modCore k f).mgmt = s.mgmt := rfl
@[simp] theorem State.modCore_proofMisses (s : State) (k : Nat) (f : Core → Core) : (s.modCore k f).proofMisses = s.proofMisses := rfl
@[simp] theorem State.modCore_proofRefereed (s : State) (k : Nat) (f : Core → Core) : (s.modCore k f).proofRefereed = s.proofRefereed := rfl
@[simp] theorem State.modCore_proofNomaj (s : State) (k : Nat) (f : Core → Core) : (s.modCore k f).proofNomaj = s.proofNomaj := rfl
@[simp] theorem State.modCore_seedsOwed (s : State) (k : Nat) (f : Core → Core) : (s.modCore k f).seedsOwed = s.seedsOwed := rfl
@[simp] theorem State.modCore_pathAt (s : State) (k : Nat) (f : Core → Core) (p : Path) : (s.modCore k f).path p = s.path p := rfl
@[simp] theorem State.modCore_trayAt (s : State) (k : Nat) (f : Core → Core) (j : Nat) : (s.modCore k f).tray j = s.tray j := rfl
@[simp] theorem State.modCore_clusterAt (s : State) (k : Nat) (f : Core → Core) (j : Nat) : (s.modCore k f).cluster j = s.cluster j := rfl
@[simp] theorem State.modCore_siteAt (s : State) (k : Nat) (f : Core → Core) (j : Nat) : (s.modCore k f).site j = s.site j := rfl
@[simp] theorem State.modCore_ctxAt (s : State) (k : Nat) (f : Core → Core) (j : CtxNo) : (s.modCore k f).ctx j = s.ctx j := rfl
@[simp] theorem State.modCore_seqAt (s : State) (k : Nat) (f : Core → Core) (j : Nat) : (s.modCore k f).seq j = s.seq j := rfl
@[simp] theorem State.modCore_subAt (s : State) (k : Nat) (f : Core → Core) (j : Nat) : (s.modCore k f).sub? j = s.sub? j := rfl
@[simp] theorem State.modCore_qpAt (s : State) (k : Nat) (f : Core → Core) (j : Nat) : (s.modCore k f).qp j = s.qp j := rfl
@[simp] theorem State.modCore_combAt (s : State) (k : Nat) (f : Core → Core) (j : Nat) : (s.modCore k f).comb j = s.comb j := rfl
@[simp] theorem State.modCore_fportAt (s : State) (k : Nat) (f : Core → Core) (j : PortNo) : (s.modCore k f).fport j = s.fport j := rfl
@[simp] theorem State.modCore_ltAt (s : State) (k : Nat) (f : Core → Core) (j : PortNo) : (s.modCore k f).lt j = s.lt j := rfl
@[simp] theorem State.modCore_linkAt (s : State) (k : Nat) (f : Core → Core) (j : BitVec 6) : (s.modCore k f).link j = s.link j := rfl
@[simp] theorem State.modCore_slPortAt (s : State) (k : Nat) (f : Core → Core) (j : PortNo) : (s.modCore k f).slPort j = s.slPort j := rfl
@[simp] theorem State.modCore_discAt (s : State) (k : Nat) (f : Core → Core) (j : PortNo) : (s.modCore k f).disc j = s.disc j := rfl
@[simp] theorem State.modCore_triggerAt (s : State) (k : Nat) (f : Core → Core) (j : Nat) : (s.modCore k f).trigger j = s.trigger j := rfl
@[simp] theorem State.modCore_sessAt (s : State) (k : Nat) (f : Core → Core) (j : Nat) : (s.modCore k f).sess? j = s.sess? j := rfl
@[simp] theorem State.modCore_polAt (s : State) (k : Nat) (f : Core → Core) (j : Nat) : (s.modCore k f).pol j = s.pol j := rfl

end Sys2Proof.Machine
end

