-- ==== Sys2Proof/Laws/Memory.lean ====
section
/-! SUPPORT. The byte memories: every operation keeps the canonical form, and what is read after a write. -/

set_option Elab.async false

namespace Sys2Proof.Machine

theorem Memory.wfFrom_mono {a b : Nat} (h : a ≤ b) : ∀ {m : SMap Byte}, Memory.wfFrom b m = true → Memory.wfFrom a m = true
  | [], _ => rfl
  | (k, v) :: r, hm => by
    simp only [Memory.wfFrom, Bool.and_eq_true, decide_eq_true_eq] at hm ⊢
    exact ⟨⟨by omega, hm.1.2⟩, hm.2⟩

theorem Memory.wfFrom_filter (p : Nat × Byte → Bool) :
    ∀ {a : Nat} {m : SMap Byte}, Memory.wfFrom a m = true → Memory.wfFrom a (m.filter p) = true
  | _, [], _ => rfl
  | a, (k, v) :: r, hm => by
    simp only [Memory.wfFrom, Bool.and_eq_true, decide_eq_true_eq] at hm
    have ih := Memory.wfFrom_filter p hm.2
    rw [List.filter_cons]
    split
    · simp only [Memory.wfFrom, Bool.and_eq_true, decide_eq_true_eq]
      exact ⟨hm.1, ih⟩
    · exact Memory.wfFrom_mono (by omega) ih

theorem Memory.wfFrom_ins {k : Nat} {v : Byte} (hv : v ≠ 0) :
    ∀ {a : Nat} {m : SMap Byte}, Memory.wfFrom a m = true → (∀ e ∈ m, e.1 ≠ k) → a ≤ k → Memory.wfFrom a (SMap.ins k v m) = true
  | a, [], _, _, ha => by
    have hv' : ¬v = 0#8 := hv
    simp [SMap.ins, Memory.wfFrom, ha, hv']
  | a, (b, w) :: r, hm, hk, ha => by
    have hb : b ≠ k := hk (b, w) (by simp)
    simp only [Memory.wfFrom, Bool.and_eq_true, decide_eq_true_eq] at hm
    unfold SMap.ins
    split
    · simp only [Memory.wfFrom, Bool.and_eq_true, decide_eq_true_eq]
      exact ⟨⟨ha, by simpa using hv⟩, ⟨by omega, hm.1.2⟩, hm.2⟩
    · simp only [Memory.wfFrom, Bool.and_eq_true, decide_eq_true_eq]
      exact ⟨hm.1, Memory.wfFrom_ins hv hm.2 (fun e he => hk e (List.mem_cons_of_mem _ he)) (by omega)⟩

theorem Memory.wf_nil : Memory.wf [] = true := rfl

theorem Memory.wf_zero {m : SMap Byte} (h : Memory.wf m = true) (a n : Nat) : Memory.wf (Memory.zero m a n) = true :=
  Memory.wfFrom_filter _ h

theorem Memory.wf_write {m : SMap Byte} (h : Memory.wf m = true) (a : Nat) (v : Byte) : Memory.wf (Memory.write m a v) = true := by
  unfold Memory.write
  split
  · exact Memory.wfFrom_filter _ h
  · next hv =>
    exact Memory.wfFrom_ins hv (Memory.wfFrom_filter _ h) (fun _ he => SMap.mem_del he) (Nat.zero_le _)

theorem Memory.wf_writeL : ∀ {l : List Byte} {m : SMap Byte} {a : Nat}, Memory.wf m = true → Memory.wf (Memory.writeL m a l) = true
  | [], _, _, h => h
  | _ :: _, _, _, h => by
    unfold Memory.writeL
    exact Memory.wf_writeL (Memory.wf_write h _ _)

theorem Memory.wf_foldl {α : Type} {f : SMap Byte → α → SMap Byte} (hf : ∀ m x, Memory.wf m = true → Memory.wf (f m x) = true) :
    ∀ {l : List α} {m : SMap Byte}, Memory.wf m = true → Memory.wf (l.foldl f m) = true
  | [], _, h => h
  | x :: l, m, h => Memory.wf_foldl (l := l) (m := f m x) hf (hf m x h)

@[simp] theorem Memory.read_write_self (m : SMap Byte) (a : Nat) (v : Byte) : Memory.read (Memory.write m a v) a = v := by
  unfold Memory.read Memory.write
  split
  · next hv => simp [SMap.get, SMap.find_del_self, hv]
  · simp

theorem Memory.read_write_ne {a b : Nat} (h : b ≠ a) (m : SMap Byte) (v : Byte) :
    Memory.read (Memory.write m a v) b = Memory.read m b := by
  unfold Memory.read Memory.write
  split
  · simp [SMap.get, SMap.find_del_ne h]
  · rw [SMap.get_put_ne h]

/-- A byte outside the bytes written reads as before. -/
theorem Memory.read_writeL_out : ∀ {l : List Byte} {m : SMap Byte} {a b : Nat}, (b < a ∨ a + l.length ≤ b) →
    Memory.read (Memory.writeL m a l) b = Memory.read m b
  | [], _, _, _, _ => rfl
  | v :: l, m, a, b, h => by
    have hb : b ≠ a := by rintro rfl; simp at h
    unfold Memory.writeL
    rw [Memory.read_writeL_out (by simp at h; omega), Memory.read_write_ne hb]

/-- A byte inside them reads what was written. -/
theorem Memory.read_writeL_in : ∀ {l : List Byte} {m : SMap Byte} {a i : Nat} (h : i < l.length),
    Memory.read (Memory.writeL m a l) (a + i) = l[i]
  | v :: l, m, a, 0, _ => by
    unfold Memory.writeL
    rw [Memory.read_writeL_out (by omega)]
    simp
  | v :: l, m, a, i + 1, h => by
    unfold Memory.writeL
    have e : a + (i + 1) = a + 1 + i := by omega
    rw [e, Memory.read_writeL_in (by simpa using h)]
    simp

theorem Memory.readN_writeL (m : SMap Byte) (a : Nat) (l : List Byte) : Memory.readN (Memory.writeL m a l) a l.length = l := by
  unfold Memory.readN
  apply List.ext_getElem
  · simp
  · intro i h1 h2
    simp [Memory.read_writeL_in h2]

/-- A byte of a cleared range reads 0, and any other as before. -/
theorem Memory.read_zero (m : SMap Byte) (a n b : Nat) :
    Memory.read (Memory.zero m a n) b = if a ≤ b ∧ b < a + n then 0 else Memory.read m b := by
  unfold Memory.read Memory.zero SMap.get
  induction m with
  | nil => simp [SMap.find]
  | cons e m ih =>
    obtain ⟨k, v⟩ := e
    rw [List.filter_cons]
    by_cases hb : a ≤ b ∧ b < a + n
    · rw [if_pos hb] at ih ⊢
      split
      · next hk =>
        have : k ≠ b := by
          rintro rfl
          simp at hk
          omega
        simp only [SMap.find, this, if_false]
        exact ih
      · exact ih
    · rw [if_neg hb] at ih ⊢
      split
      · simp only [SMap.find]
        split
        · rfl
        · exact ih
      · next hk =>
        have : k ≠ b := by
          rintro rfl
          simp at hk
          omega
        simp only [SMap.find, this, if_false]
        exact ih

end Sys2Proof.Machine
end

