-- ==== Sys2Proof/Laws/Frame.lean ====
section
/-! SUPPORT. Frames as bit masks: what composes the frame of an operation from those of the operations it is made of. -/

set_option Elab.async false
set_option linter.unusedTactic false

namespace Sys2Proof.Machine
open Sys2Proof.Safety

/-- The bit of a part. -/
def Part.bit : Part → Nat
  | .pending => 0
  | .fuse => 1
  | .fv => 2
  | .sent => 3
  | .csr => 4
  | .paths => 5
  | .map => 6
  | .cmap => 7
  | .trays => 8
  | .clusters => 9
  | .cores => 10
  | .nextId => 11
  | .starts => 12
  | .outst => 13
  | .movers => 14
  | .subs => 15
  | .seqs => 16
  | .sites => 17
  | .remote => 18
  | .lent => 19
  | .heldR => 20
  | .ctxs => 21
  | .memOther => 22
  | .host => 23
  | .light => 24
  | .fab => 25
  | .steer => 26
  | .gov => 27
  | .plan => 28
  | .mod => 29
  | .time => 30
  | .fw => 31
  | .cs => 32
  | .mgmt => 33
  | .proofMisses => 34
  | .proofRefereed => 35
  | .proofNomaj => 36
  | .seedsOwed => 37

/-- Every bit of one mask is in the other. -/
abbrev Within (a b : Nat) : Prop := Nat.land a b = a

theorem Within.of {a b c : Nat} (h : Within a b) (k : Within b c) : Within a c := by
  unfold Within at *
  have e : Nat.land (Nat.land a b) c = Nat.land a (Nat.land b c) := Nat.land_assoc a b c
  rw [h, k] at e
  exact e.trans h

theorem Within.rfl' (a : Nat) : Within a a := by unfold Within; exact Nat.and_self a

theorem Within.has {a b k : Nat} (h : Within a b) (ha : a.testBit k = true) : b.testBit k = true := by
  have e : (Nat.land a b).testBit k = a.testBit k := by rw [h]
  have e2 : (Nat.land a b).testBit k = (a.testBit k && b.testBit k) := Nat.testBit_land a b k
  rw [e2, ha] at e
  simpa using e

theorem Within.no {a b k : Nat} (h : Within a b) (hp : b.testBit k = false) (ha : a.testBit k = true) {P : Prop} : P := by
  have := h.has ha
  rw [hp] at this
  cases this

/-- Only the parts of a mask differ, and the state stays sound. -/
structure Fr (m : Nat) (s t : State) : Prop where
  all : ∀ p : Part, m.testBit (Part.bit p) = false → p.same s t
  keep : Sound s → Sound t

theorem Fr.refl (m : Nat) (s : State) : Fr m s s := ⟨by intro p _; cases p <;> simp [Part.same], id⟩

theorem Fr.trans {m : Nat} {s t u : State} (h : Fr m s t) (k : Fr m t u) : Fr m s u := by
  refine ⟨?_, fun x => k.keep (h.keep x)⟩
  intro p hp
  have h1 := h.all p hp
  have h2 := k.all p hp
  cases p <;> simp only [Part.same] at * <;> simp_all

theorem Fr.of_eq {m : Nat} {s t : State} (h : s = t) : Fr m s t := h ▸ Fr.refl m s

theorem Fr.ite {m : Nat} {s t u : State} {c : Prop} [Decidable c] (h : Fr m s t) (k : Fr m s u) :
    Fr m s (if c then t else u) := by
  split
  · exact h
  · exact k

theorem Fr.step {m : Nat} {s t u : State} {c : Prop} [Decidable c] (h : Fr m s t) (k : Fr m t u) :
    Fr m s (if c then u else t) := Fr.ite (h.trans k) h

theorem Fr.foldl {m : Nat} {α : Type} {f : State → α → State} (hf : ∀ t x, Fr m t (f t x)) {l : List α} {s : State} :
    Fr m s (l.foldl f s) := by
  induction l generalizing s with
  | nil => exact Fr.refl m s
  | cons x l ih => exact (hf s x).trans ih

theorem Fr.set_clusters {m : Nat} (hm : Within 512 m) {s t : State} {x0 : _} (h : Fr m s t) :
    Fr m s { t with clusters := x0 } := by
  refine ⟨?_, fun k => ⟨(h.keep k).trays, (h.keep k).cores, (h.keep k).sites, (h.keep k).remote⟩⟩
  intro p hp
  cases p <;> first | exact h.all _ hp | exact hm.no hp rfl

theorem Fr.set_cmap {m : Nat} (hm : Within 128 m) {s t : State} {x0 : _} (h : Fr m s t) :
    Fr m s { t with cmap := x0 } := by
  refine ⟨?_, fun k => ⟨(h.keep k).trays, (h.keep k).cores, (h.keep k).sites, (h.keep k).remote⟩⟩
  intro p hp
  cases p <;> first | exact h.all _ hp | exact hm.no hp rfl

theorem Fr.set_cores {m : Nat} (hm : Within 1024 m) {s t : State} {x0 : _} (h : Fr m s t) (kx0 : (∀ e ∈ t.cores, CoreSound e.2) → ∀ e ∈ x0, CoreSound e.2 := by
      intro h e he; obtain ⟨x, hx, rfl⟩ := List.mem_map.mp he; exact h x hx) :
    Fr m s { t with cores := x0 } := by
  refine ⟨?_, fun k => ⟨(h.keep k).trays, kx0 (h.keep k).cores, (h.keep k).sites, (h.keep k).remote⟩⟩
  intro p hp
  cases p <;> first | exact h.all _ hp | exact hm.no hp rfl

theorem Fr.set_cs {m : Nat} (hm : Within 4294967296 m) {s t : State} {x0 : _} (h : Fr m s t) :
    Fr m s { t with cs := x0 } := by
  refine ⟨?_, fun k => ⟨(h.keep k).trays, (h.keep k).cores, (h.keep k).sites, (h.keep k).remote⟩⟩
  intro p hp
  cases p <;> first | exact h.all _ hp | exact hm.no hp rfl

theorem Fr.set_cs_mgmt {m : Nat} (hm : Within 12884901888 m) {s t : State} {x0 : _} {x1 : _} (h : Fr m s t) :
    Fr m s { t with cs := x0, mgmt := x1 } := by
  refine ⟨?_, fun k => ⟨(h.keep k).trays, (h.keep k).cores, (h.keep k).sites, (h.keep k).remote⟩⟩
  intro p hp
  cases p <;> first | exact h.all _ hp | exact hm.no hp rfl

theorem Fr.set_csr {m : Nat} (hm : Within 16 m) {s t : State} {x0 : _} (h : Fr m s t) :
    Fr m s { t with csr := x0 } := by
  refine ⟨?_, fun k => ⟨(h.keep k).trays, (h.keep k).cores, (h.keep k).sites, (h.keep k).remote⟩⟩
  intro p hp
  cases p <;> first | exact h.all _ hp | exact hm.no hp rfl

theorem Fr.set_fab {m : Nat} (hm : Within 33554432 m) {s t : State} {x0 : _} (h : Fr m s t) :
    Fr m s { t with fab := x0 } := by
  refine ⟨?_, fun k => ⟨(h.keep k).trays, (h.keep k).cores, (h.keep k).sites, (h.keep k).remote⟩⟩
  intro p hp
  cases p <;> first | exact h.all _ hp | exact hm.no hp rfl

theorem Fr.set_fv {m : Nat} (hm : Within 4 m) {s t : State} {x0 : _} (h : Fr m s t) :
    Fr m s { t with fv := x0 } := by
  refine ⟨?_, fun k => ⟨(h.keep k).trays, (h.keep k).cores, (h.keep k).sites, (h.keep k).remote⟩⟩
  intro p hp
  cases p <;> first | exact h.all _ hp | exact hm.no hp rfl

theorem Fr.set_fv_fw {m : Nat} (hm : Within 2147483652 m) {s t : State} {x0 : _} {x1 : _} (h : Fr m s t) :
    Fr m s { t with fv := x0, fw := x1 } := by
  refine ⟨?_, fun k => ⟨(h.keep k).trays, (h.keep k).cores, (h.keep k).sites, (h.keep k).remote⟩⟩
  intro p hp
  cases p <;> first | exact h.all _ hp | exact hm.no hp rfl

theorem Fr.set_fw {m : Nat} (hm : Within 2147483648 m) {s t : State} {x0 : _} (h : Fr m s t) :
    Fr m s { t with fw := x0 } := by
  refine ⟨?_, fun k => ⟨(h.keep k).trays, (h.keep k).cores, (h.keep k).sites, (h.keep k).remote⟩⟩
  intro p hp
  cases p <;> first | exact h.all _ hp | exact hm.no hp rfl

theorem Fr.set_gov {m : Nat} (hm : Within 134217728 m) {s t : State} {x0 : _} (h : Fr m s t) :
    Fr m s { t with gov := x0 } := by
  refine ⟨?_, fun k => ⟨(h.keep k).trays, (h.keep k).cores, (h.keep k).sites, (h.keep k).remote⟩⟩
  intro p hp
  cases p <;> first | exact h.all _ hp | exact hm.no hp rfl

theorem Fr.set_gov_fw {m : Nat} (hm : Within 2281701376 m) {s t : State} {x0 : _} {x1 : _} (h : Fr m s t) :
    Fr m s { t with gov := x0, fw := x1 } := by
  refine ⟨?_, fun k => ⟨(h.keep k).trays, (h.keep k).cores, (h.keep k).sites, (h.keep k).remote⟩⟩
  intro p hp
  cases p <;> first | exact h.all _ hp | exact hm.no hp rfl

theorem Fr.set_host {m : Nat} (hm : Within 8388608 m) {s t : State} {x0 : _} (h : Fr m s t) :
    Fr m s { t with host := x0 } := by
  refine ⟨?_, fun k => ⟨(h.keep k).trays, (h.keep k).cores, (h.keep k).sites, (h.keep k).remote⟩⟩
  intro p hp
  cases p <;> first | exact h.all _ hp | exact hm.no hp rfl

theorem Fr.set_host_mod {m : Nat} (hm : Within 545259520 m) {s t : State} {x0 : _} {x1 : _} (h : Fr m s t) :
    Fr m s { t with host := x0, mod := x1 } := by
  refine ⟨?_, fun k => ⟨(h.keep k).trays, (h.keep k).cores, (h.keep k).sites, (h.keep k).remote⟩⟩
  intro p hp
  cases p <;> first | exact h.all _ hp | exact hm.no hp rfl

theorem Fr.set_light {m : Nat} (hm : Within 16777216 m) {s t : State} {x0 : _} (h : Fr m s t) :
    Fr m s { t with light := x0 } := by
  refine ⟨?_, fun k => ⟨(h.keep k).trays, (h.keep k).cores, (h.keep k).sites, (h.keep k).remote⟩⟩
  intro p hp
  cases p <;> first | exact h.all _ hp | exact hm.no hp rfl

theorem Fr.set_map {m : Nat} (hm : Within 64 m) {s t : State} {x0 : _} (h : Fr m s t) :
    Fr m s { t with map := x0 } := by
  refine ⟨?_, fun k => ⟨(h.keep k).trays, (h.keep k).cores, (h.keep k).sites, (h.keep k).remote⟩⟩
  intro p hp
  cases p <;> first | exact h.all _ hp | exact hm.no hp rfl

theorem Fr.set_memctxs {m : Nat} (hm : Within 2097152 m) {s t : State} {x0 : _} (h : Fr m s t) :
    Fr m s { t with mem := { t.mem with ctxs := x0 } } := by
  refine ⟨?_, fun k => ⟨(h.keep k).trays, (h.keep k).cores, (h.keep k).sites, (h.keep k).remote⟩⟩
  intro p hp
  cases p <;> first | exact h.all _ hp | exact hm.no hp rfl

theorem Fr.set_memexhausted {m : Nat} (hm : Within 4194304 m) {s t : State} {x0 : _} (h : Fr m s t) :
    Fr m s { t with mem := { t.mem with exhausted := x0 } } := by
  refine ⟨?_, fun k => ⟨(h.keep k).trays, (h.keep k).cores, (h.keep k).sites, (h.keep k).remote⟩⟩
  intro p hp
  cases p <;> first | exact h.all _ hp | exact hm.no hp rfl

theorem Fr.set_memheldR {m : Nat} (hm : Within 1048576 m) {s t : State} {x0 : _} (h : Fr m s t) :
    Fr m s { t with mem := { t.mem with heldR := x0 } } := by
  refine ⟨?_, fun k => ⟨(h.keep k).trays, (h.keep k).cores, (h.keep k).sites, (h.keep k).remote⟩⟩
  intro p hp
  cases p <;> first | exact h.all _ hp | exact hm.no hp rfl

theorem Fr.set_memlent {m : Nat} (hm : Within 524288 m) {s t : State} {x0 : _} (h : Fr m s t) :
    Fr m s { t with mem := { t.mem with lent := x0 } } := by
  refine ⟨?_, fun k => ⟨(h.keep k).trays, (h.keep k).cores, (h.keep k).sites, (h.keep k).remote⟩⟩
  intro p hp
  cases p <;> first | exact h.all _ hp | exact hm.no hp rfl

theorem Fr.set_memlent_mempool {m : Nat} (hm : Within 4718592 m) {s t : State} {x0 : _} {x1 : _} (h : Fr m s t) :
    Fr m s { t with mem := { t.mem with lent := x0, pool := x1 } } := by
  refine ⟨?_, fun k => ⟨(h.keep k).trays, (h.keep k).cores, (h.keep k).sites, (h.keep k).remote⟩⟩
  intro p hp
  cases p <;> first | exact h.all _ hp | exact hm.no hp rfl

theorem Fr.set_mempool {m : Nat} (hm : Within 4194304 m) {s t : State} {x0 : _} (h : Fr m s t) :
    Fr m s { t with mem := { t.mem with pool := x0 } } := by
  refine ⟨?_, fun k => ⟨(h.keep k).trays, (h.keep k).cores, (h.keep k).sites, (h.keep k).remote⟩⟩
  intro p hp
  cases p <;> first | exact h.all _ hp | exact hm.no hp rfl

theorem Fr.set_memremBad {m : Nat} (hm : Within 262144 m) {s t : State} {x0 : _} (h : Fr m s t) :
    Fr m s { t with mem := { t.mem with remBad := x0 } } := by
  refine ⟨?_, fun k => ⟨(h.keep k).trays, (h.keep k).cores, (h.keep k).sites, (h.keep k).remote⟩⟩
  intro p hp
  cases p <;> first | exact h.all _ hp | exact hm.no hp rfl

theorem Fr.set_memremote_memremBad {m : Nat} (hm : Within 262144 m) {s t : State} {x0 : _} {x1 : _} (h : Fr m s t) (kx0 : Memory.wf t.mem.remote = true → Memory.wf x0 = true := by
      first | exact fun h => Memory.wf_write h _ _ | exact fun h => Memory.wf_zero h _ _ | exact fun h => Memory.wf_writeL h | exact fun _ => Memory.wf_nil) :
    Fr m s { t with mem := { t.mem with remote := x0, remBad := x1 } } := by
  refine ⟨?_, fun k => ⟨(h.keep k).trays, (h.keep k).cores, (h.keep k).sites, kx0 (h.keep k).remote⟩⟩
  intro p hp
  cases p <;> first | exact h.all _ hp | exact hm.no hp rfl

theorem Fr.set_memrot {m : Nat} (hm : Within 4194304 m) {s t : State} {x0 : _} (h : Fr m s t) :
    Fr m s { t with mem := { t.mem with rot := x0 } } := by
  refine ⟨?_, fun k => ⟨(h.keep k).trays, (h.keep k).cores, (h.keep k).sites, (h.keep k).remote⟩⟩
  intro p hp
  cases p <;> first | exact h.all _ hp | exact hm.no hp rfl

theorem Fr.set_memsamples_memavg_mod {m : Nat} (hm : Within 541065216 m) {s t : State} {x0 : _} {x1 : _} {x2 : _} (h : Fr m s t) :
    Fr m s { t with mod := x2, mem := { t.mem with samples := x0, avg := x1 } } := by
  refine ⟨?_, fun k => ⟨(h.keep k).trays, (h.keep k).cores, (h.keep k).sites, (h.keep k).remote⟩⟩
  intro p hp
  cases p <;> first | exact h.all _ hp | exact hm.no hp rfl

theorem Fr.set_memsites {m : Nat} (hm : Within 131072 m) {s t : State} {x0 : _} (h : Fr m s t) (kx0 : (∀ e ∈ t.mem.sites, SiteSound e.2) → ∀ e ∈ x0, SiteSound e.2 := by
      intro h e he; obtain ⟨x, hx, rfl⟩ := List.mem_map.mp he; exact h x hx) :
    Fr m s { t with mem := { t.mem with sites := x0 } } := by
  refine ⟨?_, fun k => ⟨(h.keep k).trays, (h.keep k).cores, kx0 (h.keep k).sites, (h.keep k).remote⟩⟩
  intro p hp
  cases p <;> first | exact h.all _ hp | exact hm.no hp rfl

theorem Fr.set_memstep_memexhausted {m : Nat} (hm : Within 4194304 m) {s t : State} {x0 : _} {x1 : _} (h : Fr m s t) :
    Fr m s { t with mem := { t.mem with step := x0, exhausted := x1 } } := by
  refine ⟨?_, fun k => ⟨(h.keep k).trays, (h.keep k).cores, (h.keep k).sites, (h.keep k).remote⟩⟩
  intro p hp
  cases p <;> first | exact h.all _ hp | exact hm.no hp rfl

theorem Fr.set_memthermal {m : Nat} (hm : Within 4194304 m) {s t : State} {x0 : _} (h : Fr m s t) :
    Fr m s { t with mem := { t.mem with thermal := x0 } } := by
  refine ⟨?_, fun k => ⟨(h.keep k).trays, (h.keep k).cores, (h.keep k).sites, (h.keep k).remote⟩⟩
  intro p hp
  cases p <;> first | exact h.all _ hp | exact hm.no hp rfl

theorem Fr.set_mgmt {m : Nat} (hm : Within 8589934592 m) {s t : State} {x0 : _} (h : Fr m s t) :
    Fr m s { t with mgmt := x0 } := by
  refine ⟨?_, fun k => ⟨(h.keep k).trays, (h.keep k).cores, (h.keep k).sites, (h.keep k).remote⟩⟩
  intro p hp
  cases p <;> first | exact h.all _ hp | exact hm.no hp rfl

theorem Fr.set_mgmt_proofMisses {m : Nat} (hm : Within 25769803776 m) {s t : State} {x0 : _} {x1 : _} (h : Fr m s t) :
    Fr m s { t with mgmt := x0, proofMisses := x1 } := by
  refine ⟨?_, fun k => ⟨(h.keep k).trays, (h.keep k).cores, (h.keep k).sites, (h.keep k).remote⟩⟩
  intro p hp
  cases p <;> first | exact h.all _ hp | exact hm.no hp rfl

theorem Fr.set_mgmt_proofRefereed {m : Nat} (hm : Within 42949672960 m) {s t : State} {x0 : _} {x1 : _} (h : Fr m s t) :
    Fr m s { t with mgmt := x0, proofRefereed := x1 } := by
  refine ⟨?_, fun k => ⟨(h.keep k).trays, (h.keep k).cores, (h.keep k).sites, (h.keep k).remote⟩⟩
  intro p hp
  cases p <;> first | exact h.all _ hp | exact hm.no hp rfl

theorem Fr.set_mod {m : Nat} (hm : Within 536870912 m) {s t : State} {x0 : _} (h : Fr m s t) :
    Fr m s { t with mod := x0 } := by
  refine ⟨?_, fun k => ⟨(h.keep k).trays, (h.keep k).cores, (h.keep k).sites, (h.keep k).remote⟩⟩
  intro p hp
  cases p <;> first | exact h.all _ hp | exact hm.no hp rfl

theorem Fr.set_movers {m : Nat} (hm : Within 16384 m) {s t : State} {x0 : _} (h : Fr m s t) :
    Fr m s { t with movers := x0 } := by
  refine ⟨?_, fun k => ⟨(h.keep k).trays, (h.keep k).cores, (h.keep k).sites, (h.keep k).remote⟩⟩
  intro p hp
  cases p <;> first | exact h.all _ hp | exact hm.no hp rfl

theorem Fr.set_nextId {m : Nat} (hm : Within 2048 m) {s t : State} {x0 : _} (h : Fr m s t) :
    Fr m s { t with nextId := x0 } := by
  refine ⟨?_, fun k => ⟨(h.keep k).trays, (h.keep k).cores, (h.keep k).sites, (h.keep k).remote⟩⟩
  intro p hp
  cases p <;> first | exact h.all _ hp | exact hm.no hp rfl

theorem Fr.set_outst {m : Nat} (hm : Within 8192 m) {s t : State} {x0 : _} (h : Fr m s t) :
    Fr m s { t with outst := x0 } := by
  refine ⟨?_, fun k => ⟨(h.keep k).trays, (h.keep k).cores, (h.keep k).sites, (h.keep k).remote⟩⟩
  intro p hp
  cases p <;> first | exact h.all _ hp | exact hm.no hp rfl

theorem Fr.set_paths {m : Nat} (hm : Within 32 m) {s t : State} {x0 : _} (h : Fr m s t) :
    Fr m s { t with paths := x0 } := by
  refine ⟨?_, fun k => ⟨(h.keep k).trays, (h.keep k).cores, (h.keep k).sites, (h.keep k).remote⟩⟩
  intro p hp
  cases p <;> first | exact h.all _ hp | exact hm.no hp rfl

theorem Fr.set_paths_mgmt {m : Nat} (hm : Within 8589934624 m) {s t : State} {x0 : _} {x1 : _} (h : Fr m s t) :
    Fr m s { t with paths := x0, mgmt := x1 } := by
  refine ⟨?_, fun k => ⟨(h.keep k).trays, (h.keep k).cores, (h.keep k).sites, (h.keep k).remote⟩⟩
  intro p hp
  cases p <;> first | exact h.all _ hp | exact hm.no hp rfl

theorem Fr.set_pending {m : Nat} (hm : Within 1 m) {s t : State} {x0 : _} (h : Fr m s t) :
    Fr m s { t with pending := x0 } := by
  refine ⟨?_, fun k => ⟨(h.keep k).trays, (h.keep k).cores, (h.keep k).sites, (h.keep k).remote⟩⟩
  intro p hp
  cases p <;> first | exact h.all _ hp | exact hm.no hp rfl

theorem Fr.set_plan {m : Nat} (hm : Within 268435456 m) {s t : State} {x0 : _} (h : Fr m s t) :
    Fr m s { t with plan := x0 } := by
  refine ⟨?_, fun k => ⟨(h.keep k).trays, (h.keep k).cores, (h.keep k).sites, (h.keep k).remote⟩⟩
  intro p hp
  cases p <;> first | exact h.all _ hp | exact hm.no hp rfl

theorem Fr.set_plan_mod {m : Nat} (hm : Within 805306368 m) {s t : State} {x0 : _} {x1 : _} (h : Fr m s t) :
    Fr m s { t with plan := x0, mod := x1 } := by
  refine ⟨?_, fun k => ⟨(h.keep k).trays, (h.keep k).cores, (h.keep k).sites, (h.keep k).remote⟩⟩
  intro p hp
  cases p <;> first | exact h.all _ hp | exact hm.no hp rfl

theorem Fr.set_proofNomaj {m : Nat} (hm : Within 68719476736 m) {s t : State} {x0 : _} (h : Fr m s t) :
    Fr m s { t with proofNomaj := x0 } := by
  refine ⟨?_, fun k => ⟨(h.keep k).trays, (h.keep k).cores, (h.keep k).sites, (h.keep k).remote⟩⟩
  intro p hp
  cases p <;> first | exact h.all _ hp | exact hm.no hp rfl

theorem Fr.set_seedsOwed {m : Nat} (hm : Within 137438953472 m) {s t : State} {x0 : _} (h : Fr m s t) :
    Fr m s { t with seedsOwed := x0 } := by
  refine ⟨?_, fun k => ⟨(h.keep k).trays, (h.keep k).cores, (h.keep k).sites, (h.keep k).remote⟩⟩
  intro p hp
  cases p <;> first | exact h.all _ hp | exact hm.no hp rfl

theorem Fr.set_sent {m : Nat} (hm : Within 8 m) {s t : State} {x0 : _} (h : Fr m s t) :
    Fr m s { t with sent := x0 } := by
  refine ⟨?_, fun k => ⟨(h.keep k).trays, (h.keep k).cores, (h.keep k).sites, (h.keep k).remote⟩⟩
  intro p hp
  cases p <;> first | exact h.all _ hp | exact hm.no hp rfl

theorem Fr.set_seqs {m : Nat} (hm : Within 65536 m) {s t : State} {x0 : _} (h : Fr m s t) :
    Fr m s { t with seqs := x0 } := by
  refine ⟨?_, fun k => ⟨(h.keep k).trays, (h.keep k).cores, (h.keep k).sites, (h.keep k).remote⟩⟩
  intro p hp
  cases p <;> first | exact h.all _ hp | exact hm.no hp rfl

theorem Fr.set_starts {m : Nat} (hm : Within 4096 m) {s t : State} {x0 : _} (h : Fr m s t) :
    Fr m s { t with starts := x0 } := by
  refine ⟨?_, fun k => ⟨(h.keep k).trays, (h.keep k).cores, (h.keep k).sites, (h.keep k).remote⟩⟩
  intro p hp
  cases p <;> first | exact h.all _ hp | exact hm.no hp rfl

theorem Fr.set_starts_outst {m : Nat} (hm : Within 12288 m) {s t : State} {x0 : _} {x1 : _} (h : Fr m s t) :
    Fr m s { t with starts := x0, outst := x1 } := by
  refine ⟨?_, fun k => ⟨(h.keep k).trays, (h.keep k).cores, (h.keep k).sites, (h.keep k).remote⟩⟩
  intro p hp
  cases p <;> first | exact h.all _ hp | exact hm.no hp rfl

theorem Fr.set_starts_outst_movers {m : Nat} (hm : Within 28672 m) {s t : State} {x0 : _} {x1 : _} {x2 : _} (h : Fr m s t) :
    Fr m s { t with starts := x0, outst := x1, movers := x2 } := by
  refine ⟨?_, fun k => ⟨(h.keep k).trays, (h.keep k).cores, (h.keep k).sites, (h.keep k).remote⟩⟩
  intro p hp
  cases p <;> first | exact h.all _ hp | exact hm.no hp rfl

theorem Fr.set_steer {m : Nat} (hm : Within 67108864 m) {s t : State} {x0 : _} (h : Fr m s t) :
    Fr m s { t with steer := x0 } := by
  refine ⟨?_, fun k => ⟨(h.keep k).trays, (h.keep k).cores, (h.keep k).sites, (h.keep k).remote⟩⟩
  intro p hp
  cases p <;> first | exact h.all _ hp | exact hm.no hp rfl

theorem Fr.set_steer_gov {m : Nat} (hm : Within 201326592 m) {s t : State} {x0 : _} {x1 : _} (h : Fr m s t) :
    Fr m s { t with steer := x0, gov := x1 } := by
  refine ⟨?_, fun k => ⟨(h.keep k).trays, (h.keep k).cores, (h.keep k).sites, (h.keep k).remote⟩⟩
  intro p hp
  cases p <;> first | exact h.all _ hp | exact hm.no hp rfl

theorem Fr.set_steer_mod {m : Nat} (hm : Within 603979776 m) {s t : State} {x0 : _} {x1 : _} (h : Fr m s t) :
    Fr m s { t with steer := x0, mod := x1 } := by
  refine ⟨?_, fun k => ⟨(h.keep k).trays, (h.keep k).cores, (h.keep k).sites, (h.keep k).remote⟩⟩
  intro p hp
  cases p <;> first | exact h.all _ hp | exact hm.no hp rfl

theorem Fr.set_subs {m : Nat} (hm : Within 32768 m) {s t : State} {x0 : _} (h : Fr m s t) :
    Fr m s { t with subs := x0 } := by
  refine ⟨?_, fun k => ⟨(h.keep k).trays, (h.keep k).cores, (h.keep k).sites, (h.keep k).remote⟩⟩
  intro p hp
  cases p <;> first | exact h.all _ hp | exact hm.no hp rfl

theorem Fr.set_time {m : Nat} (hm : Within 1073741824 m) {s t : State} {x0 : _} (h : Fr m s t) :
    Fr m s { t with time := x0 } := by
  refine ⟨?_, fun k => ⟨(h.keep k).trays, (h.keep k).cores, (h.keep k).sites, (h.keep k).remote⟩⟩
  intro p hp
  cases p <;> first | exact h.all _ hp | exact hm.no hp rfl

theorem Fr.set_trays {m : Nat} (hm : Within 256 m) {s t : State} {x0 : _} (h : Fr m s t) (kx0 : (∀ e ∈ t.trays, TraySound e.2) → ∀ e ∈ x0, TraySound e.2 := by
      intro h e he; obtain ⟨x, hx, rfl⟩ := List.mem_map.mp he; exact h x hx) :
    Fr m s { t with trays := x0 } := by
  refine ⟨?_, fun k => ⟨kx0 (h.keep k).trays, (h.keep k).cores, (h.keep k).sites, (h.keep k).remote⟩⟩
  intro p hp
  cases p <;> first | exact h.all _ hp | exact hm.no hp rfl

theorem Fr.set_trays_clusters_cores_starts_outst_movers_subs_seqs_memsites_light_fab {m : Nat} (hm : Within 50591488 m) {s t : State} {x0 : _} {x1 : _} {x2 : _} {x3 : _} {x4 : _} {x5 : _} {x6 : _} {x7 : _} {x8 : _} {x9 : _} {x10 : _} (h : Fr m s t) (kx0 : (∀ e ∈ t.trays, TraySound e.2) → ∀ e ∈ x0, TraySound e.2 := by
      intro h e he; obtain ⟨x, hx, rfl⟩ := List.mem_map.mp he; exact h x hx) (kx2 : (∀ e ∈ t.cores, CoreSound e.2) → ∀ e ∈ x2, CoreSound e.2 := by
      intro h e he; obtain ⟨x, hx, rfl⟩ := List.mem_map.mp he; exact h x hx) (kx8 : (∀ e ∈ t.mem.sites, SiteSound e.2) → ∀ e ∈ x8, SiteSound e.2 := by
      intro h e he; obtain ⟨x, hx, rfl⟩ := List.mem_map.mp he; exact h x hx) :
    Fr m s { t with trays := x0, clusters := x1, cores := x2, starts := x3, outst := x4, movers := x5, subs := x6, seqs := x7, light := x9, fab := x10, mem := { t.mem with sites := x8 } } := by
  refine ⟨?_, fun k => ⟨kx0 (h.keep k).trays, kx2 (h.keep k).cores, kx8 (h.keep k).sites, (h.keep k).remote⟩⟩
  intro p hp
  cases p <;> first | exact h.all _ hp | exact hm.no hp rfl

/-! ### What is sound in a sparse map -/

theorem SMap.mem_ins {α : Type} {k : Nat} {v : α} {e : Nat × α} : ∀ {m : SMap α}, e ∈ SMap.ins k v m → e = (k, v) ∨ e ∈ m
  | [], h => by simpa [SMap.ins] using h
  | (a, b) :: r, h => by
    unfold SMap.ins at h
    split at h
    · simpa using h
    · rcases List.mem_cons.mp h with rfl | h
      · simp
      · rcases SMap.mem_ins h with h | h
        · exact .inl h
        · exact .inr (List.mem_cons_of_mem _ h)

theorem SMap.mem_put {α : Type} {k : Nat} {v : α} {m : SMap α} {e : Nat × α} (h : e ∈ SMap.put m k v) : e = (k, v) ∨ e ∈ m := by
  rcases SMap.mem_ins h with h | h
  · exact .inl h
  · exact .inr (List.mem_filter.mp h).1

theorem SMap.find_mem {α : Type} {k : Nat} {v : α} : ∀ {m : SMap α}, SMap.find m k = some v → (k, v) ∈ m
  | [], h => by cases h
  | (a, b) :: r, h => by
    unfold SMap.find at h
    split at h
    · next ha =>
      cases h
      simp [ha]
    · exact List.mem_cons_of_mem _ (SMap.find_mem h)

theorem SMap.all_put {α : Type} {P : α → Prop} {m : SMap α} {k : Nat} {v : α} (h : ∀ e ∈ m, P e.2) (hv : P v) :
    ∀ e ∈ SMap.put m k v, P e.2 := by
  intro e he
  rcases SMap.mem_put he with rfl | he
  · exact hv
  · exact h e he

theorem SMap.all_get {α : Type} {P : α → Prop} {m : SMap α} {k : Nat} {d : α} (h : ∀ e ∈ m, P e.2) (hd : P d) :
    P (SMap.get m k d) := by
  unfold SMap.get
  cases hf : SMap.find m k with
  | none => exact hd
  | some v => exact h _ (SMap.find_mem hf)

theorem satAdd_toNat {w : Nat} (x : BitVec w) (n : Nat) : (satAdd x n).toNat = min (2 ^ w - 1) (x.toNat + n) := by
  unfold satAdd
  split
  · next h =>
    rw [BitVec.toNat_ofNat, Nat.mod_eq_of_lt h]
    omega
  · rw [BitVec.toNat_allOnes]
    omega

theorem TraySound.blank : TraySound {} := ⟨rfl, rfl⟩

theorem Sound.tray {s : State} (h : Sound s) (k : Nat) : TraySound (s.tray k) := SMap.all_get h.trays TraySound.blank

theorem Sound.core {s : State} (h : Sound s) (k : Nat) : CoreSound (s.core k) := by
  unfold State.core
  cases hf : SMap.find s.cores k with
  | none => exact Memory.wf_nil
  | some v => exact h.cores _ (SMap.find_mem hf)

theorem Sound.site {s : State} (h : Sound s) (k : Nat) : SiteSound (s.site k) := SMap.all_get h.sites Memory.wf_nil

/-- A meaning that answers a next state changes only the parts of a mask. -/
def OutFr (m : Nat) (s : State) (o : Out) : Prop := ∀ t, o = .next t → Fr m s t

theorem OutFr.next {m : Nat} {s t : State} (h : Fr m s t) : OutFr m s (.next t) := by
  intro u hu
  cases hu
  exact h

theorem OutFr.trans {m : Nat} {s t : State} {o : Out} (h : Fr m s t) (k : OutFr m t o) : OutFr m s o :=
  fun u hu => h.trans (k u hu)

end Sys2Proof.Machine
end

