-- ==== Sys2Proof/Laws/FrameOps.lean ====
section
/-! SUPPORT. The frame of every operation of Machine/Ops: the parts of the state that it can change. -/

set_option Elab.async false
set_option linter.unusedTactic false

namespace Sys2Proof.Machine
open Sys2Proof.Safety

theorem State.draw_frame {m : Nat} (hm : Within 4 m) {s : State} :
    Fr m s (State.draw s) := by
  delta State.draw
  exact (Fr.set_fv (Within.of rfl hm) (Fr.refl _ _))

theorem State.setPath_frame {m : Nat} (hm : Within 32 m) {s : State} {a1 : Path} {a2 : PathSt} :
    Fr m s (State.setPath s a1 a2) := by
  delta State.setPath
  exact (Fr.set_paths (Within.of rfl hm) (Fr.refl _ _))

theorem State.setTray_frame {m : Nat} (hm : Within 256 m) {s : State} {k : Nat} {t : Tray}
    (hk : Sound s → TraySound t := by exact fun h => Sound.tray h _) : Fr m s (s.setTray k t) := by
  refine ⟨fun p hp => ?_, fun h => ⟨SMap.all_put h.trays (hk h), h.cores, h.sites, h.remote⟩⟩
  cases p <;> first | exact (Fr.refl m s).all _ hp | exact hm.no hp rfl

theorem State.setCluster_frame {m : Nat} (hm : Within 512 m) {s : State} {a1 : ℕ} {a2 : Cluster} :
    Fr m s (State.setCluster s a1 a2) := by
  delta State.setCluster
  exact (Fr.set_clusters (Within.of rfl hm) (Fr.refl _ _))

theorem State.setCore_frame {m : Nat} (hm : Within 1024 m) {s : State} {k : Nat} {c : Core}
    (hk : Sound s → CoreSound c := by
      first
        | exact (fun h => Sound.core h _)
        | exact (fun h => Memory.wf_writeL (Sound.core h _))
        | exact (fun h => Memory.wf_zero (Sound.core h _) _ _)
        | exact (fun h => Memory.wf_write (Sound.core h _) _ _)
        | exact (fun _ => Memory.wf_nil)) : Fr m s (s.setCore k c) := by
  refine ⟨fun p hp => ?_, fun h => ⟨h.trays, SMap.all_put h.cores (hk h), h.sites, h.remote⟩⟩
  cases p <;> first | exact (Fr.refl m s).all _ hp | exact hm.no hp rfl

theorem State.setSite_frame {m : Nat} (hm : Within 131072 m) {s : State} {k : Nat} {x : Site}
    (hk : Sound s → SiteSound x := by
      first
        | exact (fun h => Sound.site h _)
        | exact (fun h => Memory.wf_writeL (Sound.site h _))
        | exact (fun h => Memory.wf_zero (Sound.site h _) _ _)
        | exact (fun h => Memory.wf_write (Sound.site h _) _ _)) : Fr m s (s.setSite k x) := by
  refine ⟨fun p hp => ?_, fun h => ⟨h.trays, h.cores, SMap.all_put h.sites (hk h), h.remote⟩⟩
  cases p <;> first | exact (Fr.refl m s).all _ hp | exact hm.no hp rfl

theorem State.setCtx_frame {m : Nat} (hm : Within 2097152 m) {s : State} {a1 : CtxNo} {a2 : Ctx} :
    Fr m s (State.setCtx s a1 a2) := by
  delta State.setCtx
  exact (Fr.set_memctxs (Within.of rfl hm) (Fr.refl _ _))

theorem State.setSeq_frame {m : Nat} (hm : Within 65536 m) {s : State} {a1 : ℕ} {a2 : SeqSlot} :
    Fr m s (State.setSeq s a1 a2) := by
  delta State.setSeq
  exact (Fr.set_seqs (Within.of rfl hm) (Fr.refl _ _))

theorem State.setSub_frame {m : Nat} (hm : Within 32768 m) {s : State} {a1 : ℕ} {a2 : Sub} :
    Fr m s (State.setSub s a1 a2) := by
  delta State.setSub
  exact (Fr.set_subs (Within.of rfl hm) (Fr.refl _ _))

theorem State.setQp_frame {m : Nat} (hm : Within 8388608 m) {s : State} {a1 : ℕ} {a2 : Qp} :
    Fr m s (State.setQp s a1 a2) := by
  delta State.setQp
  exact (Fr.set_host (Within.of rfl hm) (Fr.refl _ _))

theorem State.setHport_frame {m : Nat} (hm : Within 8388608 m) {s : State} {a1 : BitVec 1} {a2 : HPort} :
    Fr m s (State.setHport s a1 a2) := by
  delta State.setHport
  exact (Fr.ite ((Fr.set_host (Within.of rfl hm) (Fr.refl _ _))) ((Fr.set_host (Within.of rfl hm) (Fr.refl _ _))))

theorem State.setComb_frame {m : Nat} (hm : Within 16777216 m) {s : State} {a1 : ℕ} {a2 : Comb} :
    Fr m s (State.setComb s a1 a2) := by
  delta State.setComb
  exact (Fr.set_light (Within.of rfl hm) (Fr.refl _ _))

theorem State.setFport_frame {m : Nat} (hm : Within 33554432 m) {s : State} {a1 : PortNo} {a2 : FPort} :
    Fr m s (State.setFport s a1 a2) := by
  delta State.setFport
  exact (Fr.set_fab (Within.of rfl hm) (Fr.refl _ _))

theorem State.setLt_frame {m : Nat} (hm : Within 33554432 m) {s : State} {a1 : PortNo} {a2 : Lt} :
    Fr m s (State.setLt s a1 a2) := by
  delta State.setLt
  exact (Fr.set_fab (Within.of rfl hm) (Fr.refl _ _))

theorem State.setChan_frame {m : Nat} (hm : Within 33554432 m) {s : State} {a1 : PortNo} {a2 : ChanNo} {a3 : Chan} :
    Fr m s (State.setChan s a1 a2 a3) := by
  delta State.setChan
  exact (Fr.trans (Fr.refl _ _) (State.setLt_frame (Within.of rfl hm)))

theorem State.setLink_frame {m : Nat} (hm : Within 33554432 m) {s : State} {a1 : BitVec 6} {a2 : LLink} :
    Fr m s (State.setLink s a1 a2) := by
  delta State.setLink
  exact (Fr.set_fab (Within.of rfl hm) (Fr.refl _ _))

theorem State.setSlPort_frame {m : Nat} (hm : Within 134217728 m) {s : State} {a1 : PortNo} {a2 : SlPort} :
    Fr m s (State.setSlPort s a1 a2) := by
  delta State.setSlPort
  exact (Fr.set_gov (Within.of rfl hm) (Fr.refl _ _))

theorem State.setDisc_frame {m : Nat} (hm : Within 268435456 m) {s : State} {a1 : PortNo} {a2 : PortDisc} :
    Fr m s (State.setDisc s a1 a2) := by
  delta State.setDisc
  exact (Fr.set_plan (Within.of rfl hm) (Fr.refl _ _))

theorem State.setTrigger_frame {m : Nat} (hm : Within 1073741824 m) {s : State} {a1 : ℕ} {a2 : Trigger} :
    Fr m s (State.setTrigger s a1 a2) := by
  delta State.setTrigger
  exact (Fr.set_time (Within.of rfl hm) (Fr.refl _ _))

theorem State.setSess_frame {m : Nat} (hm : Within 8589934592 m) {s : State} {a1 : ℕ} {a2 : Sess} :
    Fr m s (State.setSess s a1 a2) := by
  delta State.setSess
  exact (Fr.set_mgmt (Within.of rfl hm) (Fr.refl _ _))

theorem State.frameIn_frame {m : Nat} (hm : Within 8388612 m) {s : State} {a1 : BitVec 1} :
    Fr m s (State.frameIn s a1) := by
  delta State.frameIn
  exact (Fr.trans ((Fr.trans (Fr.refl _ _) (State.setHport_frame (Within.of rfl hm)))) (State.draw_frame (Within.of rfl hm)))

theorem State.frameOut_frame {m : Nat} (hm : Within 8388612 m) {s : State} {a1 : BitVec 1} :
    Fr m s (State.frameOut s a1) := by
  delta State.frameOut
  exact (Fr.trans ((Fr.trans (Fr.refl _ _) (State.setHport_frame (Within.of rfl hm)))) (State.draw_frame (Within.of rfl hm)))

theorem State.send_frame {m : Nat} (hm : Within 8 m) {s : State} {a1 : Sent} :
    Fr m s (State.send s a1) := by
  delta State.send
  exact (Fr.set_sent (Within.of rfl hm) (Fr.refl _ _))

theorem State.fresh_frame {m : Nat} (hm : Within 2048 m) {s : State} :
    Fr m s (State.fresh s) := by
  delta State.fresh
  exact (Fr.set_nextId (Within.of rfl hm) (Fr.refl _ _))

theorem State.each_frame {m : Nat} (_hm : Within 0 m) {s : State} {a1 : List ℕ} {a2 : State → ℕ → State} (h2 : ∀ v0 v1, Fr m v0
  (a2 v0 v1)) :
    Fr m s (State.each s a1 a2) := by
  delta State.each
  exact (Fr.trans (Fr.refl _ _) (Fr.foldl (fun _ _ => (Fr.trans (Fr.refl _ _) (h2 _ _)))))

theorem Fr.setTray_from {m : Nat} (hm : Within 256 m) {s t : State} {k : Nat} {x : Tray} (h : Fr m s t)
    (hk : Sound s → TraySound x) : Fr m s (t.setTray k x) := by
  refine ⟨fun p hp => ?_, fun hs => ⟨SMap.all_put (h.keep hs).trays (hk hs), (h.keep hs).cores, (h.keep hs).sites,
    (h.keep hs).remote⟩⟩
  cases p <;> first | exact h.all _ hp | exact hm.no hp rfl

theorem State.modTray_frame {m : Nat} (hm : Within 256 m) {s : State} {k : Nat} {f : Tray → Tray}
    (hk : ∀ t, TraySound t → TraySound (f t) := by
      first
        | exact (fun _ h => ⟨h.1, h.2⟩)
        | exact (fun _ h => ⟨Memory.wf_writeL h.1, h.2⟩)
        | exact (fun _ h => ⟨Memory.wf_nil, h.2⟩)
        | exact (fun _ _ => TraySound.blank)
        | exact (fun _ h => ⟨Memory.wf_zero h.1 _ _, h.2⟩)
        | exact (fun _ h => ⟨h.1, by have := h.2; simp only [satAdd_toNat]; omega⟩)
        | (intro t h
           have h1 := h.1
           have h2 := h.2
           (try dsimp only)
           (repeat' split) <;> refine ⟨?_, ?_⟩ <;>
             first | exact h1 | exact h2 | (simpa using h1) | (simpa using h2) | (simp [satAdd_toNat]; omega))) : Fr m s
               (s.modTray k f) :=
  State.setTray_frame hm fun h => hk _ (Sound.tray h k)

theorem State.modCluster_frame {m : Nat} (hm : Within 512 m) {s : State} {a1 : ℕ} {a2 : Cluster → Cluster} :
    Fr m s (State.modCluster s a1 a2) := by
  delta State.modCluster
  exact (Fr.trans (Fr.refl _ _) (State.setCluster_frame (Within.of rfl hm)))

theorem State.modCore_frame {m : Nat} (hm : Within 1024 m) {s : State} {k : Nat} {f : Core → Core}
    (hk : ∀ c, CoreSound c → CoreSound (f c) := by
      first
        | exact (fun _ h => h)
        | exact (fun _ h => Memory.wf_writeL h)
        | exact (fun _ h => Memory.wf_zero h _ _)
        | exact (fun _ h => Memory.wf_write h _ _)
        | exact (fun _ _ => Memory.wf_nil)
        | (intro c h; (try dsimp only); split <;> exact h)) : Fr m s (s.modCore k f) :=
  State.setCore_frame hm fun h => hk _ (Sound.core h k)

end Sys2Proof.Machine
end

