-- ==== Sys2Proof/Laws/FrameEvents.lean ====
section
/-! SUPPORT. The frame of every operation of Machine/Events: the parts of the state that it can change. -/

set_option Elab.async false
set_option linter.unusedTactic false

namespace Sys2Proof.Machine
open Sys2Proof.Safety

theorem State.govSeq_frame {m : Nat} (hm : Within 134217728 m) {s : State} :
    Fr m s (State.govSeq s) := by
  delta State.govSeq
  exact (Fr.set_gov (Within.of rfl hm) (Fr.refl _ _))

theorem State.slPut_frame {m : Nat} (hm : Within 134217736 m) {s : State} {a1 : SlHead} {a2 : PortNo} {a3 : ℕ} {a4 : List Byte} :
    Fr m s (State.slPut s a1 a2 a3 a4) := by
  delta State.slPut
  exact (Fr.trans ((Fr.trans (Fr.refl _ _) (State.setSlPort_frame (Within.of rfl hm)))) (State.send_frame (Within.of rfl hm)))

theorem State.slSend_frame {m : Nat} (hm : Within 134217736 m) {s : State} {a1 : ℕ} {a2 : Node} {a3 : List Byte} :
    Fr m s (State.slSend s a1 a2 a3) := by
  delta State.slSend
  exact (Fr.trans ((Fr.trans (Fr.refl _ _) (State.govSeq_frame (Within.of rfl hm)))) (Fr.foldl (fun _ _ => (Fr.trans (Fr.refl _
    _) (Fr.foldl (fun _ _ => (Fr.trans (Fr.refl _ _) (State.slPut_frame (Within.of rfl hm)))))))))

theorem State.slLocal_frame {m : Nat} (hm : Within 134217736 m) {s : State} {a1 : PortNo} {a2 : ℕ} {a3 : List Byte} :
    Fr m s (State.slLocal s a1 a2 a3) := by
  delta State.slLocal
  exact (Fr.trans ((Fr.trans (Fr.refl _ _) (State.govSeq_frame (Within.of rfl hm)))) (Fr.foldl (fun _ _ => (Fr.trans (Fr.refl _
    _) (State.slPut_frame (Within.of rfl hm))))))

theorem State.hmpReply_frame {m : Nat} (hm : Within 8 m) {s : State} {a1 : BitVec 128} {a2 : BitVec 16} {a3 : Byte} {a4 : Word}
  {a5 : Word} {a6 : Code} {a7 : List Byte} :
    Fr m s (State.hmpReply s a1 a2 a3 a4 a5 a6 a7) := by
  delta State.hmpReply
  exact (Fr.trans (Fr.refl _ _) (State.send_frame (Within.of rfl hm)))

theorem State.toStation_frame {m : Nat} (hm : Within 8 m) {s : State} {a1 : ℕ} {a2 : Byte} {a3 : Bool} {a4 : Bool} {a5 : Word}
  {a6 : List Byte} :
    Fr m s (State.toStation s a1 a2 a3 a4 a5 a6) := by
  delta State.toStation
  exact (Fr.trans (Fr.refl _ _) (State.send_frame (Within.of rfl hm)))

theorem State.sendNotice_frame {m : Nat} (hm : Within 134217736 m) {s : State} {a1 : Notice} :
    Fr m s (State.sendNotice s a1) := by
  delta State.sendNotice
  exact (Fr.ite ((Fr.ite (Fr.refl _ _) ((Fr.trans (Fr.refl _ _) (Fr.foldl (fun _ _ => (Fr.trans (Fr.refl _ _) (Fr.foldl (fun _ _
    => (Fr.trans (Fr.refl _ _) (State.slPut_frame (Within.of rfl hm)))))))))))) ((Fr.ite ((Fr.trans (Fr.refl _ _) (Fr.foldl (fun
    _ _ => (Fr.trans (Fr.refl _ _) (Fr.foldl (fun _ _ => (Fr.trans (Fr.refl _ _) (State.toStation_frame (Within.of rfl
    hm)))))))))) (Fr.refl _ _))))

theorem State.putRecord_frame {m : Nat} (hm : Within 12884901888 m) {s : State} {a1 : CsRec} :
    Fr m s (State.putRecord s a1) := by
  delta State.putRecord
  exact (Fr.set_cs_mgmt (Within.of rfl hm) (Fr.refl _ _))

theorem State.merge_frame {m : Nat} (hm : Within 4294967296 m) {s : State} {a1 : CsRec} :
    Fr m s (State.merge s a1) := by
  delta State.merge
  exact (Fr.set_cs (Within.of rfl hm) (Fr.refl _ _))

theorem State.startPersist_frame {m : Nat} (hm : Within 4294967296 m) {s : State} {a1 : Bool} :
    Fr m s (State.startPersist s a1) := by
  delta State.startPersist
  exact (Fr.set_cs (Within.of rfl hm) (Fr.refl _ _))

theorem State.fatal_frame {m : Nat} (hm : Within 4294967296 m) {s : State} :
    Fr m s (State.fatal s) := by
  delta State.fatal
  exact (by (try dsimp only); split; exacts [(Fr.refl _ _), (Fr.ite (Fr.refl _ _) ((Fr.trans (Fr.refl _ _)
    (State.startPersist_frame (Within.of rfl hm))))), (Fr.trans (Fr.refl _ _) (State.startPersist_frame (Within.of rfl hm)))])

theorem State.judged_frame {m : Nat} (hm : Within 12884901888 m) {s : State} {a1 : ℕ} {a2 : Bool} {a3 : State → BitVec 16 →
  State} (h3 : ∀ v0 v1, Fr m v0 (a3 v0 v1)) :
    Fr m s (State.judged s a1 a2 a3) := by
  delta State.judged
  exact (Fr.ite ((by (try dsimp only); split; exacts [(Fr.trans (Fr.refl _ _) (State.merge_frame (Within.of rfl hm))), (Fr.trans
    ((Fr.set_cs (Within.of rfl hm) (Fr.refl _ _))) (h3 _ _))])) ((Fr.ite ((Fr.trans ((Fr.set_cs (Within.of rfl hm) ((Fr.set_cs
    (Within.of rfl hm) (Fr.refl _ _))))) (h3 _ _))) ((Fr.set_cs_mgmt (Within.of rfl hm) (Fr.refl _ _))))))

theorem State.noticeLost_frame {m : Nat} (hm : Within 12884901888 m) {s : State} :
    Fr m s (State.noticeLost s) := by
  delta State.noticeLost
  exact (Fr.trans (Fr.refl _ _) (State.judged_frame (Within.of rfl hm) (fun _ _ => (Fr.trans (Fr.refl _ _) (State.putRecord_frame
    (Within.of rfl hm))))))

theorem State.queueNotice_frame {m : Nat} (hm : Within 13019119624 m) {s : State} {a1 : List Byte} {a2 : Node} {a3 : BitVec 16}
  {a4 : Word} :
    Fr m s (State.queueNotice s a1 a2 a3 a4) := by
  delta State.queueNotice
  exact (Fr.ite ((Fr.trans ((Fr.set_mgmt (Within.of rfl hm) (Fr.refl _ _))) (State.sendNotice_frame (Within.of rfl hm))))
    ((Fr.trans ((Fr.trans ((Fr.set_mgmt (Within.of rfl hm) (Fr.refl _ _))) (State.sendNotice_frame (Within.of rfl hm))))
    (State.noticeLost_frame (Within.of rfl hm)))))

theorem State.notify_frame {m : Nat} (hm : Within 13019119624 m) {s : State} {a1 : CsRec} :
    Fr m s (State.notify s a1) := by
  delta State.notify
  exact (Fr.trans ((Fr.trans (Fr.refl _ _) (State.govSeq_frame (Within.of rfl hm)))) (State.queueNotice_frame (Within.of rfl hm)))

theorem State.writeRecord_frame {m : Nat} (hm : Within 13019119624 m) {s : State} {a1 : ℕ} {a2 : ℕ} {a3 : UnitAddr} {a4 : List
  (BitVec 64)} {a5 : Bool} {a6 : BitVec 16} :
    Fr m s (State.writeRecord s a1 a2 a3 a4 a5 a6) := by
  delta State.writeRecord
  exact (Fr.ite ((Fr.trans ((Fr.ite ((Fr.trans ((Fr.trans (Fr.refl _ _) (State.putRecord_frame (Within.of rfl hm))))
    (State.notify_frame (Within.of rfl hm)))) ((Fr.trans (Fr.refl _ _) (State.putRecord_frame (Within.of rfl hm))))))
    (State.fatal_frame (Within.of rfl hm)))) ((Fr.ite ((Fr.trans ((Fr.trans (Fr.refl _ _) (State.putRecord_frame (Within.of rfl
    hm)))) (State.notify_frame (Within.of rfl hm)))) ((Fr.trans (Fr.refl _ _) (State.putRecord_frame (Within.of rfl hm)))))))

theorem State.event_frame {m : Nat} (hm : Within 13019119624 m) {s : State} {a1 : ℕ} {a2 : ℕ} {a3 : UnitAddr} {a4 : optParam
  (List (BitVec 64)) []} {a5 : optParam Bool false} :
    Fr m s (State.event s a1 a2 a3 a4 a5) := by
  delta State.event
  exact (Fr.trans (Fr.refl _ _) (State.judged_frame (Within.of rfl hm) (fun _ _ => (Fr.trans (Fr.refl _ _)
    (State.writeRecord_frame (Within.of rfl hm))))))

end Sys2Proof.Machine
end

