-- ==== Sys2Proof/Laws/FramePolicy.lean ====
section
/-! SUPPORT. The frame of every operation of Machine/Policy: the parts of the state that it can change. -/

set_option Elab.async false
set_option linter.unusedTactic false

namespace Sys2Proof.Machine
open Sys2Proof.Safety

theorem State.setPol_frame {m : Nat} (hm : Within 16 m) {s : State} {a1 : ℕ} {a2 : Word} :
    Fr m s (State.setPol s a1 a2) := by
  delta State.setPol
  exact (Fr.set_csr (Within.of rfl hm) (Fr.refl _ _))

theorem State.roceOut_frame {m : Nat} (hm : Within 8388620 m) {s : State} {a1 : RoceOut} {a2 : RocePkt} :
    Fr m s (State.roceOut s a1 a2) := by
  delta State.roceOut
  exact (Fr.ite ((Fr.trans (Fr.refl _ _) (State.setHport_frame (Within.of rfl hm)))) ((Fr.trans ((Fr.trans (Fr.refl _ _)
    (State.send_frame (Within.of rfl hm)))) (State.frameOut_frame (Within.of rfl hm)))))

theorem State.roce_frame {m : Nat} (hm : Within 8388620 m) {s : State} {a1 : ℕ} {a2 : RocePkt} :
    Fr m s (State.roce s a1 a2) := by
  delta State.roce
  exact (Fr.trans (Fr.refl _ _) (State.roceOut_frame (Within.of rfl hm)))

theorem State.resume_frame {m : Nat} (hm : Within 8388620 m) {s : State} {a1 : BitVec 1} :
    Fr m s (State.resume s a1) := by
  delta State.resume
  exact (Fr.trans ((Fr.trans (Fr.refl _ _) (State.setHport_frame (Within.of rfl hm)))) (Fr.foldl (fun _ _ => (Fr.trans (Fr.refl _
    _) (State.roceOut_frame (Within.of rfl hm))))))

end Sys2Proof.Machine
end

