-- ==== Sys2Proof/Laws/FrameMatrix.lean ====
section
/-! SUPPORT. The frame of every operation of Machine/Matrix: the parts of the state that it can change. -/

set_option Elab.async false
set_option linter.unusedTactic false

namespace Sys2Proof.Machine
open Sys2Proof.Safety

theorem State.wearEvent_frame {m : Nat} (hm : Within 13019119624 m) {s : State} {a1 : ℕ} :
    Fr m s (State.wearEvent s a1) := by
  delta State.wearEvent
  exact (Fr.ite ((Fr.trans (Fr.refl _ _) (State.event_frame (Within.of rfl hm)))) (Fr.refl _ _))

end Sys2Proof.Machine
end

