-- ==== Sys2Proof/Laws/FrameLink.lean ====
section
/-! SUPPORT. The frame of every operation of Machine/Link: the parts of the state that it can change. -/

set_option Elab.async false
set_option linter.unusedTactic false

namespace Sys2Proof.Machine
open Sys2Proof.Safety

theorem State.putFlit_frame {m : Nat} (hm : Within 33554440 m) {s : State} {a1 : PortNo} {a2 : ChanNo} {a3 : ℕ} {a4 : BitVec 12}
  {a5 : TxFlit} :
    Fr m s (State.putFlit s a1 a2 a3 a4 a5) := by
  delta State.putFlit
  exact (by (try dsimp only); split; exacts [(Fr.refl _ _), (Fr.trans ((Fr.trans ((Fr.trans (Fr.refl _ _) (State.setLt_frame
    (Within.of rfl hm)))) (State.setFport_frame (Within.of rfl hm)))) (State.send_frame (Within.of rfl hm)))])

theorem State.putEmpty_frame {m : Nat} (hm : Within 33554440 m) {s : State} {a1 : PortNo} {a2 : ChanNo} {a3 : ℕ} {a4 : BitVec 12}
  :
    Fr m s (State.putEmpty s a1 a2 a3 a4) := by
  delta State.putEmpty
  exact (Fr.trans (Fr.refl _ _) (State.putFlit_frame (Within.of rfl hm)))

theorem State.sendNak_frame {m : Nat} (hm : Within 33554440 m) {s : State} {a1 : PortNo} {a2 : ChanNo} :
    Fr m s (State.sendNak s a1 a2) := by
  delta State.sendNak
  exact (Fr.trans (Fr.refl _ _) (State.putEmpty_frame (Within.of rfl hm)))

theorem State.sendIdle_frame {m : Nat} (hm : Within 33554440 m) {s : State} {a1 : PortNo} {a2 : ChanNo} :
    Fr m s (State.sendIdle s a1 a2) := by
  delta State.sendIdle
  exact (Fr.ite ((Fr.trans (Fr.refl _ _) (State.putEmpty_frame (Within.of rfl hm)))) (Fr.refl _ _))

theorem State.place1_frame {m : Nat} (hm : Within 33554440 m) {s : State} {a1 : PortNo × PortNo × ChanNo} {a2 : TxFlit} :
    Fr m s (State.place1 s a1 a2) := by
  delta State.place1
  exact (Fr.trans ((Fr.trans ((Fr.trans (Fr.refl _ _) (State.setFport_frame (Within.of rfl hm)))) (State.setChan_frame (Within.of
    rfl hm)))) (State.putFlit_frame (Within.of rfl hm)))

theorem State.sendHead_frame {m : Nat} (hm : Within 33554440 m) {s t : State} {l : BitVec 6} {v : Bool} (h : s.sendHead l v =
  some t) :
    Fr m s t := by
  unfold State.sendHead at h
  split at h
  · cases h
    exact (State.setLink_frame (Within.of rfl hm)).trans (State.place1_frame (Within.of rfl hm))
  · cases h

theorem State.pumpN_frame {m : Nat} (hm : Within 33554440 m) {l : BitVec 6} {n : Nat} {s : State} : Fr m s (State.pumpN l n s) :=
  by
  induction n generalizing s with
  | zero => exact Fr.refl _ _
  | succ n ih =>
    unfold State.pumpN
    dsimp only
    split
    · next h => exact (State.sendHead_frame (Within.of rfl hm) h).trans ih
    · split
      · next h => exact (State.sendHead_frame (Within.of rfl hm) h).trans ih
      · exact Fr.refl _ _

theorem State.pump_frame {m : Nat} (hm : Within 33554440 m) {s : State} {a1 : BitVec 6} :
    Fr m s (State.pump s a1) := by
  delta State.pump
  exact (Fr.trans (Fr.refl _ _) (State.pumpN_frame (Within.of rfl hm)))

theorem State.enqueue_frame {m : Nat} (hm : Within 33554440 m) {s : State} {a1 : BitVec 6} {a2 : TxMsg} :
    Fr m s (State.enqueue s a1 a2) := by
  delta State.enqueue
  exact (Fr.trans ((Fr.trans (Fr.refl _ _) (State.setLink_frame (Within.of rfl hm)))) (State.pump_frame (Within.of rfl hm)))

theorem State.route_frame {m : Nat} (hm : Within 33554440 m) {s : State} {a1 : TxMsg} :
    Fr m s (State.route s a1) := by
  delta State.route
  exact (by (try dsimp only); split; exacts [(Fr.trans (Fr.refl _ _) (State.enqueue_frame (Within.of rfl hm))), (Fr.set_fab
    (Within.of rfl hm) (Fr.refl _ _))])

theorem State.dropChan_frame {m : Nat} (hm : Within 33554440 m) {s : State} {a1 : PortNo} {a2 : ChanNo} {a3 : Chan → Chan} :
    Fr m s (State.dropChan s a1 a2 a3) := by
  delta State.dropChan
  exact (by (try dsimp only); split; exacts [(Fr.trans (Fr.refl _ _) (State.setChan_frame (Within.of rfl hm))),
    (by (try dsimp only); split; exacts [(Fr.trans ((Fr.trans (Fr.refl _ _) (State.setChan_frame (Within.of rfl hm))))
    (State.setFport_frame (Within.of rfl hm))), (Fr.trans ((Fr.trans ((Fr.trans ((Fr.trans (Fr.refl _ _) (State.setChan_frame
    (Within.of rfl hm)))) (State.setFport_frame (Within.of rfl hm)))) (State.setLink_frame (Within.of rfl hm))))
    (State.pump_frame (Within.of rfl hm)))])])

end Sys2Proof.Machine
end

