-- ==== Sys2Proof/Laws/FrameMem.lean ====
section
/-! SUPPORT. The frame of every operation of Machine/Mem: the parts of the state that it can change. -/

set_option Elab.async false
set_option linter.unusedTactic false

namespace Sys2Proof.Machine
open Sys2Proof.Safety

theorem State.sendMsg_frame {m : Nat} (hm : Within 33554440 m) {s : State} {a1 : ℕ} {a2 : FabMsg} :
    Fr m s (State.sendMsg s a1 a2) := by
  delta State.sendMsg
  exact (Fr.trans ((by (try dsimp only); split; exacts [(Fr.trans (Fr.refl _ _) (State.send_frame (Within.of rfl hm))),
    (Fr.refl _ _)])) (State.route_frame (Within.of rfl hm)))

@[simp] theorem Site.rowHit_mem (x : Site) (d : Fin 36) (r : Nat) : (x.rowHit d r).mem = x.mem := by
  unfold Site.rowHit
  split
  · split <;> rfl
  · rfl

@[simp] theorem Site.rowHits_mem (r : Nat) (l : List (Fin 36)) (x : Site) :
    (l.foldl (fun (x : Site) (d : Fin 36) => x.rowHit d r) x).mem = x.mem := by
  induction l generalizing x with
  | nil => rfl
  | cons d l ih =>
    rw [List.foldl_cons, ih, Site.rowHit_mem]

theorem State.readSector_frame {m : Nat} (hm : Within 13019250696 m) {s : State} {a1 : ℕ} {a2 : ℕ} {a3 : List (Fin 36)} {a4 :
  Bool} :
    Fr m s (State.readSector s a1 a2 a3 a4) := by
  delta State.readSector
  exact (Fr.ite (Fr.refl _ _) ((Fr.ite ((Fr.trans (Fr.refl _ _)
    (State.setSite_frame (Within.of rfl hm) (by intro h; have k := Sound.site h a1; simp only [SiteSound] at k ⊢; split <;> simpa using k)))) ((Fr.trans ((Fr.trans (Fr.refl _ _) (State.setSite_frame (Within.of rfl hm)))) (State.event_frame (Within.of rfl hm)))))))

theorem State.meet_frame {m : Nat} (hm : Within 13019250696 m) {s : State} {a1 : List MemErr} :
    Fr m s (State.meet s a1) := by
  delta State.meet
  exact (Fr.trans (Fr.refl _ _) (Fr.foldl (fun _ _ => (Fr.ite (Fr.refl _ _) ((Fr.trans (Fr.refl _ _) (State.readSector_frame
    (Within.of rfl hm))))))))

theorem Site.putByte_sound {x : Site} (h : SiteSound x) (b : Writer) (a : Nat) (v : Byte) : SiteSound (x.putByte b a v) := by
  unfold Site.putByte
  split
  · exact h
  · exact Memory.wf_write h _ _

theorem State.devPut_frame {m : Nat} (hm : Within 393216 m) {s : State} {a1 : Writer} {a2 : CtxNo} {a3 : ℕ} {a4 : ℕ} {a5 : ℕ} {a6
  : Byte} :
    Fr m s (State.devPut s a1 a2 a3 a4 a5 a6) := by
  delta State.devPut
  exact (by (try dsimp only); split; exacts [(Fr.ite (Fr.refl _ _) ((Fr.trans (Fr.refl _ _) (State.setSite_frame (Within.of rfl
    hm) (by intro h; apply Site.putByte_sound; exact Sound.site h _))))), (Fr.ite (Fr.refl _ _) ((Fr.set_memremote_memremBad
    (Within.of rfl hm) (Fr.refl _ _)))), (Fr.refl _ _)])

theorem State.devPutL_frame {m : Nat} (hm : Within 393216 m) {s : State} {b : Writer} {c : CtxNo} {lo hi a : Nat} {l : List Byte}
  :
    Fr m s (s.devPutL b c lo hi a l) := by
  induction l generalizing s a with
  | nil => exact Fr.refl _ _
  | cons v l ih => exact (State.devPut_frame (Within.of rfl hm)).trans ih

theorem State.countRemote_frame {m : Nat} (hm : Within 2097152 m) {s : State} {a1 : CtxNo} {a2 : ℕ} {a3 : ℕ} :
    Fr m s (State.countRemote s a1 a2 a3) := by
  delta State.countRemote
  exact (Fr.ite (Fr.refl _ _) ((Fr.trans (Fr.refl _ _) (State.setCtx_frame (Within.of rfl hm)))))

theorem State.askLender_frame {m : Nat} (hm : Within 33554440 m) {s : State} {a1 : ℕ} {a2 : CtxNo} {a3 : ℕ} {a4 : ℕ} {a5 : List
  Byte} :
    Fr m s (State.askLender s a1 a2 a3 a4 a5) := by
  delta State.askLender
  exact (by (try dsimp only); split; exacts [(Fr.trans (Fr.refl _ _) (State.sendMsg_frame (Within.of rfl hm))), (Fr.refl _ _)])

theorem State.pageMsg_frame {m : Nat} (hm : Within 33554440 m) {s : State} {a1 : ℕ} {a2 : CtxNo} {a3 : ℕ} {a4 : ℕ} {a5 : List
  Byte} :
    Fr m s (State.pageMsg s a1 a2 a3 a4 a5) := by
  delta State.pageMsg
  exact (Fr.trans (Fr.refl _ _) (Fr.foldl (fun _ _ => (Fr.trans (Fr.refl _ _) (State.askLender_frame (Within.of rfl hm))))))

theorem State.devWritePart_frame {m : Nat} (hm : Within 36044808 m) {s : State} {a1 : Writer} {a2 : CtxNo} {a3 : ℕ} {a4 : ℕ} {a5
  : ℕ} {a6 : List Byte} :
    Fr m s (State.devWritePart s a1 a2 a3 a4 a5 a6) := by
  delta State.devWritePart
  exact (Fr.trans ((Fr.trans ((Fr.trans (Fr.refl _ _) (State.devPutL_frame (Within.of rfl hm)))) (State.countRemote_frame
    (Within.of rfl hm)))) (State.pageMsg_frame (Within.of rfl hm)))

theorem State.devWriteBy_frame {m : Nat} (hm : Within 36044808 m) {s : State} {a1 : Writer} {a2 : CtxNo} {a3 : ℕ} {a4 : List
  Byte} :
    Fr m s (State.devWriteBy s a1 a2 a3 a4) := by
  delta State.devWriteBy
  exact (Fr.trans (Fr.refl _ _) (State.devWritePart_frame (Within.of rfl hm)))

theorem State.devWrite_frame {m : Nat} (hm : Within 36044808 m) {s : State} {a1 : CtxNo} {a2 : ℕ} {a3 : List Byte} :
    Fr m s (State.devWrite s a1 a2 a3) := by
  delta State.devWrite
  exact (Fr.trans (Fr.refl _ _) (State.devWriteBy_frame (Within.of rfl hm)))

theorem State.devTouch_frame {m : Nat} (hm : Within 35651592 m) {s : State} {a1 : CtxNo} {a2 : ℕ} {a3 : ℕ} :
    Fr m s (State.devTouch s a1 a2 a3) := by
  delta State.devTouch
  exact (Fr.trans ((Fr.trans (Fr.refl _ _) (State.countRemote_frame (Within.of rfl hm)))) (State.pageMsg_frame (Within.of rfl
    hm)))

end Sys2Proof.Machine
end

