-- ==== Sys2Proof/Laws/FrameSpaces.lean ====
section
/-! SUPPORT. The frame of every operation of Machine/Spaces: the parts of the state that it can change. -/

set_option Elab.async false
set_option linter.unusedTactic false

namespace Sys2Proof.Machine
open Sys2Proof.Safety

theorem State.touchOp_frame {m : Nat} (hm : Within 35651592 m) {s : State} {a1 : Seat} {a2 : Opnd} {a3 : ℕ} :
    Fr m s (State.touchOp s a1 a2 a3) := by
  delta State.touchOp
  exact (Fr.ite ((Fr.trans (Fr.refl _ _) (State.devTouch_frame (Within.of rfl hm)))) (Fr.refl _ _))

theorem State.putL_frame {m : Nat} (hm : Within 36046088 m) {s : State} {a1 : Seat} {a2 : Opnd} {a3 : List Byte} :
    Fr m s (State.putL s a1 a2 a3) := by
  delta State.putL
  exact (Fr.ite ((Fr.trans (Fr.refl _ _) (State.devWriteBy_frame (Within.of rfl hm)))) ((Fr.ite ((Fr.trans (Fr.refl _ _)
    (State.modCore_frame (Within.of rfl hm)))) ((Fr.trans (Fr.refl _ _) (State.modTray_frame (Within.of rfl hm)))))))

theorem State.scrapAt_frame {m : Nat} (hm : Within 36046088 m) {s : State} {a1 : Seat} {a2 : Opnd} {a3 : List Byte} :
    Fr m s (State.scrapAt s a1 a2 a3) := by
  delta State.scrapAt
  exact (Fr.ite ((Fr.trans (Fr.refl _ _) (State.devPutL_frame (Within.of rfl hm)))) ((Fr.ite (Fr.refl _ _) ((Fr.trans (Fr.refl _
    _) (State.putL_frame (Within.of rfl hm)))))))

theorem State.scrapMover_frame {m : Nat} (hm : Within 36046092 m) {s : State} {a1 : MoverOp} :
    Fr m s (State.scrapMover s a1) := by
  delta State.scrapMover
  exact (Fr.trans ((Fr.ite ((Fr.trans ((Fr.trans (Fr.refl _ _) (Fr.foldl (fun _ _ => (Fr.trans (Fr.refl _ _) (State.scrapAt_frame
    (Within.of rfl hm))))))) (State.modTray_frame (Within.of rfl hm)))) ((Fr.trans (Fr.refl _ _) (Fr.foldl (fun _ _ => (Fr.trans
    (Fr.refl _ _) (State.scrapAt_frame (Within.of rfl hm))))))))) (State.draw_frame (Within.of rfl hm)))

theorem State.scrapMovers_frame {m : Nat} (hm : Within 36062476 m) {s : State} {a1 : MoverOp → Bool} :
    Fr m s (State.scrapMovers s a1) := by
  delta State.scrapMovers
  exact (Fr.set_movers (Within.of rfl hm) ((Fr.trans (Fr.refl _ _) (Fr.foldl (fun _ _ => (Fr.trans (Fr.refl _ _)
    (State.scrapMover_frame (Within.of rfl hm))))))))

theorem State.scrapAppend_frame {m : Nat} (hm : Within 393220 m) {s : State} {a1 : ℕ} {a2 : ℕ} :
    Fr m s (State.scrapAppend s a1 a2) := by
  delta State.scrapAppend
  exact (by (try dsimp only); split; exacts [(Fr.trans ((Fr.trans (Fr.refl _ _) (State.devPutL_frame (Within.of rfl hm))))
    (State.draw_frame (Within.of rfl hm))), (Fr.refl _ _)])

end Sys2Proof.Machine
end

