-- ==== Sys2Proof/Laws/FrameWork.lean ====
section
/-! SUPPORT. The frame of every operation of Machine/Work: the parts of the state that it can change. -/

set_option Elab.async false
set_option linter.unusedTactic false

namespace Sys2Proof.Machine
open Sys2Proof.Safety

theorem State.mirrorCopy_frame {m : Nat} (hm : Within 8388620 m) {s : State} {a1 : Sub} :
    Fr m s (State.mirrorCopy s a1) := by
  delta State.mirrorCopy
  exact (Fr.ite ((Fr.trans ((Fr.trans (Fr.refl _ _) (State.setQp_frame (Within.of rfl hm)))) (State.roce_frame (Within.of rfl
    hm)))) (Fr.refl _ _))

theorem State.rewrite_frame {m : Nat} (hm : Within 44466188 m) {s : State} {a1 : Sub} :
    Fr m s (State.rewrite s a1) := by
  delta State.rewrite
  exact (Fr.trans ((Fr.trans ((Fr.trans (Fr.refl _ _) (State.setSub_frame (Within.of rfl hm)))) (State.devWrite_frame (Within.of
    rfl hm)))) (State.mirrorCopy_frame (Within.of rfl hm)))

theorem State.subFail_frame {m : Nat} (hm : Within 32768 m) {s : State} {a1 : ℕ} {a2 : Code} :
    Fr m s (State.subFail s a1 a2) := by
  delta State.subFail
  exact (by (try dsimp only); split; exacts [(Fr.ite ((Fr.trans (Fr.refl _ _) (State.setSub_frame (Within.of rfl hm)))) (Fr.refl
    _ _)), (Fr.refl _ _)])

theorem State.subReplayed_frame {m : Nat} (hm : Within 32768 m) {s : State} {a1 : Option ℕ} :
    Fr m s (State.subReplayed s a1) := by
  delta State.subReplayed
  exact (by (try dsimp only); split; exacts [(Fr.trans (Fr.refl _ _) (State.setSub_frame (Within.of rfl hm))), (Fr.refl _ _)])

theorem State.subRefereed_frame {m : Nat} (hm : Within 32768 m) {s : State} {a1 : Option ℕ} :
    Fr m s (State.subRefereed s a1) := by
  delta State.subRefereed
  exact (by (try dsimp only); split; exacts [(Fr.trans (Fr.refl _ _) (State.setSub_frame (Within.of rfl hm))), (Fr.refl _ _)])

theorem State.subSettle_frame {m : Nat} (hm : Within 44466188 m) {s : State} {a1 : ℕ} :
    Fr m s (State.subSettle s a1) := by
  delta State.subSettle
  exact (by (try dsimp only); split; exacts [(Fr.ite ((Fr.trans (Fr.refl _ _) (State.rewrite_frame (Within.of rfl hm)))) (Fr.refl
    _ _)), (Fr.refl _ _)])

theorem State.setThread_frame {m : Nat} (hm : Within 1024 m) {s : State} {a1 : ℕ} {a2 : ℕ} {a3 : Thread} :
    Fr m s (State.setThread s a1 a2 a3) := by
  delta State.setThread
  exact (Fr.trans (Fr.refl _ _) (State.modCore_frame (Within.of rfl hm)))

theorem State.wake_frame {m : Nat} (hm : Within 1024 m) {s : State} {a1 : ℕ} {a2 : ℕ} :
    Fr m s (State.wake s a1 a2) := by
  delta State.wake
  exact (by (try dsimp only); split; exacts [(Fr.trans (Fr.refl _ _) (State.setThread_frame (Within.of rfl hm))), (Fr.refl _ _)])

theorem State.tallySend_frame {m : Nat} (hm : Within 512 m) {s : State} {a1 : ℕ} {a2 : TallyOp} :
    Fr m s (State.tallySend s a1 a2) := by
  delta State.tallySend
  exact (Fr.trans (Fr.refl _ _) (State.modCluster_frame (Within.of rfl hm)))

theorem State.finishRaw_frame {m : Nat} (hm : Within 8704 m) {s : State} {a1 : Outst} :
    Fr m s (State.finishRaw s a1) := by
  delta State.finishRaw
  exact (by (try dsimp only); split; exacts [(Fr.trans ((Fr.set_outst (Within.of rfl hm) (Fr.refl _ _))) (State.tallySend_frame
    (Within.of rfl hm))), (Fr.set_outst (Within.of rfl hm) (Fr.refl _ _))])

theorem State.sweepEnds_frame {m : Nat} (hm : Within 8704 m) {s : State} {a1 : ℕ} :
    Fr m s (State.sweepEnds s a1) := by
  delta State.sweepEnds
  exact (Fr.ite (Fr.refl _ _) ((Fr.trans (Fr.refl _ _) (Fr.foldl (fun _ _ => (Fr.trans (Fr.refl _ _) (State.finishRaw_frame
    (Within.of rfl hm))))))))

theorem State.wakeOrder_frame {m : Nat} (hm : Within 1024 m) {s : State} {a1 : ℕ} :
    Fr m s (State.wakeOrder s a1) := by
  delta State.wakeOrder
  exact (by (try dsimp only); split; exacts [(by (try dsimp only); split; exacts [(Fr.ite ((Fr.trans (Fr.refl _ _)
    (State.wake_frame (Within.of rfl hm)))) ((Fr.ite ((Fr.trans (Fr.refl _ _) (State.wake_frame (Within.of rfl hm)))) (Fr.refl _
    _)))), (Fr.refl _ _)]), (Fr.refl _ _)])

theorem State.land_frame {m : Nat} (hm : Within 44475916 m) {s : State} {a1 : ℕ} :
    Fr m s (State.land s a1) := by
  delta State.land
  exact (by (try dsimp only); split; exacts [(Fr.refl _ _), (Fr.trans ((Fr.trans ((Fr.trans ((Fr.ite ((Fr.trans ((Fr.set_outst
    (Within.of rfl hm) (Fr.refl _ _))) (Fr.foldl (fun _ _ => (Fr.trans (Fr.refl _ _) (State.finishRaw_frame (Within.of rfl
    hm))))))) ((Fr.trans ((Fr.set_outst (Within.of rfl hm) (Fr.refl _ _))) (State.finishRaw_frame (Within.of rfl hm))))))
    (State.sweepEnds_frame (Within.of rfl hm)))) (State.wakeOrder_frame (Within.of rfl hm)))) (State.subSettle_frame (Within.of
    rfl hm)))])

theorem State.expDone_frame {m : Nat} (hm : Within 44475916 m) {s : State} {a1 : Option ℕ} :
    Fr m s (State.expDone s a1) := by
  delta State.expDone
  exact (by (try dsimp only); split; exacts [(Fr.refl _ _), (Fr.ite ((Fr.trans (Fr.refl _ _) (State.land_frame (Within.of rfl
    hm)))) ((Fr.set_outst (Within.of rfl hm) (Fr.refl _ _))))])

theorem State.deferred_frame {m : Nat} (hm : Within 32768 m) {s : State} {a1 : Option ℕ} {a2 : Code} :
    Fr m s (State.deferred s a1 a2) := by
  delta State.deferred
  exact (by (try dsimp only); split; exacts [(Fr.trans (Fr.refl _ _) (State.subFail_frame (Within.of rfl hm))), (Fr.refl _ _)])

theorem State.seqDone_frame {m : Nat} (hm : Within 65536 m) {s : State} {a1 : ℕ} {a2 : ℕ} :
    Fr m s (State.seqDone s a1 a2) := by
  delta State.seqDone
  exact (Fr.trans (Fr.refl _ _) (State.setSeq_frame (Within.of rfl hm)))

theorem State.fetchAt_frame {m : Nat} (hm : Within 1024 m) {s : State} {a1 : ℕ} {a2 : ℕ} {a3 : BitVec 48} {a4 : Bool} :
    Fr m s (State.fetchAt s a1 a2 a3 a4) := by
  delta State.fetchAt
  exact (by (try dsimp only); split; exacts [(Fr.trans (Fr.refl _ _) (State.setThread_frame (Within.of rfl hm))), (Fr.refl _ _)])

theorem State.threadEnd_frame {m : Nat} (hm : Within 44477964 m) {s : State} {a1 : ℕ} {a2 : ℕ} {a3 : Option Code} :
    Fr m s (State.threadEnd s a1 a2 a3) := by
  delta State.threadEnd
  exact (by (try dsimp only); split; exacts [(Fr.refl _ _), (Fr.trans ((Fr.trans ((by (try dsimp only); split; exacts [(Fr.trans
    ((by (try dsimp only); split; exacts [(Fr.set_outst (Within.of rfl hm) ((Fr.trans ((Fr.trans
    ((by (try dsimp only); split; exacts [(Fr.trans (Fr.refl _ _) (State.subFail_frame (Within.of rfl hm))), (Fr.refl _ _)]))
    (State.setThread_frame (Within.of rfl hm)))) (State.fresh_frame (Within.of rfl hm))))), (Fr.trans
    ((by (try dsimp only); split; exacts [(Fr.trans (Fr.refl _ _) (State.subFail_frame (Within.of rfl hm))), (Fr.refl _ _)]))
    (State.setThread_frame (Within.of rfl hm)))])) (State.setSub_frame (Within.of rfl hm))), (by (try dsimp only); split; exacts
    [(Fr.set_outst (Within.of rfl hm) ((Fr.trans ((Fr.trans ((by (try dsimp only); split; exacts [(Fr.trans (Fr.refl _ _)
    (State.subFail_frame (Within.of rfl hm))), (Fr.refl _ _)])) (State.setThread_frame (Within.of rfl hm)))) (State.fresh_frame
    (Within.of rfl hm))))), (Fr.trans ((by (try dsimp only); split; exacts [(Fr.trans (Fr.refl _ _) (State.subFail_frame
    (Within.of rfl hm))), (Fr.refl _ _)])) (State.setThread_frame (Within.of rfl hm)))])])) (State.sweepEnds_frame (Within.of rfl
    hm)))) (State.subSettle_frame (Within.of rfl hm)))])

theorem State.advanceTo_frame {m : Nat} (hm : Within 44477964 m) {s : State} {a1 : ℕ} {a2 : ℕ} {a3 : BitVec 512} {a4 : ℕ} {a5 :
  Bool} :
    Fr m s (State.advanceTo s a1 a2 a3 a4 a5) := by
  delta State.advanceTo
  exact (by (try dsimp only); split; exacts [(Fr.refl _ _), (Fr.ite ((Fr.trans (Fr.refl _ _) (State.threadEnd_frame (Within.of
    rfl hm)))) ((Fr.ite ((Fr.trans (Fr.refl _ _) (State.threadEnd_frame (Within.of rfl hm)))) ((Fr.ite ((Fr.trans (Fr.refl _ _)
    (State.fetchAt_frame (Within.of rfl hm)))) ((Fr.trans (Fr.refl _ _) (State.threadEnd_frame (Within.of rfl hm)))))))))])

theorem State.advance_frame {m : Nat} (hm : Within 44477964 m) {s : State} {a1 : ℕ} {a2 : ℕ} {a3 : BitVec 512} :
    Fr m s (State.advance s a1 a2 a3) := by
  delta State.advance
  exact (by (try dsimp only); split; exacts [(Fr.refl _ _), (Fr.trans (Fr.refl _ _) (State.advanceTo_frame (Within.of rfl hm)))])

theorem State.addOut_frame {m : Nat} (hm : Within 2560 m) {s : State} {a1 : ℕ} {a2 : ℕ} {a3 : Option (ℕ × BitVec 6)} :
    Fr m s (State.addOut s a1 a2 a3) := by
  delta State.addOut
  exact (by (try dsimp only); split; exacts [(Fr.trans ((Fr.trans (Fr.refl _ _) (State.tallySend_frame (Within.of rfl hm))))
    (State.fresh_frame (Within.of rfl hm))), (Fr.refl _ _)])

theorem State.completeNow_frame {m : Nat} (hm : Within 44477964 m) {s : State} {a1 : ℕ} {a2 : ℕ} {a3 : BitVec 512} {a4 : Option
  (ℕ × BitVec 6)} :
    Fr m s (State.completeNow s a1 a2 a3 a4) := by
  delta State.completeNow
  exact (Fr.trans ((Fr.trans (Fr.refl _ _) (State.addOut_frame (Within.of rfl hm)))) (State.advance_frame (Within.of rfl hm)))

theorem State.failDesc_frame {m : Nat} (hm : Within 44477964 m) {s : State} {a1 : ℕ} {a2 : ℕ} {a3 : BitVec 512} {a4 : Option (ℕ ×
  BitVec 6)} {a5 : Code} :
    Fr m s (State.failDesc s a1 a2 a3 a4 a5) := by
  delta State.failDesc
  exact (by (try dsimp only); split; exacts [(Fr.refl _ _), (Fr.ite ((Fr.trans ((Fr.trans ((Fr.trans (Fr.refl _ _)
    (State.addOut_frame (Within.of rfl hm)))) (State.subFail_frame (Within.of rfl hm)))) (State.advance_frame (Within.of rfl
    hm)))) ((Fr.trans ((Fr.trans (Fr.refl _ _) (State.addOut_frame (Within.of rfl hm)))) (State.threadEnd_frame (Within.of rfl
    hm)))))])

theorem State.endWait_frame {m : Nat} (hm : Within 44477964 m) {s : State} {a1 : ℕ} {a2 : ℕ} {a3 : Code} :
    Fr m s (State.endWait s a1 a2 a3) := by
  delta State.endWait
  exact (by (try dsimp only); split; exacts [(Fr.refl _ _), (by (try dsimp only); split; exacts [(Fr.ite ((Fr.trans (Fr.refl _ _)
    (State.failDesc_frame (Within.of rfl hm)))) (Fr.refl _ _)), (Fr.refl _ _)])])

theorem State.fenceWaits_frame {m : Nat} (hm : Within 44477964 m) {s : State} {a1 : List ℕ} :
    Fr m s (State.fenceWaits s a1) := by
  delta State.fenceWaits
  exact (Fr.trans (Fr.refl _ _) (Fr.foldl (fun _ _ => (Fr.trans (Fr.refl _ _) (Fr.foldl (fun _ _ => (Fr.trans (Fr.refl _ _)
    (State.endWait_frame (Within.of rfl hm)))))))))

theorem State.openDesc_frame {m : Nat} (hm : Within 10240 m) {s : State} {a1 : ℕ} {a2 : ℕ} {a3 : Option (ℕ × BitVec 6)} {a4 : ℕ}
  {a5 : Bool} {a6 : List (CtxNo × ℕ)} :
    Fr m s (State.openDesc s a1 a2 a3 a4 a5 a6) := by
  delta State.openDesc
  exact (by (try dsimp only); split; exacts [(Fr.refl _ _), (Fr.set_outst (Within.of rfl hm) ((Fr.trans (Fr.refl _ _)
    (State.fresh_frame (Within.of rfl hm)))))])

theorem State.abortXfer_frame {m : Nat} (hm : Within 33554440 m) {s : State} {a1 : Xfer} :
    Fr m s (State.abortXfer s a1) := by
  delta State.abortXfer
  exact (Fr.trans ((Fr.set_fab (Within.of rfl hm) (Fr.refl _ _))) (State.sendMsg_frame (Within.of rfl hm)))

theorem State.denyXfer_frame {m : Nat} (hm : Within 36044812 m) {s : State} {a1 : Xfer} :
    Fr m s (State.denyXfer s a1) := by
  delta State.denyXfer
  exact (Fr.trans ((Fr.trans ((Fr.trans ((Fr.set_fab (Within.of rfl hm) (Fr.refl _ _))) (State.devWrite_frame (Within.of rfl
    hm)))) (State.draw_frame (Within.of rfl hm)))) (State.sendMsg_frame (Within.of rfl hm)))

theorem State.absorb_frame {m : Nat} (hm : Within 44564236 m) {s : State} {a1 : ℕ} {a2 : ℕ} {a3 : Code} :
    Fr m s (State.absorb s a1 a2 a3) := by
  delta State.absorb
  exact (by (try dsimp only); split; exacts [(Fr.refl _ _), (Fr.ite ((Fr.trans ((by (try dsimp only); split; exacts [(Fr.ite
    ((by (try dsimp only); split; exacts [(Fr.trans ((Fr.trans ((Fr.trans ((Fr.set_starts_outst (Within.of rfl hm) ((Fr.trans
    ((Fr.trans (Fr.refl _ _) (State.scrapMovers_frame (Within.of rfl hm)))) (State.modCore_frame (Within.of rfl hm))))))
    (Fr.foldl (fun _ _ => (Fr.trans (Fr.refl _ _) (State.abortXfer_frame (Within.of rfl hm))))))) (State.scrapAppend_frame
    (Within.of rfl hm)))) (State.seqDone_frame (Within.of rfl hm))), (Fr.trans ((Fr.set_starts_outst (Within.of rfl hm)
    ((Fr.trans ((Fr.trans (Fr.refl _ _) (State.scrapMovers_frame (Within.of rfl hm)))) (State.modCore_frame (Within.of rfl
    hm)))))) (Fr.foldl (fun _ _ => (Fr.trans (Fr.refl _ _) (State.abortXfer_frame (Within.of rfl hm))))))])) ((Fr.trans
    ((Fr.trans ((by (try dsimp only); split; exacts [(Fr.trans ((Fr.trans ((Fr.trans ((Fr.set_starts_outst (Within.of rfl hm)
    ((Fr.trans ((Fr.trans (Fr.refl _ _) (State.scrapMovers_frame (Within.of rfl hm)))) (State.modCore_frame (Within.of rfl
    hm)))))) (Fr.foldl (fun _ _ => (Fr.trans (Fr.refl _ _) (State.abortXfer_frame (Within.of rfl hm)))))))
    (State.scrapAppend_frame (Within.of rfl hm)))) (State.seqDone_frame (Within.of rfl hm))), (Fr.trans ((Fr.set_starts_outst
    (Within.of rfl hm) ((Fr.trans ((Fr.trans (Fr.refl _ _) (State.scrapMovers_frame (Within.of rfl hm)))) (State.modCore_frame
    (Within.of rfl hm)))))) (Fr.foldl (fun _ _ => (Fr.trans (Fr.refl _ _) (State.abortXfer_frame (Within.of rfl hm))))))]))
    (State.tallySend_frame (Within.of rfl hm)))) (State.fresh_frame (Within.of rfl hm))))), (by (try dsimp only); split; exacts
    [(Fr.trans ((Fr.trans ((Fr.trans ((Fr.set_starts_outst (Within.of rfl hm) ((Fr.trans ((Fr.trans (Fr.refl _ _)
    (State.scrapMovers_frame (Within.of rfl hm)))) (State.modCore_frame (Within.of rfl hm)))))) (Fr.foldl (fun _ _ => (Fr.trans
    (Fr.refl _ _) (State.abortXfer_frame (Within.of rfl hm))))))) (State.scrapAppend_frame (Within.of rfl hm))))
    (State.seqDone_frame (Within.of rfl hm))), (Fr.trans ((Fr.set_starts_outst (Within.of rfl hm) ((Fr.trans ((Fr.trans (Fr.refl
    _ _) (State.scrapMovers_frame (Within.of rfl hm)))) (State.modCore_frame (Within.of rfl hm)))))) (Fr.foldl (fun _ _ =>
    (Fr.trans (Fr.refl _ _) (State.abortXfer_frame (Within.of rfl hm))))))])])) (State.subSettle_frame (Within.of rfl hm))))
    ((Fr.trans ((by (try dsimp only); split; exacts [(Fr.trans ((Fr.trans ((by (try dsimp only); split; exacts [(Fr.ite
    ((by (try dsimp only); split; exacts [(Fr.trans ((Fr.trans ((Fr.trans ((Fr.set_starts_outst (Within.of rfl hm) ((Fr.trans
    ((Fr.trans (Fr.refl _ _) (State.scrapMovers_frame (Within.of rfl hm)))) (State.modCore_frame (Within.of rfl hm))))))
    (Fr.foldl (fun _ _ => (Fr.trans (Fr.refl _ _) (State.abortXfer_frame (Within.of rfl hm))))))) (State.scrapAppend_frame
    (Within.of rfl hm)))) (State.seqDone_frame (Within.of rfl hm))), (Fr.trans ((Fr.set_starts_outst (Within.of rfl hm)
    ((Fr.trans ((Fr.trans (Fr.refl _ _) (State.scrapMovers_frame (Within.of rfl hm)))) (State.modCore_frame (Within.of rfl
    hm)))))) (Fr.foldl (fun _ _ => (Fr.trans (Fr.refl _ _) (State.abortXfer_frame (Within.of rfl hm))))))])) ((Fr.trans
    ((Fr.trans ((by (try dsimp only); split; exacts [(Fr.trans ((Fr.trans ((Fr.trans ((Fr.set_starts_outst (Within.of rfl hm)
    ((Fr.trans ((Fr.trans (Fr.refl _ _) (State.scrapMovers_frame (Within.of rfl hm)))) (State.modCore_frame (Within.of rfl
    hm)))))) (Fr.foldl (fun _ _ => (Fr.trans (Fr.refl _ _) (State.abortXfer_frame (Within.of rfl hm)))))))
    (State.scrapAppend_frame (Within.of rfl hm)))) (State.seqDone_frame (Within.of rfl hm))), (Fr.trans ((Fr.set_starts_outst
    (Within.of rfl hm) ((Fr.trans ((Fr.trans (Fr.refl _ _) (State.scrapMovers_frame (Within.of rfl hm)))) (State.modCore_frame
    (Within.of rfl hm)))))) (Fr.foldl (fun _ _ => (Fr.trans (Fr.refl _ _) (State.abortXfer_frame (Within.of rfl hm))))))]))
    (State.tallySend_frame (Within.of rfl hm)))) (State.fresh_frame (Within.of rfl hm))))), (by (try dsimp only); split; exacts
    [(Fr.trans ((Fr.trans ((Fr.trans ((Fr.set_starts_outst (Within.of rfl hm) ((Fr.trans ((Fr.trans (Fr.refl _ _)
    (State.scrapMovers_frame (Within.of rfl hm)))) (State.modCore_frame (Within.of rfl hm)))))) (Fr.foldl (fun _ _ => (Fr.trans
    (Fr.refl _ _) (State.abortXfer_frame (Within.of rfl hm))))))) (State.scrapAppend_frame (Within.of rfl hm))))
    (State.seqDone_frame (Within.of rfl hm))), (Fr.trans ((Fr.set_starts_outst (Within.of rfl hm) ((Fr.trans ((Fr.trans (Fr.refl
    _ _) (State.scrapMovers_frame (Within.of rfl hm)))) (State.modCore_frame (Within.of rfl hm)))))) (Fr.foldl (fun _ _ =>
    (Fr.trans (Fr.refl _ _) (State.abortXfer_frame (Within.of rfl hm))))))])])) (State.subFail_frame (Within.of rfl hm))))
    (State.setSub_frame (Within.of rfl hm))), (Fr.trans ((by (try dsimp only); split; exacts [(Fr.ite
    ((by (try dsimp only); split; exacts [(Fr.trans ((Fr.trans ((Fr.trans ((Fr.set_starts_outst (Within.of rfl hm) ((Fr.trans
    ((Fr.trans (Fr.refl _ _) (State.scrapMovers_frame (Within.of rfl hm)))) (State.modCore_frame (Within.of rfl hm))))))
    (Fr.foldl (fun _ _ => (Fr.trans (Fr.refl _ _) (State.abortXfer_frame (Within.of rfl hm))))))) (State.scrapAppend_frame
    (Within.of rfl hm)))) (State.seqDone_frame (Within.of rfl hm))), (Fr.trans ((Fr.set_starts_outst (Within.of rfl hm)
    ((Fr.trans ((Fr.trans (Fr.refl _ _) (State.scrapMovers_frame (Within.of rfl hm)))) (State.modCore_frame (Within.of rfl
    hm)))))) (Fr.foldl (fun _ _ => (Fr.trans (Fr.refl _ _) (State.abortXfer_frame (Within.of rfl hm))))))])) ((Fr.trans
    ((Fr.trans ((by (try dsimp only); split; exacts [(Fr.trans ((Fr.trans ((Fr.trans ((Fr.set_starts_outst (Within.of rfl hm)
    ((Fr.trans ((Fr.trans (Fr.refl _ _) (State.scrapMovers_frame (Within.of rfl hm)))) (State.modCore_frame (Within.of rfl
    hm)))))) (Fr.foldl (fun _ _ => (Fr.trans (Fr.refl _ _) (State.abortXfer_frame (Within.of rfl hm)))))))
    (State.scrapAppend_frame (Within.of rfl hm)))) (State.seqDone_frame (Within.of rfl hm))), (Fr.trans ((Fr.set_starts_outst
    (Within.of rfl hm) ((Fr.trans ((Fr.trans (Fr.refl _ _) (State.scrapMovers_frame (Within.of rfl hm)))) (State.modCore_frame
    (Within.of rfl hm)))))) (Fr.foldl (fun _ _ => (Fr.trans (Fr.refl _ _) (State.abortXfer_frame (Within.of rfl hm))))))]))
    (State.tallySend_frame (Within.of rfl hm)))) (State.fresh_frame (Within.of rfl hm))))), (by (try dsimp only); split; exacts
    [(Fr.trans ((Fr.trans ((Fr.trans ((Fr.set_starts_outst (Within.of rfl hm) ((Fr.trans ((Fr.trans (Fr.refl _ _)
    (State.scrapMovers_frame (Within.of rfl hm)))) (State.modCore_frame (Within.of rfl hm)))))) (Fr.foldl (fun _ _ => (Fr.trans
    (Fr.refl _ _) (State.abortXfer_frame (Within.of rfl hm))))))) (State.scrapAppend_frame (Within.of rfl hm))))
    (State.seqDone_frame (Within.of rfl hm))), (Fr.trans ((Fr.set_starts_outst (Within.of rfl hm) ((Fr.trans ((Fr.trans (Fr.refl
    _ _) (State.scrapMovers_frame (Within.of rfl hm)))) (State.modCore_frame (Within.of rfl hm)))))) (Fr.foldl (fun _ _ =>
    (Fr.trans (Fr.refl _ _) (State.abortXfer_frame (Within.of rfl hm))))))])])) (State.subFail_frame (Within.of rfl hm)))]))
    (State.subSettle_frame (Within.of rfl hm)))))])

theorem State.absorbCore_frame {m : Nat} (hm : Within 44564236 m) {s : State} {a1 : ℕ} :
    Fr m s (State.absorbCore s a1) := by
  delta State.absorbCore
  exact (Fr.trans (Fr.refl _ _) (Fr.foldl (fun _ _ => (Fr.trans (Fr.refl _ _) (State.absorb_frame (Within.of rfl hm))))))

theorem State.refuseStart_frame {m : Nat} (hm : Within 44482060 m) {s : State} {a1 : StartReq} {a2 : Code} :
    Fr m s (State.refuseStart s a1 a2) := by
  delta State.refuseStart
  exact (by (try dsimp only); split; exacts [(Fr.trans ((Fr.trans ((Fr.set_starts (Within.of rfl hm) (Fr.refl _ _)))
    (State.subFail_frame (Within.of rfl hm)))) (State.subSettle_frame (Within.of rfl hm))), (by (try dsimp only); split; exacts
    [(by (try dsimp only); split; exacts [(Fr.trans ((Fr.set_starts (Within.of rfl hm) (Fr.refl _ _))) (State.failDesc_frame
    (Within.of rfl hm))), (Fr.set_starts (Within.of rfl hm) (Fr.refl _ _))]), (Fr.set_starts (Within.of rfl hm) (Fr.refl _ _))])])

end Sys2Proof.Machine
end

