-- ==== Sys2Proof/Laws/FrameReset.lean ====
section
/-! SUPPORT. The frame of every operation of Machine/Reset: the parts of the state that it can change. -/

set_option Elab.async false
set_option linter.unusedTactic false

namespace Sys2Proof.Machine
open Sys2Proof.Safety

theorem State.sendTable_frame {m : Nat} (hm : Within 536870912 m) {s : State} {a1 : Byte} :
    Fr m s (State.sendTable s a1) := by
  delta State.sendTable
  exact (Fr.set_mod (Within.of rfl hm) (Fr.refl _ _))

theorem State.absorbWork_frame {m : Nat} (hm : Within 44476172 m) {s : State} {a1 : ℕ} :
    Fr m s (State.absorbWork s a1) := by
  delta State.absorbWork
  exact (Fr.trans ((Fr.trans ((Fr.trans ((Fr.trans ((Fr.set_outst (Within.of rfl hm) (Fr.refl _ _))) (Fr.foldl (fun _ _ =>
    (Fr.trans (Fr.refl _ _) (State.subFail_frame (Within.of rfl hm))))))) (State.modTray_frame (Within.of rfl hm)))) (Fr.foldl
    (fun _ _ => (Fr.trans ((Fr.trans (Fr.refl _ _) (State.sweepEnds_frame (Within.of rfl hm)))) (State.wakeOrder_frame (Within.of
    rfl hm))))))) (Fr.foldl (fun _ _ => (Fr.trans (Fr.refl _ _) (State.subSettle_frame (Within.of rfl hm))))))

theorem State.absorbCores_frame {m : Nat} (hm : Within 44564236 m) {s : State} {a1 : List ℕ} :
    Fr m s (State.absorbCores s a1) := by
  delta State.absorbCores
  exact (Fr.trans (Fr.refl _ _) (Fr.foldl (fun _ _ => (Fr.trans (Fr.refl _ _) (State.absorbCore_frame (Within.of rfl hm))))))

theorem State.refuseStarts_frame {m : Nat} (hm : Within 44482060 m) {s : State} {a1 : StartReq → Bool} {a2 : Code} :
    Fr m s (State.refuseStarts s a1 a2) := by
  delta State.refuseStarts
  exact (Fr.trans (Fr.refl _ _) (Fr.foldl (fun _ _ => (Fr.trans (Fr.refl _ _) (State.refuseStart_frame (Within.of rfl hm))))))

theorem State.setBelow_frame {m : Nat} (hm : Within 1536 m) {s : State} {a1 : List ℕ} {a2 : List ℕ} {a3 : UnitCtl → UnitCtl} :
    Fr m s (State.setBelow s a1 a2 a3) := by
  delta State.setBelow
  exact (Fr.trans ((Fr.trans (Fr.refl _ _) (Fr.foldl (fun _ _ => (Fr.trans (Fr.refl _ _) (State.modCluster_frame (Within.of rfl
    hm))))))) (Fr.foldl (fun _ _ => (Fr.trans (Fr.refl _ _) (State.modCore_frame (Within.of rfl hm))))))

theorem State.startReset_frame {m : Nat} (hm : Within 13600554764 m) {s : State} {a1 : ResetTarget} {a2 : List ℕ} {a3 : List ℕ}
  {a4 : List ℕ} {a5 : List CtxNo} :
    Fr m s (State.startReset s a1 a2 a3 a4 a5) := by
  delta State.startReset
  exact (Fr.set_mod (Within.of rfl hm) ((Fr.trans ((Fr.trans ((Fr.trans ((Fr.trans ((Fr.trans (Fr.refl _ _) (State.event_frame
    (Within.of rfl hm)))) (State.absorbCores_frame (Within.of rfl hm)))) (Fr.foldl (fun _ _ => (Fr.trans (Fr.refl _ _)
    (State.absorbWork_frame (Within.of rfl hm))))))) (Fr.foldl (fun _ _ => (Fr.trans (Fr.refl _ _) (State.modTray_frame
    (Within.of rfl hm))))))) (State.setBelow_frame (Within.of rfl hm)))))

theorem State.clearUnits_frame {m : Nat} (hm : Within 536872704 m) {s : State} {a1 : List ℕ} {a2 : List ℕ} {a3 : List ℕ} :
    Fr m s (State.clearUnits s a1 a2 a3) := by
  delta State.clearUnits
  exact (Fr.ite ((Fr.trans ((Fr.trans ((Fr.trans (Fr.refl _ _) (Fr.foldl (fun _ _ => (Fr.trans (Fr.refl _ _) (State.modTray_frame
    (Within.of rfl hm))))))) (Fr.foldl (fun _ _ => (Fr.trans (Fr.refl _ _) (State.modCore_frame (Within.of rfl hm)))))))
    (Fr.foldl (fun _ _ => (Fr.trans (Fr.refl _ _) (State.modCluster_frame (Within.of rfl hm))))))) ((Fr.trans ((Fr.trans
    ((Fr.trans ((Fr.trans (Fr.refl _ _) (Fr.foldl (fun _ _ => (Fr.trans (Fr.refl _ _) (State.modTray_frame (Within.of rfl
    hm))))))) (Fr.foldl (fun _ _ => (Fr.trans (Fr.refl _ _) (State.modCore_frame (Within.of rfl hm))))))) (Fr.foldl (fun _ _ =>
    (Fr.trans (Fr.refl _ _) (State.modCluster_frame (Within.of rfl hm))))))) (State.sendTable_frame (Within.of rfl hm)))))

theorem State.endResets_frame {m : Nat} (hm : Within 13555990536 m) {s : State} :
    Fr m s (State.endResets s) := by
  delta State.endResets
  exact (Fr.trans ((Fr.set_mod (Within.of rfl hm) (Fr.refl _ _))) (Fr.foldl (fun _ _ => (Fr.trans (Fr.refl _ _)
    (State.event_frame (Within.of rfl hm))))))

theorem State.failTray_frame {m : Nat} (hm : Within 13063601932 m) {s : State} {a1 : ℕ} :
    Fr m s (State.failTray s a1) := by
  delta State.failTray
  exact (Fr.trans ((Fr.trans ((Fr.trans (Fr.refl _ _) (State.modTray_frame (Within.of rfl hm)))) (State.refuseStarts_frame
    (Within.of rfl hm)))) (State.event_frame (Within.of rfl hm)))

theorem State.failCluster_frame {m : Nat} (hm : Within 13063601676 m) {s : State} {a1 : ℕ} :
    Fr m s (State.failCluster s a1) := by
  delta State.failCluster
  exact (Fr.trans ((Fr.trans ((Fr.trans (Fr.refl _ _) (State.modCluster_frame (Within.of rfl hm)))) (State.refuseStarts_frame
    (Within.of rfl hm)))) (State.event_frame (Within.of rfl hm)))

theorem State.failCore_frame {m : Nat} (hm : Within 13063601676 m) {s : State} {a1 : ℕ} :
    Fr m s (State.failCore s a1) := by
  delta State.failCore
  exact (Fr.trans ((Fr.trans ((Fr.trans (Fr.refl _ _) (State.modCore_frame (Within.of rfl hm)))) (State.refuseStarts_frame
    (Within.of rfl hm)))) (State.event_frame (Within.of rfl hm)))

theorem State.acquire_frame {m : Nat} (hm : Within 256 m) {s : State} {a1 : ℕ} :
    Fr m s (State.acquire s a1) := by
  delta State.acquire
  exact (Fr.trans (Fr.refl _ _) (State.modTray_frame (Within.of rfl hm)))

theorem State.bindTray_frame {m : Nat} (hm : Within 13555990856 m) {s : State} {a1 : ℕ} {a2 : ℕ} :
    Fr m s (State.bindTray s a1 a2) := by
  delta State.bindTray
  exact (Fr.trans ((Fr.ite ((Fr.trans ((Fr.trans ((Fr.trans ((Fr.trans ((Fr.set_map (Within.of rfl hm) (Fr.refl _ _)))
    (State.sendTable_frame (Within.of rfl hm)))) (State.modTray_frame (Within.of rfl hm)))) (State.modTray_frame (Within.of rfl
    hm)))) (State.acquire_frame (Within.of rfl hm)))) ((Fr.trans ((Fr.trans ((Fr.trans ((Fr.set_map (Within.of rfl hm) (Fr.refl _
    _))) (State.sendTable_frame (Within.of rfl hm)))) (State.modTray_frame (Within.of rfl hm)))) (State.modTray_frame (Within.of
    rfl hm)))))) (State.event_frame (Within.of rfl hm)))

theorem State.bindCluster_frame {m : Nat} (hm : Within 13555991176 m) {s : State} {a1 : ℕ} {a2 : ℕ} :
    Fr m s (State.bindCluster s a1 a2) := by
  delta State.bindCluster
  exact (Fr.trans ((Fr.trans ((Fr.trans ((Fr.trans ((Fr.set_cmap (Within.of rfl hm) (Fr.refl _ _))) (State.sendTable_frame
    (Within.of rfl hm)))) (State.modCluster_frame (Within.of rfl hm)))) (State.modCluster_frame (Within.of rfl hm))))
    (State.event_frame (Within.of rfl hm)))

theorem State.startClusters_frame {m : Nat} (hm : Within 512 m) {s : State} {a1 : ℕ} :
    Fr m s (State.startClusters s a1) := by
  delta State.startClusters
  exact (Fr.trans (Fr.refl _ _) (Fr.foldl (fun _ _ => (Fr.ite ((Fr.trans (Fr.refl _ _) (State.modCluster_frame (Within.of rfl
    hm)))) (Fr.refl _ _)))))

theorem State.looseVector_frame {m : Nat} (hm : Within 260 m) {s : State} {a1 : ℕ} {a2 : ℕ} :
    Fr m s (State.looseVector s a1 a2) := by
  delta State.looseVector
  exact (Fr.trans ((Fr.trans (Fr.refl _ _) (State.modTray_frame (Within.of rfl hm)))) (State.draw_frame (Within.of rfl hm)))

theorem State.spoilVectors_frame {m : Nat} (hm : Within 260 m) {s : State} {a1 : List ℕ} {a2 : ℕ} :
    Fr m s (State.spoilVectors s a1 a2) := by
  delta State.spoilVectors
  exact (Fr.trans ((Fr.trans (Fr.refl _ _) (State.modTray_frame (Within.of rfl hm)))) (Fr.foldl (fun _ _ => (Fr.trans (Fr.refl _
    _) (State.looseVector_frame (Within.of rfl hm))))))

theorem State.absorbCtx_frame {m : Nat} (hm : Within 44564236 m) {s : State} {a1 : CtxNo} :
    Fr m s (State.absorbCtx s a1) := by
  delta State.absorbCtx
  exact (Fr.set_seqs (Within.of rfl hm) ((Fr.trans ((Fr.set_outst (Within.of rfl hm) ((Fr.trans ((Fr.trans ((Fr.trans ((Fr.trans
    ((Fr.trans ((Fr.trans (Fr.refl _ _) (Fr.foldl (fun _ _ => (Fr.trans (Fr.refl _ _) (State.absorb_frame (Within.of rfl
    hm))))))) (State.refuseStarts_frame (Within.of rfl hm)))) (Fr.foldl (fun _ _ => (Fr.ite ((Fr.trans (Fr.refl _ _)
    (State.abortXfer_frame (Within.of rfl hm)))) ((Fr.trans (Fr.refl _ _) (State.denyXfer_frame (Within.of rfl hm)))))))))
    (State.scrapMovers_frame (Within.of rfl hm)))) (Fr.foldl (fun _ _ => (Fr.trans (Fr.refl _ _) (State.spoilVectors_frame
    (Within.of rfl hm))))))) (Fr.foldl (fun _ _ => (Fr.trans (Fr.refl _ _) (State.subFail_frame (Within.of rfl hm)))))))))
    (Fr.foldl (fun _ _ => (by (try dsimp only); split; exacts [(Fr.trans ((Fr.trans (Fr.refl _ _) (State.setSub_frame (Within.of
    rfl hm)))) (State.subSettle_frame (Within.of rfl hm))), (Fr.refl _ _)]))))))

theorem State.rebooted_frame {m : Nat} (hm : Within 274877904880 m) {s : State} {b : Bool} : Fr m s (s.rebooted b) := by
  refine ⟨fun p hp => ?_, fun _ => ⟨fun e he => ?_, (fun e he => by cases he), fun e he => ?_, rfl⟩⟩
  · cases p <;> first | exact rfl | exact hm.no hp rfl
  · obtain ⟨x, -, rfl⟩ := List.mem_map.mp he
    exact TraySound.blank
  · obtain ⟨x, -, rfl⟩ := List.mem_map.mp he
    exact Memory.wf_nil

theorem State.moduleReset_frame {m : Nat} (hm : Within 274877904888 m) {s : State} {a1 : BitVec 4} :
    Fr m s (State.moduleReset s a1) := by
  delta State.moduleReset
  exact (Fr.trans ((Fr.trans ((Fr.set_mod (Within.of rfl hm) ((Fr.trans (Fr.refl _ _) (State.rebooted_frame (Within.of rfl
    hm)))))) (State.event_frame (Within.of rfl hm)))) (State.wearEvent_frame (Within.of rfl hm)))

end Sys2Proof.Machine
end

