-- ==== Sys2Proof/Laws/FrameTrayOps.lean ====
section
/-! SUPPORT. The frame of every operation of Machine/TrayOps: the parts of the state that it can change. -/

set_option Elab.async false
set_option linter.unusedTactic false

namespace Sys2Proof.Machine
open Sys2Proof.Safety

theorem State.noteStale_frame {m : Nat} (hm : Within 13019119880 m) {s : State} {a1 : ℕ} :
    Fr m s (State.noteStale s a1) := by
  delta State.noteStale
  exact (Fr.ite ((Fr.trans ((Fr.trans (Fr.refl _ _) (State.modTray_frame (Within.of rfl hm)))) (State.event_frame (Within.of rfl
    hm)))) ((Fr.trans (Fr.refl _ _) (State.modTray_frame (Within.of rfl hm)))))

theorem State.adopt_frame {m : Nat} (hm : Within 13019119880 m) {s : State} {a1 : ℕ} :
    Fr m s (State.adopt s a1) := by
  delta State.adopt
  exact (by (try dsimp only); split; exacts [(Fr.refl _ _), (Fr.trans ((Fr.ite ((Fr.trans ((Fr.trans (Fr.refl _ _)
    (State.modTray_frame (Within.of rfl hm)))) (State.event_frame (Within.of rfl hm)))) ((Fr.trans (Fr.refl _ _)
    (State.modTray_frame (Within.of rfl hm)))))) (State.noteStale_frame (Within.of rfl hm)))])

theorem State.boundary_frame {m : Nat} (hm : Within 13019119880 m) {s : State} {a1 : ℕ} :
    Fr m s (State.boundary s a1) := by
  delta State.boundary
  exact (by (try dsimp only); split; exacts [(Fr.ite ((Fr.trans ((Fr.trans (Fr.refl _ _) (State.modTray_frame (Within.of rfl
    hm)))) (State.adopt_frame (Within.of rfl hm)))) ((Fr.trans (Fr.refl _ _) (State.modTray_frame (Within.of rfl hm))))),
    (Fr.trans (Fr.refl _ _) (State.modTray_frame (Within.of rfl hm)))])

theorem State.keepClusterShot_frame {m : Nat} (hm : Within 512 m) {s : State} {a1 : ℕ} :
    Fr m s (State.keepClusterShot s a1) := by
  delta State.keepClusterShot
  exact (Fr.trans (Fr.refl _ _) (State.modCluster_frame (Within.of rfl hm)))

theorem State.releaseAppend_frame {m : Nat} (hm : Within 458756 m) {s : State} {a1 : Thread} :
    Fr m s (State.releaseAppend s a1) := by
  delta State.releaseAppend
  exact (by (try dsimp only); split; exacts [(Fr.trans ((Fr.trans (Fr.refl _ _) (State.scrapAppend_frame (Within.of rfl hm))))
    (State.seqDone_frame (Within.of rfl hm))), (Fr.refl _ _)])

@[simp] theorem Tray.setActive_tb (t : Tray) (p : Plane) : (t.setActive p).tb = t.tb := by
  unfold Tray.setActive
  split <;> rfl

@[simp] theorem Tray.setActive_cnt (t : Tray) (p : Plane) : (t.setActive p).cnt = t.cnt := by
  unfold Tray.setActive
  split <;> rfl

@[simp] theorem Tray.setIdle_tb (t : Tray) (p : Plane) : (t.setIdle p).tb = t.tb := by
  unfold Tray.setIdle
  split <;> rfl

@[simp] theorem Tray.setIdle_cnt (t : Tray) (p : Plane) : (t.setIdle p).cnt = t.cnt := by
  unfold Tray.setIdle
  split <;> rfl

@[simp] theorem Tray.countExp_tb (t : Tray) (n : Nat) : (t.countExp n).tb = t.tb := by
  unfold Tray.countExp
  rfl

@[simp] theorem Tray.modPend_tb (t : Tray) (x : Nat) (f : Pend → Pend) : (t.modPend x f).tb = t.tb := by
  unfold Tray.modPend
  rfl

@[simp] theorem Tray.modPend_cnt (t : Tray) (x : Nat) (f : Pend → Pend) : (t.modPend x f).cnt = t.cnt := by
  unfold Tray.modPend
  rfl

@[simp] theorem Tray.countExp_cnt (t : Tray) (n : Nat) : (t.countExp n).cnt = { t.cnt with
    exposures := satAdd t.cnt.exposures 1, beats := satAdd t.cnt.beats 1, clips := satAdd t.cnt.clips n } := rfl

theorem State.moveCluster_frame {m : Nat} (hm : Within 34076172 m) {s : State} {a1 : ℕ} {a2 : ℕ} :
    Fr m s (State.moveCluster s a1 a2) := by
  delta State.moveCluster
  exact (Fr.set_starts_outst_movers (Within.of rfl hm) ((Fr.trans ((Fr.trans ((Fr.trans ((Fr.trans ((Fr.trans (Fr.refl _ _)
    (State.keepClusterShot_frame (Within.of rfl hm)))) (Fr.foldl (fun _ _ => (Fr.ite ((Fr.trans (Fr.refl _ _) (Fr.foldl (fun _ _
    => (Fr.trans ((Fr.trans (Fr.refl _ _) (State.deferred_frame (Within.of rfl hm)))) (State.releaseAppend_frame (Within.of rfl
    hm))))))) ((Fr.trans ((Fr.trans ((Fr.trans (Fr.refl _ _) (Fr.foldl (fun _ _ => (Fr.trans ((Fr.trans (Fr.refl _ _)
    (State.deferred_frame (Within.of rfl hm)))) (State.releaseAppend_frame (Within.of rfl hm))))))) (State.modCore_frame
    (Within.of rfl hm)))) (State.modCore_frame (Within.of rfl hm))))))))) (State.modCluster_frame (Within.of rfl hm))))
    (State.modCluster_frame (Within.of rfl hm)))) (Fr.foldl (fun _ _ => (Fr.trans (Fr.refl _ _) (State.abortXfer_frame (Within.of
    rfl hm))))))))

theorem State.fenceWork_frame {m : Nat} (hm : Within 44476172 m) {s : State} {a1 : ℕ} :
    Fr m s (State.fenceWork s a1) := by
  delta State.fenceWork
  exact (Fr.trans ((Fr.trans ((Fr.trans (Fr.refl _ _) (State.modTray_frame (Within.of rfl hm)))) (Fr.foldl (fun _ _ => (Fr.trans
    ((Fr.trans ((Fr.trans (Fr.refl _ _) (State.looseVector_frame (Within.of rfl hm)))) (State.deferred_frame (Within.of rfl
    hm)))) (State.expDone_frame (Within.of rfl hm))))))) (Fr.foldl (fun _ _ => (Fr.trans ((Fr.trans (Fr.refl _ _)
    (State.deferred_frame (Within.of rfl hm)))) (State.expDone_frame (Within.of rfl hm))))))

theorem State.keepShot_frame {m : Nat} (hm : Within 256 m) {s : State} {a1 : ℕ} :
    Fr m s (State.keepShot s a1) := by
  delta State.keepShot
  exact (Fr.trans (Fr.refl _ _) (State.modTray_frame (Within.of rfl hm)))

theorem State.spareTakes_frame {m : Nat} (hm : Within 256 m) {s t : State} {x : Tray} {k : Nat} (hx : Sound s → TraySound x)
    (h : Fr m s t) : Fr m s (t.spareTakes x k) :=
  Fr.setTray_from (Within.of rfl hm) h fun hs => ⟨(hx hs).1, TraySound.blank.2⟩

theorem State.emptied_frame {m : Nat} (hm : Within 256 m) {s : State} {a1 : ℕ} {a2 : ℕ} :
    Fr m s (State.emptied s a1 a2) := by
  delta State.emptied
  exact (Fr.set_trays (Within.of rfl hm) ((Fr.trans (Fr.refl _ _) (State.modTray_frame (Within.of rfl hm)))))

theorem State.mapOutTray_frame {m : Nat} (hm : Within 13600554828 m) {s : State} {t : Nat} : Fr m s (s.mapOutTray t) := by
  unfold State.mapOutTray
  dsimp only
  split
  · exact Fr.refl _ _
  · refine Fr.ite ?_ (Fr.trans (State.fenceWork_frame (Within.of rfl hm)) (State.failTray_frame (Within.of rfl hm)))
    refine Fr.trans (Fr.trans (Fr.trans (Fr.trans ?_ (State.emptied_frame (Within.of rfl hm)))
      (State.startClusters_frame (Within.of rfl hm))) (Fr.foldl fun _ _ => State.moveCluster_frame (Within.of rfl hm)))
      (State.event_frame (Within.of rfl hm))
    exact State.spareTakes_frame (Within.of rfl hm) (fun h => Sound.tray h t) (((State.keepShot_frame (Within.of rfl hm)).trans
      (State.bindTray_frame (Within.of rfl hm))).trans (State.adopt_frame (Within.of rfl hm)))

theorem State.mapOutCluster_frame {m : Nat} (hm : Within 13600554636 m) {s : State} {a1 : ℕ} :
    Fr m s (State.mapOutCluster s a1) := by
  delta State.mapOutCluster
  exact (by (try dsimp only); split; exacts [(Fr.refl _ _), (Fr.ite ((Fr.trans ((Fr.trans ((Fr.trans ((Fr.trans (Fr.refl _ _)
    (State.bindCluster_frame (Within.of rfl hm)))) (State.modCluster_frame (Within.of rfl hm)))) (State.moveCluster_frame
    (Within.of rfl hm)))) (State.event_frame (Within.of rfl hm)))) ((Fr.trans (Fr.refl _ _) (State.failCluster_frame (Within.of
    rfl hm)))))])

theorem State.ladderEvent_frame {m : Nat} (hm : Within 13019119624 m) {s : State} {a1 : UnitAddr} {a2 : ℕ} {a3 : Bool} :
    Fr m s (State.ladderEvent s a1 a2 a3) := by
  delta State.ladderEvent
  exact (Fr.trans ((Fr.set_mgmt (Within.of rfl hm) (Fr.refl _ _))) (State.event_frame (Within.of rfl hm)))

theorem State.trayAction_frame {m : Nat} (hm : Within 13600554828 m) {s : State} {a1 : ℕ} {a2 : ℕ} :
    Fr m s (State.trayAction s a1 a2) := by
  delta State.trayAction
  exact (Fr.ite ((Fr.ite ((Fr.trans ((Fr.trans (Fr.refl _ _) (State.modTray_frame (Within.of rfl hm)))) (State.ladderEvent_frame
    (Within.of rfl hm)))) (Fr.refl _ _))) ((Fr.ite ((Fr.ite ((Fr.trans ((Fr.trans ((Fr.trans (Fr.refl _ _) (State.modTray_frame
    (Within.of rfl hm)))) (State.ladderEvent_frame (Within.of rfl hm)))) (State.mapOutTray_frame (Within.of rfl hm)))) ((Fr.trans
    ((Fr.trans (Fr.refl _ _) (State.modTray_frame (Within.of rfl hm)))) (State.ladderEvent_frame (Within.of rfl hm)))))) (Fr.refl
    _ _))))

theorem State.trayLadder_frame {m : Nat} (hm : Within 13600554828 m) {s : State} {a1 : ℕ} :
    Fr m s (State.trayLadder s a1) := by
  delta State.trayLadder
  exact (Fr.trans (Fr.refl _ _) (Fr.foldl (fun _ _ => (Fr.trans (Fr.refl _ _) (State.trayAction_frame (Within.of rfl hm))))))

theorem State.clusterAction_frame {m : Nat} (hm : Within 13600554636 m) {s : State} {a1 : ℕ} {a2 : ℕ} :
    Fr m s (State.clusterAction s a1 a2) := by
  delta State.clusterAction
  exact (Fr.ite ((Fr.ite ((Fr.trans ((Fr.trans (Fr.refl _ _) (State.modCluster_frame (Within.of rfl hm))))
    (State.ladderEvent_frame (Within.of rfl hm)))) (Fr.refl _ _))) ((Fr.ite ((Fr.ite ((Fr.trans ((Fr.trans ((Fr.trans (Fr.refl _
    _) (State.modCluster_frame (Within.of rfl hm)))) (State.ladderEvent_frame (Within.of rfl hm)))) (State.mapOutCluster_frame
    (Within.of rfl hm)))) ((Fr.trans ((Fr.trans (Fr.refl _ _) (State.modCluster_frame (Within.of rfl hm))))
    (State.ladderEvent_frame (Within.of rfl hm)))))) (Fr.refl _ _))))

theorem State.clusterLadder_frame {m : Nat} (hm : Within 13600554636 m) {s : State} {a1 : ℕ} :
    Fr m s (State.clusterLadder s a1) := by
  delta State.clusterLadder
  exact (Fr.trans (Fr.refl _ _) (Fr.foldl (fun _ _ => (Fr.trans (Fr.refl _ _) (State.clusterAction_frame (Within.of rfl hm))))))

theorem State.scoreTray_frame {m : Nat} (hm : Within 13600554828 m) {s : State} {a1 : ℕ} {a2 : ℕ} :
    Fr m s (State.scoreTray s a1 a2) := by
  delta State.scoreTray
  exact (Fr.trans ((Fr.trans (Fr.refl _ _) (State.modTray_frame (Within.of rfl hm)))) (State.trayLadder_frame (Within.of rfl hm)))

theorem State.dissent_frame {m : Nat} (hm : Within 13600554636 m) {s : State} {a1 : ℕ} :
    Fr m s (State.dissent s a1) := by
  delta State.dissent
  exact (Fr.trans ((Fr.trans (Fr.refl _ _) (State.modCluster_frame (Within.of rfl hm)))) (State.clusterLadder_frame (Within.of
    rfl hm)))

theorem State.openRun_frame {m : Nat} (hm : Within 256 m) {s : State} {a1 : ℕ} {a2 : Shadow} {a3 : Origin} {a4 : Bool} :
    Fr m s (State.openRun s a1 a2 a3 a4) := by
  delta State.openRun
  exact (Fr.trans (Fr.refl _ _) (State.modTray_frame (Within.of rfl hm)))

theorem State.accumulateNow_frame {m : Nat} (hm : Within 44476172 m) {s : State} {a1 : ℕ} {a2 : Pend} {a3 : List (Word × FFlags)}
  {a4 : Option ℤ} :
    Fr m s (State.accumulateNow s a1 a2 a3 a4) := by
  delta State.accumulateNow
  exact (Fr.trans ((Fr.trans (Fr.refl _ _) (State.modTray_frame (Within.of rfl hm)))) (State.expDone_frame (Within.of rfl hm)))

theorem State.accumulate_frame {m : Nat} (hm : Within 44476172 m) {s : State} {a1 : ℕ} {a2 : Pend} {a3 : List (Word × FFlags)}
  {a4 : Option ℤ} :
    Fr m s (State.accumulate s a1 a2 a3 a4) := by
  delta State.accumulate
  exact (Fr.ite ((Fr.trans (Fr.refl _ _) (State.modTray_frame (Within.of rfl hm)))) ((Fr.trans (Fr.refl _ _)
    (State.accumulateNow_frame (Within.of rfl hm)))))

theorem State.flushLate_frame {m : Nat} (hm : Within 44476172 m) {s : State} {a1 : ℕ} :
    Fr m s (State.flushLate s a1) := by
  delta State.flushLate
  exact (Fr.trans (Fr.refl _ _) (Fr.foldl (fun _ _ => (Fr.ite (Fr.refl _ _) ((Fr.trans (Fr.refl _ _) (State.accumulateNow_frame
    (Within.of rfl hm))))))))

theorem State.refereeWork_frame {m : Nat} (hm : Within 1024 m) {s : State} {a1 : Option ℕ} :
    Fr m s (State.refereeWork s a1) := by
  delta State.refereeWork
  exact (by (try dsimp only); split; exacts [(Fr.trans (Fr.refl _ _) (State.modCore_frame (Within.of rfl hm))), (Fr.refl _ _)])

theorem State.chooseRefs_frame {m : Nat} (hm : Within 1280 m) {s : State} {a1 : ℕ} :
    Fr m s (State.chooseRefs s a1) := by
  delta State.chooseRefs
  exact (Fr.trans (Fr.refl _ _) (Fr.foldl (fun _ _ => (Fr.ite ((Fr.trans ((Fr.trans (Fr.refl _ _) (State.modTray_frame (Within.of
    rfl hm)))) (State.refereeWork_frame (Within.of rfl hm)))) ((Fr.ite ((Fr.trans ((Fr.trans (Fr.refl _ _) (State.modTray_frame
    (Within.of rfl hm)))) (State.refereeWork_frame (Within.of rfl hm)))) (Fr.refl _ _)))))))

theorem State.askStrip_frame {m : Nat} (hm : Within 256 m) {s : State} {a1 : ℕ} {a2 : ℕ} :
    Fr m s (State.askStrip s a1 a2) := by
  delta State.askStrip
  exact (Fr.trans (Fr.refl _ _) (State.modTray_frame (Within.of rfl hm)))

theorem State.dropStrip_frame {m : Nat} (hm : Within 256 m) {s : State} {a1 : ℕ} :
    Fr m s (State.dropStrip s a1) := by
  delta State.dropStrip
  exact (by (try dsimp only); split; exacts [(Fr.trans ((Fr.trans (Fr.refl _ _) (State.modTray_frame (Within.of rfl hm))))
    (State.askStrip_frame (Within.of rfl hm))), (Fr.refl _ _)])

end Sys2Proof.Machine
end

