-- ==== Sys2Proof/Laws/FrameTray.lean ====
section
/-! SUPPORT. The frame of every operation of Machine/Tray: the parts of the state that it can change. -/

set_option Elab.async false
set_option linter.unusedTactic false

namespace Sys2Proof.Machine
open Sys2Proof.Safety

@[simp] theorem Tray.setTarget_tb (t : Tray) (r : LoadRun) (p : Plane) : (t.setTarget r p).tb = t.tb := by
  unfold Tray.setTarget
  split <;> rfl

@[simp] theorem Tray.setTarget_cnt (t : Tray) (r : LoadRun) (p : Plane) : (t.setTarget r p).cnt = t.cnt := by
  unfold Tray.setTarget
  split <;> rfl

@[simp] theorem Tray.beginLoad_tb (t : Tray) (r : LoadRun) (p : PState) : (t.beginLoad r p).tb = t.tb := by
  simp [Tray.beginLoad]

@[simp] theorem Tray.beginLoad_cnt (t : Tray) (r : LoadRun) (p : PState) : (t.beginLoad r p).cnt = t.cnt := by
  simp [Tray.beginLoad]

theorem State.onTray_frame {m : Nat} (_hm : Within 0 m) {s : State} {a1 : UnitAddr} {a2 : State → ℕ → State} (h2 : ∀ v0 v1, Fr m
  v0 (a2 v0 v1)) :
    Fr m s (State.onTray s a1 a2) := by
  delta State.onTray
  exact (by (try dsimp only); split; exacts [(Fr.trans (Fr.refl _ _) (h2 _ _)), (Fr.refl _ _)])

theorem State.idleBeat_frame {m : Nat} (hm : Within 256 m) {s : State} {a1 : ℕ} :
    Fr m s (State.idleBeat s a1) := by
  delta State.idleBeat
  exact (Fr.trans (Fr.refl _ _) (State.modTray_frame (Within.of rfl hm)))

theorem State.waitBeat_frame {m : Nat} (hm : Within 256 m) {s : State} {a1 : ℕ} :
    Fr m s (State.waitBeat s a1) := by
  delta State.waitBeat
  exact (Fr.trans (Fr.refl _ _) (State.modTray_frame (Within.of rfl hm)))

theorem State.expose_frame {m : Nat} (hm : Within 260 m) {s : State} {a1 : ℕ} {a2 : Pend} :
    Fr m s (State.expose s a1 a2) := by
  delta State.expose
  exact (Fr.trans ((Fr.trans ((Fr.ite (Fr.refl _ _) ((Fr.trans (Fr.refl _ _) (State.openRun_frame (Within.of rfl hm))))))
    (State.modTray_frame (Within.of rfl hm)))) (State.draw_frame (Within.of rfl hm)))

theorem State.replay_frame {m : Nat} (hm : Within 33028 m) {s : State} {a1 : ℕ} {a2 : Pend} :
    Fr m s (State.replay s a1 a2) := by
  delta State.replay
  exact (Fr.trans ((Fr.trans (Fr.refl _ _) (State.expose_frame (Within.of rfl hm)))) (State.subReplayed_frame (Within.of rfl hm)))

theorem State.exposeHead_frame {m : Nat} (hm : Within 44478220 m) {s : State} {a1 : ℕ} {a2 : ℕ} {a3 : ℕ} {a4 : ℕ} {a5 : ℕ} {a6 :
  Bool} {a7 : Option ℕ} {a8 : Option ℕ} {a9 : List QEntry} :
    Fr m s (State.exposeHead s a1 a2 a3 a4 a5 a6 a7 a8 a9) := by
  delta State.exposeHead
  exact (Fr.ite ((Fr.trans ((Fr.trans ((Fr.trans (Fr.refl _ _) (State.modTray_frame (Within.of rfl hm)))) (State.fresh_frame
    (Within.of rfl hm)))) (State.expose_frame (Within.of rfl hm)))) ((Fr.trans ((Fr.trans ((Fr.trans ((Fr.trans (Fr.refl _ _)
    (State.modTray_frame (Within.of rfl hm)))) (State.modTray_frame (Within.of rfl hm)))) (State.deferred_frame (Within.of rfl
    hm)))) (State.expDone_frame (Within.of rfl hm)))))

theorem State.exposureBeat_frame {m : Nat} (hm : Within 44478220 m) {s : State} {a1 : ℕ} :
    Fr m s (State.exposureBeat s a1) := by
  delta State.exposureBeat
  exact (Fr.ite (Fr.refl _ _) ((by (try dsimp only); split; exacts [(Fr.ite ((Fr.trans (Fr.refl _ _) (State.idleBeat_frame
    (Within.of rfl hm)))) ((Fr.trans (Fr.refl _ _) (State.replay_frame (Within.of rfl hm))))), (Fr.ite ((Fr.trans (Fr.refl _ _)
    (State.idleBeat_frame (Within.of rfl hm)))) ((by (try dsimp only); split; exacts [(Fr.trans (Fr.refl _ _)
    (State.exposeHead_frame (Within.of rfl hm))), (Fr.trans (Fr.refl _ _) (State.waitBeat_frame (Within.of rfl hm))), (Fr.trans
    (Fr.refl _ _) (State.idleBeat_frame (Within.of rfl hm)))])))])))

theorem execExposureIssue_frame {m : Nat} (hm : Within 44478220 m) {a0 : UnitAddr} {s : State} :
    OutFr m s (execExposureIssue a0 s) := by
  delta execExposureIssue
  exact OutFr.next ((Fr.trans (Fr.refl _ _) (State.onTray_frame (Within.of rfl hm) (fun _ _ => (Fr.trans ((Fr.trans (Fr.refl _ _)
    (State.flushLate_frame (Within.of rfl hm)))) (State.exposureBeat_frame (Within.of rfl hm)))))))

theorem State.startLoad_frame {m : Nat} (hm : Within 256 m) {s : State} {a1 : ℕ} :
    Fr m s (State.startLoad s a1) := by
  delta State.startLoad
  exact (by (try dsimp only); split; exacts [(Fr.ite ((Fr.trans (Fr.refl _ _) (State.modTray_frame (Within.of rfl hm)))) (Fr.refl
    _ _)), (Fr.refl _ _)])

theorem execLoadStart_frame {m : Nat} (hm : Within 256 m) {a0 : UnitAddr} {s : State} :
    OutFr m s (execLoadStart a0 s) := by
  delta execLoadStart
  exact OutFr.next ((Fr.trans (Fr.refl _ _) (State.onTray_frame (Within.of rfl hm) (fun _ _ => (Fr.trans (Fr.refl _ _)
    (State.startLoad_frame (Within.of rfl hm)))))))

theorem State.rejectLoad_frame {m : Nat} (hm : Within 44476172 m) {s : State} {a1 : ℕ} {a2 : LoadRun} :
    Fr m s (State.rejectLoad s a1 a2) := by
  delta State.rejectLoad
  exact (Fr.trans ((Fr.trans ((Fr.trans (Fr.refl _ _) (State.modTray_frame (Within.of rfl hm)))) (State.deferred_frame (Within.of
    rfl hm)))) (State.expDone_frame (Within.of rfl hm)))

theorem State.reload_frame {m : Nat} (hm : Within 256 m) {s : State} {a1 : ℕ} :
    Fr m s (State.reload s a1) := by
  delta State.reload
  exact (Fr.trans (Fr.refl _ _) (State.modTray_frame (Within.of rfl hm)))

theorem State.rewriteIdle_frame {m : Nat} (hm : Within 256 m) {s : State} {a1 : ℕ} :
    Fr m s (State.rewriteIdle s a1) := by
  delta State.rewriteIdle
  exact (Fr.ite ((Fr.trans (Fr.refl _ _) (State.reload_frame (Within.of rfl hm)))) (Fr.refl _ _))

theorem State.commitLoad_frame {m : Nat} (hm : Within 44476172 m) {s : State} {a1 : ℕ} {a2 : LoadRun} :
    Fr m s (State.commitLoad s a1 a2) := by
  delta State.commitLoad
  exact (Fr.trans ((Fr.trans ((Fr.trans ((Fr.trans (Fr.refl _ _) (State.modTray_frame (Within.of rfl hm)))) (State.draw_frame
    (Within.of rfl hm)))) (State.rewriteIdle_frame (Within.of rfl hm)))) (State.expDone_frame (Within.of rfl hm)))

theorem State.inplaceRow_frame {m : Nat} (hm : Within 13019119884 m) {s : State} {a1 : ℕ} {a2 : ℕ} :
    Fr m s (State.inplaceRow s a1 a2) := by
  delta State.inplaceRow
  exact (Fr.ite ((Fr.trans (Fr.refl _ _) (State.modTray_frame (Within.of rfl hm)))) ((Fr.trans ((Fr.trans ((Fr.trans ((Fr.trans
    ((Fr.trans (Fr.refl _ _) (State.modTray_frame (Within.of rfl hm)))) (State.modTray_frame (Within.of rfl hm))))
    (State.draw_frame (Within.of rfl hm)))) (State.boundary_frame (Within.of rfl hm)))) (State.rewriteIdle_frame (Within.of rfl
    hm)))))

theorem State.loadRow_frame {m : Nat} (hm : Within 13063595788 m) {s : State} {a1 : ℕ} :
    Fr m s (State.loadRow s a1) := by
  delta State.loadRow
  exact (Fr.ite (Fr.refl _ _) ((by (try dsimp only); split; exacts [(Fr.trans (Fr.refl _ _) (State.inplaceRow_frame (Within.of
    rfl hm))), (Fr.refl _ _), (Fr.ite ((Fr.trans (Fr.refl _ _) (State.rejectLoad_frame (Within.of rfl hm)))) ((Fr.ite ((Fr.trans
    (Fr.refl _ _) (State.commitLoad_frame (Within.of rfl hm)))) ((Fr.trans (Fr.refl _ _) (State.modTray_frame (Within.of rfl
    hm)))))))])))

theorem execLoadRowWrite_frame {m : Nat} (hm : Within 13063595788 m) {a0 : UnitAddr} {s : State} :
    OutFr m s (execLoadRowWrite a0 s) := by
  delta execLoadRowWrite
  exact OutFr.next ((Fr.trans (Fr.refl _ _) (State.onTray_frame (Within.of rfl hm) (fun _ _ => (Fr.trans (Fr.refl _ _)
    (State.loadRow_frame (Within.of rfl hm)))))))

theorem State.exchange_frame {m : Nat} (hm : Within 13019119880 m) {s : State} {a1 : ℕ} :
    Fr m s (State.exchange s a1) := by
  delta State.exchange
  exact (Fr.trans ((Fr.trans (Fr.refl _ _) (State.modTray_frame (Within.of rfl hm)))) (State.boundary_frame (Within.of rfl hm)))

theorem State.swapHead_frame {m : Nat} (hm : Within 13063595788 m) {s : State} {a1 : ℕ} :
    Fr m s (State.swapHead s a1) := by
  delta State.swapHead
  exact (Fr.ite (Fr.refl _ _) ((Fr.ite ((Fr.trans ((Fr.trans (Fr.refl _ _) (State.modTray_frame (Within.of rfl hm))))
    (State.exchange_frame (Within.of rfl hm)))) ((by (try dsimp only); split; exacts [(Fr.ite (Fr.refl _ _) ((Fr.ite ((Fr.trans
    ((Fr.trans ((Fr.trans (Fr.refl _ _) (State.modTray_frame (Within.of rfl hm)))) (State.exchange_frame (Within.of rfl hm))))
    (State.expDone_frame (Within.of rfl hm)))) ((Fr.trans ((Fr.trans ((Fr.trans ((Fr.trans (Fr.refl _ _) (State.modTray_frame
    (Within.of rfl hm)))) (State.modTray_frame (Within.of rfl hm)))) (State.deferred_frame (Within.of rfl hm))))
    (State.expDone_frame (Within.of rfl hm))))))), (Fr.refl _ _)])))))

theorem execSwapExecute_frame {m : Nat} (hm : Within 13063595788 m) {a0 : UnitAddr} {s : State} :
    OutFr m s (execSwapExecute a0 s) := by
  delta execSwapExecute
  exact OutFr.next ((Fr.trans (Fr.refl _ _) (State.onTray_frame (Within.of rfl hm) (fun _ _ => (Fr.trans (Fr.refl _ _)
    (State.swapHead_frame (Within.of rfl hm)))))))

theorem State.swapRefresh_frame {m : Nat} (hm : Within 256 m) {s : State} {a1 : ℕ} :
    Fr m s (State.swapRefresh s a1) := by
  delta State.swapRefresh
  exact (Fr.ite ((Fr.trans (Fr.refl _ _) (State.modTray_frame (Within.of rfl hm)))) (Fr.refl _ _))

theorem execSwapRefreshDue_frame {m : Nat} (hm : Within 256 m) {a0 : UnitAddr} {s : State} :
    OutFr m s (execSwapRefreshDue a0 s) := by
  delta execSwapRefreshDue
  exact OutFr.next ((Fr.trans (Fr.refl _ _) (State.onTray_frame (Within.of rfl hm) (fun _ _ => (Fr.trans (Fr.refl _ _)
    (State.swapRefresh_frame (Within.of rfl hm)))))))

theorem State.rewriteActive_frame {m : Nat} (hm : Within 256 m) {s : State} {a1 : ℕ} :
    Fr m s (State.rewriteActive s a1) := by
  delta State.rewriteActive
  exact (Fr.trans (Fr.refl _ _) (State.modTray_frame (Within.of rfl hm)))

theorem State.inplaceRefresh_frame {m : Nat} (hm : Within 256 m) {s : State} {a1 : ℕ} :
    Fr m s (State.inplaceRefresh s a1) := by
  delta State.inplaceRefresh
  exact (Fr.ite ((Fr.trans (Fr.refl _ _) (State.rewriteActive_frame (Within.of rfl hm)))) (Fr.refl _ _))

theorem execInplaceRefreshDue_frame {m : Nat} (hm : Within 256 m) {a0 : UnitAddr} {s : State} :
    OutFr m s (execInplaceRefreshDue a0 s) := by
  delta execInplaceRefreshDue
  exact OutFr.next ((Fr.trans (Fr.refl _ _) (State.onTray_frame (Within.of rfl hm) (fun _ _ => (Fr.trans (Fr.refl _ _)
    (State.inplaceRefresh_frame (Within.of rfl hm)))))))

theorem State.backgroundReload_frame {m : Nat} (hm : Within 256 m) {s : State} {a1 : ℕ} :
    Fr m s (State.backgroundReload s a1) := by
  delta State.backgroundReload
  exact (Fr.ite ((Fr.trans (Fr.refl _ _) (State.reload_frame (Within.of rfl hm)))) (Fr.refl _ _))

theorem State.backgroundDue_frame {m : Nat} (hm : Within 256 m) {s : State} {a1 : ℕ} :
    Fr m s (State.backgroundDue s a1) := by
  delta State.backgroundDue
  exact (Fr.ite ((Fr.trans (Fr.refl _ _) (State.backgroundReload_frame (Within.of rfl hm)))) (Fr.refl _ _))

theorem execBackgroundReloadDue_frame {m : Nat} (hm : Within 256 m) {a0 : UnitAddr} {s : State} :
    OutFr m s (execBackgroundReloadDue a0 s) := by
  delta execBackgroundReloadDue
  exact OutFr.next ((Fr.trans (Fr.refl _ _) (State.onTray_frame (Within.of rfl hm) (fun _ _ => (Fr.trans (Fr.refl _ _)
    (State.backgroundDue_frame (Within.of rfl hm)))))))

theorem State.refreshHeld_frame {m : Nat} (hm : Within 256 m) {s : State} {a1 : ℕ} {a2 : Bool} :
    Fr m s (State.refreshHeld s a1 a2) := by
  delta State.refreshHeld
  exact (Fr.ite ((Fr.trans ((Fr.ite ((Fr.trans (Fr.refl _ _) (State.rewriteActive_frame (Within.of rfl hm)))) (Fr.refl _ _)))
    (State.backgroundReload_frame (Within.of rfl hm)))) ((Fr.ite ((Fr.trans (Fr.refl _ _) (State.rewriteActive_frame (Within.of
    rfl hm)))) (Fr.refl _ _))))

theorem State.unheld_frame {m : Nat} (hm : Within 256 m) {s : State} {a1 : ℕ} {a2 : Bool} {a3 : State → State} (h3 : ∀ v0, Fr m
  v0 (a3 v0)) :
    Fr m s (State.unheld s a1 a2 a3) := by
  delta State.unheld
  exact (Fr.ite ((Fr.trans ((Fr.trans (Fr.refl _ _) (h3 _))) (State.refreshHeld_frame (Within.of rfl hm)))) ((Fr.trans (Fr.refl _
    _) (h3 _))))

theorem State.idleBound_frame {m : Nat} (hm : Within 13019119880 m) {s : State} {a1 : ℕ} :
    Fr m s (State.idleBound s a1) := by
  delta State.idleBound
  exact (Fr.ite ((Fr.ite ((Fr.trans ((Fr.trans (Fr.refl _ _) (State.modTray_frame (Within.of rfl hm))))
    (State.rewriteActive_frame (Within.of rfl hm)))) ((Fr.trans ((Fr.trans (Fr.refl _ _) (State.modTray_frame (Within.of rfl
    hm)))) (State.boundary_frame (Within.of rfl hm)))))) (Fr.refl _ _))

theorem execIdleBoundary_frame {m : Nat} (hm : Within 13019119880 m) {a0 : UnitAddr} {s : State} :
    OutFr m s (execIdleBoundary a0 s) := by
  delta execIdleBoundary
  exact OutFr.next ((Fr.trans (Fr.refl _ _) (State.onTray_frame (Within.of rfl hm) (fun _ _ => (Fr.trans (Fr.refl _ _)
    (State.idleBound_frame (Within.of rfl hm)))))))

theorem State.pauseEnd_frame {m : Nat} (hm : Within 256 m) {s : State} {a1 : ℕ} :
    Fr m s (State.pauseEnd s a1) := by
  delta State.pauseEnd
  exact (Fr.ite ((Fr.trans (Fr.refl _ _) (State.modTray_frame (Within.of rfl hm)))) (Fr.refl _ _))

theorem execVstepPauseEnd_frame {m : Nat} (hm : Within 256 m) {a0 : UnitAddr} {s : State} :
    OutFr m s (execVstepPauseEnd a0 s) := by
  delta execVstepPauseEnd
  exact OutFr.next ((Fr.trans (Fr.refl _ _) (State.onTray_frame (Within.of rfl hm) (fun _ _ => (Fr.trans (Fr.refl _ _)
    (State.pauseEnd_frame (Within.of rfl hm)))))))

theorem State.settleEnd_frame {m : Nat} (hm : Within 256 m) {s : State} {a1 : ℕ} :
    Fr m s (State.settleEnd s a1) := by
  delta State.settleEnd
  exact (Fr.ite ((Fr.trans (Fr.refl _ _) (State.modTray_frame (Within.of rfl hm)))) (Fr.refl _ _))

theorem execModeSettleEnd_frame {m : Nat} (hm : Within 256 m) {a0 : UnitAddr} {s : State} :
    OutFr m s (execModeSettleEnd a0 s) := by
  delta execModeSettleEnd
  exact OutFr.next ((Fr.trans (Fr.refl _ _) (State.onTray_frame (Within.of rfl hm) (fun _ _ => (Fr.trans (Fr.refl _ _)
    (State.settleEnd_frame (Within.of rfl hm)))))))

end Sys2Proof.Machine
end

