-- ==== Sys2Proof/Laws/FrameProof.lean ====
section
/-! SUPPORT. The frame of every operation of Machine/Proof: the parts of the state that it can change. -/

set_option Elab.async false
set_option linter.unusedTactic false

namespace Sys2Proof.Machine
open Sys2Proof.Safety

theorem State.rateMiss_frame {m : Nat} (hm : Within 13600554828 m) {s : State} {a1 : ℕ} :
    Fr m s (State.rateMiss s a1) := by
  delta State.rateMiss
  exact (Fr.ite ((Fr.trans ((Fr.trans ((Fr.trans ((Fr.trans (Fr.refl _ _) (State.modTray_frame (Within.of rfl hm))))
    (State.modTray_frame (Within.of rfl hm)))) (State.event_frame (Within.of rfl hm)))) (State.scoreTray_frame (Within.of rfl
    hm)))) ((Fr.trans (Fr.refl _ _) (State.modTray_frame (Within.of rfl hm)))))

theorem State.countMiss_frame {m : Nat} (hm : Within 25769804032 m) {s : State} {a1 : ℕ} {a2 : Pend} :
    Fr m s (State.countMiss s a1 a2) := by
  delta State.countMiss
  exact (Fr.trans ((Fr.set_mgmt_proofMisses (Within.of rfl hm) (Fr.refl _ _))) (State.modTray_frame (Within.of rfl hm)))

theorem State.request_frame {m : Nat} (hm : Within 1280 m) {s : State} {a1 : ℕ} {a2 : Pend} :
    Fr m s (State.request s a1 a2) := by
  delta State.request
  exact (Fr.trans ((Fr.ite ((Fr.trans ((Fr.trans (Fr.refl _ _) (State.modTray_frame (Within.of rfl hm)))) (State.modTray_frame
    (Within.of rfl hm)))) ((Fr.trans (Fr.refl _ _) (State.modTray_frame (Within.of rfl hm)))))) (State.chooseRefs_frame
    (Within.of rfl hm)))

theorem State.judge_frame {m : Nat} (hm : Within 30780424012 m) {s : State} {a1 : ℕ} {a2 : Pend} :
    Fr m s (State.judge s a1 a2) := by
  delta State.judge
  exact (Fr.ite ((Fr.trans ((Fr.ite ((Fr.trans ((Fr.trans (Fr.refl _ _) (State.modTray_frame (Within.of rfl hm))))
    (State.subReplayed_frame (Within.of rfl hm)))) (Fr.refl _ _))) (State.accumulate_frame (Within.of rfl hm)))) ((Fr.ite
    ((Fr.trans ((Fr.ite ((Fr.trans ((Fr.trans (Fr.refl _ _) (State.countMiss_frame (Within.of rfl hm)))) (State.rateMiss_frame
    (Within.of rfl hm)))) ((Fr.trans (Fr.refl _ _) (State.countMiss_frame (Within.of rfl hm)))))) (State.modTray_frame (Within.of
    rfl hm)))) ((Fr.ite ((Fr.trans ((Fr.ite ((Fr.trans ((Fr.trans (Fr.refl _ _) (State.countMiss_frame (Within.of rfl hm))))
    (State.rateMiss_frame (Within.of rfl hm)))) ((Fr.trans (Fr.refl _ _) (State.countMiss_frame (Within.of rfl hm))))))
    (State.expose_frame (Within.of rfl hm)))) ((Fr.trans ((Fr.trans ((Fr.ite ((Fr.trans ((Fr.trans (Fr.refl _ _)
    (State.countMiss_frame (Within.of rfl hm)))) (State.rateMiss_frame (Within.of rfl hm)))) ((Fr.trans (Fr.refl _ _)
    (State.countMiss_frame (Within.of rfl hm)))))) (State.modTray_frame (Within.of rfl hm)))) (State.request_frame (Within.of rfl
    hm)))))))))

theorem State.proofVerdict_frame {m : Nat} (hm : Within 30780424012 m) {s : State} {a1 : ℕ} :
    Fr m s (State.proofVerdict s a1) := by
  delta State.proofVerdict
  exact (by (try dsimp only); split; exacts [(Fr.trans (Fr.refl _ _) (State.judge_frame (Within.of rfl hm))), (Fr.refl _ _)])

theorem State.countVerdict_frame {m : Nat} (hm : Within 42949705984 m) {s : State} {a1 : ℕ} {a2 : Pend} :
    Fr m s (State.countVerdict s a1 a2) := by
  delta State.countVerdict
  exact (Fr.trans ((Fr.trans ((Fr.set_mgmt_proofRefereed (Within.of rfl hm) (Fr.refl _ _))) (State.modTray_frame (Within.of rfl
    hm)))) (State.subRefereed_frame (Within.of rfl hm)))

theorem State.analogueWrong_frame {m : Nat} (hm : Within 47960293196 m) {s : State} {a1 : ℕ} {a2 : Pend} {a3 : List ℤ} :
    Fr m s (State.analogueWrong s a1 a2 a3) := by
  delta State.analogueWrong
  exact (Fr.ite ((Fr.trans ((Fr.trans ((Fr.trans ((Fr.trans ((Fr.trans ((Fr.trans (Fr.refl _ _) (State.countVerdict_frame
    (Within.of rfl hm)))) (State.accumulate_frame (Within.of rfl hm)))) (State.modTray_frame (Within.of rfl hm))))
    (State.event_frame (Within.of rfl hm)))) (State.scoreTray_frame (Within.of rfl hm)))) (State.scoreTray_frame (Within.of rfl
    hm)))) ((Fr.trans ((Fr.trans ((Fr.trans ((Fr.trans ((Fr.trans (Fr.refl _ _) (State.countVerdict_frame (Within.of rfl hm))))
    (State.accumulate_frame (Within.of rfl hm)))) (State.modTray_frame (Within.of rfl hm)))) (State.event_frame (Within.of rfl
    hm)))) (State.scoreTray_frame (Within.of rfl hm)))))

theorem State.checkerFault_frame {m : Nat} (hm : Within 13600554828 m) {s : State} {a1 : ℕ} {a2 : Pend} :
    Fr m s (State.checkerFault s a1 a2) := by
  delta State.checkerFault
  exact (Fr.trans ((Fr.trans ((Fr.trans (Fr.refl _ _) (State.modTray_frame (Within.of rfl hm)))) (State.event_frame (Within.of
    rfl hm)))) (State.scoreTray_frame (Within.of rfl hm)))

theorem State.verdict_frame {m : Nat} (hm : Within 47960293196 m) {s : State} {a1 : ℕ} {a2 : Pend} :
    Fr m s (State.verdict s a1 a2) := by
  delta State.verdict
  exact (Fr.ite (Fr.refl _ _) ((Fr.ite ((Fr.trans (Fr.refl _ _) (State.analogueWrong_frame (Within.of rfl hm)))) ((Fr.ite
    ((Fr.trans ((Fr.trans ((Fr.trans (Fr.refl _ _) (State.countVerdict_frame (Within.of rfl hm)))) (State.accumulate_frame
    (Within.of rfl hm)))) (State.checkerFault_frame (Within.of rfl hm)))) ((Fr.trans ((Fr.trans (Fr.refl _ _)
    (State.modTray_frame (Within.of rfl hm)))) (State.chooseRefs_frame (Within.of rfl hm)))))))))

theorem State.verdictOn_frame {m : Nat} (hm : Within 47960293196 m) {s : State} {a1 : ℕ} {a2 : ℕ} :
    Fr m s (State.verdictOn s a1 a2) := by
  delta State.verdictOn
  exact (by (try dsimp only); split; exacts [(Fr.trans (Fr.refl _ _) (State.verdict_frame (Within.of rfl hm))), (Fr.refl _ _)])

theorem State.dueVerdicts_frame {m : Nat} (hm : Within 47960293196 m) {s : State} {a1 : ℕ} :
    Fr m s (State.dueVerdicts s a1) := by
  delta State.dueVerdicts
  exact (Fr.trans (Fr.refl _ _) (Fr.foldl (fun _ _ => (Fr.trans (Fr.refl _ _) (State.verdictOn_frame (Within.of rfl hm))))))

theorem execProofVerdict_frame {m : Nat} (hm : Within 65140162380 m) {a0 : UnitAddr} {s : State} :
    OutFr m s (execProofVerdict a0 s) := by
  delta execProofVerdict
  exact OutFr.next ((Fr.trans (Fr.refl _ _) (State.onTray_frame (Within.of rfl hm) (fun _ _ => (Fr.trans ((Fr.trans ((Fr.trans
    (Fr.refl _ _) (State.flushLate_frame (Within.of rfl hm)))) (State.dueVerdicts_frame (Within.of rfl hm))))
    (State.proofVerdict_frame (Within.of rfl hm)))))))

theorem State.refereeReport_frame {m : Nat} (hm : Within 47960293196 m) {s : State} {a1 : ℕ} {a2 : ℕ} {a3 : List ℤ} :
    Fr m s (State.refereeReport s a1 a2 a3) := by
  delta State.refereeReport
  exact (by (try dsimp only); split; exacts [(Fr.ite ((Fr.trans ((Fr.trans (Fr.refl _ _) (State.modTray_frame (Within.of rfl
    hm)))) (State.verdictOn_frame (Within.of rfl hm)))) (Fr.refl _ _)), (Fr.refl _ _)])

theorem execRefereeReport_frame {m : Nat} (hm : Within 47960293196 m) {a0 : UnitAddr} {a1 : ℕ} {a2 : List ℤ} {s : State} :
    OutFr m s (execRefereeReport a0 a1 a2 s) := by
  delta execRefereeReport
  exact OutFr.next ((Fr.trans (Fr.refl _ _) (State.onTray_frame (Within.of rfl hm) (fun _ _ => (Fr.trans (Fr.refl _ _)
    (State.refereeReport_frame (Within.of rfl hm)))))))

theorem State.vote_frame {m : Nat} (hm : Within 116679770060 m) {s : State} {a1 : ℕ} {a2 : Pend} {a3 : List ℤ} :
    Fr m s (State.vote s a1 a2 a3) := by
  delta State.vote
  exact (Fr.ite ((Fr.trans ((Fr.trans ((Fr.trans ((Fr.trans ((Fr.trans ((Fr.trans (Fr.refl _ _) (State.countVerdict_frame
    (Within.of rfl hm)))) (State.accumulate_frame (Within.of rfl hm)))) (State.checkerFault_frame (Within.of rfl hm))))
    (State.modTray_frame (Within.of rfl hm)))) (State.event_frame (Within.of rfl hm)))) (State.scoreTray_frame (Within.of rfl
    hm)))) ((Fr.ite ((Fr.trans ((Fr.trans ((Fr.trans (Fr.refl _ _) (State.dissent_frame (Within.of rfl hm)))) (State.event_frame
    (Within.of rfl hm)))) (State.analogueWrong_frame (Within.of rfl hm)))) ((Fr.trans ((Fr.trans ((Fr.trans ((Fr.trans ((Fr.trans
    ((Fr.set_proofNomaj (Within.of rfl hm) (Fr.refl _ _))) (State.countVerdict_frame (Within.of rfl hm))))
    (State.accumulate_frame (Within.of rfl hm)))) (State.dissent_frame (Within.of rfl hm)))) (State.dissent_frame (Within.of rfl
    hm)))) (State.event_frame (Within.of rfl hm)))))))

theorem State.secondReport_frame {m : Nat} (hm : Within 116679770060 m) {s : State} {a1 : ℕ} {a2 : ℕ} {a3 : List ℤ} :
    Fr m s (State.secondReport s a1 a2 a3) := by
  delta State.secondReport
  exact (by (try dsimp only); split; exacts [(Fr.ite ((Fr.trans (Fr.refl _ _) (State.vote_frame (Within.of rfl hm)))) (Fr.refl _
    _)), (Fr.refl _ _)])

theorem execSecondRefereeReport_frame {m : Nat} (hm : Within 116679770060 m) {a0 : UnitAddr} {a1 : ℕ} {a2 : List ℤ} {s : State} :
    OutFr m s (execSecondRefereeReport a0 a1 a2 s) := by
  delta execSecondRefereeReport
  exact OutFr.next ((Fr.trans (Fr.refl _ _) (State.onTray_frame (Within.of rfl hm) (fun _ _ => (Fr.trans (Fr.refl _ _)
    (State.secondReport_frame (Within.of rfl hm)))))))

theorem State.guest_frame {m : Nat} (hm : Within 13019119884 m) {s : State} {a1 : ℕ} :
    Fr m s (State.guest s a1) := by
  delta State.guest
  exact (by (try dsimp only); split; exacts [(by (try dsimp only); split; exacts [(Fr.trans (Fr.refl _ _) (State.modTray_frame
    (Within.of rfl hm))), (Fr.ite ((Fr.ite ((Fr.trans ((Fr.trans ((Fr.trans ((Fr.trans ((Fr.trans ((Fr.trans ((Fr.trans (Fr.refl
    _ _) (State.boundary_frame (Within.of rfl hm)))) (State.openRun_frame (Within.of rfl hm)))) (State.modTray_frame (Within.of
    rfl hm)))) (State.draw_frame (Within.of rfl hm)))) (State.boundary_frame (Within.of rfl hm)))) (State.modTray_frame
    (Within.of rfl hm)))) (State.reload_frame (Within.of rfl hm)))) ((Fr.trans ((Fr.trans ((Fr.trans ((Fr.trans ((Fr.trans
    ((Fr.trans (Fr.refl _ _) (State.boundary_frame (Within.of rfl hm)))) (State.openRun_frame (Within.of rfl hm))))
    (State.modTray_frame (Within.of rfl hm)))) (State.draw_frame (Within.of rfl hm)))) (State.boundary_frame (Within.of rfl
    hm)))) (State.modTray_frame (Within.of rfl hm)))))) (Fr.refl _ _))]), (Fr.refl _ _)])

theorem execGuestExposure_frame {m : Nat} (hm : Within 13019119884 m) {a0 : UnitAddr} {s : State} :
    OutFr m s (execGuestExposure a0 s) := by
  delta execGuestExposure
  exact OutFr.next ((Fr.trans (Fr.refl _ _) (State.onTray_frame (Within.of rfl hm) (fun _ _ => (Fr.trans (Fr.refl _ _)
    (State.guest_frame (Within.of rfl hm)))))))

theorem State.partnerOutcome_frame {m : Nat} (hm : Within 256 m) {s : State} {a1 : ℕ} {a2 : ℕ} {a3 : BitVec 4} {a4 : ℤ} :
    Fr m s (State.partnerOutcome s a1 a2 a3 a4) := by
  delta State.partnerOutcome
  exact (Fr.trans ((Fr.trans (Fr.refl _ _) (State.modTray_frame (Within.of rfl hm)))) (State.modTray_frame (Within.of rfl hm)))

theorem State.partnerReport_frame {m : Nat} (hm : Within 65140162380 m) {s : State} {a1 : ℕ} {a2 : ℕ} :
    Fr m s (State.partnerReport s a1 a2) := by
  delta State.partnerReport
  exact (by (try dsimp only); split; exacts [(Fr.ite ((Fr.trans ((Fr.trans ((Fr.ite ((Fr.trans ((Fr.trans
    ((Fr.set_mgmt_proofMisses (Within.of rfl hm) (Fr.refl _ _))) (State.modTray_frame (Within.of rfl hm)))) (State.rateMiss_frame
    (Within.of rfl hm)))) (Fr.refl _ _))) (State.partnerOutcome_frame (Within.of rfl hm)))) (State.verdictOn_frame (Within.of rfl
    hm)))) (Fr.refl _ _)), (Fr.refl _ _)])

theorem execPartnerReport_frame {m : Nat} (hm : Within 65140162380 m) {a0 : UnitAddr} {a1 : ℕ} {s : State} :
    OutFr m s (execPartnerReport a0 a1 s) := by
  delta execPartnerReport
  exact OutFr.next ((Fr.trans (Fr.refl _ _) (State.onTray_frame (Within.of rfl hm) (fun _ _ => (Fr.trans (Fr.refl _ _)
    (State.partnerReport_frame (Within.of rfl hm)))))))

theorem State.partnerTimeout_frame {m : Nat} (hm : Within 47960293196 m) {s : State} {a1 : ℕ} {a2 : ℕ} :
    Fr m s (State.partnerTimeout s a1 a2) := by
  delta State.partnerTimeout
  exact (by (try dsimp only); split; exacts [(Fr.ite ((Fr.trans ((Fr.trans (Fr.refl _ _) (State.partnerOutcome_frame (Within.of
    rfl hm)))) (State.verdictOn_frame (Within.of rfl hm)))) (Fr.refl _ _)), (Fr.refl _ _)])

theorem execPartnerTimeout_frame {m : Nat} (hm : Within 47960293196 m) {a0 : UnitAddr} {a1 : ℕ} {s : State} :
    OutFr m s (execPartnerTimeout a0 a1 s) := by
  delta execPartnerTimeout
  exact OutFr.next ((Fr.trans (Fr.refl _ _) (State.onTray_frame (Within.of rfl hm) (fun _ _ => (Fr.trans (Fr.refl _ _)
    (State.partnerTimeout_frame (Within.of rfl hm)))))))

theorem State.reproveTray_frame {m : Nat} (hm : Within 1280 m) {s : State} {a1 : ℕ} :
    Fr m s (State.reproveTray s a1) := by
  delta State.reproveTray
  exact (Fr.trans ((Fr.trans (Fr.refl _ _) (Fr.foldl (fun _ _ => (Fr.ite ((Fr.trans (Fr.refl _ _) (State.partnerOutcome_frame
    (Within.of rfl hm)))) (Fr.refl _ _)))))) (State.chooseRefs_frame (Within.of rfl hm)))

theorem State.reprove_frame {m : Nat} (hm : Within 1280 m) {s : State} :
    Fr m s (State.reprove s) := by
  delta State.reprove
  exact (Fr.trans (Fr.refl _ _) (Fr.foldl (fun _ _ => (Fr.trans (Fr.refl _ _) (State.reproveTray_frame (Within.of rfl hm))))))

theorem State.epochEnd_frame {m : Nat} (hm : Within 13600554828 m) {s : State} {a1 : ℕ} :
    Fr m s (State.epochEnd s a1) := by
  delta State.epochEnd
  exact (Fr.ite (Fr.refl _ _) ((by dsimp only; exact (Fr.ite ((Fr.trans ((Fr.trans ((Fr.trans ((Fr.trans (Fr.refl _ _)
    (State.modTray_frame (Within.of rfl hm)))) (State.event_frame (Within.of rfl hm)))) (State.scoreTray_frame (Within.of rfl
    hm)))) (State.askStrip_frame (Within.of rfl hm)))) ((Fr.trans (Fr.refl _ _) (State.modTray_frame (Within.of rfl hm))))))))

theorem execEpochEnd_frame {m : Nat} (hm : Within 13600554828 m) {a0 : UnitAddr} {s : State} :
    OutFr m s (execEpochEnd a0 s) := by
  delta execEpochEnd
  exact OutFr.next ((Fr.trans (Fr.refl _ _) (State.onTray_frame (Within.of rfl hm) (fun _ _ => (Fr.trans (Fr.refl _ _)
    (State.epochEnd_frame (Within.of rfl hm)))))))

theorem State.rateEnd_frame {m : Nat} (hm : Within 256 m) {s : State} {a1 : ℕ} :
    Fr m s (State.rateEnd s a1) := by
  delta State.rateEnd
  exact (Fr.ite (Fr.refl _ _) ((Fr.trans (Fr.refl _ _) (State.modTray_frame (Within.of rfl hm)))))

theorem execRateIntervalEnd_frame {m : Nat} (hm : Within 256 m) {a0 : UnitAddr} {s : State} :
    OutFr m s (execRateIntervalEnd a0 s) := by
  delta execRateIntervalEnd
  exact OutFr.next ((Fr.trans (Fr.refl _ _) (State.onTray_frame (Within.of rfl hm) (fun _ _ => (Fr.trans (Fr.refl _ _)
    (State.rateEnd_frame (Within.of rfl hm)))))))

theorem State.scoreDecay_frame {m : Nat} (hm : Within 13600554956 m) {s : State} {a1 : UnitAddr} {a2 : BitVec 16} :
    Fr m s (State.scoreDecay s a1 a2) := by
  delta State.scoreDecay
  exact (by (try dsimp only); split; exacts [(Fr.trans ((Fr.trans (Fr.refl _ _) (State.modTray_frame (Within.of rfl hm))))
    (State.trayLadder_frame (Within.of rfl hm))), (Fr.trans ((Fr.trans ((Fr.trans (Fr.refl _ _) (State.modCluster_frame
    (Within.of rfl hm)))) (State.clusterLadder_frame (Within.of rfl hm)))) (State.reprove_frame (Within.of rfl hm))),
    (Fr.refl _ _)])

theorem execScoreDecay_frame {m : Nat} (hm : Within 13600554956 m) {a0 : UnitAddr} {a1 : BitVec 16} {s : State} :
    OutFr m s (execScoreDecay a0 a1 s) := by
  delta execScoreDecay
  exact OutFr.next ((Fr.trans (Fr.refl _ _) (State.scoreDecay_frame (Within.of rfl hm))))

theorem State.restoreDone_frame {m : Nat} (hm : Within 13019119884 m) {s : State} {a1 : ℕ} {a2 : List (BitVec 16)} :
    Fr m s (State.restoreDone s a1 a2) := by
  delta State.restoreDone
  exact (Fr.ite ((Fr.ite ((Fr.trans (Fr.refl _ _) (State.modTray_frame (Within.of rfl hm)
    (by intro t h; refine ⟨?_, h.2⟩; refine Memory.wf_foldl ?_ h.1; intro m x hm; exact Memory.wf_writeL hm)))) ((Fr.trans
    ((Fr.trans ((Fr.trans (Fr.refl _ _) (State.modTray_frame (Within.of rfl hm)
    (by intro t h; refine ⟨?_, h.2⟩; refine Memory.wf_foldl ?_ h.1; intro m x hm; exact Memory.wf_writeL hm)))) (State.draw_frame
    (Within.of rfl hm)))) (State.event_frame (Within.of rfl hm)))))) (Fr.refl _ _))

theorem execSpareRestoreDone_frame {m : Nat} (hm : Within 13019119884 m) {a0 : UnitAddr} {a1 : List (BitVec 16)} {s : State} :
    OutFr m s (execSpareRestoreDone a0 a1 s) := by
  delta execSpareRestoreDone
  exact OutFr.next ((Fr.trans (Fr.refl _ _) (State.onTray_frame (Within.of rfl hm) (fun _ _ => (Fr.trans (Fr.refl _ _)
    (State.restoreDone_frame (Within.of rfl hm)))))))

theorem State.newSeeds_frame {m : Nat} (hm : Within 260 m) {s : State} :
    Fr m s (State.newSeeds s) := by
  delta State.newSeeds
  exact (Fr.trans (Fr.refl _ _) (Fr.foldl (fun _ _ => (Fr.trans ((Fr.trans (Fr.refl _ _) (State.modTray_frame (Within.of rfl
    hm)))) (State.draw_frame (Within.of rfl hm))))))

theorem State.reseed_frame {m : Nat} (hm : Within 137975824644 m) {s : State} {a1 : Path} :
    Fr m s (State.reseed s a1) := by
  delta State.reseed
  exact (Fr.ite ((Fr.trans ((Fr.trans ((Fr.set_seedsOwed (Within.of rfl hm) (Fr.refl _ _))) (State.sendTable_frame (Within.of rfl
    hm)))) (State.newSeeds_frame (Within.of rfl hm)))) (Fr.refl _ _))

theorem execReseed_frame {m : Nat} (hm : Within 137975824644 m) {a0 : Path} {s : State} :
    OutFr m s (execReseed a0 s) := by
  delta execReseed
  exact OutFr.next ((Fr.trans (Fr.refl _ _) (State.reseed_frame (Within.of rfl hm))))

theorem State.relearn_frame {m : Nat} (hm : Within 256 m) {s : State} {a1 : Path} :
    Fr m s (State.relearn s a1) := by
  delta State.relearn
  exact (Fr.ite ((Fr.trans (Fr.refl _ _) (Fr.foldl (fun _ _ => (Fr.trans (Fr.refl _ _) (State.modTray_frame (Within.of rfl
    hm))))))) (Fr.refl _ _))

theorem execRelearn_frame {m : Nat} (hm : Within 256 m) {a0 : Path} {s : State} :
    OutFr m s (execRelearn a0 s) := by
  delta execRelearn
  exact OutFr.next ((Fr.trans (Fr.refl _ _) (State.relearn_frame (Within.of rfl hm))))

end Sys2Proof.Machine
end

