-- ==== Sys2Proof/Laws/FrameUnits.lean ====
section
/-! SUPPORT. The frame of every operation of Machine/Units: the parts of the state that it can change. -/

set_option Elab.async false
set_option linter.unusedTactic false

namespace Sys2Proof.Machine
open Sys2Proof.Safety

theorem State.holdAcc_frame {m : Nat} (hm : Within 32 m) {s : State} {a1 : Path} {a2 : Instr} :
    Fr m s (State.holdAcc s a1 a2) := by
  delta State.holdAcc
  exact (Fr.trans (Fr.refl _ _) (State.setPath_frame (Within.of rfl hm)))

theorem State.behind_frame {m : Nat} (hm : Within 32 m) {s : State} {a1 : Path} {a2 : Instr} {a3 : State → State} (h3 : ∀ v0, Fr
  m v0 (a3 v0)) :
    Fr m s (State.behind s a1 a2 a3) := by
  delta State.behind
  exact (Fr.ite ((Fr.trans (Fr.refl _ _) (State.holdAcc_frame (Within.of rfl hm)))) ((Fr.trans (Fr.refl _ _) (h3 _))))

theorem State.windowed_frame {m : Nat} (hm : Within 32 m) {s : State} {a1 : Path} {a2 : Instr} {a3 : State → State} (h3 : ∀ v0,
  Fr m v0 (a3 v0)) :
    Fr m s (State.windowed s a1 a2 a3) := by
  delta State.windowed
  exact (Fr.ite ((Fr.trans (Fr.refl _ _) (State.behind_frame (Within.of rfl hm) (fun _ => (Fr.trans (Fr.refl _ _) (h3 _))))))
    (Fr.refl _ _))

theorem State.setCode_frame {m : Nat} (hm : Within 32 m) {s : State} {a1 : Path} {a2 : BitVec 4} :
    Fr m s (State.setCode s a1 a2) := by
  delta State.setCode
  exact (Fr.trans (Fr.refl _ _) (State.setPath_frame (Within.of rfl hm)))

theorem State.selWrite_frame {m : Nat} (hm : Within 32 m) {s : State} {a1 : Path} {a2 : Word} :
    Fr m s (State.selWrite s a1 a2) := by
  delta State.selWrite
  exact (Fr.trans (Fr.refl _ _) (State.setPath_frame (Within.of rfl hm)))

theorem State.selModeWrite_frame {m : Nat} (hm : Within 32 m) {s : State} {a1 : Path} {a2 : Word} :
    Fr m s (State.selModeWrite s a1 a2) := by
  delta State.selModeWrite
  exact (Fr.trans (Fr.refl _ _) (State.setPath_frame (Within.of rfl hm)))

theorem execUnitSelWrite_frame {m : Nat} (hm : Within 32 m) {a0 : Path} {a1 : Word} {s : State} :
    OutFr m s (execUnitSelWrite a0 a1 s) := by
  delta execUnitSelWrite
  exact OutFr.next ((Fr.trans (Fr.refl _ _) (State.windowed_frame (Within.of rfl hm) (fun _ => (Fr.trans (Fr.refl _ _)
    (State.selWrite_frame (Within.of rfl hm)))))))

theorem execUnitSelModeWrite_frame {m : Nat} (hm : Within 32 m) {a0 : Path} {a1 : Word} {s : State} :
    OutFr m s (execUnitSelModeWrite a0 a1 s) := by
  delta execUnitSelModeWrite
  exact OutFr.next ((Fr.trans (Fr.refl _ _) (State.windowed_frame (Within.of rfl hm) (fun _ => (Fr.trans (Fr.refl _ _)
    (State.selModeWrite_frame (Within.of rfl hm)))))))

theorem State.wideWrite_frame {m : Nat} (hm : Within 32 m) {s : State} {a1 : Path} {a2 : State → URef → State} {a3 : State → Pid
  → State} (h2 : ∀ v0 v1, Fr m v0 (a2 v0 v1)) (h3 : ∀ v0 v1, Fr m v0 (a3 v0 v1)) :
    Fr m s (State.wideWrite s a1 a2 a3) := by
  delta State.wideWrite
  exact (by (try dsimp only); split; exacts [(Fr.refl _ _), (Fr.trans ((Fr.trans (Fr.refl _ _) (h3 _ _))) (State.setCode_frame
    (Within.of rfl hm))), (Fr.trans ((Fr.trans (Fr.refl _ _) (h2 _ _))) (State.setCode_frame (Within.of rfl hm))), (Fr.trans
    ((Fr.trans (Fr.refl _ _) (Fr.foldl (fun _ _ => (Fr.trans (Fr.refl _ _) (h2 _ _)))))) (State.setPath_frame (Within.of rfl
    hm)))])

theorem State.narrowWrite_frame {m : Nat} (hm : Within 32 m) {s : State} {a1 : Path} {a2 : State → URef → State} {a3 : State →
  Pid → State} (h2 : ∀ v0 v1, Fr m v0 (a2 v0 v1)) (h3 : ∀ v0 v1, Fr m v0 (a3 v0 v1)) :
    Fr m s (State.narrowWrite s a1 a2 a3) := by
  delta State.narrowWrite
  exact (by (try dsimp only); split; exacts [(Fr.refl _ _), (Fr.trans ((Fr.trans (Fr.refl _ _) (h3 _ _))) (State.setCode_frame
    (Within.of rfl hm))), (Fr.trans ((Fr.trans (Fr.refl _ _) (h2 _ _))) (State.setCode_frame (Within.of rfl hm))), (Fr.trans
    (Fr.refl _ _) (State.setCode_frame (Within.of rfl hm)))])

theorem State.freeThreads_frame {m : Nat} (hm : Within 1024 m) {s : State} {a1 : ℕ} :
    Fr m s (State.freeThreads s a1) := by
  delta State.freeThreads
  exact (Fr.ite (Fr.refl _ _) ((Fr.trans (Fr.refl _ _) (State.modCore_frame (Within.of rfl hm)))))

theorem State.settleClusters_frame {m : Nat} (hm : Within 1536 m) {s : State} {a1 : List ℕ} :
    Fr m s (State.settleClusters s a1) := by
  delta State.settleClusters
  exact (Fr.trans ((Fr.trans (Fr.refl _ _) (Fr.foldl (fun _ _ => (Fr.trans (Fr.refl _ _) (State.modCluster_frame (Within.of rfl
    hm))))))) (Fr.foldl (fun _ _ => (Fr.trans ((Fr.trans (Fr.refl _ _) (State.modCore_frame (Within.of rfl hm))))
    (State.freeThreads_frame (Within.of rfl hm))))))

theorem State.ctlTray_frame {m : Nat} (hm : Within 44482316 m) {s : State} {a1 : UnitCtl → UnitCtl} {a2 : ℕ} :
    Fr m s (State.ctlTray s a1 a2) := by
  delta State.ctlTray
  exact (Fr.trans ((Fr.ite ((Fr.trans ((Fr.trans ((Fr.ite ((Fr.trans ((Fr.ite ((Fr.trans ((Fr.trans ((Fr.trans (Fr.refl _ _)
    (State.modTray_frame (Within.of rfl hm)))) (State.unheld_frame (Within.of rfl hm) (fun _ => (Fr.trans (Fr.refl _ _)
    (State.modTray_frame (Within.of rfl hm))))))) (State.acquire_frame (Within.of rfl hm)))) ((Fr.trans ((Fr.trans (Fr.refl _ _)
    (State.modTray_frame (Within.of rfl hm)))) (State.unheld_frame (Within.of rfl hm) (fun _ => (Fr.trans (Fr.refl _ _)
    (State.modTray_frame (Within.of rfl hm))))))))) (State.dropStrip_frame (Within.of rfl hm)))) ((Fr.ite ((Fr.trans ((Fr.trans
    ((Fr.trans (Fr.refl _ _) (State.modTray_frame (Within.of rfl hm)))) (State.unheld_frame (Within.of rfl hm) (fun _ =>
    (Fr.trans (Fr.refl _ _) (State.modTray_frame (Within.of rfl hm))))))) (State.acquire_frame (Within.of rfl hm)))) ((Fr.trans
    ((Fr.trans (Fr.refl _ _) (State.modTray_frame (Within.of rfl hm)))) (State.unheld_frame (Within.of rfl hm) (fun _ =>
    (Fr.trans (Fr.refl _ _) (State.modTray_frame (Within.of rfl hm))))))))))) (State.refuseStarts_frame (Within.of rfl hm))))
    (State.fenceWaits_frame (Within.of rfl hm)))) ((Fr.ite ((Fr.trans ((Fr.ite ((Fr.trans ((Fr.trans ((Fr.trans (Fr.refl _ _)
    (State.modTray_frame (Within.of rfl hm)))) (State.unheld_frame (Within.of rfl hm) (fun _ => (Fr.trans (Fr.refl _ _)
    (State.modTray_frame (Within.of rfl hm))))))) (State.acquire_frame (Within.of rfl hm)))) ((Fr.trans ((Fr.trans (Fr.refl _ _)
    (State.modTray_frame (Within.of rfl hm)))) (State.unheld_frame (Within.of rfl hm) (fun _ => (Fr.trans (Fr.refl _ _)
    (State.modTray_frame (Within.of rfl hm))))))))) (State.dropStrip_frame (Within.of rfl hm)))) ((Fr.ite ((Fr.trans ((Fr.trans
    ((Fr.trans (Fr.refl _ _) (State.modTray_frame (Within.of rfl hm)))) (State.unheld_frame (Within.of rfl hm) (fun _ =>
    (Fr.trans (Fr.refl _ _) (State.modTray_frame (Within.of rfl hm))))))) (State.acquire_frame (Within.of rfl hm)))) ((Fr.trans
    ((Fr.trans (Fr.refl _ _) (State.modTray_frame (Within.of rfl hm)))) (State.unheld_frame (Within.of rfl hm) (fun _ =>
    (Fr.trans (Fr.refl _ _) (State.modTray_frame (Within.of rfl hm))))))))))))) (State.settleClusters_frame (Within.of rfl hm)))

theorem State.ctlCluster_frame {m : Nat} (hm : Within 44482060 m) {s : State} {a1 : UnitCtl → UnitCtl} {a2 : ℕ} :
    Fr m s (State.ctlCluster s a1 a2) := by
  delta State.ctlCluster
  exact (Fr.trans ((Fr.ite ((Fr.trans ((Fr.trans ((Fr.trans (Fr.refl _ _) (State.modCluster_frame (Within.of rfl hm))))
    (State.refuseStarts_frame (Within.of rfl hm)))) (State.fenceWaits_frame (Within.of rfl hm)))) ((Fr.trans (Fr.refl _ _)
    (State.modCluster_frame (Within.of rfl hm)))))) (State.settleClusters_frame (Within.of rfl hm)))

theorem State.ctlCore_frame {m : Nat} (hm : Within 44482060 m) {s : State} {a1 : UnitCtl → UnitCtl} {a2 : ℕ} :
    Fr m s (State.ctlCore s a1 a2) := by
  delta State.ctlCore
  exact (Fr.trans ((Fr.trans ((Fr.ite ((Fr.trans ((Fr.trans ((Fr.trans (Fr.refl _ _) (State.modCore_frame (Within.of rfl hm))))
    (State.refuseStarts_frame (Within.of rfl hm)))) (State.fenceWaits_frame (Within.of rfl hm)))) ((Fr.trans (Fr.refl _ _)
    (State.modCore_frame (Within.of rfl hm)))))) (State.modCore_frame (Within.of rfl hm)))) (State.freeThreads_frame (Within.of
    rfl hm)))

theorem State.ctlUnit_frame {m : Nat} (hm : Within 44482316 m) {a0 : UnitCtl → UnitCtl} {s : State} {a2 : URef} :
    Fr m s (State.ctlUnit a0 s a2) := by
  delta State.ctlUnit
  exact (by (try dsimp only); split; exacts [(Fr.trans (Fr.refl _ _) (State.ctlCluster_frame (Within.of rfl hm))), (Fr.trans
    (Fr.refl _ _) (State.ctlCore_frame (Within.of rfl hm))), (Fr.trans (Fr.refl _ _) (Fr.foldl (fun _ _ => (Fr.trans (Fr.refl _
    _) (State.ctlTray_frame (Within.of rfl hm))))))])

theorem State.ctlPid_frame {m : Nat} (hm : Within 44482316 m) {a0 : UnitCtl → UnitCtl} {s : State} {a2 : Pid} :
    Fr m s (State.ctlPid a0 s a2) := by
  delta State.ctlPid
  exact (Fr.trans (Fr.refl _ _) (Fr.foldl (fun _ _ => (Fr.trans (Fr.refl _ _) (State.ctlTray_frame (Within.of rfl hm))))))

theorem State.ctlWrite_frame {m : Nat} (hm : Within 44482348 m) {s : State} {a1 : Path} {a2 : UnitCtl → UnitCtl} :
    Fr m s (State.ctlWrite s a1 a2) := by
  delta State.ctlWrite
  exact (Fr.trans ((Fr.trans (Fr.refl _ _) (State.wideWrite_frame (Within.of rfl hm) (fun _ _ => (Fr.trans (Fr.refl _ _)
    (State.ctlUnit_frame (Within.of rfl hm)))) (fun _ _ => (Fr.trans (Fr.refl _ _) (State.ctlPid_frame (Within.of rfl hm)))))))
    (State.reprove_frame (Within.of rfl hm)))

theorem State.holdBit_frame {m : Nat} (hm : Within 44482348 m) {s : State} {a1 : Path} {a2 : Bool} :
    Fr m s (State.holdBit s a1 a2) := by
  delta State.holdBit
  exact (Fr.trans (Fr.refl _ _) (State.ctlWrite_frame (Within.of rfl hm)))

theorem State.fenceBit_frame {m : Nat} (hm : Within 44482348 m) {s : State} {a1 : Path} {a2 : Bool} :
    Fr m s (State.fenceBit s a1 a2) := by
  delta State.fenceBit
  exact (Fr.trans (Fr.refl _ _) (State.ctlWrite_frame (Within.of rfl hm)))

theorem State.drainBit_frame {m : Nat} (hm : Within 44482348 m) {s : State} {a1 : Path} {a2 : Bool} :
    Fr m s (State.drainBit s a1 a2) := by
  delta State.drainBit
  exact (Fr.trans (Fr.refl _ _) (State.ctlWrite_frame (Within.of rfl hm)))

theorem State.enableBit_frame {m : Nat} (hm : Within 44482348 m) {s : State} {a1 : Path} {a2 : Bool} :
    Fr m s (State.enableBit s a1 a2) := by
  delta State.enableBit
  exact (Fr.trans (Fr.refl _ _) (State.ctlWrite_frame (Within.of rfl hm)))

theorem execUcbHold_frame {m : Nat} (hm : Within 44482348 m) {a0 : Path} {a1 : Bool} {s : State} :
    OutFr m s (execUcbHold a0 a1 s) := by
  delta execUcbHold
  exact OutFr.next ((Fr.trans (Fr.refl _ _) (State.windowed_frame (Within.of rfl hm) (fun _ => (Fr.trans (Fr.refl _ _)
    (State.holdBit_frame (Within.of rfl hm)))))))

theorem execUcbFence_frame {m : Nat} (hm : Within 44482348 m) {a0 : Path} {a1 : Bool} {s : State} :
    OutFr m s (execUcbFence a0 a1 s) := by
  delta execUcbFence
  exact OutFr.next ((Fr.trans (Fr.refl _ _) (State.windowed_frame (Within.of rfl hm) (fun _ => (Fr.trans (Fr.refl _ _)
    (State.fenceBit_frame (Within.of rfl hm)))))))

theorem execUcbDrain_frame {m : Nat} (hm : Within 44482348 m) {a0 : Path} {a1 : Bool} {s : State} :
    OutFr m s (execUcbDrain a0 a1 s) := by
  delta execUcbDrain
  exact OutFr.next ((Fr.trans (Fr.refl _ _) (State.windowed_frame (Within.of rfl hm) (fun _ => (Fr.trans (Fr.refl _ _)
    (State.drainBit_frame (Within.of rfl hm)))))))

theorem execUcbEnable_frame {m : Nat} (hm : Within 44482348 m) {a0 : Path} {a1 : Bool} {s : State} :
    OutFr m s (execUcbEnable a0 a1 s) := by
  delta execUcbEnable
  exact OutFr.next ((Fr.trans (Fr.refl _ _) (State.windowed_frame (Within.of rfl hm) (fun _ => (Fr.trans (Fr.refl _ _)
    (State.enableBit_frame (Within.of rfl hm)))))))

theorem State.resetUnit_frame {m : Nat} (hm : Within 274877906940 m) {s : State} {a1 : URef} :
    Fr m s (State.resetUnit s a1) := by
  delta State.resetUnit
  exact (Fr.ite (Fr.refl _ _) ((by (try dsimp only); split; exacts [(Fr.trans (Fr.refl _ _) (State.moduleReset_frame (Within.of
    rfl hm))), (Fr.trans (Fr.refl _ _) (State.startReset_frame (Within.of rfl hm)))])))

theorem State.resetPid_frame {m : Nat} (hm : Within 13600554764 m) {s : State} {a1 : Pid} :
    Fr m s (State.resetPid s a1) := by
  delta State.resetPid
  exact (Fr.ite (Fr.refl _ _) ((Fr.trans ((Fr.trans (Fr.refl _ _) (Fr.foldl (fun _ _ => (Fr.trans (Fr.refl _ _)
    (State.setCtx_frame (Within.of rfl hm))))))) (State.startReset_frame (Within.of rfl hm)))))

theorem State.resetWrite_frame {m : Nat} (hm : Within 274877906940 m) {s : State} {a1 : Path} :
    Fr m s (State.resetWrite s a1) := by
  delta State.resetWrite
  exact (Fr.trans ((Fr.trans (Fr.refl _ _) (State.wideWrite_frame (Within.of rfl hm) (fun _ _ => (Fr.trans (Fr.refl _ _)
    (State.resetUnit_frame (Within.of rfl hm)))) (fun _ _ => (Fr.trans (Fr.refl _ _) (State.resetPid_frame (Within.of rfl
    hm))))))) (State.reprove_frame (Within.of rfl hm)))

theorem execUcbReset_frame {m : Nat} (hm : Within 274877906940 m) {a0 : Path} {s : State} :
    OutFr m s (execUcbReset a0 s) := by
  delta execUcbReset
  exact OutFr.next ((Fr.trans (Fr.refl _ _) (State.windowed_frame (Within.of rfl hm) (fun _ => (Fr.trans (Fr.refl _ _)
    (State.resetWrite_frame (Within.of rfl hm)))))))

theorem State.freeCtx_frame {m : Nat} (hm : Within 2097152 m) {s : State} {a1 : CtxNo} :
    Fr m s (State.freeCtx s a1) := by
  delta State.freeCtx
  exact (Fr.ite ((Fr.trans (Fr.refl _ _) (State.setCtx_frame (Within.of rfl hm)))) (Fr.refl _ _))

theorem State.stopDone_frame {m : Nat} (hm : Within 13600554764 m) {s : State} {a1 : ResetTarget} :
    Fr m s (State.stopDone s a1) := by
  delta State.stopDone
  exact (by (try dsimp only); split; exacts [(Fr.refl _ _), (Fr.ite (Fr.refl _ _) ((Fr.trans ((Fr.set_mod (Within.of rfl hm)
    ((Fr.trans ((Fr.trans ((Fr.trans (Fr.refl _ _) (Fr.foldl (fun _ _ => (Fr.trans ((Fr.trans (Fr.refl _ _)
    (State.absorbCtx_frame (Within.of rfl hm)))) (State.freeCtx_frame (Within.of rfl hm))))))) (Fr.foldl (fun _ _ => (Fr.trans
    (Fr.refl _ _) (State.adopt_frame (Within.of rfl hm))))))) (State.clearUnits_frame (Within.of rfl hm))))))
    (State.reprove_frame (Within.of rfl hm)))))])

theorem execResetStopDone_frame {m : Nat} (hm : Within 13600554764 m) {a0 : ResetTarget} {s : State} :
    OutFr m s (execResetStopDone a0 s) := by
  delta execResetStopDone
  exact OutFr.next ((Fr.trans (Fr.refl _ _) (State.stopDone_frame (Within.of rfl hm))))

theorem State.endpointTimeout_frame {m : Nat} (hm : Within 13600554764 m) {s : State} {a1 : Pid} :
    Fr m s (State.endpointTimeout s a1) := by
  delta State.endpointTimeout
  exact (by (try dsimp only); split; exacts [(Fr.refl _ _), (Fr.trans ((Fr.trans ((Fr.set_fab (Within.of rfl hm) (Fr.refl _ _)))
    (State.event_frame (Within.of rfl hm)))) (State.stopDone_frame (Within.of rfl hm)))])

theorem execEndpointDrainTimeout_frame {m : Nat} (hm : Within 13600554764 m) {a0 : Pid} {s : State} :
    OutFr m s (execEndpointDrainTimeout a0 s) := by
  delta execEndpointDrainTimeout
  exact OutFr.next ((Fr.trans (Fr.refl _ _) (State.endpointTimeout_frame (Within.of rfl hm))))

theorem State.trayStarted_frame {m : Nat} (hm : Within 256 m) {s : State} {a1 : ℕ} :
    Fr m s (State.trayStarted s a1) := by
  delta State.trayStarted
  exact (Fr.trans ((Fr.trans (Fr.refl _ _) (State.modTray_frame (Within.of rfl hm)))) (State.askStrip_frame (Within.of rfl hm)))

theorem State.clusterStarted_frame {m : Nat} (hm : Within 1536 m) {s : State} {a1 : ℕ} :
    Fr m s (State.clusterStarted s a1) := by
  delta State.clusterStarted
  exact (Fr.trans ((Fr.trans (Fr.refl _ _) (State.modCluster_frame (Within.of rfl hm)))) (Fr.foldl (fun _ _ => (Fr.trans (Fr.refl
    _ _) (State.modCore_frame (Within.of rfl hm))))))

theorem State.trayUnfit_frame {m : Nat} (hm : Within 13600472908 m) {s : State} {a1 : ℕ} :
    Fr m s (State.trayUnfit s a1) := by
  delta State.trayUnfit
  exact (by (try dsimp only); split; exacts [(Fr.ite ((Fr.trans ((Fr.trans ((Fr.trans ((Fr.trans (Fr.refl _ _)
    (State.bindTray_frame (Within.of rfl hm)))) (State.modTray_frame (Within.of rfl hm)))) (State.startClusters_frame (Within.of
    rfl hm)))) (State.event_frame (Within.of rfl hm)))) ((Fr.trans ((Fr.trans (Fr.refl _ _) (State.fenceWork_frame (Within.of rfl
    hm)))) (State.failTray_frame (Within.of rfl hm))))), (Fr.trans ((Fr.trans (Fr.refl _ _) (State.fenceWork_frame (Within.of rfl
    hm)))) (State.failTray_frame (Within.of rfl hm)))])

theorem State.clusterUnfit_frame {m : Nat} (hm : Within 13600472716 m) {s : State} {a1 : ℕ} :
    Fr m s (State.clusterUnfit s a1) := by
  delta State.clusterUnfit
  exact (by (try dsimp only); split; exacts [(Fr.ite ((Fr.trans ((Fr.trans ((Fr.trans (Fr.refl _ _) (State.bindCluster_frame
    (Within.of rfl hm)))) (State.modCluster_frame (Within.of rfl hm)))) (State.event_frame (Within.of rfl hm)))) ((Fr.trans
    (Fr.refl _ _) (State.failCluster_frame (Within.of rfl hm))))), (Fr.trans (Fr.refl _ _) (State.failCluster_frame (Within.of
    rfl hm)))])

theorem State.selfTestDone_frame {m : Nat} (hm : Within 13600473036 m) {s : State} {a1 : UnitAddr} {a2 : Bool} {a3 : Bool} {a4 :
  Bool} :
    Fr m s (State.selfTestDone s a1 a2 a3 a4) := by
  delta State.selfTestDone
  exact (by (try dsimp only); split; exacts [(Fr.ite ((Fr.ite ((Fr.trans ((Fr.ite ((Fr.trans (Fr.refl _ _)
    (State.trayStarted_frame (Within.of rfl hm)))) (Fr.refl _ _))) (State.endResets_frame (Within.of rfl hm)))) ((Fr.trans
    ((Fr.trans (Fr.refl _ _) (State.trayUnfit_frame (Within.of rfl hm)))) (State.endResets_frame (Within.of rfl hm)))))) (Fr.refl
    _ _)), (Fr.ite ((Fr.trans ((Fr.ite ((Fr.trans (Fr.refl _ _) (State.clusterStarted_frame (Within.of rfl hm)))) ((Fr.trans
    (Fr.refl _ _) (State.clusterUnfit_frame (Within.of rfl hm)))))) (State.endResets_frame (Within.of rfl hm)))) (Fr.refl _ _)),
    (Fr.ite ((Fr.trans ((Fr.ite ((Fr.trans (Fr.refl _ _) (State.modCore_frame (Within.of rfl hm)))) ((Fr.trans (Fr.refl _ _)
    (State.failCore_frame (Within.of rfl hm)))))) (State.endResets_frame (Within.of rfl hm)))) (Fr.refl _ _)), (Fr.refl _ _)])

theorem execSelfTestDone_frame {m : Nat} (hm : Within 13600473036 m) {a0 : UnitAddr} {a1 : Bool} {a2 : Bool} {a3 : Bool} {s :
  State} :
    OutFr m s (execSelfTestDone a0 a1 a2 a3 s) := by
  delta execSelfTestDone
  exact OutFr.next ((Fr.trans ((Fr.trans (Fr.refl _ _) (State.selfTestDone_frame (Within.of rfl hm)))) (State.reprove_frame
    (Within.of rfl hm))))

theorem State.drainDone_frame {m : Nat} (hm : Within 13019121416 m) {s : State} {a1 : UnitAddr} :
    Fr m s (State.drainDone s a1) := by
  delta State.drainDone
  exact (by (try dsimp only); split; exacts [(Fr.ite ((Fr.trans ((Fr.trans (Fr.refl _ _) (State.boundary_frame (Within.of rfl
    hm)))) (State.modTray_frame (Within.of rfl hm)))) (Fr.refl _ _)), (Fr.ite ((Fr.trans ((Fr.trans (Fr.refl _ _)
    (State.modCluster_frame (Within.of rfl hm)))) (Fr.foldl (fun _ _ => (Fr.trans (Fr.refl _ _) (State.modCore_frame (Within.of
    rfl hm))))))) (Fr.refl _ _)), (Fr.ite ((Fr.trans (Fr.refl _ _) (State.modCore_frame (Within.of rfl hm)))) (Fr.refl _ _)),
    (Fr.refl _ _)])

theorem execDrainComplete_frame {m : Nat} (hm : Within 13019121416 m) {a0 : UnitAddr} {s : State} :
    OutFr m s (execDrainComplete a0 s) := by
  delta execDrainComplete
  exact OutFr.next ((Fr.trans ((Fr.trans (Fr.refl _ _) (State.drainDone_frame (Within.of rfl hm)))) (State.reprove_frame
    (Within.of rfl hm))))

theorem State.resetBound_frame {m : Nat} (hm : Within 274877906940 m) {s : State} {a1 : URef} :
    Fr m s (State.resetBound s a1) := by
  delta State.resetBound
  exact (Fr.ite ((Fr.trans (Fr.refl _ _) (State.resetUnit_frame (Within.of rfl hm)))) (Fr.refl _ _))

theorem State.mapWrite_frame {m : Nat} (hm : Within 274877906940 m) {a0 : BitVec 6} {a1 : Bool} {s : State} {a3 : URef} :
    Fr m s (State.mapWrite a0 a1 s a3) := by
  delta State.mapWrite
  exact (by (try dsimp only); split; exacts [(by (try dsimp only); split; exacts [(Fr.ite ((Fr.trans ((Fr.trans (Fr.refl _ _)
    (State.bindTray_frame (Within.of rfl hm)))) (State.resetBound_frame (Within.of rfl hm)))) ((Fr.trans (Fr.refl _ _)
    (State.event_frame (Within.of rfl hm))))), (Fr.trans (Fr.refl _ _) (State.event_frame (Within.of rfl hm)))]),
    (by (try dsimp only); split; exacts [(Fr.ite ((Fr.trans ((Fr.trans (Fr.refl _ _) (State.bindCluster_frame (Within.of rfl
    hm)))) (State.resetBound_frame (Within.of rfl hm)))) ((Fr.trans (Fr.refl _ _) (State.event_frame (Within.of rfl hm))))),
    (Fr.trans (Fr.refl _ _) (State.event_frame (Within.of rfl hm)))]), (Fr.refl _ _)])

theorem State.mapField_frame {m : Nat} (hm : Within 274877906940 m) {s : State} {a1 : Path} {a2 : BitVec 6} :
    Fr m s (State.mapField s a1 a2) := by
  delta State.mapField
  exact (Fr.trans (Fr.refl _ _) (State.narrowWrite_frame (Within.of rfl hm) (fun _ _ => (Fr.trans (Fr.refl _ _)
    (State.mapWrite_frame (Within.of rfl hm)))) (fun _ _ => Fr.refl _ _)))

theorem execUcbMapWrite_frame {m : Nat} (hm : Within 274877906940 m) {a0 : Path} {a1 : BitVec 6} {s : State} :
    OutFr m s (execUcbMapWrite a0 a1 s) := by
  delta execUcbMapWrite
  exact OutFr.next ((Fr.trans (Fr.refl _ _) (State.windowed_frame (Within.of rfl hm) (fun _ => (Fr.trans (Fr.refl _ _)
    (State.mapField_frame (Within.of rfl hm)))))))

theorem State.mapPersisted_frame {m : Nat} (hm : Within 192 m) {s : State} {a1 : UnitAddr} :
    Fr m s (State.mapPersisted s a1) := by
  delta State.mapPersisted
  exact (by (try dsimp only); split; exacts [(by (try dsimp only); split; exacts [(Fr.set_map (Within.of rfl hm) (Fr.refl _ _)),
    (Fr.refl _ _)]), (by (try dsimp only); split; exacts [(Fr.set_cmap (Within.of rfl hm) (Fr.refl _ _)), (Fr.refl _ _)]),
    (Fr.refl _ _)])

theorem execMapPersisted_frame {m : Nat} (hm : Within 192 m) {a0 : UnitAddr} {s : State} :
    OutFr m s (execMapPersisted a0 s) := by
  delta execMapPersisted
  exact OutFr.next ((Fr.trans (Fr.refl _ _) (State.mapPersisted_frame (Within.of rfl hm))))

theorem State.vfCluster_frame {m : Nat} (hm : Within 512 m) {a0 : Word} {s : State} {a2 : ℕ} :
    Fr m s (State.vfCluster a0 s a2) := by
  delta State.vfCluster
  exact (Fr.trans (Fr.refl _ _) (State.modCluster_frame (Within.of rfl hm)))

theorem State.vfTray_frame {m : Nat} (hm : Within 768 m) {a0 : Word} {s : State} {a2 : ℕ} :
    Fr m s (State.vfTray a0 s a2) := by
  delta State.vfTray
  exact (Fr.trans ((Fr.trans (Fr.refl _ _) (State.modTray_frame (Within.of rfl hm)))) (Fr.foldl (fun _ _ => (Fr.trans (Fr.refl _
    _) (State.vfCluster_frame (Within.of rfl hm))))))

theorem State.vfUnit_frame {m : Nat} (hm : Within 768 m) {a0 : Word} {s : State} {a2 : URef} :
    Fr m s (State.vfUnit a0 s a2) := by
  delta State.vfUnit
  exact (by (try dsimp only); split; exacts [(Fr.trans (Fr.refl _ _) (State.vfCluster_frame (Within.of rfl hm))), (Fr.refl _ _),
    (Fr.trans (Fr.refl _ _) (Fr.foldl (fun _ _ => (Fr.trans (Fr.refl _ _) (State.vfTray_frame (Within.of rfl hm))))))])

theorem State.vfPid_frame {m : Nat} (hm : Within 768 m) {a0 : Word} {s : State} {a2 : Pid} :
    Fr m s (State.vfPid a0 s a2) := by
  delta State.vfPid
  exact (Fr.trans (Fr.refl _ _) (Fr.foldl (fun _ _ => (Fr.trans (Fr.refl _ _) (State.vfTray_frame (Within.of rfl hm))))))

theorem State.vfField_frame {m : Nat} (hm : Within 800 m) {s : State} {a1 : Path} {a2 : Word} :
    Fr m s (State.vfField s a1 a2) := by
  delta State.vfField
  exact (Fr.trans (Fr.refl _ _) (State.wideWrite_frame (Within.of rfl hm) (fun _ _ => (Fr.trans (Fr.refl _ _) (State.vfUnit_frame
    (Within.of rfl hm)))) (fun _ _ => (Fr.trans (Fr.refl _ _) (State.vfPid_frame (Within.of rfl hm))))))

theorem execUcbVfWrite_frame {m : Nat} (hm : Within 800 m) {a0 : Path} {a1 : Word} {s : State} :
    OutFr m s (execUcbVfWrite a0 a1 s) := by
  delta execUcbVfWrite
  exact OutFr.next ((Fr.trans (Fr.refl _ _) (State.windowed_frame (Within.of rfl hm) (fun _ => (Fr.trans (Fr.refl _ _)
    (State.vfField_frame (Within.of rfl hm)))))))

theorem State.ownTray_frame {m : Nat} (hm : Within 768 m) {a0 : Pid} {s : State} {a2 : ℕ} :
    Fr m s (State.ownTray a0 s a2) := by
  delta State.ownTray
  exact (Fr.ite ((Fr.trans ((Fr.trans (Fr.refl _ _) (State.modTray_frame (Within.of rfl hm)))) (Fr.foldl (fun _ _ => (Fr.trans
    (Fr.refl _ _) (State.modCluster_frame (Within.of rfl hm))))))) (Fr.refl _ _))

theorem State.ownUnit_frame {m : Nat} (hm : Within 768 m) {a0 : Pid} {s : State} {a2 : URef} :
    Fr m s (State.ownUnit a0 s a2) := by
  delta State.ownUnit
  exact (by (try dsimp only); split; exacts [(Fr.refl _ _), (Fr.refl _ _), (Fr.trans (Fr.refl _ _) (Fr.foldl (fun _ _ =>
    (Fr.trans (Fr.refl _ _) (State.ownTray_frame (Within.of rfl hm))))))])

theorem State.ownerField_frame {m : Nat} (hm : Within 800 m) {s : State} {a1 : Path} {a2 : Pid} :
    Fr m s (State.ownerField s a1 a2) := by
  delta State.ownerField
  exact (Fr.trans (Fr.refl _ _) (State.narrowWrite_frame (Within.of rfl hm) (fun _ _ => (Fr.trans (Fr.refl _ _)
    (State.ownUnit_frame (Within.of rfl hm)))) (fun _ _ => Fr.refl _ _)))

theorem execUcbOwnerWrite_frame {m : Nat} (hm : Within 800 m) {a0 : Path} {a1 : Pid} {s : State} :
    OutFr m s (execUcbOwnerWrite a0 a1 s) := by
  delta execUcbOwnerWrite
  exact OutFr.next ((Fr.trans (Fr.refl _ _) (State.windowed_frame (Within.of rfl hm) (fun _ => (Fr.trans (Fr.refl _ _)
    (State.ownerField_frame (Within.of rfl hm)))))))

theorem State.missTray_frame {m : Nat} (hm : Within 256 m) {a0 : Word} {s : State} {a2 : ℕ} :
    Fr m s (State.missTray a0 s a2) := by
  delta State.missTray
  exact (Fr.trans (Fr.refl _ _) (State.modTray_frame (Within.of rfl hm)))

theorem State.missUnit_frame {m : Nat} (hm : Within 768 m) {a0 : Word} {s : State} {a2 : URef} :
    Fr m s (State.missUnit a0 s a2) := by
  delta State.missUnit
  exact (by (try dsimp only); split; exacts [(Fr.trans (Fr.refl _ _) (State.modCluster_frame (Within.of rfl hm))), (Fr.refl _ _),
    (Fr.trans (Fr.refl _ _) (State.missTray_frame (Within.of rfl hm))), (Fr.trans (Fr.refl _ _) (Fr.foldl (fun _ _ => (Fr.trans
    (Fr.refl _ _) (State.missTray_frame (Within.of rfl hm))))))])

theorem State.missPid_frame {m : Nat} (hm : Within 256 m) {a0 : Word} {s : State} {a2 : Pid} :
    Fr m s (State.missPid a0 s a2) := by
  delta State.missPid
  exact (Fr.trans (Fr.refl _ _) (Fr.foldl (fun _ _ => (Fr.trans (Fr.refl _ _) (State.missTray_frame (Within.of rfl hm))))))

theorem State.clearPeak_frame {m : Nat} (hm : Within 768 m) {s : State} {a1 : Sel} :
    Fr m s (State.clearPeak s a1) := by
  delta State.clearPeak
  exact (by (try dsimp only); split; exacts [(Fr.refl _ _), (Fr.refl _ _), (Fr.trans (Fr.refl _ _) (Fr.foldl (fun _ _ =>
    (Fr.trans (Fr.refl _ _) (State.modTray_frame (Within.of rfl hm)))))), (Fr.trans (Fr.refl _ _) (State.modCluster_frame
    (Within.of rfl hm))), (Fr.trans (Fr.refl _ _) (State.modCluster_frame (Within.of rfl hm))), (Fr.trans (Fr.refl _ _) (Fr.foldl
    (fun _ _ => (Fr.trans (Fr.refl _ _) (State.modTray_frame (Within.of rfl hm))))))])

theorem State.windowTouch_frame {m : Nat} (hm : Within 32 m) {s : State} {a1 : Path} {a2 : State → Sel → State} (h2 : ∀ v0 v1, Fr
  m v0 (a2 v0 v1)) :
    Fr m s (State.windowTouch s a1 a2) := by
  delta State.windowTouch
  exact (by (try dsimp only); split; exacts [(Fr.trans (Fr.refl _ _) (State.setCode_frame (Within.of rfl hm))), (Fr.refl _ _),
    (Fr.trans ((Fr.trans (Fr.refl _ _) (h2 _ _))) (State.setCode_frame (Within.of rfl hm)))])

theorem State.tempRead_frame {m : Nat} (hm : Within 808 m) {s : State} {a1 : Path} :
    Fr m s (State.tempRead s a1) := by
  delta State.tempRead
  exact (Fr.trans ((Fr.trans (Fr.refl _ _) (State.send_frame (Within.of rfl hm)))) (State.windowTouch_frame (Within.of rfl hm)
    (fun _ _ => (Fr.trans (Fr.refl _ _) (State.clearPeak_frame (Within.of rfl hm))))))

theorem execUcbTempRead_frame {m : Nat} (hm : Within 808 m) {a0 : Path} {s : State} :
    OutFr m s (execUcbTempRead a0 s) := by
  delta execUcbTempRead
  exact OutFr.next ((Fr.ite ((Fr.trans (Fr.refl _ _) (State.tempRead_frame (Within.of rfl hm)))) (Fr.refl _ _)))

end Sys2Proof.Machine
end

