-- ==== Sys2Proof/Laws/FrameLight.lean ====
section
/-! SUPPORT. The frame of every operation of Machine/Light: the parts of the state that it can change. -/

set_option Elab.async false
set_option linter.unusedTactic false

namespace Sys2Proof.Machine
open Sys2Proof.Safety

theorem State.markSuspect_frame {m : Nat} (hm : Within 13019119880 m) {s : State} {a1 : ℕ} :
    Fr m s (State.markSuspect s a1) := by
  delta State.markSuspect
  exact (Fr.ite (Fr.refl _ _) ((Fr.trans ((Fr.trans (Fr.refl _ _) (State.modTray_frame (Within.of rfl hm)))) (State.event_frame
    (Within.of rfl hm)))))

theorem State.replayAll_frame {m : Nat} (hm : Within 256 m) {s : State} {a1 : ℕ} :
    Fr m s (State.replayAll s a1) := by
  delta State.replayAll
  exact (Fr.trans ((Fr.trans (Fr.refl _ _) (State.modTray_frame (Within.of rfl hm)))) (State.modTray_frame (Within.of rfl hm)))

theorem State.devHold_frame {m : Nat} (hm : Within 256 m) {s : State} {a1 : ℕ} {a2 : BitVec 4} :
    Fr m s (State.devHold s a1 a2) := by
  delta State.devHold
  exact (Fr.trans ((Fr.trans (Fr.refl _ _) (State.dropStrip_frame (Within.of rfl hm)))) (State.modTray_frame (Within.of rfl hm)))

theorem State.stage_frame {m : Nat} (hm : Within 13019119880 m) {s : State} {a1 : ℕ} {a2 : CalSet} :
    Fr m s (State.stage s a1 a2) := by
  delta State.stage
  exact (Fr.ite ((Fr.trans (Fr.refl _ _) (State.modTray_frame (Within.of rfl hm)))) ((Fr.trans ((Fr.trans ((Fr.trans (Fr.refl _
    _) (State.modTray_frame (Within.of rfl hm)))) (State.adopt_frame (Within.of rfl hm)))) (State.rewriteIdle_frame (Within.of
    rfl hm)))))

theorem State.stageInterim_frame {m : Nat} (hm : Within 13019119884 m) {s : State} {a1 : ℕ} :
    Fr m s (State.stageInterim s a1) := by
  delta State.stageInterim
  exact (Fr.trans ((Fr.trans (Fr.refl _ _) (State.stage_frame (Within.of rfl hm)))) (State.draw_frame (Within.of rfl hm)))

theorem State.stageSet_frame {m : Nat} (hm : Within 13019119884 m) {s : State} {a1 : ℕ} :
    Fr m s (State.stageSet s a1) := by
  delta State.stageSet
  exact (by (try dsimp only); split; exacts [(Fr.trans ((Fr.trans (Fr.refl _ _) (State.modTray_frame (Within.of rfl hm))))
    (State.stage_frame (Within.of rfl hm))), (Fr.ite ((Fr.trans ((Fr.trans (Fr.refl _ _) (State.modTray_frame (Within.of rfl
    hm)))) (State.stageInterim_frame (Within.of rfl hm)))) (Fr.refl _ _))])

theorem State.calTriggers_frame {m : Nat} (hm : Within 256 m) {s : State} {a1 : ℕ} :
    Fr m s (State.calTriggers s a1) := by
  delta State.calTriggers
  exact (Fr.ite (Fr.refl _ _) ((by (try dsimp only); split; exacts [(Fr.ite ((Fr.trans ((Fr.ite ((Fr.trans (Fr.refl _ _)
    (State.askStrip_frame (Within.of rfl hm)))) (Fr.refl _ _))) (State.askStrip_frame (Within.of rfl hm)))) ((Fr.ite ((Fr.trans
    (Fr.refl _ _) (State.askStrip_frame (Within.of rfl hm)))) (Fr.refl _ _)))), (Fr.ite ((Fr.trans (Fr.refl _ _)
    (State.askStrip_frame (Within.of rfl hm)))) (Fr.refl _ _))])))

theorem State.calDue_frame {m : Nat} (hm : Within 13019119880 m) {s : State} {a1 : ℕ} :
    Fr m s (State.calDue s a1) := by
  delta State.calDue
  exact (Fr.trans ((Fr.trans (Fr.refl _ _) (State.calTriggers_frame (Within.of rfl hm)))) (State.noteStale_frame (Within.of rfl
    hm)))

theorem execLightCalWrite_frame {m : Nat} (hm : Within 13019119896 m) {a0 : Path} {a1 : Word} {s : State} :
    OutFr m s (execLightCalWrite a0 a1 s) := by
  delta execLightCalWrite
  exact OutFr.next ((Fr.ite ((Fr.trans ((Fr.trans (Fr.refl _ _) (State.setPol_frame (Within.of rfl hm)))) (Fr.foldl (fun _ _ =>
    (Fr.trans (Fr.refl _ _) (State.calDue_frame (Within.of rfl hm))))))) (Fr.refl _ _)))

theorem execStripAll_frame {m : Nat} (hm : Within 256 m) {a0 : Path} {s : State} :
    OutFr m s (execStripAll a0 s) := by
  delta execStripAll
  exact OutFr.next ((Fr.ite ((Fr.trans (Fr.refl _ _) (Fr.foldl (fun _ _ => (Fr.trans (Fr.refl _ _) (State.askStrip_frame
    (Within.of rfl hm))))))) (Fr.refl _ _)))

theorem State.stripTray_frame {m : Nat} (hm : Within 256 m) {s : State} {a1 : URef} :
    Fr m s (State.stripTray s a1) := by
  delta State.stripTray
  exact (by (try dsimp only); split; exacts [(Fr.trans ((Fr.trans (Fr.refl _ _) (State.modTray_frame (Within.of rfl hm))))
    (State.askStrip_frame (Within.of rfl hm))), (Fr.refl _ _)])

theorem State.stripField_frame {m : Nat} (hm : Within 288 m) {s : State} {a1 : Path} :
    Fr m s (State.stripField s a1) := by
  delta State.stripField
  exact (Fr.trans (Fr.refl _ _) (State.narrowWrite_frame (Within.of rfl hm) (fun _ _ => (Fr.trans (Fr.refl _ _)
    (State.stripTray_frame (Within.of rfl hm)))) (fun _ _ => Fr.refl _ _)))

theorem execStrip_frame {m : Nat} (hm : Within 288 m) {a0 : Path} {s : State} :
    OutFr m s (execStrip a0 s) := by
  delta execStrip
  exact OutFr.next ((Fr.trans (Fr.refl _ _) (State.windowed_frame (Within.of rfl hm) (fun _ => (Fr.trans (Fr.refl _ _)
    (State.stripField_frame (Within.of rfl hm)))))))

theorem State.gridFail_frame {m : Nat} (hm : Within 13600554828 m) {s : State} {a1 : ℕ} :
    Fr m s (State.gridFail s a1) := by
  delta State.gridFail
  exact (by (try dsimp only); split; exacts [(Fr.trans ((Fr.trans ((Fr.trans ((Fr.trans (Fr.refl _ _) (State.modTray_frame
    (Within.of rfl hm)))) (State.event_frame (Within.of rfl hm)))) (State.trayUnfit_frame (Within.of rfl hm))))
    (State.endResets_frame (Within.of rfl hm))), (Fr.trans ((Fr.trans (Fr.refl _ _) (State.modTray_frame (Within.of rfl hm))))
    (State.event_frame (Within.of rfl hm))), (Fr.trans ((Fr.trans (Fr.refl _ _) (State.modTray_frame (Within.of rfl hm))))
    (State.event_frame (Within.of rfl hm))), (Fr.ite ((Fr.trans ((Fr.trans (Fr.refl _ _) (State.modTray_frame (Within.of rfl
    hm)))) (State.event_frame (Within.of rfl hm)))) ((Fr.ite ((Fr.trans ((Fr.trans ((Fr.trans (Fr.refl _ _) (State.modTray_frame
    (Within.of rfl hm)))) (State.event_frame (Within.of rfl hm)))) (State.mapOutTray_frame (Within.of rfl hm)))) ((Fr.trans
    ((Fr.trans ((Fr.trans ((Fr.trans (Fr.refl _ _) (State.modTray_frame (Within.of rfl hm)))) (State.event_frame (Within.of rfl
    hm)))) (State.fenceWork_frame (Within.of rfl hm)))) (State.failTray_frame (Within.of rfl hm)))))))])

theorem State.reacquire_frame {m : Nat} (hm : Within 256 m) {s : State} {a1 : ℕ} {a2 : List ℕ} :
    Fr m s (State.reacquire s a1 a2) := by
  delta State.reacquire
  exact (Fr.trans (Fr.refl _ _) (State.modTray_frame (Within.of rfl hm)))

theorem State.substitute_frame {m : Nat} (hm : Within 13019119880 m) {s : State} {a1 : ℕ} {a2 : ℕ} {a3 : ℕ} :
    Fr m s (State.substitute s a1 a2 a3) := by
  delta State.substitute
  exact (Fr.trans ((Fr.trans ((Fr.trans ((Fr.trans ((Fr.trans (Fr.refl _ _) (State.modTray_frame (Within.of rfl hm))))
    (State.devHold_frame (Within.of rfl hm)))) (State.reacquire_frame (Within.of rfl hm)))) (State.replayAll_frame (Within.of rfl
    hm)))) (State.event_frame (Within.of rfl hm)))

theorem State.laserFails_frame {m : Nat} (hm : Within 13600554828 m) {s : State} {a1 : ℕ} {a2 : ℕ} :
    Fr m s (State.laserFails s a1 a2) := by
  delta State.laserFails
  exact (Fr.ite (Fr.refl _ _) ((Fr.ite ((Fr.trans ((Fr.trans ((Fr.trans (Fr.refl _ _) (State.modTray_frame (Within.of rfl hm))))
    (State.modTray_frame (Within.of rfl hm)))) (State.gridFail_frame (Within.of rfl hm)))) ((Fr.ite ((Fr.trans ((Fr.trans
    (Fr.refl _ _) (State.modTray_frame (Within.of rfl hm)))) (State.modTray_frame (Within.of rfl hm)))) ((Fr.trans ((Fr.trans
    (Fr.refl _ _) (State.modTray_frame (Within.of rfl hm)))) (State.substitute_frame (Within.of rfl hm)))))))))

theorem execLaserFail_frame {m : Nat} (hm : Within 13600554828 m) {a0 : UnitAddr} {a1 : Fin 36} {s : State} :
    OutFr m s (execLaserFail a0 a1 s) := by
  delta execLaserFail
  exact OutFr.next ((Fr.trans (Fr.refl _ _) (State.onTray_frame (Within.of rfl hm) (fun _ _ => (Fr.trans (Fr.refl _ _)
    (State.laserFails_frame (Within.of rfl hm)))))))

theorem State.trayRingLocked_frame {m : Nat} (hm : Within 256 m) {s : State} {a1 : ℕ} {a2 : ℕ} {a3 : BitVec 12} {a4 : BitVec 10} :
    Fr m s (State.trayRingLocked s a1 a2 a3 a4) := by
  delta State.trayRingLocked
  exact (Fr.ite ((Fr.trans (Fr.refl _ _) (State.modTray_frame (Within.of rfl hm)))) (Fr.refl _ _))

theorem State.trayRingFailed_frame {m : Nat} (hm : Within 13600554828 m) {s : State} {a1 : ℕ} {a2 : ℕ} :
    Fr m s (State.trayRingFailed s a1 a2) := by
  delta State.trayRingFailed
  exact (Fr.ite ((Fr.trans ((Fr.trans ((Fr.trans (Fr.refl _ _) (State.modTray_frame (Within.of rfl hm)))) (State.event_frame
    (Within.of rfl hm)))) (State.gridFail_frame (Within.of rfl hm)))) ((Fr.trans (Fr.refl _ _) (State.modTray_frame (Within.of
    rfl hm)))))

theorem State.trayRingTimeout_frame {m : Nat} (hm : Within 13600554828 m) {s : State} {a1 : ℕ} {a2 : ℕ} :
    Fr m s (State.trayRingTimeout s a1 a2) := by
  delta State.trayRingTimeout
  exact (Fr.ite ((Fr.trans (Fr.refl _ _) (State.trayRingFailed_frame (Within.of rfl hm)))) (Fr.refl _ _))

theorem State.trayCheckDue_frame {m : Nat} (hm : Within 256 m) {s : State} {a1 : ℕ} :
    Fr m s (State.trayCheckDue s a1) := by
  delta State.trayCheckDue
  exact (Fr.ite ((Fr.trans (Fr.refl _ _) (State.modTray_frame (Within.of rfl hm)))) (Fr.refl _ _))

theorem State.trayMislock_frame {m : Nat} (hm : Within 13617332044 m) {s : State} {a1 : ℕ} {a2 : ℕ} {a3 : Bool} :
    Fr m s (State.trayMislock s a1 a2 a3) := by
  delta State.trayMislock
  exact (Fr.ite ((Fr.trans ((Fr.trans ((Fr.trans ((Fr.set_light (Within.of rfl hm) ((Fr.trans (Fr.refl _ _) (State.modTray_frame
    (Within.of rfl hm)))))) (State.event_frame (Within.of rfl hm)))) (State.devHold_frame (Within.of rfl hm))))
    (State.trayRingFailed_frame (Within.of rfl hm)))) ((Fr.trans ((Fr.trans ((Fr.trans ((Fr.set_light (Within.of rfl hm)
    ((Fr.trans (Fr.refl _ _) (State.modTray_frame (Within.of rfl hm)))))) (State.event_frame (Within.of rfl hm))))
    (State.devHold_frame (Within.of rfl hm)))) (State.reacquire_frame (Within.of rfl hm)))))

theorem State.tagGood_frame {m : Nat} (hm : Within 256 m) {s : State} {a1 : ℕ} :
    Fr m s (State.tagGood s a1) := by
  delta State.tagGood
  exact (Fr.ite ((Fr.ite ((Fr.trans ((Fr.trans ((Fr.trans ((Fr.ite ((Fr.trans ((Fr.trans ((Fr.trans (Fr.refl _ _)
    (State.modTray_frame (Within.of rfl hm)))) (State.modTray_frame (Within.of rfl hm)))) (State.rewriteActive_frame (Within.of
    rfl hm)))) ((Fr.trans ((Fr.trans (Fr.refl _ _) (State.modTray_frame (Within.of rfl hm)))) (State.modTray_frame (Within.of rfl
    hm)))))) (State.backgroundReload_frame (Within.of rfl hm)))) (State.modTray_frame (Within.of rfl hm)))) (State.askStrip_frame
    (Within.of rfl hm)))) ((Fr.trans ((Fr.ite ((Fr.trans ((Fr.trans ((Fr.trans (Fr.refl _ _) (State.modTray_frame (Within.of rfl
    hm)))) (State.modTray_frame (Within.of rfl hm)))) (State.rewriteActive_frame (Within.of rfl hm)))) ((Fr.trans ((Fr.trans
    (Fr.refl _ _) (State.modTray_frame (Within.of rfl hm)))) (State.modTray_frame (Within.of rfl hm))))))
    (State.backgroundReload_frame (Within.of rfl hm)))))) ((Fr.trans (Fr.refl _ _) (State.modTray_frame (Within.of rfl hm)))))

theorem State.trayCheckDone_frame {m : Nat} (hm : Within 13617332044 m) {s : State} {a1 : ℕ} {a2 : List (BitVec 11 × TagFault)} :
    Fr m s (State.trayCheckDone s a1 a2) := by
  delta State.trayCheckDone
  exact (Fr.ite (Fr.refl _ _) ((Fr.ite ((Fr.trans ((Fr.trans (Fr.refl _ _) (State.modTray_frame (Within.of rfl hm))))
    (State.tagGood_frame (Within.of rfl hm)))) ((Fr.trans ((Fr.ite ((Fr.trans ((Fr.trans ((Fr.ite ((Fr.trans (Fr.refl _ _)
    (State.modTray_frame (Within.of rfl hm)))) ((Fr.trans ((Fr.trans ((Fr.trans (Fr.refl _ _) (State.modTray_frame (Within.of rfl
    hm)))) (State.markSuspect_frame (Within.of rfl hm)))) (State.replayAll_frame (Within.of rfl hm)))))) (Fr.foldl (fun _ _ =>
    (Fr.trans (Fr.refl _ _) (State.trayMislock_frame (Within.of rfl hm))))))) (Fr.foldl (fun _ _ => (Fr.trans (Fr.refl _ _)
    (State.trayRingFailed_frame (Within.of rfl hm))))))) ((Fr.trans ((Fr.ite ((Fr.trans (Fr.refl _ _) (State.modTray_frame
    (Within.of rfl hm)))) ((Fr.trans ((Fr.trans ((Fr.trans (Fr.refl _ _) (State.modTray_frame (Within.of rfl hm))))
    (State.markSuspect_frame (Within.of rfl hm)))) (State.replayAll_frame (Within.of rfl hm)))))) (Fr.foldl (fun _ _ => (Fr.trans
    (Fr.refl _ _) (State.trayMislock_frame (Within.of rfl hm))))))))) (Fr.foldl (fun _ _ => (Fr.trans (Fr.refl _ _)
    (State.laserFails_frame (Within.of rfl hm))))))))))

theorem State.tempStep_frame {m : Nat} (hm : Within 13035897096 m) {s : State} {a1 : ℕ} :
    Fr m s (State.tempStep s a1) := by
  delta State.tempStep
  exact (Fr.trans ((Fr.trans ((Fr.trans ((Fr.trans ((Fr.set_light (Within.of rfl hm) ((Fr.trans (Fr.refl _ _)
    (State.modTray_frame (Within.of rfl hm)))))) (State.devHold_frame (Within.of rfl hm)))) (State.markSuspect_frame (Within.of
    rfl hm)))) (State.replayAll_frame (Within.of rfl hm)))) (State.event_frame (Within.of rfl hm)))

theorem State.stripTemp_frame {m : Nat} (hm : Within 256 m) {s : State} {a1 : ℕ} {a2 : ℤ} :
    Fr m s (State.stripTemp s a1 a2) := by
  delta State.stripTemp
  exact (by (try dsimp only); split; exacts [(Fr.refl _ _), (Fr.ite ((Fr.trans (Fr.refl _ _) (State.dropStrip_frame (Within.of
    rfl hm)))) ((Fr.trans (Fr.refl _ _) (State.modTray_frame (Within.of rfl hm)))))])

theorem State.sensorIn_frame {m : Nat} (hm : Within 13035897096 m) {s : State} {a1 : ℕ} {a2 : List (BitVec 16)} :
    Fr m s (State.sensorIn s a1 a2) := by
  delta State.sensorIn
  exact (Fr.ite (Fr.refl _ _) ((Fr.trans ((Fr.ite ((Fr.trans ((Fr.trans ((Fr.trans (Fr.refl _ _) (State.modTray_frame (Within.of
    rfl hm)))) (State.stripTemp_frame (Within.of rfl hm)))) (State.tempStep_frame (Within.of rfl hm)))) ((Fr.trans ((Fr.trans
    (Fr.refl _ _) (State.modTray_frame (Within.of rfl hm)))) (State.stripTemp_frame (Within.of rfl hm)))))) (State.calDue_frame
    (Within.of rfl hm)))))

theorem State.settled_frame {m : Nat} (hm : Within 13019119884 m) {s : State} {a1 : ℕ} :
    Fr m s (State.settled s a1) := by
  delta State.settled
  exact (Fr.ite ((Fr.trans ((Fr.trans ((Fr.trans (Fr.refl _ _) (State.modTray_frame (Within.of rfl hm))))
    (State.stageInterim_frame (Within.of rfl hm)))) (State.acquire_frame (Within.of rfl hm)))) (Fr.refl _ _))

theorem execTempSettled_frame {m : Nat} (hm : Within 13019119884 m) {a0 : UnitAddr} {s : State} :
    OutFr m s (execTempSettled a0 s) := by
  delta execTempSettled
  exact OutFr.next ((Fr.trans (Fr.refl _ _) (State.onTray_frame (Within.of rfl hm) (fun _ _ => (Fr.trans (Fr.refl _ _)
    (State.settled_frame (Within.of rfl hm)))))))

theorem State.clearSlew_frame {m : Nat} (hm : Within 256 m) {s : State} {a1 : Sel} :
    Fr m s (State.clearSlew s a1) := by
  delta State.clearSlew
  exact (by (try dsimp only); split; exacts [(Fr.trans (Fr.refl _ _) (State.modTray_frame (Within.of rfl hm))), (Fr.refl _ _)])

theorem State.slewRead_frame {m : Nat} (hm : Within 296 m) {s : State} {a1 : Path} :
    Fr m s (State.slewRead s a1) := by
  delta State.slewRead
  exact (Fr.trans ((Fr.trans (Fr.refl _ _) (State.send_frame (Within.of rfl hm)))) (State.windowTouch_frame (Within.of rfl hm)
    (fun _ _ => (Fr.trans (Fr.refl _ _) (State.clearSlew_frame (Within.of rfl hm))))))

theorem execLkSlewRead_frame {m : Nat} (hm : Within 296 m) {a0 : Path} {s : State} :
    OutFr m s (execLkSlewRead a0 s) := by
  delta execLkSlewRead
  exact OutFr.next ((Fr.ite ((Fr.trans (Fr.refl _ _) (State.slewRead_frame (Within.of rfl hm)))) (Fr.refl _ _)))

theorem State.stripStart_frame {m : Nat} (hm : Within 256 m) {s : State} {a1 : ℕ} :
    Fr m s (State.stripStart s a1) := by
  delta State.stripStart
  exact (by (try dsimp only); split; exacts [(Fr.trans (Fr.refl _ _) (State.modTray_frame (Within.of rfl hm))), (Fr.refl _ _)])

theorem State.wokorRun_frame {m : Nat} (hm : Within 13600554828 m) {s : State} {a1 : ℕ} {a2 : Bool} :
    Fr m s (State.wokorRun s a1 a2) := by
  delta State.wokorRun
  exact (Fr.trans (Fr.refl _ _) (Fr.foldl (fun _ _ => (Fr.ite ((Fr.trans ((Fr.trans ((Fr.trans ((Fr.trans (Fr.refl _ _)
    (State.draw_frame (Within.of rfl hm)))) (State.modTray_frame (Within.of rfl hm)))) (State.event_frame (Within.of rfl hm))))
    (State.scoreTray_frame (Within.of rfl hm)))) ((Fr.trans (Fr.refl _ _) (State.draw_frame (Within.of rfl hm))))))))

theorem State.slice_frame {m : Nat} (hm : Within 13600554828 m) {s : State} {a1 : ℕ} {a2 : ℕ} :
    Fr m s (State.slice s a1 a2) := by
  delta State.slice
  exact (Fr.ite ((Fr.trans ((Fr.ite ((Fr.trans ((Fr.trans ((Fr.trans ((Fr.trans (Fr.refl _ _) (State.modTray_frame (Within.of rfl
    hm)))) (State.draw_frame (Within.of rfl hm)))) (State.boundary_frame (Within.of rfl hm)))) (State.wokorRun_frame (Within.of
    rfl hm)))) ((Fr.trans ((Fr.trans ((Fr.trans (Fr.refl _ _) (State.modTray_frame (Within.of rfl hm)))) (State.draw_frame
    (Within.of rfl hm)))) (State.boundary_frame (Within.of rfl hm)))))) (State.wokorRun_frame (Within.of rfl hm)))) ((Fr.ite
    ((Fr.trans ((Fr.trans ((Fr.trans ((Fr.trans (Fr.refl _ _) (State.modTray_frame (Within.of rfl hm)))) (State.draw_frame
    (Within.of rfl hm)))) (State.boundary_frame (Within.of rfl hm)))) (State.wokorRun_frame (Within.of rfl hm)))) ((Fr.trans
    ((Fr.trans ((Fr.trans (Fr.refl _ _) (State.modTray_frame (Within.of rfl hm)))) (State.draw_frame (Within.of rfl hm))))
    (State.boundary_frame (Within.of rfl hm)))))))

theorem State.stripSlice_frame {m : Nat} (hm : Within 13600554828 m) {s : State} {a1 : ℕ} {a2 : ℕ} :
    Fr m s (State.stripSlice s a1 a2) := by
  delta State.stripSlice
  exact (Fr.ite (Fr.refl _ _) ((Fr.ite ((Fr.trans (Fr.refl _ _) (State.slice_frame (Within.of rfl hm)))) ((Fr.ite ((Fr.trans
    ((Fr.trans (Fr.refl _ _) (State.stripStart_frame (Within.of rfl hm)))) (State.slice_frame (Within.of rfl hm)))) (Fr.refl _
    _))))))

theorem execStripSlice_frame {m : Nat} (hm : Within 13600554828 m) {a0 : UnitAddr} {a1 : BitVec 32} {s : State} :
    OutFr m s (execStripSlice a0 a1 s) := by
  delta execStripSlice
  exact OutFr.next ((Fr.trans (Fr.refl _ _) (State.onTray_frame (Within.of rfl hm) (fun _ _ => (Fr.trans (Fr.refl _ _)
    (State.stripSlice_frame (Within.of rfl hm)))))))

theorem State.stripDone_frame {m : Nat} (hm : Within 16778500 m) {s : State} {a1 : ℕ} {a2 : StripFigures} :
    Fr m s (State.stripDone s a1 a2) := by
  delta State.stripDone
  exact (by (try dsimp only); split; exacts [(Fr.refl _ _), (Fr.ite (Fr.refl _ _) ((Fr.trans ((Fr.set_light (Within.of rfl hm)
    ((Fr.trans ((Fr.trans (Fr.refl _ _) (State.modTray_frame (Within.of rfl hm)))) (State.draw_frame (Within.of rfl hm))))))
    (Fr.foldl (fun _ _ => (Fr.trans ((Fr.trans (Fr.refl _ _) (State.modCore_frame (Within.of rfl hm)))) (State.draw_frame
    (Within.of rfl hm))))))))])

theorem execStripEnd_frame {m : Nat} (hm : Within 16778500 m) {a0 : UnitAddr} {a1 : StripFigures} {s : State} :
    OutFr m s (execStripEnd a0 a1 s) := by
  delta execStripEnd
  exact OutFr.next ((Fr.trans (Fr.refl _ _) (State.onTray_frame (Within.of rfl hm) (fun _ _ => (Fr.trans (Fr.refl _ _)
    (State.stripDone_frame (Within.of rfl hm)))))))

theorem State.relockTray_frame {m : Nat} (hm : Within 256 m) {s : State} {a1 : ℕ} :
    Fr m s (State.relockTray s a1) := by
  delta State.relockTray
  exact (Fr.ite ((Fr.trans ((Fr.trans ((Fr.trans ((Fr.trans (Fr.refl _ _) (State.devHold_frame (Within.of rfl hm))))
    (State.acquire_frame (Within.of rfl hm)))) (State.replayAll_frame (Within.of rfl hm)))) (State.modTray_frame (Within.of rfl
    hm)))) (Fr.refl _ _))

theorem execRelockAll_frame {m : Nat} (hm : Within 256 m) {a0 : Path} {s : State} :
    OutFr m s (execRelockAll a0 s) := by
  delta execRelockAll
  exact OutFr.next ((Fr.ite ((Fr.trans (Fr.refl _ _) (Fr.foldl (fun _ _ => (Fr.trans (Fr.refl _ _) (State.relockTray_frame
    (Within.of rfl hm))))))) (Fr.refl _ _)))

theorem State.relockUnit_frame {m : Nat} (hm : Within 256 m) {s : State} {a1 : URef} :
    Fr m s (State.relockUnit s a1) := by
  delta State.relockUnit
  exact (by (try dsimp only); split; exacts [(Fr.trans (Fr.refl _ _) (State.relockTray_frame (Within.of rfl hm))), (Fr.refl _ _)])

theorem State.relockField_frame {m : Nat} (hm : Within 288 m) {s : State} {a1 : Path} :
    Fr m s (State.relockField s a1) := by
  delta State.relockField
  exact (Fr.trans (Fr.refl _ _) (State.narrowWrite_frame (Within.of rfl hm) (fun _ _ => (Fr.trans (Fr.refl _ _)
    (State.relockUnit_frame (Within.of rfl hm)))) (fun _ _ => Fr.refl _ _)))

theorem execRelock_frame {m : Nat} (hm : Within 288 m) {a0 : Path} {s : State} :
    OutFr m s (execRelock a0 s) := by
  delta execRelock
  exact OutFr.next ((Fr.trans (Fr.refl _ _) (State.windowed_frame (Within.of rfl hm) (fun _ => (Fr.trans (Fr.refl _ _)
    (State.relockField_frame (Within.of rfl hm)))))))

theorem State.refAccept_frame {m : Nat} (hm : Within 13035896840 m) {s : State} {a1 : BitVec 8} {a2 : BitVec 8} :
    Fr m s (State.refAccept s a1 a2) := by
  delta State.refAccept
  exact (Fr.ite ((Fr.trans ((Fr.set_light (Within.of rfl hm) (Fr.refl _ _))) (State.event_frame (Within.of rfl hm)))) (Fr.refl _
    _))

theorem execRefAccepted_frame {m : Nat} (hm : Within 13035896840 m) {a0 : BitVec 8} {a1 : BitVec 8} {s : State} :
    OutFr m s (execRefAccepted a0 a1 s) := by
  delta execRefAccepted
  exact OutFr.next ((Fr.trans (Fr.refl _ _) (State.refAccept_frame (Within.of rfl hm))))

theorem State.refLose_frame {m : Nat} (hm : Within 13035896844 m) {s : State} :
    Fr m s (State.refLose s) := by
  delta State.refLose
  exact (Fr.ite ((Fr.trans ((Fr.trans ((Fr.set_light (Within.of rfl hm) (Fr.refl _ _))) (State.draw_frame (Within.of rfl hm))))
    (State.event_frame (Within.of rfl hm)))) (Fr.refl _ _))

theorem execRefLost_frame {m : Nat} (hm : Within 13035896844 m) {s : State} :
    OutFr m s (execRefLost s) := by
  delta execRefLost
  exact OutFr.next ((Fr.trans (Fr.refl _ _) (State.refLose_frame (Within.of rfl hm))))

theorem State.refLock_frame {m : Nat} (hm : Within 16777216 m) {s : State} {a1 : BitVec 8} :
    Fr m s (State.refLock s a1) := by
  delta State.refLock
  exact (Fr.ite ((Fr.set_light (Within.of rfl hm) (Fr.refl _ _))) (Fr.refl _ _))

theorem execRefLocked_frame {m : Nat} (hm : Within 16777216 m) {a0 : BitVec 8} {s : State} :
    OutFr m s (execRefLocked a0 s) := by
  delta execRefLocked
  exact OutFr.next ((Fr.trans (Fr.refl _ _) (State.refLock_frame (Within.of rfl hm))))

end Sys2Proof.Machine
end

