-- ==== Sys2Proof/Laws/FrameFabric.lean ====
section
/-! SUPPORT. The frame of every operation of Machine/Fabric: the parts of the state that it can change. -/

set_option Elab.async false
set_option linter.unusedTactic false

namespace Sys2Proof.Machine
open Sys2Proof.Safety

theorem State.outPower_frame {m : Nat} (hm : Within 33554436 m) {s : State} {a1 : PortNo} :
    Fr m s (State.outPower s a1) := by
  delta State.outPower
  exact (Fr.trans ((Fr.trans (Fr.refl _ _) (State.setFport_frame (Within.of rfl hm)))) (State.draw_frame (Within.of rfl hm)))

theorem State.ltPower_frame {m : Nat} (hm : Within 33554436 m) {s : State} {a1 : PortNo} :
    Fr m s (State.ltPower s a1) := by
  delta State.ltPower
  exact (by (try dsimp only); split; exacts [(Fr.trans (Fr.refl _ _) (State.outPower_frame (Within.of rfl hm))), (Fr.refl _ _)])

theorem State.tellPeer_frame {m : Nat} (hm : Within 134217736 m) {s : State} {a1 : PortNo} {a2 : ChanNo} {a3 : LinkNote} :
    Fr m s (State.tellPeer s a1 a2 a3) := by
  delta State.tellPeer
  exact (by (try dsimp only); split; exacts [(Fr.trans (Fr.refl _ _) (State.slLocal_frame (Within.of rfl hm))), (Fr.refl _ _)])

theorem State.setLtRing_frame {m : Nat} (hm : Within 33554432 m) {s : State} {a1 : PortNo} {a2 : Bool} {a3 : ChanNo} {a4 : Ring} :
    Fr m s (State.setLtRing s a1 a2 a3 a4) := by
  delta State.setLtRing
  exact (Fr.trans (Fr.refl _ _) (State.setLt_frame (Within.of rfl hm)))

theorem State.grant_frame {m : Nat} (hm : Within 184549388 m) {s : State} {a1 : PortNo} {a2 : ChanNo} :
    Fr m s (State.grant s a1 a2) := by
  delta State.grant
  exact (by (try dsimp only); split; exacts [(Fr.refl _ _), (Fr.trans ((Fr.trans ((Fr.trans ((Fr.trans ((Fr.trans (Fr.refl _ _)
    (State.setComb_frame (Within.of rfl hm)))) (State.setChan_frame (Within.of rfl hm)))) (State.setLtRing_frame (Within.of rfl
    hm)))) (State.tellPeer_frame (Within.of rfl hm)))) (State.ltPower_frame (Within.of rfl hm)))])

theorem State.requestLine_frame {m : Nat} (hm : Within 184549388 m) {s : State} {a1 : PortNo} {a2 : BitVec 2} {a3 : BitVec 6} :
    Fr m s (State.requestLine s a1 a2 a3) := by
  delta State.requestLine
  exact (by (try dsimp only); split; exacts [(Fr.trans (Fr.refl _ _) (State.grant_frame (Within.of rfl hm))),
    (by (try dsimp only); split; exacts [(Fr.set_fab (Within.of rfl hm) ((Fr.trans (Fr.refl _ _) (State.setChan_frame (Within.of
    rfl hm))))), (Fr.refl _ _)])])

theorem State.lineFreed_frame {m : Nat} (hm : Within 184549388 m) {s : State} {a1 : ℕ} :
    Fr m s (State.lineFreed s a1) := by
  delta State.lineFreed
  exact (by (try dsimp only); split; exacts [(Fr.refl _ _), (by (try dsimp only); split; exacts [(Fr.set_fab (Within.of rfl hm)
    (Fr.refl _ _)), (Fr.trans ((by (try dsimp only); split; exacts [(Fr.trans ((Fr.set_fab (Within.of rfl hm) (Fr.refl _ _)))
    (State.setChan_frame (Within.of rfl hm))), (Fr.set_fab (Within.of rfl hm) (Fr.refl _ _))])) (State.grant_frame (Within.of rfl
    hm)))])])

theorem execLineGrant_frame {m : Nat} (hm : Within 184549388 m) {a0 : BitVec 2} {s : State} :
    OutFr m s (execLineGrant a0 s) := by
  delta execLineGrant
  exact OutFr.next ((Fr.trans (Fr.refl _ _) (State.lineFreed_frame (Within.of rfl hm))))

theorem State.longWait_frame {m : Nat} (hm : Within 13019119624 m) {s : State} {a1 : PortNo} :
    Fr m s (State.longWait s a1) := by
  delta State.longWait
  exact (Fr.ite ((Fr.trans (Fr.refl _ _) (State.event_frame (Within.of rfl hm)))) (Fr.refl _ _))

theorem execLineWait_frame {m : Nat} (hm : Within 13019119624 m) {a0 : PortNo} {s : State} :
    OutFr m s (execLineWait a0 s) := by
  delta execLineWait
  exact OutFr.next ((Fr.trans (Fr.refl _ _) (State.longWait_frame (Within.of rfl hm))))

theorem State.unlight_frame {m : Nat} (hm : Within 184549388 m) {s : State} {a1 : PortNo} {a2 : ChanNo} :
    Fr m s (State.unlight s a1 a2) := by
  delta State.unlight
  exact (Fr.ite ((by (try dsimp only); split; exacts [(Fr.trans ((Fr.ite ((by (try dsimp only); split; exacts [(Fr.set_fab
    (Within.of rfl hm) (Fr.refl _ _)), (Fr.refl _ _)])) (Fr.refl _ _))) (State.setComb_frame (Within.of rfl hm))), (Fr.ite
    ((by (try dsimp only); split; exacts [(Fr.set_fab (Within.of rfl hm) (Fr.refl _ _)), (Fr.refl _ _)])) (Fr.refl _ _))]))
    ((Fr.trans ((Fr.trans ((Fr.trans ((by (try dsimp only); split; exacts [(Fr.trans ((Fr.ite
    ((by (try dsimp only); split; exacts [(Fr.set_fab (Within.of rfl hm) (Fr.refl _ _)), (Fr.refl _ _)])) (Fr.refl _ _)))
    (State.setComb_frame (Within.of rfl hm))), (Fr.ite ((by (try dsimp only); split; exacts [(Fr.set_fab (Within.of rfl hm)
    (Fr.refl _ _)), (Fr.refl _ _)])) (Fr.refl _ _))])) (State.dropChan_frame (Within.of rfl hm)))) (State.tellPeer_frame
    (Within.of rfl hm)))) (State.ltPower_frame (Within.of rfl hm)))))

theorem State.unlightAll_frame {m : Nat} (hm : Within 184549388 m) {s : State} {a1 : PortNo} :
    Fr m s (State.unlightAll s a1) := by
  delta State.unlightAll
  exact (Fr.trans ((Fr.trans (Fr.refl _ _) (Fr.foldl (fun _ _ => (Fr.trans (Fr.refl _ _) (State.unlight_frame (Within.of rfl
    hm))))))) (Fr.foldl (fun _ _ => (Fr.trans (Fr.refl _ _) (State.setChan_frame (Within.of rfl hm))))))

theorem State.minOf_frame {m : Nat} (hm : Within 184549388 m) {s : State} {a1 : BitVec 6} {a2 : PortNo} :
    Fr m s (State.minOf s a1 a2) := by
  delta State.minOf
  exact (by (try dsimp only); split; exacts [(Fr.ite ((Fr.trans (Fr.refl _ _) (Fr.foldl (fun _ _ => (Fr.trans (Fr.refl _ _)
    (State.requestLine_frame (Within.of rfl hm))))))) (Fr.refl _ _)), (Fr.refl _ _)])

theorem State.ensureMin_frame {m : Nat} (hm : Within 184549388 m) {s : State} {a1 : BitVec 6} :
    Fr m s (State.ensureMin s a1) := by
  delta State.ensureMin
  exact (Fr.ite ((Fr.trans (Fr.refl _ _) (Fr.foldl (fun _ _ => (Fr.trans (Fr.refl _ _) (State.minOf_frame (Within.of rfl
    hm))))))) (Fr.refl _ _))

theorem State.grow_frame {m : Nat} (hm : Within 184549388 m) {s : State} {a1 : BitVec 6} {a2 : PortNo} :
    Fr m s (State.grow s a1 a2) := by
  delta State.grow
  exact (Fr.ite ((Fr.trans (Fr.refl _ _) (State.requestLine_frame (Within.of rfl hm)))) (Fr.refl _ _))

theorem execChannelGrow_frame {m : Nat} (hm : Within 184549388 m) {a0 : BitVec 6} {a1 : PortNo} {s : State} :
    OutFr m s (execChannelGrow a0 a1 s) := by
  delta execChannelGrow
  exact OutFr.next ((Fr.trans (Fr.refl _ _) (State.grow_frame (Within.of rfl hm))))

theorem State.releaseIdle_frame {m : Nat} (hm : Within 184549388 m) {s : State} {a1 : PortNo} {a2 : ChanNo} :
    Fr m s (State.releaseIdle s a1 a2) := by
  delta State.releaseIdle
  exact (Fr.ite ((Fr.trans (Fr.refl _ _) (State.unlight_frame (Within.of rfl hm)))) (Fr.refl _ _))

theorem State.shrink_frame {m : Nat} (hm : Within 184549388 m) {s : State} {a1 : BitVec 6} {a2 : PortNo} {a3 : ChanNo} :
    Fr m s (State.shrink s a1 a2 a3) := by
  delta State.shrink
  exact (Fr.ite ((Fr.trans ((Fr.trans (Fr.refl _ _) (State.setChan_frame (Within.of rfl hm)))) (State.releaseIdle_frame
    (Within.of rfl hm)))) (Fr.refl _ _))

theorem execChannelShrink_frame {m : Nat} (hm : Within 184549388 m) {a0 : BitVec 6} {a1 : PortNo} {a2 : ChanNo} {s : State} :
    OutFr m s (execChannelShrink a0 a1 a2 s) := by
  delta execChannelShrink
  exact OutFr.next ((Fr.trans (Fr.refl _ _) (State.shrink_frame (Within.of rfl hm))))

theorem State.retrain_frame {m : Nat} (hm : Within 13052674056 m) {s : State} {a1 : PortNo} {a2 : ChanNo} {a3 : Bool} :
    Fr m s (State.retrain s a1 a2 a3) := by
  delta State.retrain
  exact (Fr.trans ((Fr.ite ((Fr.trans (Fr.refl _ _) (State.setChan_frame (Within.of rfl hm)))) ((Fr.trans (Fr.refl _ _)
    (State.dropChan_frame (Within.of rfl hm)))))) (State.event_frame (Within.of rfl hm)))

theorem State.failChan_frame {m : Nat} (hm : Within 13052674056 m) {s : State} {a1 : PortNo} {a2 : ChanNo} {a3 : Bool} :
    Fr m s (State.failChan s a1 a2 a3) := by
  delta State.failChan
  exact (Fr.trans ((Fr.ite ((Fr.trans (Fr.refl _ _) (State.setChan_frame (Within.of rfl hm)))) ((Fr.trans (Fr.refl _ _)
    (State.dropChan_frame (Within.of rfl hm)))))) (State.event_frame (Within.of rfl hm)))

theorem State.failAttempt_frame {m : Nat} (hm : Within 13052674056 m) {s : State} {a1 : PortNo} {a2 : ChanNo} {a3 : Bool} {a4 :
  ℕ} :
    Fr m s (State.failAttempt s a1 a2 a3 a4) := by
  delta State.failAttempt
  exact (Fr.ite ((Fr.trans ((Fr.ite ((Fr.trans (Fr.refl _ _) (State.setChan_frame (Within.of rfl hm)))) ((Fr.trans (Fr.refl _ _)
    (State.setChan_frame (Within.of rfl hm)))))) (State.failChan_frame (Within.of rfl hm)))) ((Fr.trans ((Fr.ite ((Fr.trans
    (Fr.refl _ _) (State.setChan_frame (Within.of rfl hm)))) ((Fr.trans (Fr.refl _ _) (State.setChan_frame (Within.of rfl
    hm)))))) (State.retrain_frame (Within.of rfl hm)))))

theorem State.chanLocked_frame {m : Nat} (hm : Within 13052674056 m) {s : State} {a1 : PortNo} {a2 : ChanNo} {a3 : Bool} {a4 :
  BitVec 8} :
    Fr m s (State.chanLocked s a1 a2 a3 a4) := by
  delta State.chanLocked
  exact (Fr.ite ((Fr.ite ((Fr.ite ((Fr.trans ((Fr.trans ((Fr.trans (Fr.refl _ _) (State.setLtRing_frame (Within.of rfl hm))))
    (State.setChan_frame (Within.of rfl hm)))) (State.event_frame (Within.of rfl hm)))) ((Fr.trans ((Fr.trans ((Fr.trans (Fr.refl
    _ _) (State.setLtRing_frame (Within.of rfl hm)))) (State.setChan_frame (Within.of rfl hm)))) (State.tellPeer_frame (Within.of
    rfl hm)))))) (Fr.refl _ _))) ((Fr.ite ((Fr.trans ((Fr.trans (Fr.refl _ _) (State.setLtRing_frame (Within.of rfl hm))))
    (State.setChan_frame (Within.of rfl hm)))) (Fr.refl _ _))))

theorem execChannelLocked_frame {m : Nat} (hm : Within 13052674056 m) {a0 : PortNo} {a1 : ChanNo} {a2 : Bool} {a3 : BitVec 8} {s
  : State} :
    OutFr m s (execChannelLocked a0 a1 a2 a3 s) := by
  delta execChannelLocked
  exact OutFr.next ((Fr.trans (Fr.refl _ _) (State.chanLocked_frame (Within.of rfl hm))))

theorem State.goUp_frame {m : Nat} (hm : Within 33554440 m) {s : State} {a1 : PortNo} {a2 : ChanNo} {a3 : Bool} :
    Fr m s (State.goUp s a1 a2 a3) := by
  delta State.goUp
  exact (Fr.ite ((Fr.trans (Fr.refl _ _) (State.setChan_frame (Within.of rfl hm)))) ((by (try dsimp only); split; exacts
    [(Fr.trans ((Fr.trans (Fr.refl _ _) (State.setChan_frame (Within.of rfl hm)))) (State.pump_frame (Within.of rfl hm))),
    (Fr.trans (Fr.refl _ _) (State.setChan_frame (Within.of rfl hm)))])))

theorem State.shortCheck_frame {m : Nat} (hm : Within 13052674056 m) {s : State} {a1 : PortNo} {a2 : ChanNo} {a3 : Bool} {a4 : ℕ}
  :
    Fr m s (State.shortCheck s a1 a2 a3 a4) := by
  delta State.shortCheck
  exact (Fr.ite (Fr.refl _ _) ((Fr.ite ((Fr.trans (Fr.refl _ _) (State.goUp_frame (Within.of rfl hm)))) ((Fr.trans (Fr.refl _ _)
    (State.failAttempt_frame (Within.of rfl hm)))))))

theorem execShortCheckDone_frame {m : Nat} (hm : Within 13052674056 m) {a0 : PortNo} {a1 : ChanNo} {a2 : Bool} {a3 : BitVec 32}
  {s : State} :
    OutFr m s (execShortCheckDone a0 a1 a2 a3 s) := by
  delta execShortCheckDone
  exact OutFr.next ((Fr.trans (Fr.refl _ _) (State.shortCheck_frame (Within.of rfl hm))))

theorem State.window10_frame {m : Nat} (hm : Within 13052674056 m) {s : State} {a1 : PortNo} {a2 : ChanNo} {a3 : ℕ} {a4 : ℕ} :
    Fr m s (State.window10 s a1 a2 a3 a4) := by
  delta State.window10
  exact (Fr.ite ((Fr.ite ((Fr.trans ((Fr.trans (Fr.refl _ _) (State.setChan_frame (Within.of rfl hm)))) (State.retrain_frame
    (Within.of rfl hm)))) ((Fr.trans (Fr.refl _ _) (State.setChan_frame (Within.of rfl hm)))))) (Fr.refl _ _))

theorem execBerWindow10ms_frame {m : Nat} (hm : Within 13052674056 m) {a0 : PortNo} {a1 : ChanNo} {a2 : BitVec 64} {a3 : BitVec
  64} {s : State} :
    OutFr m s (execBerWindow10ms a0 a1 a2 a3 s) := by
  delta execBerWindow10ms
  exact OutFr.next ((Fr.trans (Fr.refl _ _) (State.window10_frame (Within.of rfl hm))))

theorem State.window1s_frame {m : Nat} (hm : Within 13052674060 m) {s : State} {a1 : PortNo} {a2 : ChanNo} {a3 : ℕ} {a4 : ℕ} {a5
  : BitVec 16} {a6 : BitVec 16} :
    Fr m s (State.window1s s a1 a2 a3 a4 a5 a6) := by
  delta State.window1s
  exact (Fr.ite ((Fr.ite ((Fr.trans ((Fr.trans ((Fr.trans (Fr.refl _ _) (State.setChan_frame (Within.of rfl hm))))
    (State.draw_frame (Within.of rfl hm)))) (State.event_frame (Within.of rfl hm)))) ((Fr.trans ((Fr.trans (Fr.refl _ _)
    (State.setChan_frame (Within.of rfl hm)))) (State.draw_frame (Within.of rfl hm)))))) (Fr.refl _ _))

theorem execBerWindow1s_frame {m : Nat} (hm : Within 13052674060 m) {a0 : PortNo} {a1 : ChanNo} {a2 : BitVec 64} {a3 : BitVec 64}
  {a4 : BitVec 16} {a5 : BitVec 16} {s : State} :
    OutFr m s (execBerWindow1s a0 a1 a2 a3 a4 a5 s) := by
  delta execBerWindow1s
  exact OutFr.next ((Fr.trans (Fr.refl _ _) (State.window1s_frame (Within.of rfl hm))))

theorem State.burst_frame {m : Nat} (hm : Within 13052674056 m) {s : State} {a1 : PortNo} {a2 : ChanNo} {a3 : ℕ} :
    Fr m s (State.burst s a1 a2 a3) := by
  delta State.burst
  exact (Fr.ite ((Fr.ite ((Fr.trans ((Fr.trans (Fr.refl _ _) (State.setChan_frame (Within.of rfl hm)))) (State.retrain_frame
    (Within.of rfl hm)))) ((Fr.trans (Fr.refl _ _) (State.setChan_frame (Within.of rfl hm)))))) (Fr.refl _ _))

theorem execUncorrectableBurst_frame {m : Nat} (hm : Within 13052674056 m) {a0 : PortNo} {a1 : ChanNo} {a2 : BitVec 16} {s :
  State} :
    OutFr m s (execUncorrectableBurst a0 a1 a2 s) := by
  delta execUncorrectableBurst
  exact OutFr.next ((Fr.trans (Fr.refl _ _) (State.burst_frame (Within.of rfl hm))))

theorem State.alignLost_frame {m : Nat} (hm : Within 13052674056 m) {s : State} {a1 : PortNo} {a2 : ChanNo} :
    Fr m s (State.alignLost s a1 a2) := by
  delta State.alignLost
  exact (Fr.ite ((Fr.trans (Fr.refl _ _) (State.retrain_frame (Within.of rfl hm)))) (Fr.refl _ _))

theorem execFecAlignmentLoss_frame {m : Nat} (hm : Within 13052674056 m) {a0 : PortNo} {a1 : ChanNo} {s : State} :
    OutFr m s (execFecAlignmentLoss a0 a1 s) := by
  delta execFecAlignmentLoss
  exact OutFr.next ((Fr.trans (Fr.refl _ _) (State.alignLost_frame (Within.of rfl hm))))

theorem State.readyBits_frame {m : Nat} (hm : Within 13052674056 m) {s : State} {a1 : PortNo} {a2 : ChanNo} :
    Fr m s (State.readyBits s a1 a2) := by
  delta State.readyBits
  exact (Fr.ite ((Fr.ite ((Fr.trans (Fr.refl _ _) (State.setChan_frame (Within.of rfl hm)))) ((Fr.trans ((Fr.trans ((Fr.trans
    (Fr.refl _ _) (State.setChan_frame (Within.of rfl hm)))) (State.event_frame (Within.of rfl hm)))) (State.failAttempt_frame
    (Within.of rfl hm)))))) (Fr.refl _ _))

theorem execReadyCriterionBits_frame {m : Nat} (hm : Within 13052674056 m) {a0 : PortNo} {a1 : ChanNo} {s : State} :
    OutFr m s (execReadyCriterionBits a0 a1 s) := by
  delta execReadyCriterionBits
  exact OutFr.next ((Fr.trans (Fr.refl _ _) (State.readyBits_frame (Within.of rfl hm))))

theorem State.retryFailed_frame {m : Nat} (hm : Within 33554432 m) {s : State} {a1 : PortNo} {a2 : ChanNo} {a3 : Bool} :
    Fr m s (State.retryFailed s a1 a2 a3) := by
  delta State.retryFailed
  exact (Fr.ite (Fr.refl _ _) ((Fr.ite ((Fr.ite ((Fr.trans ((Fr.trans (Fr.refl _ _) (State.setLtRing_frame (Within.of rfl hm))))
    (State.setChan_frame (Within.of rfl hm)))) (Fr.refl _ _))) ((Fr.ite ((Fr.trans ((Fr.trans (Fr.refl _ _)
    (State.setLtRing_frame (Within.of rfl hm)))) (State.setChan_frame (Within.of rfl hm)))) (Fr.refl _ _))))))

theorem execChannelFailedRetry_frame {m : Nat} (hm : Within 33554432 m) {a0 : PortNo} {a1 : ChanNo} {a2 : Bool} {s : State} :
    OutFr m s (execChannelFailedRetry a0 a1 a2 s) := by
  delta execChannelFailedRetry
  exact OutFr.next ((Fr.trans (Fr.refl _ _) (State.retryFailed_frame (Within.of rfl hm))))

theorem State.refuseCarrier_frame {m : Nat} (hm : Within 13052674056 m) {s : State} {a1 : PortNo} {a2 : ChanNo} {a3 : BitVec 8} :
    Fr m s (State.refuseCarrier s a1 a2 a3) := by
  delta State.refuseCarrier
  exact (Fr.ite ((Fr.trans ((Fr.trans (Fr.refl _ _) (State.setChan_frame (Within.of rfl hm)))) (State.event_frame (Within.of rfl
    hm)))) (Fr.refl _ _))

theorem execCarrierRefused_frame {m : Nat} (hm : Within 13052674056 m) {a0 : PortNo} {a1 : ChanNo} {a2 : BitVec 8} {s : State} :
    OutFr m s (execCarrierRefused a0 a1 a2 s) := by
  delta execCarrierRefused
  exact OutFr.next ((Fr.trans (Fr.refl _ _) (State.refuseCarrier_frame (Within.of rfl hm))))

theorem State.readmitCarrier_frame {m : Nat} (hm : Within 33554432 m) {s : State} {a1 : PortNo} {a2 : ChanNo} {a3 : BitVec 8} :
    Fr m s (State.readmitCarrier s a1 a2 a3) := by
  delta State.readmitCarrier
  exact (Fr.ite ((Fr.trans ((Fr.trans (Fr.refl _ _) (State.setLtRing_frame (Within.of rfl hm)))) (State.setChan_frame (Within.of
    rfl hm)))) (Fr.refl _ _))

theorem execCarrierReadmitted_frame {m : Nat} (hm : Within 33554432 m) {a0 : PortNo} {a1 : ChanNo} {a2 : BitVec 8} {s : State} :
    OutFr m s (execCarrierReadmitted a0 a1 a2 s) := by
  delta execCarrierReadmitted
  exact OutFr.next ((Fr.trans (Fr.refl _ _) (State.readmitCarrier_frame (Within.of rfl hm))))

theorem State.peerTold_frame {m : Nat} (hm : Within 33554432 m) {s : State} {a1 : PortNo} {a2 : ChanNo} {a3 : LinkNote} :
    Fr m s (State.peerTold s a1 a2 a3) := by
  delta State.peerTold
  exact (by (try dsimp only); split; exacts [(Fr.ite ((Fr.trans ((Fr.trans (Fr.refl _ _) (State.setChan_frame (Within.of rfl
    hm)))) (State.setLtRing_frame (Within.of rfl hm)))) ((Fr.trans (Fr.refl _ _) (State.setChan_frame (Within.of rfl hm))))),
    (Fr.trans (Fr.refl _ _) (State.setChan_frame (Within.of rfl hm))), (Fr.trans (Fr.refl _ _) (State.setChan_frame (Within.of
    rfl hm)))])

theorem State.acked_frame {m : Nat} (hm : Within 184549388 m) {s : State} {a1 : PortNo} {a2 : ChanNo} {a3 : BitVec 12} :
    Fr m s (State.acked s a1 a2 a3) := by
  delta State.acked
  exact (Fr.trans ((Fr.trans (Fr.refl _ _) (State.setChan_frame (Within.of rfl hm)))) (State.releaseIdle_frame (Within.of rfl
    hm)))

theorem State.credited_frame {m : Nat} (hm : Within 33554432 m) {s : State} {a1 : PortNo} {a2 : Bool} {a3 : ℕ} :
    Fr m s (State.credited s a1 a2 a3) := by
  delta State.credited
  exact (by (try dsimp only); split; exacts [(Fr.refl _ _), (Fr.trans (Fr.refl _ _) (State.setFport_frame (Within.of rfl hm)))])

theorem State.pumpLt_frame {m : Nat} (hm : Within 33554440 m) {s : State} {a1 : PortNo} :
    Fr m s (State.pumpLt s a1) := by
  delta State.pumpLt
  exact (by (try dsimp only); split; exacts [(Fr.trans (Fr.refl _ _) (State.pump_frame (Within.of rfl hm))), (Fr.refl _ _)])

theorem State.discard_frame {m : Nat} (hm : Within 33554440 m) {s : State} {a1 : PortNo} {a2 : ChanNo} :
    Fr m s (State.discard s a1 a2) := by
  delta State.discard
  exact (Fr.trans ((Fr.trans (Fr.refl _ _) (State.setChan_frame (Within.of rfl hm)))) (State.sendNak_frame (Within.of rfl hm)))

theorem State.freeUnit_frame {m : Nat} (hm : Within 33554432 m) {s : State} {a1 : PortNo} {a2 : Bool} :
    Fr m s (State.freeUnit s a1 a2) := by
  delta State.freeUnit
  exact (Fr.trans (Fr.refl _ _) (State.setFport_frame (Within.of rfl hm)))

theorem State.feed_frame {m : Nat} (hm : Within 33554440 m) {s : State} {a1 : BitVec 6 × Bool} {a2 : List Byte} {a3 : Bool} :
    Fr m s (State.feed s a1 a2 a3) := by
  delta State.feed
  exact (Fr.trans ((Fr.set_fab (Within.of rfl hm) (Fr.refl _ _))) (Fr.foldl (fun _ _ => (Fr.trans (Fr.refl _ _) (State.pump_frame
    (Within.of rfl hm))))))

theorem State.deliver_frame {m : Nat} (hm : Within 33554440 m) {s : State} {a1 : BitVec 6} {a2 : PortNo} {a3 : Bool} {a4 : List
  Byte} :
    Fr m s (State.deliver s a1 a2 a3 a4) := by
  delta State.deliver
  exact (by (try dsimp only); split; exacts [(Fr.ite ((Fr.trans (Fr.refl _ _) (State.freeUnit_frame (Within.of rfl hm))))
    ((Fr.ite ((Fr.trans ((Fr.trans (Fr.refl _ _) (State.freeUnit_frame (Within.of rfl hm)))) (State.setLink_frame (Within.of rfl
    hm)))) ((Fr.trans ((Fr.trans ((Fr.trans (Fr.refl _ _) (State.freeUnit_frame (Within.of rfl hm)))) (State.setLink_frame
    (Within.of rfl hm)))) (State.route_frame (Within.of rfl hm))))))), (Fr.trans ((Fr.trans (Fr.refl _ _) (State.freeUnit_frame
    (Within.of rfl hm)))) (State.setLink_frame (Within.of rfl hm))), (Fr.trans ((Fr.trans ((Fr.trans (Fr.refl _ _)
    (State.freeUnit_frame (Within.of rfl hm)))) (State.setLink_frame (Within.of rfl hm)))) (State.feed_frame (Within.of rfl
    hm)))])

theorem State.deliverN_frame {m : Nat} (hm : Within 33554440 m) {l : BitVec 6} {b : Bool} {n : Nat} {s : State} :
    Fr m s (State.deliverN l b n s) := by
  induction n generalizing s with
  | zero => exact Fr.refl _ _
  | succ n ih =>
    unfold State.deliverN
    dsimp only
    split
    · exact Fr.refl _ _
    · exact ((State.setLink_frame (Within.of rfl hm)).trans (State.deliver_frame (Within.of rfl hm))).trans ih

theorem State.takeFlit_frame {m : Nat} (hm : Within 33554440 m) {s : State} {a1 : PortNo} {a2 : BitVec 6} {a3 : FlitF} :
    Fr m s (State.takeFlit s a1 a2 a3) := by
  delta State.takeFlit
  exact (Fr.ite ((Fr.trans ((Fr.trans (Fr.refl _ _) (State.setFport_frame (Within.of rfl hm)))) (State.freeUnit_frame (Within.of
    rfl hm)))) ((Fr.trans ((Fr.trans ((Fr.trans (Fr.refl _ _) (State.setFport_frame (Within.of rfl hm)))) (State.setLink_frame
    (Within.of rfl hm)))) (State.deliverN_frame (Within.of rfl hm)))))

theorem State.dataFlit_frame {m : Nat} (hm : Within 33554440 m) {s : State} {a1 : PortNo} {a2 : ChanNo} {a3 : FlitF} :
    Fr m s (State.dataFlit s a1 a2 a3) := by
  delta State.dataFlit
  exact (Fr.ite ((Fr.ite (Fr.refl _ _) ((Fr.trans (Fr.refl _ _) (State.discard_frame (Within.of rfl hm))))))
    ((by (try dsimp only); split; exacts [(Fr.trans (Fr.refl _ _) (State.setChan_frame (Within.of rfl hm))),
    (by (try dsimp only); split; exacts [(Fr.trans ((Fr.trans ((Fr.trans (Fr.refl _ _) (State.setChan_frame (Within.of rfl hm))))
    (State.takeFlit_frame (Within.of rfl hm)))) (State.sendIdle_frame (Within.of rfl hm))), (Fr.trans (Fr.refl _ _)
    (State.setChan_frame (Within.of rfl hm)))])])))

theorem State.resendFrom_frame {m : Nat} (hm : Within 13052674056 m) {s : State} {a1 : PortNo} {a2 : ChanNo} {a3 : BitVec 12} :
    Fr m s (State.resendFrom s a1 a2 a3) := by
  delta State.resendFrom
  exact (Fr.ite ((Fr.trans ((Fr.trans (Fr.refl _ _) (State.setChan_frame (Within.of rfl hm)))) (State.retrain_frame (Within.of
    rfl hm)))) ((Fr.trans ((Fr.trans ((Fr.trans (Fr.refl _ _) (State.setChan_frame (Within.of rfl hm)))) (State.setChan_frame
    (Within.of rfl hm)))) (Fr.foldl (fun _ _ => (Fr.trans (Fr.refl _ _) (State.putFlit_frame (Within.of rfl hm))))))))

theorem State.flitIn_frame {m : Nat} (hm : Within 33554440 m) {s : State} {a1 : PortNo} {a2 : ChanNo} {a3 : ℕ} {a4 : Flit} {a5 :
  State → FlitF → State} (h5 : ∀ v0 v1, Fr m v0 (a5 v0 v1)) :
    Fr m s (State.flitIn s a1 a2 a3 a4 a5) := by
  delta State.flitIn
  exact (Fr.ite (Fr.refl _ _) ((by (try dsimp only); split; exacts [(Fr.trans (Fr.refl _ _) (State.discard_frame (Within.of rfl
    hm))), (Fr.ite (Fr.refl _ _) ((Fr.trans ((Fr.trans ((Fr.trans (Fr.refl _ _) (State.credited_frame (Within.of rfl hm)))) (h5 _
    _))) (State.pumpLt_frame (Within.of rfl hm)))))])))

theorem State.rxBoundary_frame {m : Nat} (hm : Within 33554432 m) {s : State} {a1 : PortNo} :
    Fr m s (State.rxBoundary s a1) := by
  delta State.rxBoundary
  exact (by (try dsimp only); split; exacts [(Fr.trans (Fr.refl _ _) (State.setLt_frame (Within.of rfl hm))), (Fr.refl _ _)])

theorem execFlitIdle_frame {m : Nat} (hm : Within 184549388 m) {a0 : PortNo} {a1 : ChanNo} {a2 : Flit} {s : State} :
    OutFr m s (execFlitIdle a0 a1 a2 s) := by
  delta execFlitIdle
  exact OutFr.next ((Fr.trans (Fr.refl _ _) (State.flitIn_frame (Within.of rfl hm) (fun _ _ => (Fr.trans ((Fr.trans (Fr.refl _ _)
    (State.rxBoundary_frame (Within.of rfl hm)))) (State.acked_frame (Within.of rfl hm)))))))

theorem execFlitData_frame {m : Nat} (hm : Within 184549388 m) {a0 : PortNo} {a1 : ChanNo} {a2 : Flit} {s : State} :
    OutFr m s (execFlitData a0 a1 a2 s) := by
  delta execFlitData
  exact OutFr.next ((Fr.trans (Fr.refl _ _) (State.flitIn_frame (Within.of rfl hm) (fun _ _ => (Fr.trans ((Fr.trans (Fr.refl _ _)
    (State.acked_frame (Within.of rfl hm)))) (State.dataFlit_frame (Within.of rfl hm)))))))

theorem execFlitNak_frame {m : Nat} (hm : Within 13052674056 m) {a0 : PortNo} {a1 : ChanNo} {a2 : Flit} {s : State} :
    OutFr m s (execFlitNak a0 a1 a2 s) := by
  delta execFlitNak
  exact OutFr.next ((Fr.trans (Fr.refl _ _) (State.flitIn_frame (Within.of rfl hm) (fun _ _ => (Fr.trans (Fr.refl _ _)
    (State.resendFrom_frame (Within.of rfl hm)))))))

theorem State.setPort_frame {m : Nat} (hm : Within 13069451276 m) {s : State} {a1 : PortNo} {a2 : FState} :
    Fr m s (State.setPort s a1 a2) := by
  delta State.setPort
  exact (Fr.ite (Fr.refl _ _) ((by (try dsimp only); split; exacts [(Fr.ite ((Fr.trans ((by (try dsimp only); split; exacts
    [(Fr.ite ((Fr.trans ((Fr.trans ((Fr.trans (Fr.refl _ _) (State.setFport_frame (Within.of rfl hm)))) (State.event_frame
    (Within.of rfl hm)))) (State.unlightAll_frame (Within.of rfl hm)))) ((Fr.trans ((Fr.trans (Fr.refl _ _) (State.setFport_frame
    (Within.of rfl hm)))) (State.event_frame (Within.of rfl hm))))), (Fr.trans ((Fr.trans (Fr.refl _ _) (State.setFport_frame
    (Within.of rfl hm)))) (State.event_frame (Within.of rfl hm)))])) (State.minOf_frame (Within.of rfl hm))))
    ((by (try dsimp only); split; exacts [(Fr.ite ((Fr.trans ((Fr.trans ((Fr.trans (Fr.refl _ _) (State.setFport_frame (Within.of
    rfl hm)))) (State.event_frame (Within.of rfl hm)))) (State.unlightAll_frame (Within.of rfl hm)))) ((Fr.trans ((Fr.trans
    (Fr.refl _ _) (State.setFport_frame (Within.of rfl hm)))) (State.event_frame (Within.of rfl hm))))), (Fr.trans ((Fr.trans
    (Fr.refl _ _) (State.setFport_frame (Within.of rfl hm)))) (State.event_frame (Within.of rfl hm)))]))),
    (by (try dsimp only); split; exacts [(Fr.ite ((Fr.trans ((Fr.trans ((Fr.trans (Fr.refl _ _) (State.setFport_frame (Within.of
    rfl hm)))) (State.event_frame (Within.of rfl hm)))) (State.unlightAll_frame (Within.of rfl hm)))) ((Fr.trans ((Fr.trans
    (Fr.refl _ _) (State.setFport_frame (Within.of rfl hm)))) (State.event_frame (Within.of rfl hm))))), (Fr.trans ((Fr.trans
    (Fr.refl _ _) (State.setFport_frame (Within.of rfl hm)))) (State.event_frame (Within.of rfl hm)))])])))

theorem State.setSl_frame {m : Nat} (hm : Within 13019119624 m) {s : State} {a1 : PortNo} {a2 : BitVec 2} :
    Fr m s (State.setSl s a1 a2) := by
  delta State.setSl
  exact (Fr.ite ((Fr.trans ((Fr.trans (Fr.refl _ _) (State.setSlPort_frame (Within.of rfl hm)))) (State.event_frame (Within.of
    rfl hm)))) ((Fr.trans (Fr.refl _ _) (State.setSlPort_frame (Within.of rfl hm)))))

theorem State.dark_frame {m : Nat} (hm : Within 13069451276 m) {s : State} {a1 : PortNo} :
    Fr m s (State.dark s a1) := by
  delta State.dark
  exact (Fr.ite ((Fr.trans ((Fr.trans ((Fr.trans ((Fr.trans ((Fr.trans (Fr.refl _ _) (State.setFport_frame (Within.of rfl hm))))
    (State.setPort_frame (Within.of rfl hm)))) (State.setSl_frame (Within.of rfl hm)))) (State.outPower_frame (Within.of rfl
    hm)))) (State.event_frame (Within.of rfl hm)))) (Fr.refl _ _))

theorem State.darkRelease_frame {m : Nat} (hm : Within 184549388 m) {s : State} {a1 : PortNo} :
    Fr m s (State.darkRelease s a1) := by
  delta State.darkRelease
  exact (by (try dsimp only); split; exacts [(Fr.ite ((Fr.trans (Fr.refl _ _) (State.unlightAll_frame (Within.of rfl hm))))
    (Fr.refl _ _)), (Fr.refl _ _)])

theorem execAlsLineRelease_frame {m : Nat} (hm : Within 184549388 m) {a0 : PortNo} {s : State} :
    OutFr m s (execAlsLineRelease a0 s) := by
  delta execAlsLineRelease
  exact OutFr.next ((Fr.trans (Fr.refl _ _) (State.darkRelease_frame (Within.of rfl hm))))

theorem State.startProbe_frame {m : Nat} (hm : Within 13052674060 m) {s : State} {a1 : PortNo} :
    Fr m s (State.startProbe s a1) := by
  delta State.startProbe
  exact (Fr.ite ((Fr.trans ((Fr.trans ((Fr.trans (Fr.refl _ _) (State.setFport_frame (Within.of rfl hm)))) (State.setSl_frame
    (Within.of rfl hm)))) (State.outPower_frame (Within.of rfl hm)))) (Fr.refl _ _))

theorem execAlsProbeTimer_frame {m : Nat} (hm : Within 13052674060 m) {a0 : PortNo} {s : State} :
    OutFr m s (execAlsProbeTimer a0 s) := by
  delta execAlsProbeTimer
  exact OutFr.next ((Fr.trans (Fr.refl _ _) (State.startProbe_frame (Within.of rfl hm))))

theorem State.probeNow_frame {m : Nat} (hm : Within 13052674060 m) {s : State} {a1 : Path} {a2 : PortNo} :
    Fr m s (State.probeNow s a1 a2) := by
  delta State.probeNow
  exact (Fr.ite ((Fr.trans ((Fr.trans (Fr.refl _ _) (State.setFport_frame (Within.of rfl hm)))) (State.startProbe_frame
    (Within.of rfl hm)))) (Fr.refl _ _))

theorem execProbe_frame {m : Nat} (hm : Within 13052674060 m) {a0 : Path} {a1 : PortNo} {s : State} :
    OutFr m s (execProbe a0 a1 s) := by
  delta execProbe
  exact OutFr.next ((Fr.trans (Fr.refl _ _) (State.probeNow_frame (Within.of rfl hm))))

theorem State.endProbe_frame {m : Nat} (hm : Within 13052674060 m) {s : State} {a1 : PortNo} :
    Fr m s (State.endProbe s a1) := by
  delta State.endProbe
  exact (Fr.ite ((Fr.trans ((Fr.trans ((Fr.trans (Fr.refl _ _) (State.setFport_frame (Within.of rfl hm)))) (State.setSl_frame
    (Within.of rfl hm)))) (State.outPower_frame (Within.of rfl hm)))) (Fr.refl _ _))

theorem execProbeEnd_frame {m : Nat} (hm : Within 13052674060 m) {a0 : PortNo} {s : State} :
    OutFr m s (execProbeEnd a0 s) := by
  delta execProbeEnd
  exact OutFr.next ((Fr.trans (Fr.refl _ _) (State.endProbe_frame (Within.of rfl hm))))

theorem State.lightBack_frame {m : Nat} (hm : Within 13069451276 m) {s : State} {a1 : PortNo} {a2 : BitVec 16} :
    Fr m s (State.lightBack s a1 a2) := by
  delta State.lightBack
  exact (Fr.ite ((Fr.trans ((Fr.trans ((Fr.trans ((Fr.trans ((Fr.trans (Fr.refl _ _) (State.setFport_frame (Within.of rfl hm))))
    (State.event_frame (Within.of rfl hm)))) (State.setPort_frame (Within.of rfl hm)))) (State.setSl_frame (Within.of rfl hm))))
    (State.outPower_frame (Within.of rfl hm)))) (Fr.refl _ _))

theorem execAlsRestored_frame {m : Nat} (hm : Within 13069451276 m) {a0 : PortNo} {a1 : BitVec 16} {s : State} :
    OutFr m s (execAlsRestored a0 a1 s) := by
  delta execAlsRestored
  exact OutFr.next ((Fr.trans (Fr.refl _ _) (State.lightBack_frame (Within.of rfl hm))))

theorem State.combLost_frame {m : Nat} (hm : Within 13069451272 m) {s : State} {a1 : ℕ} :
    Fr m s (State.combLost s a1) := by
  delta State.combLost
  exact (Fr.trans ((Fr.trans ((Fr.trans (Fr.refl _ _) (State.setComb_frame (Within.of rfl hm)))) (Fr.foldl (fun _ _ =>
    (Fr.set_fab (Within.of rfl hm) ((Fr.trans (Fr.refl _ _) (State.dropChan_frame (Within.of rfl hm))))))))) (State.event_frame
    (Within.of rfl hm)))

theorem State.combFails_frame {m : Nat} (hm : Within 13069451272 m) {s : State} {a1 : ℕ} :
    Fr m s (State.combFails s a1) := by
  delta State.combFails
  exact (Fr.ite ((by (try dsimp only); split; exacts [(Fr.trans ((Fr.trans ((Fr.trans ((Fr.ite (Fr.refl _ _) ((Fr.trans (Fr.refl
    _ _) (State.setComb_frame (Within.of rfl hm)))))) (State.setComb_frame (Within.of rfl hm)))) (Fr.foldl (fun _ _ => (Fr.ite
    ((Fr.trans (Fr.refl _ _) (State.retrain_frame (Within.of rfl hm)))) (Fr.refl _ _)))))) (State.event_frame (Within.of rfl
    hm))), (Fr.trans ((Fr.ite (Fr.refl _ _) ((Fr.trans (Fr.refl _ _) (State.setComb_frame (Within.of rfl hm))))))
    (State.combLost_frame (Within.of rfl hm)))])) ((Fr.ite ((Fr.trans ((Fr.ite (Fr.refl _ _) ((Fr.trans (Fr.refl _ _)
    (State.setComb_frame (Within.of rfl hm)))))) (Fr.foldl (fun _ _ => (Fr.trans (Fr.refl _ _) (State.combLost_frame (Within.of
    rfl hm))))))) ((Fr.ite (Fr.refl _ _) ((Fr.trans (Fr.refl _ _) (State.setComb_frame (Within.of rfl hm)))))))))

theorem execCombFail_frame {m : Nat} (hm : Within 13069451272 m) {a0 : Fin 56} {s : State} :
    OutFr m s (execCombFail a0 s) := by
  delta execCombFail
  exact OutFr.next ((Fr.trans (Fr.refl _ _) (State.combFails_frame (Within.of rfl hm))))

theorem State.spareLocked_frame {m : Nat} (hm : Within 50331648 m) {s : State} {a1 : ℕ} :
    Fr m s (State.spareLocked s a1) := by
  delta State.spareLocked
  exact (by (try dsimp only); split; exacts [(Fr.refl _ _), (Fr.trans ((Fr.trans ((Fr.trans (Fr.refl _ _) (Fr.foldl (fun _ _ =>
    (Fr.trans (Fr.refl _ _) (State.setComb_frame (Within.of rfl hm))))))) (State.setComb_frame (Within.of rfl hm)))) (Fr.foldl
    (fun _ _ => (Fr.trans (Fr.refl _ _) (State.setChan_frame (Within.of rfl hm))))))])

theorem execCombSpareLocked_frame {m : Nat} (hm : Within 50331648 m) {a0 : BitVec 2} {s : State} :
    OutFr m s (execCombSpareLocked a0 s) := by
  delta execCombSpareLocked
  exact OutFr.next ((Fr.trans (Fr.refl _ _) (State.spareLocked_frame (Within.of rfl hm))))

theorem State.ltRingTimeout_frame {m : Nat} (hm : Within 13052674056 m) {s : State} {a1 : PortNo} {a2 : Bool} {a3 : ChanNo} :
    Fr m s (State.ltRingTimeout s a1 a2 a3) := by
  delta State.ltRingTimeout
  exact (Fr.ite (Fr.refl _ _) ((Fr.ite ((Fr.trans ((Fr.trans ((Fr.trans (Fr.refl _ _) (State.setLtRing_frame (Within.of rfl
    hm)))) (State.event_frame (Within.of rfl hm)))) (State.failChan_frame (Within.of rfl hm)))) ((Fr.trans (Fr.refl _ _)
    (State.setLtRing_frame (Within.of rfl hm)))))))

theorem execRingLockTimeout_frame {m : Nat} (hm : Within 13600554828 m) {a0 : RingId} {s : State} :
    OutFr m s (execRingLockTimeout a0 s) := by
  delta execRingLockTimeout
  exact OutFr.next ((by (try dsimp only); split; exacts [(Fr.trans (Fr.refl _ _) (State.onTray_frame (Within.of rfl hm) (fun _ _
    => (Fr.trans (Fr.refl _ _) (State.trayRingTimeout_frame (Within.of rfl hm)))))), (Fr.trans (Fr.refl _ _)
    (State.ltRingTimeout_frame (Within.of rfl hm))), (Fr.trans (Fr.refl _ _) (State.ltRingTimeout_frame (Within.of rfl hm)))]))

theorem State.ltRingLocked_frame {m : Nat} (hm : Within 33554432 m) {s : State} {a1 : PortNo} {a2 : Bool} {a3 : ChanNo} {a4 :
  BitVec 12} {a5 : BitVec 10} :
    Fr m s (State.ltRingLocked s a1 a2 a3 a4 a5) := by
  delta State.ltRingLocked
  exact (Fr.ite ((Fr.trans (Fr.refl _ _) (State.setLtRing_frame (Within.of rfl hm)))) (Fr.refl _ _))

theorem execRingLocked_frame {m : Nat} (hm : Within 33554688 m) {a0 : RingId} {a1 : BitVec 12} {a2 : BitVec 10} {s : State} :
    OutFr m s (execRingLocked a0 a1 a2 s) := by
  delta execRingLocked
  exact OutFr.next ((by (try dsimp only); split; exacts [(Fr.trans (Fr.refl _ _) (State.onTray_frame (Within.of rfl hm) (fun _ _
    => (Fr.trans (Fr.refl _ _) (State.trayRingLocked_frame (Within.of rfl hm)))))), (Fr.trans (Fr.refl _ _)
    (State.ltRingLocked_frame (Within.of rfl hm))), (Fr.trans (Fr.refl _ _) (State.ltRingLocked_frame (Within.of rfl hm)))]))

theorem State.ltCheckDue_frame {m : Nat} (hm : Within 33554432 m) {s : State} {a1 : PortNo} :
    Fr m s (State.ltCheckDue s a1) := by
  delta State.ltCheckDue
  exact (Fr.ite (Fr.refl _ _) ((Fr.trans (Fr.refl _ _) (State.setLt_frame (Within.of rfl hm)))))

theorem execTagCheckDue_frame {m : Nat} (hm : Within 33554688 m) {a0 : TagUnit} {s : State} :
    OutFr m s (execTagCheckDue a0 s) := by
  delta execTagCheckDue
  exact OutFr.next ((by (try dsimp only); split; exacts [(Fr.trans (Fr.refl _ _) (State.onTray_frame (Within.of rfl hm) (fun _ _
    => (Fr.trans (Fr.refl _ _) (State.trayCheckDue_frame (Within.of rfl hm)))))), (Fr.ite ((Fr.trans (Fr.refl _ _)
    (State.ltCheckDue_frame (Within.of rfl hm)))) (Fr.refl _ _))]))

theorem State.askAgain_frame {m : Nat} (hm : Within 33554440 m) {s : State} {a1 : PortNo} {a2 : ChanNo} :
    Fr m s (State.askAgain s a1 a2) := by
  delta State.askAgain
  exact (Fr.trans ((Fr.trans (Fr.refl _ _) (State.setChan_frame (Within.of rfl hm)))) (State.sendNak_frame (Within.of rfl hm)))

theorem State.ltBadTag_frame {m : Nat} (hm : Within 13069451272 m) {s : State} {a1 : PortNo} {a2 : Bool} {a3 : ChanNo} {a4 :
  TagFault} :
    Fr m s (State.ltBadTag s a1 a2 a3 a4) := by
  delta State.ltBadTag
  exact (Fr.ite ((Fr.trans ((Fr.ite ((Fr.trans ((Fr.set_light (Within.of rfl hm) ((Fr.trans (Fr.refl _ _) (State.setLtRing_frame
    (Within.of rfl hm)))))) (State.event_frame (Within.of rfl hm)))) ((Fr.trans (Fr.refl _ _) (State.setLtRing_frame (Within.of
    rfl hm)))))) (State.ltRingTimeout_frame (Within.of rfl hm)))) ((Fr.ite ((Fr.trans ((Fr.ite ((Fr.trans ((Fr.ite ((Fr.trans
    ((Fr.set_light (Within.of rfl hm) ((Fr.trans (Fr.refl _ _) (State.setLtRing_frame (Within.of rfl hm)))))) (State.event_frame
    (Within.of rfl hm)))) ((Fr.trans (Fr.refl _ _) (State.setLtRing_frame (Within.of rfl hm)))))) (State.askAgain_frame
    (Within.of rfl hm)))) ((Fr.ite ((Fr.trans ((Fr.set_light (Within.of rfl hm) ((Fr.trans (Fr.refl _ _) (State.setLtRing_frame
    (Within.of rfl hm)))))) (State.event_frame (Within.of rfl hm)))) ((Fr.trans (Fr.refl _ _) (State.setLtRing_frame (Within.of
    rfl hm)))))))) (State.retrain_frame (Within.of rfl hm)))) ((Fr.ite ((Fr.trans ((Fr.set_light (Within.of rfl hm) ((Fr.trans
    (Fr.refl _ _) (State.setLtRing_frame (Within.of rfl hm)))))) (State.event_frame (Within.of rfl hm)))) ((Fr.trans (Fr.refl _
    _) (State.setLtRing_frame (Within.of rfl hm)))))))))

theorem State.ltCheckDone_frame {m : Nat} (hm : Within 13069451272 m) {s : State} {a1 : PortNo} {a2 : List (BitVec 11 ×
  TagFault)} :
    Fr m s (State.ltCheckDone s a1 a2) := by
  delta State.ltCheckDone
  exact (Fr.ite (Fr.refl _ _) ((Fr.trans ((Fr.trans ((Fr.trans (Fr.refl _ _) (State.setLt_frame (Within.of rfl hm)))) (Fr.foldl
    (fun _ _ => (Fr.trans (Fr.refl _ _) (State.setChan_frame (Within.of rfl hm))))))) (Fr.foldl (fun _ _ => (Fr.trans (Fr.refl _
    _) (State.ltBadTag_frame (Within.of rfl hm))))))))

theorem State.ltDue_frame {m : Nat} (hm : Within 33554432 m) {s : State} {a1 : PortNo} :
    Fr m s (State.ltDue s a1) := by
  delta State.ltDue
  exact (Fr.ite ((Fr.trans (Fr.refl _ _) (State.setLt_frame (Within.of rfl hm)))) (Fr.refl _ _))

theorem State.ltSensor_frame {m : Nat} (hm : Within 33554432 m) {s : State} {a1 : PortNo} {a2 : ℤ} :
    Fr m s (State.ltSensor s a1 a2) := by
  delta State.ltSensor
  exact (Fr.trans ((Fr.trans (Fr.refl _ _) (State.setLt_frame (Within.of rfl hm)))) (State.ltDue_frame (Within.of rfl hm)))

theorem State.ltStage_frame {m : Nat} (hm : Within 33554432 m) {s : State} {a1 : PortNo} :
    Fr m s (State.ltStage s a1) := by
  delta State.ltStage
  exact (Fr.ite ((Fr.trans (Fr.refl _ _) (State.setLt_frame (Within.of rfl hm)))) (Fr.refl _ _))

theorem execSensorSample_frame {m : Nat} (hm : Within 13069451528 m) {a0 : TagUnit} {a1 : List (BitVec 16)} {s : State} :
    OutFr m s (execSensorSample a0 a1 s) := by
  delta execSensorSample
  exact OutFr.next ((by (try dsimp only); split; exacts [(Fr.trans (Fr.refl _ _) (State.onTray_frame (Within.of rfl hm) (fun _ _
    => (Fr.trans (Fr.refl _ _) (State.sensorIn_frame (Within.of rfl hm)))))), (Fr.trans (Fr.refl _ _) (State.ltSensor_frame
    (Within.of rfl hm)))]))

theorem execCalAgeDue_frame {m : Nat} (hm : Within 13052674312 m) {a0 : TagUnit} {s : State} :
    OutFr m s (execCalAgeDue a0 s) := by
  delta execCalAgeDue
  exact OutFr.next ((by (try dsimp only); split; exacts [(Fr.trans (Fr.refl _ _) (State.onTray_frame (Within.of rfl hm) (fun _ _
    => (Fr.trans (Fr.refl _ _) (State.calDue_frame (Within.of rfl hm)))))), (Fr.trans (Fr.refl _ _) (State.ltDue_frame (Within.of
    rfl hm)))]))

theorem execCalSetStage_frame {m : Nat} (hm : Within 13052674316 m) {a0 : TagUnit} {s : State} :
    OutFr m s (execCalSetStage a0 s) := by
  delta execCalSetStage
  exact OutFr.next ((by (try dsimp only); split; exacts [(Fr.trans (Fr.refl _ _) (State.onTray_frame (Within.of rfl hm) (fun _ _
    => (Fr.trans (Fr.refl _ _) (State.stageSet_frame (Within.of rfl hm)))))), (Fr.trans (Fr.refl _ _) (State.ltStage_frame
    (Within.of rfl hm)))]))

theorem execTagCheckDone_frame {m : Nat} (hm : Within 13617332044 m) {a0 : TagUnit} {a1 : List (BitVec 11 × TagFault)} {s :
  State} :
    OutFr m s (execTagCheckDone a0 a1 s) := by
  delta execTagCheckDone
  exact OutFr.next ((by (try dsimp only); split; exacts [(Fr.trans (Fr.refl _ _) (State.onTray_frame (Within.of rfl hm) (fun _ _
    => (Fr.trans (Fr.refl _ _) (State.trayCheckDone_frame (Within.of rfl hm)))))), (Fr.trans (Fr.refl _ _)
    (State.ltCheckDone_frame (Within.of rfl hm)))]))

end Sys2Proof.Machine
end

