-- ==== Sys2Proof/Laws/FrameSafelight.lean ====
section
/-! SUPPORT. The frame of every operation of Machine/Safelight: the parts of the state that it can change. -/

set_option Elab.async false
set_option linter.unusedTactic false

namespace Sys2Proof.Machine
open Sys2Proof.Safety

theorem State.judgeCopy_frame {m : Nat} (hm : Within 134217728 m) {s : State} {r : GovReceiver} {src : Node} {e : BitVec 16} {q :
  Word}
    {b : Bool} {l : List Byte} : Fr m s (s.judgeCopy r src e q b l).2 := Fr.set_gov (Within.of rfl hm) (Fr.refl _ _)

theorem State.refusePending_frame {m : Nat} (hm : Within 201326600 m) {s : State} {a1 : Code} :
    Fr m s (State.refusePending s a1) := by
  delta State.refusePending
  exact (by (try dsimp only); split; exacts [(Fr.refl _ _), (Fr.ite (Fr.refl _ _) ((Fr.ite ((Fr.set_steer (Within.of rfl hm)
    (Fr.refl _ _))) ((Fr.trans (Fr.refl _ _) (State.slSend_frame (Within.of rfl hm)))))))])

theorem State.stopHitless_frame {m : Nat} (hm : Within 2281701376 m) {s : State} :
    Fr m s (State.stopHitless s) := by
  delta State.stopHitless
  exact (Fr.ite ((Fr.set_gov_fw (Within.of rfl hm) (Fr.refl _ _))) (Fr.refl _ _))

theorem State.raiseSplit_frame {m : Nat} (hm : Within 15233712136 m) {s : State} {a1 : BitVec 4} {a2 : BitVec 4} {a3 : Node} {a4
  : Word} :
    Fr m s (State.raiseSplit s a1 a2 a3 a4) := by
  delta State.raiseSplit
  exact (Fr.ite ((Fr.ite ((Fr.set_gov (Within.of rfl hm) (Fr.refl _ _))) ((Fr.trans ((Fr.trans ((Fr.set_gov (Within.of rfl hm)
    (Fr.refl _ _))) (State.event_frame (Within.of rfl hm)))) (State.stopHitless_frame (Within.of rfl hm)))))) ((Fr.trans
    ((Fr.set_steer_gov (Within.of rfl hm) ((Fr.ite ((Fr.set_gov (Within.of rfl hm) (Fr.refl _ _))) ((Fr.trans ((Fr.trans
    ((Fr.set_gov (Within.of rfl hm) (Fr.refl _ _))) (State.event_frame (Within.of rfl hm)))) (State.stopHitless_frame (Within.of
    rfl hm)))))))) (State.refusePending_frame (Within.of rfl hm)))))

theorem State.copyIn_frame {m : Nat} (hm : Within 15233712136 m) {s : State} {a1 : GovMsg} :
    Fr m s (State.copyIn s a1) := by
  delta State.copyIn
  exact (by (try dsimp only); split; exacts [(Fr.trans (Fr.refl _ _) (State.judgeCopy_frame (Within.of rfl hm))), (Fr.set_gov
    (Within.of rfl hm) ((Fr.trans (Fr.refl _ _) (State.judgeCopy_frame (Within.of rfl hm))))), (Fr.trans ((Fr.trans (Fr.refl _ _)
    (State.judgeCopy_frame (Within.of rfl hm)))) (State.raiseSplit_frame (Within.of rfl hm))), (Fr.refl _ _), (Fr.refl _ _)])

theorem execGovCopy_frame {m : Nat} (hm : Within 15233712136 m) {a0 : GovMsg} {s : State} :
    OutFr m s (execGovCopy a0 s) := by
  delta execGovCopy
  exact OutFr.next ((Fr.trans (Fr.refl _ _) (State.copyIn_frame (Within.of rfl hm))))

theorem State.copyMissing_frame {m : Nat} (hm : Within 15233712136 m) {s : State} {a1 : GovReceiver} {a2 : Word} :
    Fr m s (State.copyMissing s a1 a2) := by
  delta State.copyMissing
  exact (Fr.ite ((Fr.trans (Fr.refl _ _) (State.raiseSplit_frame (Within.of rfl hm)))) (Fr.refl _ _))

theorem execGovSecondCopyTimeout_frame {m : Nat} (hm : Within 15233712136 m) {a0 : GovReceiver} {a1 : Word} {s : State} :
    OutFr m s (execGovSecondCopyTimeout a0 a1 s) := by
  delta execGovSecondCopyTimeout
  exact OutFr.next ((Fr.trans (Fr.refl _ _) (State.copyMissing_frame (Within.of rfl hm))))

theorem State.dropGovernor_frame {m : Nat} (hm : Within 13086228488 m) {s : State} {a1 : Bool} {a2 : BitVec 4} :
    Fr m s (State.dropGovernor s a1 a2) := by
  delta State.dropGovernor
  exact (Fr.trans ((Fr.set_steer_gov (Within.of rfl hm) (Fr.refl _ _))) (State.event_frame (Within.of rfl hm)))

theorem State.holdSplit_frame {m : Nat} (hm : Within 13019119624 m) {s : State} {a1 : BitVec 4} :
    Fr m s (State.holdSplit s a1) := by
  delta State.holdSplit
  exact (Fr.trans ((Fr.set_gov (Within.of rfl hm) (Fr.refl _ _))) (State.event_frame (Within.of rfl hm)))

theorem State.selfChecked_frame {m : Nat} (hm : Within 13086228488 m) {s : State} {a1 : Bool} {a2 : Bool} :
    Fr m s (State.selfChecked s a1 a2) := by
  delta State.selfChecked
  exact (Fr.ite (Fr.refl _ _) ((Fr.ite ((Fr.trans (Fr.refl _ _) (State.holdSplit_frame (Within.of rfl hm)))) ((Fr.ite ((Fr.trans
    (Fr.refl _ _) (State.dropGovernor_frame (Within.of rfl hm)))) ((Fr.ite ((Fr.trans (Fr.refl _ _) (State.dropGovernor_frame
    (Within.of rfl hm)))) ((Fr.trans (Fr.refl _ _) (State.holdSplit_frame (Within.of rfl hm)))))))))))

theorem execGovSelfcheckDone_frame {m : Nat} (hm : Within 13086228488 m) {a0 : Bool} {a1 : Bool} {s : State} :
    OutFr m s (execGovSelfcheckDone a0 a1 s) := by
  delta execGovSelfcheckDone
  exact OutFr.next ((Fr.trans (Fr.refl _ _) (State.selfChecked_frame (Within.of rfl hm))))

theorem State.govCommand_frame {m : Nat} (hm : Within 16 m) {s : State} {a1 : Path} {a2 : Word} {a3 : Bool} {a4 : State → State}
  (h4 : ∀ v0, Fr m v0 (a4 v0)) :
    Fr m s (State.govCommand s a1 a2 a3 a4) := by
  delta State.govCommand
  exact (Fr.ite ((Fr.trans ((Fr.trans (Fr.refl _ _) (State.setPol_frame (Within.of rfl hm)))) (h4 _))) (Fr.refl _ _))

theorem State.askSwap_frame {m : Nat} (hm : Within 134217728 m) {s : State} :
    Fr m s (State.askSwap s) := by
  delta State.askSwap
  exact (Fr.set_gov (Within.of rfl hm) (Fr.refl _ _))

theorem execGovSwap_frame {m : Nat} (hm : Within 134217744 m) {a0 : Path} {s : State} :
    OutFr m s (execGovSwap a0 s) := by
  delta execGovSwap
  exact OutFr.next ((Fr.trans (Fr.refl _ _) (State.govCommand_frame (Within.of rfl hm) (fun _ => (Fr.trans (Fr.refl _ _)
    (State.askSwap_frame (Within.of rfl hm)))))))

theorem State.swapRoles_frame {m : Nat} (hm : Within 13019119624 m) {s : State} :
    Fr m s (State.swapRoles s) := by
  delta State.swapRoles
  exact (Fr.ite ((Fr.trans ((Fr.set_gov (Within.of rfl hm) (Fr.refl _ _))) (State.event_frame (Within.of rfl hm)))) (Fr.refl _ _))

theorem execGovRoleSwapped_frame {m : Nat} (hm : Within 13019119624 m) {s : State} :
    OutFr m s (execGovRoleSwapped s) := by
  delta execGovRoleSwapped
  exact OutFr.next ((Fr.trans (Fr.refl _ _) (State.swapRoles_frame (Within.of rfl hm))))

theorem State.startResync_frame {m : Nat} (hm : Within 134217728 m) {s : State} :
    Fr m s (State.startResync s) := by
  delta State.startResync
  exact (Fr.ite ((Fr.set_gov (Within.of rfl hm) (Fr.refl _ _))) ((Fr.set_gov (Within.of rfl hm) (Fr.refl _ _))))

theorem execResync_frame {m : Nat} (hm : Within 134217744 m) {a0 : Path} {s : State} :
    OutFr m s (execResync a0 s) := by
  delta execResync
  exact OutFr.next ((Fr.trans (Fr.refl _ _) (State.govCommand_frame (Within.of rfl hm) (fun _ => (Fr.trans (Fr.refl _ _)
    (State.startResync_frame (Within.of rfl hm)))))))

theorem State.resynced_frame {m : Nat} (hm : Within 13019119624 m) {s : State} :
    Fr m s (State.resynced s) := by
  delta State.resynced
  exact (Fr.ite ((Fr.trans ((Fr.set_gov (Within.of rfl hm) (Fr.refl _ _))) (State.event_frame (Within.of rfl hm)))) (Fr.refl _ _))

theorem execResyncDone_frame {m : Nat} (hm : Within 13019119624 m) {s : State} :
    OutFr m s (execResyncDone s) := by
  delta execResyncDone
  exact OutFr.next ((Fr.trans (Fr.refl _ _) (State.resynced_frame (Within.of rfl hm))))

theorem State.keepOne_frame {m : Nat} (hm : Within 13086228504 m) {s : State} {a1 : Path} {a2 : Word} {a3 : Bool} :
    Fr m s (State.keepOne s a1 a2 a3) := by
  delta State.keepOne
  exact (Fr.trans (Fr.refl _ _) (State.govCommand_frame (Within.of rfl hm) (fun _ => (Fr.trans (Fr.refl _ _)
    (State.dropGovernor_frame (Within.of rfl hm))))))

theorem execKeepA_frame {m : Nat} (hm : Within 13086228504 m) {a0 : Path} {s : State} :
    OutFr m s (execKeepA a0 s) := by
  delta execKeepA
  exact OutFr.next ((Fr.trans (Fr.refl _ _) (State.keepOne_frame (Within.of rfl hm))))

theorem execKeepB_frame {m : Nat} (hm : Within 13086228504 m) {a0 : Path} {s : State} :
    OutFr m s (execKeepB a0 s) := by
  delta execKeepB
  exact OutFr.next ((Fr.trans (Fr.refl _ _) (State.keepOne_frame (Within.of rfl hm))))

theorem State.slDrop_frame {m : Nat} (hm : Within 134217728 m) {s : State} {a1 : PortNo} :
    Fr m s (State.slDrop s a1) := by
  delta State.slDrop
  exact (Fr.trans (Fr.refl _ _) (State.setSlPort_frame (Within.of rfl hm)))

theorem State.forward_frame {m : Nat} (hm : Within 134217736 m) {s : State} {a1 : SlHead} {a2 : ℕ} {a3 : List Byte} :
    Fr m s (State.forward s a1 a2 a3) := by
  delta State.forward
  exact (Fr.ite (Fr.refl _ _) ((Fr.ite (Fr.refl _ _) ((Fr.ite ((Fr.trans (Fr.refl _ _) (State.slDrop_frame (Within.of rfl hm))))
    ((by (try dsimp only); split; exacts [(Fr.trans (Fr.refl _ _) (State.slPut_frame (Within.of rfl hm))), (Fr.trans ((Fr.set_gov
    (Within.of rfl hm) (Fr.refl _ _))) (Fr.foldl (fun _ _ => (Fr.trans (Fr.refl _ _) (State.slPut_frame (Within.of rfl
    hm))))))])))))))

theorem State.onFrame_frame {m : Nat} (hm : Within 134217736 m) {s : State} {a1 : SlHead} {a2 : ℕ} {a3 : List Byte} {a4 : State →
  State} (h4 : ∀ v0, Fr m v0 (a4 v0)) :
    Fr m s (State.onFrame s a1 a2 a3 a4) := by
  delta State.onFrame
  exact (Fr.ite (Fr.refl _ _) ((Fr.ite ((Fr.trans (Fr.refl _ _) (State.setSlPort_frame (Within.of rfl hm)))) ((Fr.ite ((Fr.trans
    (Fr.refl _ _) (State.slDrop_frame (Within.of rfl hm)))) ((Fr.ite (Fr.refl _ _) ((Fr.ite ((by (try dsimp only); split; exacts
    [(Fr.trans ((Fr.trans ((Fr.trans ((Fr.trans (Fr.refl _ _) (State.forward_frame (Within.of rfl hm)))) (State.judgeCopy_frame
    (Within.of rfl hm)))) (State.setSlPort_frame (Within.of rfl hm)))) (h4 _)), (Fr.trans ((Fr.trans ((Fr.trans (Fr.refl _ _)
    (State.forward_frame (Within.of rfl hm)))) (State.judgeCopy_frame (Within.of rfl hm)))) (State.setSlPort_frame (Within.of rfl
    hm))), (Fr.trans ((Fr.trans ((Fr.trans (Fr.refl _ _) (State.forward_frame (Within.of rfl hm)))) (State.judgeCopy_frame
    (Within.of rfl hm)))) (State.slSend_frame (Within.of rfl hm))), (Fr.trans ((Fr.trans (Fr.refl _ _) (State.forward_frame
    (Within.of rfl hm)))) (State.judgeCopy_frame (Within.of rfl hm))), (Fr.trans ((Fr.trans ((Fr.trans (Fr.refl _ _)
    (State.forward_frame (Within.of rfl hm)))) (State.judgeCopy_frame (Within.of rfl hm)))) (State.slDrop_frame (Within.of rfl
    hm)))])) ((Fr.trans ((Fr.trans (Fr.refl _ _) (State.forward_frame (Within.of rfl hm)))) (State.setSlPort_frame (Within.of rfl
    hm)))))))))))))

theorem execSplitReport_frame {m : Nat} (hm : Within 15233712136 m) {a0 : SlHead} {a1 : Word} {a2 : BitVec 16} {s : State} :
    OutFr m s (execSplitReport a0 a1 a2 s) := by
  delta execSplitReport
  exact OutFr.next ((Fr.trans (Fr.refl _ _) (State.onFrame_frame (Within.of rfl hm) (fun _ => (Fr.trans (Fr.refl _ _)
    (State.raiseSplit_frame (Within.of rfl hm)))))))

theorem execSlLink_frame {m : Nat} (hm : Within 167772168 m) {a0 : SlHead} {a1 : PortNo} {a2 : ChanNo} {a3 : LinkNote} {s :
  State} :
    OutFr m s (execSlLink a0 a1 a2 a3 s) := by
  delta execSlLink
  exact OutFr.next ((Fr.trans (Fr.refl _ _) (State.onFrame_frame (Within.of rfl hm) (fun _ => (Fr.ite ((Fr.trans (Fr.refl _ _)
    (State.peerTold_frame (Within.of rfl hm)))) (Fr.refl _ _))))))

theorem execSafelightDown_frame {m : Nat} (hm : Within 13019119624 m) {a0 : PortNo} {s : State} :
    OutFr m s (execSafelightDown a0 s) := by
  delta execSafelightDown
  exact OutFr.next ((Fr.ite (Fr.refl _ _) ((Fr.trans (Fr.refl _ _) (State.setSl_frame (Within.of rfl hm))))))

theorem execSafelightUp_frame {m : Nat} (hm : Within 13019119624 m) {a0 : PortNo} {s : State} :
    OutFr m s (execSafelightUp a0 s) := by
  delta execSafelightUp
  exact OutFr.next ((Fr.ite ((Fr.trans (Fr.refl _ _) (State.setSl_frame (Within.of rfl hm)))) (Fr.refl _ _)))

end Sys2Proof.Machine
end

