-- ==== Sys2Proof/Laws/FrameDiscovery.lean ====
section
/-! SUPPORT. The frame of every operation of Machine/Discovery: the parts of the state that it can change. -/

set_option Elab.async false
set_option linter.unusedTactic false

namespace Sys2Proof.Machine
open Sys2Proof.Safety

theorem State.setShutter_frame {m : Nat} (hm : Within 33554436 m) {s : State} {a1 : PortNo} {a2 : Bool} :
    Fr m s (State.setShutter s a1 a2) := by
  delta State.setShutter
  exact (Fr.ite (Fr.refl _ _) ((Fr.trans ((Fr.trans (Fr.refl _ _) (State.setFport_frame (Within.of rfl hm))))
    (State.outPower_frame (Within.of rfl hm)))))

theorem State.goPort_frame {m : Nat} (hm : Within 13069451276 m) {s : State} {a1 : PortNo} {a2 : FState} :
    Fr m s (State.goPort s a1 a2) := by
  delta State.goPort
  exact (Fr.ite ((Fr.trans ((Fr.trans (Fr.refl _ _) (State.setPort_frame (Within.of rfl hm)))) (State.setShutter_frame (Within.of
    rfl hm)))) ((Fr.ite ((Fr.trans ((Fr.trans (Fr.refl _ _) (State.setPort_frame (Within.of rfl hm)))) (State.setShutter_frame
    (Within.of rfl hm)))) ((Fr.trans (Fr.refl _ _) (State.setPort_frame (Within.of rfl hm)))))))

theorem State.portByOutcome_frame {m : Nat} (hm : Within 13069451276 m) {s : State} {a1 : PortNo} {a2 : BitVec 4} :
    Fr m s (State.portByOutcome s a1 a2) := by
  delta State.portByOutcome
  exact (Fr.ite (Fr.refl _ _) ((Fr.ite ((by (try dsimp only); split; exacts [(Fr.ite ((Fr.trans ((Fr.ite (Fr.refl _ _) ((Fr.trans
    (Fr.refl _ _) (State.goPort_frame (Within.of rfl hm)))))) (State.goPort_frame (Within.of rfl hm)))) ((Fr.ite (Fr.refl _ _)
    ((Fr.trans (Fr.refl _ _) (State.goPort_frame (Within.of rfl hm))))))), (Fr.ite (Fr.refl _ _) ((Fr.trans (Fr.refl _ _)
    (State.goPort_frame (Within.of rfl hm)))))])) ((Fr.ite ((Fr.ite (Fr.refl _ _) ((Fr.trans (Fr.refl _ _) (State.goPort_frame
    (Within.of rfl hm)))))) ((Fr.ite ((Fr.ite (Fr.refl _ _) ((Fr.trans ((Fr.ite (Fr.refl _ _) ((Fr.trans (Fr.refl _ _)
    (State.goPort_frame (Within.of rfl hm)))))) (State.goPort_frame (Within.of rfl hm)))))) (Fr.refl _ _))))))))

theorem State.rejudgePlan_frame {m : Nat} (hm : Within 13287555080 m) {s : State} :
    Fr m s (State.rejudgePlan s) := by
  delta State.rejudgePlan
  exact (Fr.ite ((Fr.trans ((Fr.set_plan (Within.of rfl hm) (Fr.refl _ _))) (State.event_frame (Within.of rfl hm))))
    ((Fr.set_plan (Within.of rfl hm) (Fr.refl _ _))))

theorem State.outcomeEvent_frame {m : Nat} (hm : Within 13019119624 m) {s : State} {a1 : PortNo} {a2 : BitVec 4} {a3 : PortNo} :
    Fr m s (State.outcomeEvent s a1 a2 a3) := by
  delta State.outcomeEvent
  exact (Fr.ite ((Fr.trans (Fr.refl _ _) (State.event_frame (Within.of rfl hm)))) ((Fr.ite ((Fr.trans (Fr.refl _ _)
    (State.event_frame (Within.of rfl hm)))) ((Fr.ite ((Fr.trans (Fr.refl _ _) (State.event_frame (Within.of rfl hm)))) (Fr.refl
    _ _))))))

theorem State.finalOutcome_frame {m : Nat} (hm : Within 13337886732 m) {s : State} {a1 : PortNo} {a2 : BitVec 4} {a3 : PortNo} :
    Fr m s (State.finalOutcome s a1 a2 a3) := by
  delta State.finalOutcome
  exact (Fr.trans ((Fr.trans ((Fr.ite ((Fr.trans ((Fr.trans (Fr.refl _ _) (State.setDisc_frame (Within.of rfl hm))))
    (State.outcomeEvent_frame (Within.of rfl hm)))) ((Fr.trans (Fr.refl _ _) (State.setDisc_frame (Within.of rfl hm))))))
    (State.portByOutcome_frame (Within.of rfl hm)))) (State.rejudgePlan_frame (Within.of rfl hm)))

theorem State.sendDisc_frame {m : Nat} (hm : Within 134217736 m) {s : State} {a1 : PortNo} :
    Fr m s (State.sendDisc s a1) := by
  delta State.sendDisc
  exact (Fr.ite ((Fr.trans (Fr.refl _ _) (State.slLocal_frame (Within.of rfl hm)))) (Fr.refl _ _))

theorem execDiscoverySend_frame {m : Nat} (hm : Within 134217736 m) {a0 : PortNo} {s : State} :
    OutFr m s (execDiscoverySend a0 s) := by
  delta execDiscoverySend
  exact OutFr.next ((Fr.trans (Fr.refl _ _) (State.sendDisc_frame (Within.of rfl hm))))

theorem State.newNeighbour_frame {m : Nat} (hm : Within 13337886732 m) {s : State} {a1 : PortNo} :
    Fr m s (State.newNeighbour s a1) := by
  delta State.newNeighbour
  exact (Fr.ite ((Fr.trans ((Fr.trans ((Fr.trans (Fr.refl _ _) (State.setDisc_frame (Within.of rfl hm)))) (State.setDisc_frame
    (Within.of rfl hm)))) (State.goPort_frame (Within.of rfl hm)))) ((Fr.trans (Fr.refl _ _) (State.setDisc_frame (Within.of rfl
    hm)))))

theorem State.takeOutcome_frame {m : Nat} (hm : Within 13337886732 m) {s : State} {a1 : PortNo} {a2 : Option (BitVec 4 × PortNo)}
  :
    Fr m s (State.takeOutcome s a1 a2) := by
  delta State.takeOutcome
  exact (by (try dsimp only); split; exacts [(Fr.trans (Fr.refl _ _) (State.setDisc_frame (Within.of rfl hm))), (Fr.ite
    ((Fr.trans (Fr.refl _ _) (State.finalOutcome_frame (Within.of rfl hm)))) ((Fr.trans (Fr.refl _ _) (State.setDisc_frame
    (Within.of rfl hm)))))])

theorem State.hear_frame {m : Nat} (hm : Within 13337886732 m) {s : State} {a1 : SlHead} {a2 : Disc} :
    Fr m s (State.hear s a1 a2) := by
  delta State.hear
  exact (Fr.ite ((Fr.ite ((Fr.trans (Fr.refl _ _) (State.setDisc_frame (Within.of rfl hm)))) ((Fr.trans ((Fr.trans (Fr.refl _ _)
    (State.setDisc_frame (Within.of rfl hm)))) (State.setFport_frame (Within.of rfl hm)))))) ((Fr.trans ((Fr.ite ((Fr.trans
    ((Fr.ite ((Fr.trans (Fr.refl _ _) (State.setDisc_frame (Within.of rfl hm)))) ((Fr.trans ((Fr.trans (Fr.refl _ _)
    (State.setDisc_frame (Within.of rfl hm)))) (State.setFport_frame (Within.of rfl hm)))))) (State.newNeighbour_frame (Within.of
    rfl hm)))) ((Fr.ite ((Fr.trans (Fr.refl _ _) (State.setDisc_frame (Within.of rfl hm)))) ((Fr.trans ((Fr.trans (Fr.refl _ _)
    (State.setDisc_frame (Within.of rfl hm)))) (State.setFport_frame (Within.of rfl hm)))))))) (State.takeOutcome_frame
    (Within.of rfl hm)))))

theorem execDiscovery_frame {m : Nat} (hm : Within 13337886732 m) {a0 : SlHead} {a1 : Disc} {s : State} :
    OutFr m s (execDiscovery a0 a1 s) := by
  delta execDiscovery
  exact OutFr.next ((Fr.trans (Fr.refl _ _) (State.onFrame_frame (Within.of rfl hm) (fun _ => (Fr.trans (Fr.refl _ _)
    (State.hear_frame (Within.of rfl hm)))))))

theorem State.portSilent_frame {m : Nat} (hm : Within 13337886732 m) {s : State} {a1 : PortNo} :
    Fr m s (State.portSilent s a1) := by
  delta State.portSilent
  exact (by (try dsimp only); split; exacts [(Fr.ite ((Fr.trans ((Fr.trans (Fr.refl _ _) (State.setDisc_frame (Within.of rfl
    hm)))) (State.finalOutcome_frame (Within.of rfl hm)))) ((Fr.trans (Fr.refl _ _) (State.setDisc_frame (Within.of rfl hm))))),
    (Fr.trans (Fr.refl _ _) (State.setDisc_frame (Within.of rfl hm)))])

theorem execDiscoverySilence_frame {m : Nat} (hm : Within 13337886732 m) {a0 : PortNo} {s : State} :
    OutFr m s (execDiscoverySilence a0 s) := by
  delta execDiscoverySilence
  exact OutFr.next ((Fr.ite ((Fr.trans (Fr.refl _ _) (State.portSilent_frame (Within.of rfl hm)))) (Fr.refl _ _)))

theorem State.shutPort_frame {m : Nat} (hm : Within 13337886732 m) {s : State} {a1 : PortNo} :
    Fr m s (State.shutPort s a1) := by
  delta State.shutPort
  exact (Fr.ite ((Fr.trans ((Fr.trans (Fr.refl _ _) (State.dark_frame (Within.of rfl hm)))) (State.portSilent_frame (Within.of
    rfl hm)))) (Fr.refl _ _))

theorem execAlsDark_frame {m : Nat} (hm : Within 13337886732 m) {a0 : PortNo} {s : State} :
    OutFr m s (execAlsDark a0 s) := by
  delta execAlsDark
  exact OutFr.next ((Fr.trans (Fr.refl _ _) (State.shutPort_frame (Within.of rfl hm))))

theorem State.rejudgePort_frame {m : Nat} (hm : Within 13337886732 m) {s : State} {a1 : PortNo} :
    Fr m s (State.rejudgePort s a1) := by
  delta State.rejudgePort
  exact (by (try dsimp only); split; exacts [(Fr.trans (Fr.refl _ _) (State.setDisc_frame (Within.of rfl hm))), (Fr.ite ((Fr.ite
    ((Fr.ite ((Fr.trans (Fr.refl _ _) (State.setDisc_frame (Within.of rfl hm)))) ((Fr.ite ((Fr.trans ((Fr.trans ((Fr.trans
    (Fr.refl _ _) (State.setDisc_frame (Within.of rfl hm)))) (State.goPort_frame (Within.of rfl hm)))) (State.setDisc_frame
    (Within.of rfl hm)))) ((Fr.ite ((Fr.trans ((Fr.trans (Fr.refl _ _) (State.setDisc_frame (Within.of rfl hm))))
    (State.goPort_frame (Within.of rfl hm)))) ((Fr.trans (Fr.refl _ _) (State.setDisc_frame (Within.of rfl hm))))))))))
    ((Fr.trans ((Fr.ite ((Fr.trans (Fr.refl _ _) (State.setDisc_frame (Within.of rfl hm)))) ((Fr.ite ((Fr.trans ((Fr.trans
    ((Fr.trans (Fr.refl _ _) (State.setDisc_frame (Within.of rfl hm)))) (State.goPort_frame (Within.of rfl hm))))
    (State.setDisc_frame (Within.of rfl hm)))) ((Fr.ite ((Fr.trans ((Fr.trans (Fr.refl _ _) (State.setDisc_frame (Within.of rfl
    hm)))) (State.goPort_frame (Within.of rfl hm)))) ((Fr.trans (Fr.refl _ _) (State.setDisc_frame (Within.of rfl hm))))))))))
    (State.finalOutcome_frame (Within.of rfl hm)))))) ((Fr.ite ((Fr.ite ((Fr.ite ((Fr.trans (Fr.refl _ _) (State.setDisc_frame
    (Within.of rfl hm)))) ((Fr.ite ((Fr.trans ((Fr.trans ((Fr.trans (Fr.refl _ _) (State.setDisc_frame (Within.of rfl hm))))
    (State.goPort_frame (Within.of rfl hm)))) (State.setDisc_frame (Within.of rfl hm)))) ((Fr.ite ((Fr.trans ((Fr.trans (Fr.refl
    _ _) (State.setDisc_frame (Within.of rfl hm)))) (State.goPort_frame (Within.of rfl hm)))) ((Fr.trans (Fr.refl _ _)
    (State.setDisc_frame (Within.of rfl hm)))))))))) ((Fr.trans ((Fr.ite ((Fr.trans (Fr.refl _ _) (State.setDisc_frame (Within.of
    rfl hm)))) ((Fr.ite ((Fr.trans ((Fr.trans ((Fr.trans (Fr.refl _ _) (State.setDisc_frame (Within.of rfl hm))))
    (State.goPort_frame (Within.of rfl hm)))) (State.setDisc_frame (Within.of rfl hm)))) ((Fr.ite ((Fr.trans ((Fr.trans (Fr.refl
    _ _) (State.setDisc_frame (Within.of rfl hm)))) (State.goPort_frame (Within.of rfl hm)))) ((Fr.trans (Fr.refl _ _)
    (State.setDisc_frame (Within.of rfl hm)))))))))) (State.finalOutcome_frame (Within.of rfl hm))))))
    ((by (try dsimp only); split; exacts [(Fr.ite ((Fr.ite ((Fr.trans (Fr.refl _ _) (State.setDisc_frame (Within.of rfl hm))))
    ((Fr.ite ((Fr.trans ((Fr.trans ((Fr.trans (Fr.refl _ _) (State.setDisc_frame (Within.of rfl hm)))) (State.goPort_frame
    (Within.of rfl hm)))) (State.setDisc_frame (Within.of rfl hm)))) ((Fr.ite ((Fr.trans ((Fr.trans (Fr.refl _ _)
    (State.setDisc_frame (Within.of rfl hm)))) (State.goPort_frame (Within.of rfl hm)))) ((Fr.trans (Fr.refl _ _)
    (State.setDisc_frame (Within.of rfl hm)))))))))) ((Fr.trans ((Fr.ite ((Fr.trans (Fr.refl _ _) (State.setDisc_frame (Within.of
    rfl hm)))) ((Fr.ite ((Fr.trans ((Fr.trans ((Fr.trans (Fr.refl _ _) (State.setDisc_frame (Within.of rfl hm))))
    (State.goPort_frame (Within.of rfl hm)))) (State.setDisc_frame (Within.of rfl hm)))) ((Fr.ite ((Fr.trans ((Fr.trans (Fr.refl
    _ _) (State.setDisc_frame (Within.of rfl hm)))) (State.goPort_frame (Within.of rfl hm)))) ((Fr.trans (Fr.refl _ _)
    (State.setDisc_frame (Within.of rfl hm)))))))))) (State.setDisc_frame (Within.of rfl hm))))),
    (by (try dsimp only); split; exacts [(Fr.trans ((Fr.ite ((Fr.trans (Fr.refl _ _) (State.setDisc_frame (Within.of rfl hm))))
    ((Fr.ite ((Fr.trans ((Fr.trans ((Fr.trans (Fr.refl _ _) (State.setDisc_frame (Within.of rfl hm)))) (State.goPort_frame
    (Within.of rfl hm)))) (State.setDisc_frame (Within.of rfl hm)))) ((Fr.ite ((Fr.trans ((Fr.trans (Fr.refl _ _)
    (State.setDisc_frame (Within.of rfl hm)))) (State.goPort_frame (Within.of rfl hm)))) ((Fr.trans (Fr.refl _ _)
    (State.setDisc_frame (Within.of rfl hm)))))))))) (State.finalOutcome_frame (Within.of rfl hm))), (Fr.trans ((Fr.ite
    ((Fr.trans (Fr.refl _ _) (State.setDisc_frame (Within.of rfl hm)))) ((Fr.ite ((Fr.trans ((Fr.trans ((Fr.trans (Fr.refl _ _)
    (State.setDisc_frame (Within.of rfl hm)))) (State.goPort_frame (Within.of rfl hm)))) (State.setDisc_frame (Within.of rfl
    hm)))) ((Fr.ite ((Fr.trans ((Fr.trans (Fr.refl _ _) (State.setDisc_frame (Within.of rfl hm)))) (State.goPort_frame (Within.of
    rfl hm)))) ((Fr.trans (Fr.refl _ _) (State.setDisc_frame (Within.of rfl hm)))))))))) (State.setDisc_frame (Within.of rfl
    hm)))])])))))])

theorem State.rejudgeAll_frame {m : Nat} (hm : Within 13337886732 m) {s : State} :
    Fr m s (State.rejudgeAll s) := by
  delta State.rejudgeAll
  exact (Fr.trans ((Fr.trans (Fr.refl _ _) (Fr.foldl (fun _ _ => (Fr.trans (Fr.refl _ _) (State.rejudgePort_frame (Within.of rfl
    hm))))))) (State.rejudgePlan_frame (Within.of rfl hm)))

theorem State.judgeAccept_frame {m : Nat} (hm : Within 13337886732 m) {s : State} {a1 : PortNo} :
    Fr m s (State.judgeAccept s a1) := by
  delta State.judgeAccept
  exact (Fr.ite ((Fr.trans ((Fr.trans ((Fr.trans ((Fr.trans ((Fr.set_plan (Within.of rfl hm) ((Fr.trans (Fr.refl _ _)
    (State.setDisc_frame (Within.of rfl hm)))))) (State.event_frame (Within.of rfl hm)))) (State.goPort_frame (Within.of rfl
    hm)))) (State.portByOutcome_frame (Within.of rfl hm)))) (State.rejudgePlan_frame (Within.of rfl hm)))) ((Fr.set_plan
    (Within.of rfl hm) (Fr.refl _ _))))

theorem State.acceptPort_frame {m : Nat} (hm : Within 13337886748 m) {s : State} {a1 : Path} {a2 : PortNo} :
    Fr m s (State.acceptPort s a1 a2) := by
  delta State.acceptPort
  exact (Fr.ite (Fr.refl _ _) ((Fr.ite ((Fr.set_plan (Within.of rfl hm) ((Fr.trans (Fr.refl _ _) (State.setPol_frame (Within.of
    rfl hm)))))) ((Fr.trans ((Fr.trans (Fr.refl _ _) (State.setPol_frame (Within.of rfl hm)))) (State.judgeAccept_frame
    (Within.of rfl hm)))))))

theorem execPlanAccept_frame {m : Nat} (hm : Within 13337886748 m) {a0 : Path} {a1 : PortNo} {s : State} :
    OutFr m s (execPlanAccept a0 a1 s) := by
  delta execPlanAccept
  exact OutFr.next ((Fr.trans (Fr.refl _ _) (State.acceptPort_frame (Within.of rfl hm))))

theorem State.judgeHeld_frame {m : Nat} (hm : Within 13337886732 m) {s : State} :
    Fr m s (State.judgeHeld s) := by
  delta State.judgeHeld
  exact (Fr.trans ((Fr.set_plan (Within.of rfl hm) (Fr.refl _ _))) (Fr.foldl (fun _ _ => (Fr.trans (Fr.refl _ _)
    (State.judgeAccept_frame (Within.of rfl hm))))))

theorem State.offerSpare_frame {m : Nat} (hm : Within 13287555080 m) {s : State} {a1 : Node} :
    Fr m s (State.offerSpare s a1) := by
  delta State.offerSpare
  exact (by (try dsimp only); split; exacts [(Fr.ite ((Fr.trans ((Fr.set_plan (Within.of rfl hm) (Fr.refl _ _)))
    (State.event_frame (Within.of rfl hm)))) (Fr.refl _ _)), (Fr.refl _ _)])

theorem execSpareOffer_frame {m : Nat} (hm : Within 13287555080 m) {a0 : Node} {s : State} :
    OutFr m s (execSpareOffer a0 s) := by
  delta execSpareOffer
  exact OutFr.next ((Fr.trans (Fr.refl _ _) (State.offerSpare_frame (Within.of rfl hm))))

end Sys2Proof.Machine
end

