-- ==== Sys2Proof/Laws/FrameHost.lean ====
section
/-! SUPPORT. The frame of every operation of Machine/Host: the parts of the state that it can change. -/

set_option Elab.async false
set_option linter.unusedTactic false

namespace Sys2Proof.Machine
open Sys2Proof.Safety

theorem State.ethIn_frame {m : Nat} (hm : Within 8388612 m) {s : State} {a1 : EthPort} :
    Fr m s (State.ethIn s a1) := by
  delta State.ethIn
  exact (by (try dsimp only); split; exacts [(Fr.trans (Fr.refl _ _) (State.frameIn_frame (Within.of rfl hm))), (Fr.trans
    (Fr.refl _ _) (State.frameIn_frame (Within.of rfl hm))), (Fr.refl _ _)])

theorem State.ethOut_frame {m : Nat} (hm : Within 8388612 m) {s : State} {a1 : EthPort} :
    Fr m s (State.ethOut s a1) := by
  delta State.ethOut
  exact (by (try dsimp only); split; exacts [(Fr.trans (Fr.refl _ _) (State.frameOut_frame (Within.of rfl hm))), (Fr.trans
    (Fr.refl _ _) (State.frameOut_frame (Within.of rfl hm))), (Fr.refl _ _)])

theorem State.dropFrame_frame {m : Nat} (hm : Within 8598323200 m) {s : State} {a1 : EthPort} :
    Fr m s (State.dropFrame s a1) := by
  delta State.dropFrame
  exact (by (try dsimp only); split; exacts [(Fr.trans (Fr.refl _ _) (State.setHport_frame (Within.of rfl hm))), (Fr.trans
    (Fr.refl _ _) (State.setHport_frame (Within.of rfl hm))), (Fr.set_mgmt (Within.of rfl hm) (Fr.refl _ _))])

theorem State.arp_frame {m : Nat} (hm : Within 8598323212 m) {s : State} {a1 : BitVec 1} {a2 : BitVec 32} {a3 : Bool} :
    Fr m s (State.arp s a1 a2 a3) := by
  delta State.arp
  exact (Fr.ite ((Fr.trans ((Fr.trans (Fr.refl _ _) (State.send_frame (Within.of rfl hm)))) (State.frameOut_frame (Within.of rfl
    hm)))) ((Fr.trans (Fr.refl _ _) (State.dropFrame_frame (Within.of rfl hm)))))

theorem execArpRequest_frame {m : Nat} (hm : Within 8598323212 m) {a0 : BitVec 1} {a1 : BitVec 32} {a2 : Bool} {s : State} :
    OutFr m s (execArpRequest a0 a1 a2 s) := by
  delta execArpRequest
  exact OutFr.next ((Fr.trans ((Fr.trans (Fr.refl _ _) (State.frameIn_frame (Within.of rfl hm)))) (State.arp_frame (Within.of rfl
    hm))))

theorem State.solicit_frame {m : Nat} (hm : Within 8598323212 m) {s : State} {a1 : EthPort} {a2 : BitVec 128} {a3 : Bool} :
    Fr m s (State.solicit s a1 a2 a3) := by
  delta State.solicit
  exact (Fr.ite ((Fr.trans ((Fr.trans (Fr.refl _ _) (State.send_frame (Within.of rfl hm)))) (State.ethOut_frame (Within.of rfl
    hm)))) ((Fr.trans (Fr.refl _ _) (State.dropFrame_frame (Within.of rfl hm)))))

theorem execNeighbourSolicitation_frame {m : Nat} (hm : Within 8598323212 m) {a0 : EthPort} {a1 : BitVec 128} {a2 : Bool} {s :
  State} :
    OutFr m s (execNeighbourSolicitation a0 a1 a2 s) := by
  delta execNeighbourSolicitation
  exact OutFr.next ((Fr.trans ((Fr.trans (Fr.refl _ _) (State.ethIn_frame (Within.of rfl hm)))) (State.solicit_frame (Within.of
    rfl hm))))

theorem State.echo_frame {m : Nat} (hm : Within 8598323212 m) {s : State} {a1 : EthPort} {a2 : Bool} {a3 : BitVec 128} {a4 :
  Bool} :
    Fr m s (State.echo s a1 a2 a3 a4) := by
  delta State.echo
  exact (Fr.ite ((Fr.trans ((Fr.trans (Fr.refl _ _) (State.send_frame (Within.of rfl hm)))) (State.ethOut_frame (Within.of rfl
    hm)))) ((Fr.trans (Fr.refl _ _) (State.dropFrame_frame (Within.of rfl hm)))))

theorem execIcmpEcho_frame {m : Nat} (hm : Within 8598323212 m) {a0 : EthPort} {a1 : Bool} {a2 : BitVec 128} {a3 : Bool} {s :
  State} :
    OutFr m s (execIcmpEcho a0 a1 a2 a3 s) := by
  delta execIcmpEcho
  exact OutFr.next ((Fr.trans ((Fr.trans (Fr.refl _ _) (State.ethIn_frame (Within.of rfl hm)))) (State.echo_frame (Within.of rfl
    hm))))

theorem execFrameDropped_frame {m : Nat} (hm : Within 8598323204 m) {a0 : EthPort} {a1 : DropReason} {s : State} :
    OutFr m s (execFrameDropped a0 a1 s) := by
  delta execFrameDropped
  exact OutFr.next ((Fr.ite ((Fr.trans (Fr.refl _ _) (State.ethIn_frame (Within.of rfl hm)))) ((Fr.trans ((Fr.trans (Fr.refl _ _)
    (State.ethIn_frame (Within.of rfl hm)))) (State.dropFrame_frame (Within.of rfl hm))))))

theorem State.hostLink_frame {m : Nat} (hm : Within 13027508232 m) {s : State} {a1 : BitVec 1} {a2 : Bool} :
    Fr m s (State.hostLink s a1 a2) := by
  delta State.hostLink
  exact (Fr.ite (Fr.refl _ _) ((Fr.trans ((Fr.trans (Fr.refl _ _) (State.setHport_frame (Within.of rfl hm)))) (State.event_frame
    (Within.of rfl hm)))))

theorem execHostLinkChange_frame {m : Nat} (hm : Within 13027508232 m) {a0 : BitVec 1} {a1 : Bool} {s : State} :
    OutFr m s (execHostLinkChange a0 a1 s) := by
  delta execHostLinkChange
  exact OutFr.next ((Fr.trans (Fr.refl _ _) (State.hostLink_frame (Within.of rfl hm))))

theorem State.pfcIn_frame {m : Nat} (hm : Within 8388620 m) {s : State} {a1 : BitVec 1} {a2 : BitVec 3} {a3 : Bool} :
    Fr m s (State.pfcIn s a1 a2 a3) := by
  delta State.pfcIn
  exact (Fr.ite ((Fr.ite ((Fr.trans (Fr.refl _ _) (State.setHport_frame (Within.of rfl hm)))) ((Fr.trans (Fr.refl _ _)
    (State.resume_frame (Within.of rfl hm)))))) (Fr.refl _ _))

theorem execPfcFrame_frame {m : Nat} (hm : Within 8388620 m) {a0 : BitVec 1} {a1 : BitVec 3} {a2 : Bool} {s : State} :
    OutFr m s (execPfcFrame a0 a1 a2 s) := by
  delta execPfcFrame
  exact OutFr.next ((Fr.trans (Fr.refl _ _) (State.pfcIn_frame (Within.of rfl hm))))

theorem State.modQp_frame {m : Nat} (hm : Within 8388608 m) {s : State} {a1 : ℕ} {a2 : Qp → Qp} :
    Fr m s (State.modQp s a1 a2) := by
  delta State.modQp
  exact (Fr.trans (Fr.refl _ _) (State.setQp_frame (Within.of rfl hm)))

theorem State.qpError_frame {m : Nat} (hm : Within 13027508232 m) {s : State} {a1 : ℕ} {a2 : Byte} :
    Fr m s (State.qpError s a1 a2) := by
  delta State.qpError
  exact (Fr.ite ((Fr.trans ((Fr.trans (Fr.refl _ _) (State.setQp_frame (Within.of rfl hm)))) (State.event_frame (Within.of rfl
    hm)))) (Fr.refl _ _))

theorem State.askLink_frame {m : Nat} (hm : Within 8388620 m) {s : State} {a1 : ℕ} :
    Fr m s (State.askLink s a1) := by
  delta State.askLink
  exact (Fr.ite (Fr.refl _ _) ((Fr.trans ((Fr.trans (Fr.refl _ _) (State.send_frame (Within.of rfl hm)))) (State.frameOut_frame
    (Within.of rfl hm)))))

theorem State.connect_frame {m : Nat} (hm : Within 8388620 m) {s : State} {a1 : ℕ} :
    Fr m s (State.connect s a1) := by
  delta State.connect
  exact (Fr.ite (Fr.refl _ _) ((Fr.trans ((Fr.trans ((Fr.trans (Fr.refl _ _) (State.setQp_frame (Within.of rfl hm))))
    (State.draw_frame (Within.of rfl hm)))) (State.askLink_frame (Within.of rfl hm)))))

theorem State.qpOp_frame {m : Nat} (hm : Within 8388608 m) {s : State} {a1 : ℕ} {a2 : BitVec 2} :
    Fr m s (State.qpOp s a1 a2) := by
  delta State.qpOp
  exact (Fr.trans (Fr.refl _ _) (State.modQp_frame (Within.of rfl hm)))

theorem execQpConnect_frame {m : Nat} (hm : Within 8388620 m) {a0 : Path} {s : State} :
    OutFr m s (execQpConnect a0 s) := by
  delta execQpConnect
  exact OutFr.next ((Fr.ite ((Fr.trans ((Fr.trans (Fr.refl _ _) (State.qpOp_frame (Within.of rfl hm)))) (State.connect_frame
    (Within.of rfl hm)))) (Fr.refl _ _)))

theorem execQpReset_frame {m : Nat} (hm : Within 8388608 m) {a0 : Path} {s : State} :
    OutFr m s (execQpReset a0 s) := by
  delta execQpReset
  exact OutFr.next ((Fr.ite ((Fr.trans ((Fr.trans (Fr.refl _ _) (State.qpOp_frame (Within.of rfl hm)))) (State.modQp_frame
    (Within.of rfl hm)))) (Fr.refl _ _)))

theorem State.cnp_frame {m : Nat} (hm : Within 8388608 m) {s : State} {a1 : ℕ} :
    Fr m s (State.cnp s a1) := by
  delta State.cnp
  exact (Fr.ite (Fr.refl _ _) ((Fr.trans ((Fr.trans (Fr.refl _ _) (State.setHport_frame (Within.of rfl hm)))) (State.setQp_frame
    (Within.of rfl hm)))))

theorem execCnpReceived_frame {m : Nat} (hm : Within 8388608 m) {a0 : BitVec 13} {s : State} :
    OutFr m s (execCnpReceived a0 s) := by
  delta execCnpReceived
  exact OutFr.next ((Fr.trans (Fr.refl _ _) (State.cnp_frame (Within.of rfl hm))))

theorem State.rateUp_frame {m : Nat} (hm : Within 8388612 m) {s : State} {a1 : ℕ} :
    Fr m s (State.rateUp s a1) := by
  delta State.rateUp
  exact (Fr.ite (Fr.refl _ _) ((Fr.trans ((Fr.trans (Fr.refl _ _) (State.setQp_frame (Within.of rfl hm)))) (State.draw_frame
    (Within.of rfl hm)))))

theorem execDcqcnRateTimer_frame {m : Nat} (hm : Within 8388612 m) {a0 : BitVec 13} {s : State} :
    OutFr m s (execDcqcnRateTimer a0 s) := by
  delta execDcqcnRateTimer
  exact OutFr.next ((Fr.trans (Fr.refl _ _) (State.rateUp_frame (Within.of rfl hm))))

theorem execDcqcnByteCounter_frame {m : Nat} (hm : Within 8388612 m) {a0 : BitVec 13} {s : State} :
    OutFr m s (execDcqcnByteCounter a0 s) := by
  delta execDcqcnByteCounter
  exact OutFr.next ((Fr.trans (Fr.refl _ _) (State.rateUp_frame (Within.of rfl hm))))

theorem State.ackTimeout_frame {m : Nat} (hm : Within 13027508236 m) {s : State} {a1 : ℕ} :
    Fr m s (State.ackTimeout s a1) := by
  delta State.ackTimeout
  exact (Fr.ite (Fr.refl _ _) ((Fr.ite ((Fr.trans (Fr.refl _ _) (State.qpError_frame (Within.of rfl hm)))) ((Fr.trans ((Fr.trans
    ((Fr.trans (Fr.refl _ _) (State.setQp_frame (Within.of rfl hm)))) (State.setHport_frame (Within.of rfl hm)))) (Fr.foldl (fun
    _ _ => (Fr.trans (Fr.refl _ _) (State.roce_frame (Within.of rfl hm))))))))))

theorem execAckTimeout_frame {m : Nat} (hm : Within 13027508236 m) {a0 : BitVec 13} {s : State} :
    OutFr m s (execAckTimeout a0 s) := by
  delta execAckTimeout
  exact OutFr.next ((Fr.trans (Fr.refl _ _) (State.ackTimeout_frame (Within.of rfl hm))))

theorem State.mirrorAcked_frame {m : Nat} (hm : Within 8388608 m) {s : State} {a1 : ℕ} :
    Fr m s (State.mirrorAcked s a1) := by
  delta State.mirrorAcked
  exact (Fr.trans (Fr.refl _ _) (State.modQp_frame (Within.of rfl hm)))

theorem execMirrorAck_frame {m : Nat} (hm : Within 8388608 m) {a0 : BitVec 13} {s : State} :
    OutFr m s (execMirrorAck a0 s) := by
  delta execMirrorAck
  exact OutFr.next ((Fr.trans (Fr.refl _ _) (State.mirrorAcked_frame (Within.of rfl hm))))

theorem State.mirrorNaked_frame {m : Nat} (hm : Within 13029605384 m) {s : State} {a1 : ℕ} :
    Fr m s (State.mirrorNaked s a1) := by
  delta State.mirrorNaked
  exact (Fr.ite ((Fr.trans ((Fr.trans ((Fr.trans (Fr.refl _ _) (State.qpError_frame (Within.of rfl hm)))) (State.setCtx_frame
    (Within.of rfl hm)))) (State.event_frame (Within.of rfl hm)))) (Fr.refl _ _))

theorem execMirrorNak_frame {m : Nat} (hm : Within 13029605384 m) {a0 : BitVec 13} {s : State} :
    OutFr m s (execMirrorNak a0 s) := by
  delta execMirrorNak
  exact OutFr.next ((Fr.trans (Fr.refl _ _) (State.mirrorNaked_frame (Within.of rfl hm))))

theorem State.resolved_frame {m : Nat} (hm : Within 8388612 m) {s : State} {a1 : ℕ} {a2 : BitVec 48} :
    Fr m s (State.resolved s a1 a2) := by
  delta State.resolved
  exact (Fr.trans ((Fr.trans (Fr.refl _ _) (State.frameIn_frame (Within.of rfl hm)))) (State.modQp_frame (Within.of rfl hm)))

theorem execLinkAddressResolved_frame {m : Nat} (hm : Within 8388612 m) {a0 : BitVec 13} {a1 : BitVec 48} {s : State} :
    OutFr m s (execLinkAddressResolved a0 a1 s) := by
  delta execLinkAddressResolved
  exact OutFr.next ((Fr.trans (Fr.refl _ _) (State.resolved_frame (Within.of rfl hm))))

theorem State.authStart_frame {m : Nat} (hm : Within 8388608 m) {s : State} {a1 : ℕ} :
    Fr m s (State.authStart s a1) := by
  delta State.authStart
  exact (Fr.ite ((Fr.trans (Fr.refl _ _) (State.setQp_frame (Within.of rfl hm)))) (Fr.refl _ _))

theorem execAuthGo_frame {m : Nat} (hm : Within 8388608 m) {a0 : BitVec 4} {s : State} :
    OutFr m s (execAuthGo a0 s) := by
  delta execAuthGo
  exact OutFr.next ((Fr.trans (Fr.refl _ _) (State.authStart_frame (Within.of rfl hm))))

theorem State.authEnd_frame {m : Nat} (hm : Within 13027508236 m) {s : State} {a1 : ℕ} :
    Fr m s (State.authEnd s a1) := by
  delta State.authEnd
  exact (Fr.ite (Fr.refl _ _) ((Fr.ite ((Fr.trans ((Fr.trans (Fr.refl _ _) (State.draw_frame (Within.of rfl hm))))
    (State.setQp_frame (Within.of rfl hm)))) ((Fr.ite ((Fr.trans ((Fr.trans ((Fr.trans ((Fr.trans ((Fr.trans (Fr.refl _ _)
    (State.draw_frame (Within.of rfl hm)))) (State.setQp_frame (Within.of rfl hm)))) (State.event_frame (Within.of rfl hm))))
    (State.qpError_frame (Within.of rfl hm)))) (State.modQp_frame (Within.of rfl hm)))) ((Fr.trans ((Fr.trans ((Fr.trans (Fr.refl
    _ _) (State.draw_frame (Within.of rfl hm)))) (State.setQp_frame (Within.of rfl hm)))) (State.event_frame (Within.of rfl
    hm)))))))))

theorem execAuthVerifyDone_frame {m : Nat} (hm : Within 13027508236 m) {a0 : BitVec 4} {s : State} :
    OutFr m s (execAuthVerifyDone a0 s) := by
  delta execAuthVerifyDone
  exact OutFr.next ((Fr.trans (Fr.refl _ _) (State.authEnd_frame (Within.of rfl hm))))

theorem execAuthLockoutEnd_frame {m : Nat} (hm : Within 8388608 m) {a0 : BitVec 4} {s : State} :
    OutFr m s (execAuthLockoutEnd a0 s) := by
  delta execAuthLockoutEnd
  exact OutFr.next ((Fr.ite ((Fr.trans (Fr.refl _ _) (State.modQp_frame (Within.of rfl hm)))) (Fr.refl _ _)))

theorem State.setRing_frame {m : Nat} (hm : Within 2097152 m) {s : State} {a1 : CtxNo} {a2 : ℕ} {a3 : SubRing} :
    Fr m s (State.setRing s a1 a2 a3) := by
  delta State.setRing
  exact (Fr.trans (Fr.refl _ _) (State.setCtx_frame (Within.of rfl hm)))

theorem State.ringHead_frame {m : Nat} (hm : Within 36044808 m) {s : State} {a1 : CtxNo} {a2 : SubRing} :
    Fr m s (State.ringHead s a1 a2) := by
  delta State.ringHead
  exact (Fr.trans (Fr.refl _ _) (State.devWrite_frame (Within.of rfl hm)))

theorem State.ringOn_frame {m : Nat} (hm : Within 36044808 m) {s : State} {a1 : Path} {a2 : BitVec 2} {a3 : Word} :
    Fr m s (State.ringOn s a1 a2 a3) := by
  delta State.ringOn
  exact (by dsimp only; exact (Fr.ite (Fr.refl _ _) ((by (try dsimp only); split; exacts [(Fr.trans (Fr.refl _ _)
    (State.setRing_frame (Within.of rfl hm))), (Fr.trans ((Fr.trans (Fr.refl _ _) (State.setRing_frame (Within.of rfl hm))))
    (State.ringHead_frame (Within.of rfl hm)))]))))

theorem execRingEnable_frame {m : Nat} (hm : Within 36044808 m) {a0 : Path} {a1 : BitVec 2} {a2 : Word} {s : State} :
    OutFr m s (execRingEnable a0 a1 a2 s) := by
  delta execRingEnable
  exact OutFr.next ((Fr.trans (Fr.refl _ _) (State.ringOn_frame (Within.of rfl hm))))

theorem State.ringOff_frame {m : Nat} (hm : Within 2097152 m) {s : State} {a1 : Path} {a2 : BitVec 2} {a3 : Word} :
    Fr m s (State.ringOff s a1 a2 a3) := by
  delta State.ringOff
  exact (by dsimp only; exact (Fr.ite (Fr.refl _ _) ((Fr.ite ((Fr.trans (Fr.refl _ _) (State.setRing_frame (Within.of rfl hm))))
    ((Fr.trans (Fr.refl _ _) (State.setRing_frame (Within.of rfl hm))))))))

theorem execRingDisable_frame {m : Nat} (hm : Within 2097152 m) {a0 : Path} {a1 : BitVec 2} {a2 : Word} {s : State} :
    OutFr m s (execRingDisable a0 a1 a2 s) := by
  delta execRingDisable
  exact OutFr.next ((Fr.trans (Fr.refl _ _) (State.ringOff_frame (Within.of rfl hm))))

theorem State.ringVisit_frame {m : Nat} (hm : Within 13054771208 m) {s : State} {a1 : CtxNo} {a2 : ℕ} :
    Fr m s (State.ringVisit s a1 a2) := by
  delta State.ringVisit
  exact (Fr.ite (Fr.refl _ _) ((by (try dsimp only); split; exacts [(Fr.refl _ _), (Fr.ite ((Fr.trans ((Fr.trans ((Fr.trans
    (Fr.refl _ _) (State.devTouch_frame (Within.of rfl hm)))) (State.setRing_frame (Within.of rfl hm)))) (State.event_frame
    (Within.of rfl hm)))) ((Fr.trans ((Fr.trans (Fr.refl _ _) (State.devTouch_frame (Within.of rfl hm)))) (State.setRing_frame
    (Within.of rfl hm)))))])))

theorem execRingScan_frame {m : Nat} (hm : Within 13054771208 m) {a0 : CtxNo} {a1 : BitVec 2} {s : State} :
    OutFr m s (execRingScan a0 a1 s) := by
  delta execRingScan
  exact OutFr.next ((Fr.trans (Fr.refl _ _) (State.ringVisit_frame (Within.of rfl hm))))

theorem State.noIdle_frame {m : Nat} (hm : Within 2097152 m) {s : State} :
    Fr m s (State.noIdle s) := by
  delta State.noIdle
  exact (Fr.set_memctxs (Within.of rfl hm) (Fr.refl _ _))

theorem State.ringRest_frame {m : Nat} (hm : Within 2097152 m) {s : State} {a1 : CtxNo} {a2 : ℕ} :
    Fr m s (State.ringRest s a1 a2) := by
  delta State.ringRest
  exact (Fr.ite ((Fr.trans (Fr.refl _ _) (State.setRing_frame (Within.of rfl hm)))) (Fr.refl _ _))

theorem execRingIdle_frame {m : Nat} (hm : Within 2097152 m) {a0 : CtxNo} {a1 : BitVec 2} {s : State} :
    OutFr m s (execRingIdle a0 a1 s) := by
  delta execRingIdle
  exact OutFr.next ((Fr.trans (Fr.refl _ _) (State.ringRest_frame (Within.of rfl hm))))

theorem State.entryDone_frame {m : Nat} (hm : Within 36044808 m) {s : State} {a1 : CtxNo} {a2 : ℕ} :
    Fr m s (State.entryDone s a1 a2) := by
  delta State.entryDone
  exact (Fr.trans ((Fr.trans (Fr.refl _ _) (State.setRing_frame (Within.of rfl hm)))) (State.ringHead_frame (Within.of rfl hm)))

theorem State.entryRejected_frame {m : Nat} (hm : Within 13055164424 m) {s : State} {a1 : CtxNo} {a2 : ℕ} {a3 : Word} {a4 : Code}
  :
    Fr m s (State.entryRejected s a1 a2 a3 a4) := by
  delta State.entryRejected
  exact (Fr.trans ((Fr.trans ((Fr.trans (Fr.refl _ _) (State.setRing_frame (Within.of rfl hm)))) (State.event_frame (Within.of
    rfl hm)))) (State.entryDone_frame (Within.of rfl hm)))

theorem State.entryRun_frame {m : Nat} (hm : Within 13055164424 m) {s : State} {a1 : CtxNo} {a2 : ℕ} {a3 : ℕ → Bool} {a4 : State
  → Word → BitVec 512 → State} (h4 : ∀ v0 v1 v2, Fr m v0 (a4 v0 v1 v2)) :
    Fr m s (State.entryRun s a1 a2 a3 a4) := by
  delta State.entryRun
  exact (Fr.ite (Fr.refl _ _) ((by (try dsimp only); split; exacts [(Fr.refl _ _), (Fr.ite ((Fr.trans (Fr.refl _ _)
    (State.entryRejected_frame (Within.of rfl hm)))) (Fr.refl _ _)), (Fr.ite (Fr.refl _ _) ((by (try dsimp only); split; exacts
    [(Fr.trans (Fr.refl _ _) (State.entryRejected_frame (Within.of rfl hm))), (Fr.trans ((Fr.trans (Fr.refl _ _) (h4 _ _ _)))
    (State.entryDone_frame (Within.of rfl hm)))])))])))

theorem execRingNop_frame {m : Nat} (hm : Within 13055164424 m) {a0 : CtxNo} {a1 : BitVec 2} {s : State} :
    OutFr m s (execRingNop a0 a1 s) := by
  delta execRingNop
  exact OutFr.next ((Fr.trans (Fr.refl _ _) (State.entryRun_frame (Within.of rfl hm) (fun _ _ _ => Fr.refl _ _))))

theorem State.entryStart_frame {m : Nat} (hm : Within 44482060 m) {s : State} {a1 : CtxNo} {a2 : ℕ} {a3 : Word} {a4 : BitVec 512}
  :
    Fr m s (State.entryStart s a1 a2 a3 a4) := by
  delta State.entryStart
  exact (by (try dsimp only); split; exacts [(Fr.trans ((Fr.set_starts (Within.of rfl hm) ((Fr.trans ((Fr.trans ((Fr.trans
    (Fr.refl _ _) (State.rewrite_frame (Within.of rfl hm)))) (State.fresh_frame (Within.of rfl hm)))) (State.setCtx_frame
    (Within.of rfl hm)))))) (State.refuseStart_frame (Within.of rfl hm))), (Fr.ite ((Fr.trans ((Fr.set_starts (Within.of rfl hm)
    ((Fr.trans ((Fr.trans ((Fr.trans (Fr.refl _ _) (State.rewrite_frame (Within.of rfl hm)))) (State.fresh_frame (Within.of rfl
    hm)))) (State.setCtx_frame (Within.of rfl hm)))))) (State.refuseStart_frame (Within.of rfl hm)))) ((Fr.set_starts (Within.of
    rfl hm) ((Fr.trans ((Fr.trans ((Fr.trans (Fr.refl _ _) (State.rewrite_frame (Within.of rfl hm)))) (State.fresh_frame
    (Within.of rfl hm)))) (State.setCtx_frame (Within.of rfl hm)))))))])

theorem execRingStart_frame {m : Nat} (hm : Within 13063601676 m) {a0 : CtxNo} {a1 : BitVec 2} {s : State} :
    OutFr m s (execRingStart a0 a1 s) := by
  delta execRingStart
  exact OutFr.next ((Fr.trans (Fr.refl _ _) (State.entryRun_frame (Within.of rfl hm) (fun _ _ _ => (Fr.trans (Fr.refl _ _)
    (State.entryStart_frame (Within.of rfl hm)))))))

theorem State.entryRelease_frame {m : Nat} (hm : Within 44466188 m) {s : State} {a1 : CtxNo} {a2 : BitVec 512} :
    Fr m s (State.entryRelease s a1 a2) := by
  delta State.entryRelease
  exact (Fr.trans (Fr.refl _ _) (State.rewrite_frame (Within.of rfl hm)))

theorem execRingRelease_frame {m : Nat} (hm : Within 13063585804 m) {a0 : CtxNo} {a1 : BitVec 2} {s : State} :
    OutFr m s (execRingRelease a0 a1 s) := by
  delta execRingRelease
  exact OutFr.next ((Fr.trans (Fr.refl _ _) (State.entryRun_frame (Within.of rfl hm) (fun _ _ _ => (Fr.trans (Fr.refl _ _)
    (State.entryRelease_frame (Within.of rfl hm)))))))

theorem State.statusSet_frame {m : Nat} (hm : Within 36077576 m) {s : State} {a1 : CtxNo} {a2 : BitVec 64} {a3 : ℕ} :
    Fr m s (State.statusSet s a1 a2 a3) := by
  delta State.statusSet
  exact (Fr.ite (Fr.refl _ _) ((Fr.ite ((Fr.set_subs (Within.of rfl hm) ((Fr.trans (Fr.refl _ _) (State.setCtx_frame (Within.of
    rfl hm)))))) ((Fr.trans ((Fr.set_subs (Within.of rfl hm) ((Fr.trans (Fr.refl _ _) (State.setCtx_frame (Within.of rfl hm))))))
    (State.devWrite_frame (Within.of rfl hm)))))))

theorem execStatusRegionConfig_frame {m : Nat} (hm : Within 36077576 m) {a0 : Path} {a1 : Word} {s : State} :
    OutFr m s (execStatusRegionConfig a0 a1 s) := by
  delta execStatusRegionConfig
  exact OutFr.next ((Fr.ite ((Fr.trans (Fr.refl _ _) (State.statusSet_frame (Within.of rfl hm)))) (Fr.refl _ _)))

theorem State.hostDrop_frame {m : Nat} (hm : Within 13027541000 m) {s : State} {a1 : CtxNo} :
    Fr m s (State.hostDrop s a1) := by
  delta State.hostDrop
  exact (Fr.set_subs (Within.of rfl hm) ((Fr.trans ((Fr.trans (Fr.refl _ _) (State.qpError_frame (Within.of rfl hm))))
    (State.modQp_frame (Within.of rfl hm)))))

end Sys2Proof.Machine
end

