-- ==== Sys2Proof/Laws/FrameContexts.lean ====
section
/-! SUPPORT. The frame of every operation of Machine/Contexts: the parts of the state that it can change. -/

set_option Elab.async false
set_option linter.unusedTactic false

namespace Sys2Proof.Machine
open Sys2Proof.Safety

theorem State.modPath_frame {m : Nat} (hm : Within 32 m) {s : State} {a1 : ℕ} {a2 : PathSt → PathSt} :
    Fr m s (State.modPath s a1 a2) := by
  delta State.modPath
  exact (Fr.set_paths (Within.of rfl hm) (Fr.refl _ _))

theorem State.ctxAnswer_frame {m : Nat} (hm : Within 32 m) {s : State} {a1 : ℕ} {a2 : CtxNo} {a3 : Code} :
    Fr m s (State.ctxAnswer s a1 a2 a3) := by
  delta State.ctxAnswer
  exact (Fr.trans (Fr.refl _ _) (State.modPath_frame (Within.of rfl hm)))

theorem State.fenceThread_frame {m : Nat} (hm : Within 44477964 m) {s : State} {a1 : ℕ} {a2 : ℕ} :
    Fr m s (State.fenceThread s a1 a2) := by
  delta State.fenceThread
  exact (by (try dsimp only); split; exacts [(Fr.refl _ _), (Fr.ite (Fr.refl _ _) ((Fr.ite ((Fr.trans (Fr.refl _ _)
    (State.threadEnd_frame (Within.of rfl hm)))) ((Fr.trans (Fr.refl _ _) (State.endWait_frame (Within.of rfl hm)))))))])

theorem State.fenceCtx_frame {m : Nat} (hm : Within 44482060 m) {s : State} {a1 : CtxNo} :
    Fr m s (State.fenceCtx s a1) := by
  delta State.fenceCtx
  exact (Fr.trans ((Fr.trans ((Fr.trans (Fr.refl _ _) (State.setCtx_frame (Within.of rfl hm)))) (State.refuseStarts_frame
    (Within.of rfl hm)))) (Fr.foldl (fun _ _ => (Fr.trans (Fr.refl _ _) (State.fenceThread_frame (Within.of rfl hm))))))

theorem State.ctxStop_frame {m : Nat} (hm : Within 44564236 m) {s : State} {a1 : CtxNo} {a2 : BitVec 3} {a3 : ℕ} :
    Fr m s (State.ctxStop s a1 a2 a3) := by
  delta State.ctxStop
  exact (Fr.trans ((Fr.trans (Fr.refl _ _) (State.setCtx_frame (Within.of rfl hm)))) (State.absorbCtx_frame (Within.of rfl hm)))

theorem State.ctxOp_frame {m : Nat} (hm : Within 44564268 m) {s : State} {a1 : CtxNo} {a2 : BitVec 3} {a3 : ℕ} :
    Fr m s (State.ctxOp s a1 a2 a3) := by
  delta State.ctxOp
  exact (Fr.ite ((Fr.trans (Fr.refl _ _) (State.ctxAnswer_frame (Within.of rfl hm)))) ((Fr.ite ((Fr.trans (Fr.refl _ _)
    (State.setCtx_frame (Within.of rfl hm)))) ((Fr.ite ((Fr.trans ((Fr.ite ((Fr.trans (Fr.refl _ _) (State.fenceCtx_frame
    (Within.of rfl hm)))) ((Fr.ite ((Fr.trans (Fr.refl _ _) (State.setCtx_frame (Within.of rfl hm)))) (Fr.refl _ _)))))
    (State.ctxAnswer_frame (Within.of rfl hm)))) ((Fr.ite ((Fr.trans ((Fr.ite ((Fr.trans (Fr.refl _ _) (State.setCtx_frame
    (Within.of rfl hm)))) ((Fr.ite ((Fr.trans (Fr.refl _ _) (State.setCtx_frame (Within.of rfl hm)))) (Fr.refl _ _)))))
    (State.ctxAnswer_frame (Within.of rfl hm)))) ((Fr.trans (Fr.refl _ _) (State.ctxStop_frame (Within.of rfl hm)))))))))))

theorem State.ctxNext_frame {m : Nat} (hm : Within 44564268 m) {s : State} {a1 : CtxNo} :
    Fr m s (State.ctxNext s a1) := by
  delta State.ctxNext
  exact (Fr.trans ((Fr.trans (Fr.refl _ _) (State.setCtx_frame (Within.of rfl hm)))) (Fr.foldl (fun _ _ => (Fr.trans (Fr.refl _
    _) (State.ctxOp_frame (Within.of rfl hm))))))

theorem State.ctxCmd_frame {m : Nat} (hm : Within 32 m) {s : State} {a1 : Path} {a2 : Word} :
    Fr m s (State.ctxCmd s a1 a2) := by
  delta State.ctxCmd
  exact (Fr.trans (Fr.refl _ _) (State.modPath_frame (Within.of rfl hm)))

theorem State.ctxCommand_frame {m : Nat} (hm : Within 44564268 m) {s : State} {a1 : Path} {a2 : BitVec 3} :
    Fr m s (State.ctxCommand s a1 a2) := by
  delta State.ctxCommand
  exact (Fr.ite ((Fr.trans ((Fr.trans (Fr.refl _ _) (State.ctxCmd_frame (Within.of rfl hm)))) (State.ctxOp_frame (Within.of rfl
    hm)))) (Fr.refl _ _))

theorem State.ctxMake_frame {m : Nat} (hm : Within 2097184 m) {s : State} {a1 : Path} {a2 : Pid} :
    Fr m s (State.ctxMake s a1 a2) := by
  delta State.ctxMake
  exact (Fr.ite (Fr.refl _ _) ((by (try dsimp only); split; exacts [(Fr.trans ((Fr.trans ((Fr.trans (Fr.refl _ _)
    (State.ctxCmd_frame (Within.of rfl hm)))) (State.setCtx_frame (Within.of rfl hm)))) (State.ctxAnswer_frame (Within.of rfl
    hm))), (Fr.trans ((Fr.trans (Fr.refl _ _) (State.ctxCmd_frame (Within.of rfl hm)))) (State.modPath_frame (Within.of rfl
    hm)))])))

theorem execCtxCreate_frame {m : Nat} (hm : Within 2097184 m) {a0 : Path} {a1 : Pid} {s : State} :
    OutFr m s (execCtxCreate a0 a1 s) := by
  delta execCtxCreate
  exact OutFr.next ((Fr.trans (Fr.refl _ _) (State.ctxMake_frame (Within.of rfl hm))))

theorem execCtxDestroy_frame {m : Nat} (hm : Within 44564268 m) {a0 : Path} {s : State} :
    OutFr m s (execCtxDestroy a0 s) := by
  delta execCtxDestroy
  exact OutFr.next ((Fr.trans (Fr.refl _ _) (State.ctxCommand_frame (Within.of rfl hm))))

theorem execCtxFence_frame {m : Nat} (hm : Within 44564268 m) {a0 : Path} {s : State} :
    OutFr m s (execCtxFence a0 s) := by
  delta execCtxFence
  exact OutFr.next ((Fr.trans (Fr.refl _ _) (State.ctxCommand_frame (Within.of rfl hm))))

theorem execCtxUnfence_frame {m : Nat} (hm : Within 44564268 m) {a0 : Path} {s : State} :
    OutFr m s (execCtxUnfence a0 s) := by
  delta execCtxUnfence
  exact OutFr.next ((Fr.trans (Fr.refl _ _) (State.ctxCommand_frame (Within.of rfl hm))))

theorem execCtxReset_frame {m : Nat} (hm : Within 44564268 m) {a0 : Path} {s : State} :
    OutFr m s (execCtxReset a0 s) := by
  delta execCtxReset
  exact OutFr.next ((Fr.trans (Fr.refl _ _) (State.ctxCommand_frame (Within.of rfl hm))))

theorem State.ctxResetDone_frame {m : Nat} (hm : Within 44564268 m) {s : State} {a1 : CtxNo} :
    Fr m s (State.ctxResetDone s a1) := by
  delta State.ctxResetDone
  exact (by (try dsimp only); split; exacts [(Fr.ite ((Fr.trans ((Fr.trans ((Fr.ite ((Fr.trans (Fr.refl _ _) (State.setCtx_frame
    (Within.of rfl hm)))) ((Fr.trans ((Fr.trans (Fr.refl _ _) (State.setCtx_frame (Within.of rfl hm)))) (State.freeCtx_frame
    (Within.of rfl hm)))))) (State.ctxAnswer_frame (Within.of rfl hm)))) (State.ctxNext_frame (Within.of rfl hm)))) (Fr.refl _
    _)), (Fr.refl _ _)])

theorem execCtxResetDone_frame {m : Nat} (hm : Within 44564268 m) {a0 : CtxNo} {s : State} :
    OutFr m s (execCtxResetDone a0 s) := by
  delta execCtxResetDone
  exact OutFr.next ((Fr.trans (Fr.refl _ _) (State.ctxResetDone_frame (Within.of rfl hm))))

theorem Site.freePage_sound {x : Site} (h : SiteSound x) (o : Nat) : SiteSound (x.freePage o) := by
  unfold Site.freePage
  dsimp only
  (repeat' split) <;> exact h

theorem Site.takePage_sound {x : Site} {b : Bool} {r : Site × Nat} (h : SiteSound x) (hr : x.takePage b = some r) : SiteSound r.1
  := by
  unfold Site.takePage at hr
  dsimp only at hr
  split at hr
  · cases hr
  · split at hr
    · rw [Option.map_eq_some_iff] at hr
      obtain ⟨f, -, rfl⟩ := hr
      exact h
    · split at hr
      · split at hr
        · rw [Option.map_eq_some_iff] at hr
          obtain ⟨f, -, rfl⟩ := hr
          exact h
        · cases hr
      · rw [Option.map_eq_some_iff] at hr
        obtain ⟨f, -, rfl⟩ := hr
        exact h

theorem State.takePage_frame {m : Nat} (hm : Within 131072 m) {s : State} {i : Nat} {b : Bool} {r : State × PageAt}
    (h : s.takePage i b = some r) : Fr m s r.1 := by
  unfold State.takePage at h
  rw [Option.map_eq_some_iff] at h
  obtain ⟨x, hx, rfl⟩ := h
  exact State.setSite_frame (Within.of rfl hm) fun h => Site.takePage_sound (Sound.site h i) hx

theorem takeInTurn_frame {m : Nat} (hm : Within 131072 m) {l : List Nat} {b : Bool} {n i : Nat} {s : State} {r : State × List
  PageAt}
    (h : takeInTurn l b n i s = some r) : Fr m s r.1 := by
  induction n generalizing s i r with
  | zero => cases h; exact Fr.refl _ _
  | succ n ih =>
    unfold takeInTurn at h
    split at h
    · cases h
    · split at h
      · cases h
      · next hp =>
        rw [Option.map_eq_some_iff] at h
        obtain ⟨x, hx, rfl⟩ := h
        exact (State.takePage_frame (Within.of rfl hm) hp).trans (ih (r := x) hx)

theorem takeMost_frame {m : Nat} (hm : Within 131072 m) {l : List Nat} {b : Bool} {n i : Nat} {s : State} :
    Fr m s (takeMost l b n i s).1 := by
  induction n generalizing s i with
  | zero => exact Fr.refl _ _
  | succ n ih =>
    unfold takeMost
    split
    · exact Fr.refl _ _
    · next hp =>
      obtain ⟨k, -, hk⟩ := List.exists_of_findSome?_eq_some hp
      exact (State.takePage_frame (Within.of rfl hm) hk).trans ih

theorem State.place_frame {m : Nat} (hm : Within 131072 m) {s : State} {pl : BitVec 2} {site n : Nat} {b : Bool} {r : State ×
  List PageAt}
    (h : s.place pl site b n = some r) : Fr m s r.1 := by
  unfold State.place at h
  dsimp only at h
  split at h
  · exact takeInTurn_frame (Within.of rfl hm) h
  · split at h
    · exact takeInTurn_frame (Within.of rfl hm) h
    · revert h
      generalize hq : (if pl = 2 then takeMost s.openSites b n s.mem.rot s else (s, [])) = q
      intro h
      have hf : Fr m s q.1 := by
        subst hq
        split
        · exact takeMost_frame (Within.of rfl hm)
        · exact Fr.refl _ _
      obtain ⟨-, h⟩ | ⟨-, h⟩ := ite_eq_iff.mp h
      · cases h
        exact hf
      · cases h

theorem State.rAnswer_frame {m : Nat} (hm : Within 32 m) {s : State} {a1 : ℕ} {a2 : CtxNo} {a3 : ℕ} {a4 : Code} :
    Fr m s (State.rAnswer s a1 a2 a3 a4) := by
  delta State.rAnswer
  exact (Fr.trans (Fr.refl _ _) (State.modPath_frame (Within.of rfl hm)))

theorem State.rStore_frame {m : Nat} (hm : Within 32 m) {s : State} {a1 : Path} {a2 : Word} :
    Fr m s (State.rStore s a1 a2) := by
  delta State.rStore
  exact (Fr.trans (Fr.refl _ _) (State.modPath_frame (Within.of rfl hm)))

theorem State.setRegion_frame {m : Nat} (hm : Within 2097152 m) {s : State} {a1 : CtxNo} {a2 : ℕ} {a3 : Region} :
    Fr m s (State.setRegion s a1 a2 a3) := by
  delta State.setRegion
  exact (Fr.trans (Fr.refl _ _) (State.setCtx_frame (Within.of rfl hm)))

theorem State.delRegion_frame {m : Nat} (hm : Within 2097152 m) {s : State} {a1 : CtxNo} {a2 : ℕ} :
    Fr m s (State.delRegion s a1 a2) := by
  delta State.delRegion
  exact (Fr.trans (Fr.refl _ _) (State.setCtx_frame (Within.of rfl hm)))

theorem State.regionCmd_frame {m : Nat} (hm : Within 32 m) {s : State} {a1 : Path} {a2 : Word} {a3 : ℕ} {a4 : State → CtxNo → ℕ →
  State} (h4 : ∀ v0 v1 v2, Fr m v0 (a4 v0 v1 v2)) :
    Fr m s (State.regionCmd s a1 a2 a3 a4) := by
  delta State.regionCmd
  exact (Fr.ite (Fr.refl _ _) ((Fr.ite ((Fr.trans (Fr.refl _ _) (State.rStore_frame (Within.of rfl hm)))) ((Fr.ite ((Fr.trans
    ((Fr.trans (Fr.refl _ _) (State.rStore_frame (Within.of rfl hm)))) (State.rAnswer_frame (Within.of rfl hm)))) ((Fr.trans
    ((Fr.trans (Fr.refl _ _) (State.rStore_frame (Within.of rfl hm)))) (h4 _ _ _))))))))

theorem State.allocate_frame {m : Nat} (hm : Within 6422560 m) {s : State} {p : Path} {v : Word} {c : CtxNo} {r : Nat} :
    Fr m s (s.allocate p v c r) := by
  unfold State.allocate
  dsimp only
  split
  · exact State.rAnswer_frame (Within.of rfl hm)
  · split
    · exact State.rAnswer_frame (Within.of rfl hm)
    · next hp =>
      exact ((State.place_frame (Within.of rfl hm) hp).trans (Fr.set_memrot (Within.of rfl hm) (Fr.refl _ _))).trans
        (State.setRegion_frame (Within.of rfl hm))

theorem execRegionAllocate_frame {m : Nat} (hm : Within 6422560 m) {a0 : Path} {a1 : Word} {s : State} :
    OutFr m s (execRegionAllocate a0 a1 s) := by
  delta execRegionAllocate
  exact OutFr.next ((Fr.trans (Fr.refl _ _) (State.regionCmd_frame (Within.of rfl hm) (fun _ _ _ => (Fr.trans (Fr.refl _ _)
    (State.allocate_frame (Within.of rfl hm)))))))

theorem State.zeroPage_frame {m : Nat} (hm : Within 393216 m) {s : State} {a1 : ℕ} {a2 : PageAt} :
    Fr m s (State.zeroPage s a1 a2) := by
  delta State.zeroPage
  exact (by (try dsimp only); split; exacts [(Fr.trans (Fr.refl _ _) (State.setSite_frame (Within.of rfl hm))),
    (Fr.set_memremote_memremBad (Within.of rfl hm) (Fr.refl _ _))])

theorem State.tellZero_frame {m : Nat} (hm : Within 33554440 m) {s : State} {a1 : CtxNo} {a2 : ℕ} {a3 : PageAt} :
    Fr m s (State.tellZero s a1 a2 a3) := by
  delta State.tellZero
  exact (by (try dsimp only); split; exacts [(Fr.refl _ _), (Fr.trans (Fr.refl _ _) (State.askLender_frame (Within.of rfl hm)))])

theorem State.allocDone_frame {m : Nat} (hm : Within 36044840 m) {s : State} {a1 : CtxNo} {a2 : ℕ} :
    Fr m s (State.allocDone s a1 a2) := by
  delta State.allocDone
  exact (by (try dsimp only); split; exacts [(Fr.ite ((Fr.trans ((Fr.trans ((Fr.trans (Fr.refl _ _) (Fr.foldl (fun _ _ =>
    (Fr.trans ((Fr.trans (Fr.refl _ _) (State.zeroPage_frame (Within.of rfl hm)))) (State.tellZero_frame (Within.of rfl hm)))))))
    (State.setRegion_frame (Within.of rfl hm)))) (State.rAnswer_frame (Within.of rfl hm)))) (Fr.refl _ _)), (Fr.refl _ _)])

theorem execRegionAllocateDone_frame {m : Nat} (hm : Within 36044840 m) {a0 : CtxNo} {a1 : BitVec 6} {s : State} :
    OutFr m s (execRegionAllocateDone a0 a1 s) := by
  delta execRegionAllocateDone
  exact OutFr.next ((Fr.trans (Fr.refl _ _) (State.allocDone_frame (Within.of rfl hm))))

theorem State.release_frame {m : Nat} (hm : Within 36044840 m) {s : State} {a1 : Path} {a2 : CtxNo} {a3 : ℕ} :
    Fr m s (State.release s a1 a2 a3) := by
  delta State.release
  exact (by (try dsimp only); split; exacts [(Fr.trans ((Fr.trans (Fr.refl _ _) (State.allocDone_frame (Within.of rfl hm))))
    (State.rAnswer_frame (Within.of rfl hm))), (Fr.ite ((Fr.trans ((Fr.trans (Fr.refl _ _) (State.allocDone_frame (Within.of rfl
    hm)))) (State.rAnswer_frame (Within.of rfl hm)))) ((Fr.ite ((Fr.trans ((Fr.trans (Fr.refl _ _) (State.allocDone_frame
    (Within.of rfl hm)))) (State.rAnswer_frame (Within.of rfl hm)))) ((Fr.trans ((Fr.trans (Fr.refl _ _) (State.allocDone_frame
    (Within.of rfl hm)))) (State.setRegion_frame (Within.of rfl hm)))))))])

theorem execRegionRelease_frame {m : Nat} (hm : Within 36044840 m) {a0 : Path} {a1 : Word} {s : State} :
    OutFr m s (execRegionRelease a0 a1 s) := by
  delta execRegionRelease
  exact OutFr.next ((Fr.trans (Fr.refl _ _) (State.regionCmd_frame (Within.of rfl hm) (fun _ _ _ => (Fr.trans (Fr.refl _ _)
    (State.release_frame (Within.of rfl hm)))))))

theorem State.freeRegion_frame {m : Nat} (hm : Within 2228224 m) {s : State} {a1 : CtxNo} {a2 : ℕ} {a3 : Region} :
    Fr m s (State.freeRegion s a1 a2 a3) := by
  delta State.freeRegion
  exact (Fr.trans ((Fr.trans (Fr.refl _ _) (Fr.foldl (fun _ _ => (by (try dsimp only); split; exacts [(Fr.trans (Fr.refl _ _)
    (State.setSite_frame (Within.of rfl hm) (fun h => Site.freePage_sound (Sound.site h _) _))), (Fr.refl _ _)])))))
    (State.delRegion_frame (Within.of rfl hm)))

theorem State.releaseDone_frame {m : Nat} (hm : Within 2228256 m) {s : State} {a1 : CtxNo} {a2 : ℕ} :
    Fr m s (State.releaseDone s a1 a2) := by
  delta State.releaseDone
  exact (by (try dsimp only); split; exacts [(Fr.ite ((Fr.trans ((Fr.trans (Fr.refl _ _) (State.freeRegion_frame (Within.of rfl
    hm)))) (State.rAnswer_frame (Within.of rfl hm)))) (Fr.refl _ _)), (Fr.refl _ _)])

theorem execRegionReleaseDone_frame {m : Nat} (hm : Within 2228256 m) {a0 : CtxNo} {a1 : BitVec 6} {s : State} :
    OutFr m s (execRegionReleaseDone a0 a1 s) := by
  delta execRegionReleaseDone
  exact OutFr.next ((Fr.trans (Fr.refl _ _) (State.releaseDone_frame (Within.of rfl hm))))

theorem State.query_frame {m : Nat} (hm : Within 32 m) {s : State} {a1 : Path} {a2 : CtxNo} {a3 : ℕ} :
    Fr m s (State.query s a1 a2 a3) := by
  delta State.query
  exact (Fr.trans ((Fr.trans (Fr.refl _ _) (State.modPath_frame (Within.of rfl hm)))) (State.rAnswer_frame (Within.of rfl hm)))

theorem execRegionQuery_frame {m : Nat} (hm : Within 32 m) {a0 : Path} {a1 : Word} {s : State} :
    OutFr m s (execRegionQuery a0 a1 s) := by
  delta execRegionQuery
  exact OutFr.next ((Fr.trans (Fr.refl _ _) (State.regionCmd_frame (Within.of rfl hm) (fun _ _ _ => (Fr.trans (Fr.refl _ _)
    (State.query_frame (Within.of rfl hm)))))))

theorem State.ctxDestroyed_frame {m : Nat} (hm : Within 13063683884 m) {s : State} {a1 : CtxNo} :
    Fr m s (State.ctxDestroyed s a1) := by
  delta State.ctxDestroyed
  exact (by (try dsimp only); split; exacts [(Fr.ite ((Fr.trans ((Fr.trans ((Fr.trans ((Fr.trans ((Fr.trans (Fr.refl _ _)
    (Fr.foldl (fun _ _ => (Fr.ite ((Fr.trans ((Fr.trans (Fr.refl _ _) (State.freeRegion_frame (Within.of rfl hm))))
    (State.rAnswer_frame (Within.of rfl hm)))) ((Fr.trans (Fr.refl _ _) (State.freeRegion_frame (Within.of rfl hm)))))))))
    (State.hostDrop_frame (Within.of rfl hm)))) (State.setCtx_frame (Within.of rfl hm)))) (State.ctxAnswer_frame (Within.of rfl
    hm)))) (Fr.foldl (fun _ _ => (Fr.trans (Fr.refl _ _) (State.ctxOp_frame (Within.of rfl hm))))))) (Fr.refl _ _)),
    (Fr.refl _ _)])

theorem execCtxDestroyDone_frame {m : Nat} (hm : Within 13063683884 m) {a0 : CtxNo} {s : State} :
    OutFr m s (execCtxDestroyDone a0 s) := by
  delta execCtxDestroyDone
  exact OutFr.next ((Fr.trans (Fr.refl _ _) (State.ctxDestroyed_frame (Within.of rfl hm))))

theorem State.grantWrite_frame {m : Nat} (hm : Within 13021216776 m) {s : State} {a1 : Path} {a2 : Word} :
    Fr m s (State.grantWrite s a1 a2) := by
  delta State.grantWrite
  exact (Fr.ite (Fr.refl _ _) ((Fr.ite ((Fr.trans (Fr.refl _ _) (State.event_frame (Within.of rfl hm)))) ((Fr.trans (Fr.refl _ _)
    (State.setCtx_frame (Within.of rfl hm)))))))

theorem execCtxTbgrantWrite_frame {m : Nat} (hm : Within 13021216776 m) {a0 : Path} {a1 : Word} {s : State} :
    OutFr m s (execCtxTbgrantWrite a0 a1 s) := by
  delta execCtxTbgrantWrite
  exact OutFr.next ((Fr.trans (Fr.refl _ _) (State.grantWrite_frame (Within.of rfl hm))))

theorem State.loseRegion_frame {m : Nat} (hm : Within 2490400 m) {s : State} {a1 : CtxNo} {a2 : ℕ} :
    Fr m s (State.loseRegion s a1 a2) := by
  delta State.loseRegion
  exact (by (try dsimp only); split; exacts [(Fr.ite ((Fr.ite ((Fr.trans ((Fr.trans ((Fr.trans (Fr.refl _ _)
    (State.setRegion_frame (Within.of rfl hm)))) (Fr.foldl (fun _ _ => (Fr.trans (Fr.refl _ _) (State.zeroPage_frame (Within.of
    rfl hm))))))) (State.rAnswer_frame (Within.of rfl hm)))) ((Fr.trans (Fr.refl _ _) (State.setRegion_frame (Within.of rfl
    hm)))))) (Fr.refl _ _)), (Fr.refl _ _)])

theorem State.loseRemote_frame {m : Nat} (hm : Within 13021610024 m) {s : State} :
    Fr m s (State.loseRemote s) := by
  delta State.loseRemote
  exact (Fr.trans ((Fr.trans (Fr.refl _ _) (Fr.foldl (fun _ _ => (Fr.trans (Fr.refl _ _) (Fr.foldl (fun _ _ => (Fr.trans (Fr.refl
    _ _) (State.loseRegion_frame (Within.of rfl hm)))))))))) (State.event_frame (Within.of rfl hm)))

theorem execLenderLost_frame {m : Nat} (hm : Within 13021610024 m) {a0 : Node} {s : State} :
    OutFr m s (execLenderLost a0 s) := by
  delta execLenderLost
  exact OutFr.next ((Fr.ite ((Fr.trans (Fr.refl _ _) (State.loseRemote_frame (Within.of rfl hm)))) (Fr.refl _ _)))

end Sys2Proof.Machine
end

