-- ==== Sys2Proof/Laws/FramePlans.lean ====
section
/-! SUPPORT. The frame of every operation of Machine/Plans: the parts of the state that it can change. -/

set_option Elab.async false
set_option linter.unusedTactic false

namespace Sys2Proof.Machine
open Sys2Proof.Safety

theorem State.setSlot_frame {m : Nat} (hm : Within 268435456 m) {s : State} {a1 : BitVec 2} {a2 : PlanSlot} :
    Fr m s (State.setSlot s a1 a2) := by
  delta State.setSlot
  exact (Fr.set_plan (Within.of rfl hm) (Fr.refl _ _))

theorem State.startLoadPlan_frame {m : Nat} (hm : Within 268435456 m) {s : State} {a1 : BitVec 2} :
    Fr m s (State.startLoadPlan s a1) := by
  delta State.startLoadPlan
  exact (Fr.set_plan (Within.of rfl hm) ((Fr.ite (Fr.refl _ _) ((Fr.trans (Fr.refl _ _) (State.setSlot_frame (Within.of rfl
    hm)))))))

theorem State.loadPlan_frame {m : Nat} (hm : Within 268435472 m) {s : State} {a1 : Path} {a2 : BitVec 2} :
    Fr m s (State.loadPlan s a1 a2) := by
  delta State.loadPlan
  exact (Fr.ite (Fr.refl _ _) ((Fr.ite ((Fr.set_plan (Within.of rfl hm) ((Fr.trans (Fr.refl _ _) (State.setPol_frame (Within.of
    rfl hm)))))) ((Fr.trans ((Fr.trans (Fr.refl _ _) (State.setPol_frame (Within.of rfl hm)))) (State.startLoadPlan_frame
    (Within.of rfl hm)))))))

theorem execPlanLoad_frame {m : Nat} (hm : Within 268435472 m) {a0 : Path} {a1 : BitVec 2} {s : State} :
    OutFr m s (execPlanLoad a0 a1 s) := by
  delta execPlanLoad
  exact OutFr.next ((Fr.trans (Fr.refl _ _) (State.loadPlan_frame (Within.of rfl hm))))

theorem State.loadPlanDone_frame {m : Nat} (hm : Within 13287555080 m) {s : State} :
    Fr m s (State.loadPlanDone s) := by
  delta State.loadPlanDone
  exact (by (try dsimp only); split; exacts [(Fr.refl _ _), (by (try dsimp only); split; exacts [(Fr.trans ((Fr.set_plan
    (Within.of rfl hm) ((Fr.set_plan (Within.of rfl hm) ((by (try dsimp only); split; exacts [(Fr.trans ((Fr.trans (Fr.refl _ _)
    (State.setSlot_frame (Within.of rfl hm)))) (State.event_frame (Within.of rfl hm))), (Fr.trans ((Fr.ite ((Fr.trans (Fr.refl _
    _) (State.setSlot_frame (Within.of rfl hm)))) (Fr.refl _ _))) (State.event_frame (Within.of rfl hm)))]))))))
    (State.startLoadPlan_frame (Within.of rfl hm))), (Fr.set_plan (Within.of rfl hm) ((by (try dsimp only); split; exacts
    [(Fr.trans ((Fr.trans (Fr.refl _ _) (State.setSlot_frame (Within.of rfl hm)))) (State.event_frame (Within.of rfl hm))),
    (Fr.trans ((Fr.ite ((Fr.trans (Fr.refl _ _) (State.setSlot_frame (Within.of rfl hm)))) (Fr.refl _ _))) (State.event_frame
    (Within.of rfl hm)))])))])])

theorem execPlanLoadDone_frame {m : Nat} (hm : Within 13287555080 m) {s : State} :
    OutFr m s (execPlanLoadDone s) := by
  delta execPlanLoadDone
  exact OutFr.next ((Fr.trans (Fr.refl _ _) (State.loadPlanDone_frame (Within.of rfl hm))))

theorem State.erasePlan_frame {m : Nat} (hm : Within 268435472 m) {s : State} {a1 : Path} {a2 : BitVec 2} :
    Fr m s (State.erasePlan s a1 a2) := by
  delta State.erasePlan
  exact (Fr.ite (Fr.refl _ _) ((Fr.ite ((Fr.set_plan (Within.of rfl hm) ((Fr.trans ((Fr.trans (Fr.refl _ _) (State.setPol_frame
    (Within.of rfl hm)))) (State.setSlot_frame (Within.of rfl hm)))))) ((Fr.set_plan (Within.of rfl hm) ((Fr.trans (Fr.refl _ _)
    (State.setPol_frame (Within.of rfl hm)))))))))

theorem execPlanErase_frame {m : Nat} (hm : Within 268435472 m) {a0 : Path} {a1 : BitVec 2} {s : State} :
    OutFr m s (execPlanErase a0 a1 s) := by
  delta execPlanErase
  exact OutFr.next ((Fr.trans (Fr.refl _ _) (State.erasePlan_frame (Within.of rfl hm))))

theorem execPlanMarkRewrite_frame {m : Nat} (hm : Within 268435456 m) {s : State} :
    OutFr m s (execPlanMarkRewrite s) := by
  delta execPlanMarkRewrite
  exact OutFr.next ((Fr.set_plan (Within.of rfl hm) (Fr.refl _ _)))

theorem State.loadLinks_frame {m : Nat} (hm : Within 33554432 m) {s : State} {a1 : Plan} {a2 : ℕ} :
    Fr m s (State.loadLinks s a1 a2) := by
  delta State.loadLinks
  exact (Fr.trans (Fr.refl _ _) (Fr.foldl (fun _ _ => (by (try dsimp only); split; exacts [(Fr.trans (Fr.refl _ _)
    (State.setLink_frame (Within.of rfl hm))), (Fr.ite ((Fr.trans (Fr.refl _ _) (State.setLink_frame (Within.of rfl hm))))
    (Fr.refl _ _))]))))

theorem State.flushStuck_frame {m : Nat} (hm : Within 33554440 m) {s : State} :
    Fr m s (State.flushStuck s) := by
  delta State.flushStuck
  exact (Fr.trans ((Fr.set_fab (Within.of rfl hm) (Fr.refl _ _))) (Fr.foldl (fun _ _ => (Fr.trans (Fr.refl _ _)
    (State.route_frame (Within.of rfl hm))))))

theorem State.setPool_frame {m : Nat} (hm : Within 4849664 m) {s : State} {a1 : ℕ} :
    Fr m s (State.setPool s a1) := by
  delta State.setPool
  exact (Fr.ite (Fr.refl _ _) ((Fr.set_mempool (Within.of rfl hm) ((Fr.trans ((Fr.set_memlent_mempool (Within.of rfl hm)
    ((Fr.trans (Fr.refl _ _) (Fr.foldl (fun _ _ => (Fr.trans (Fr.refl _ _) (State.setSite_frame (Within.of rfl hm)
    (fun h => Site.freePage_sound (Sound.site h _) _))))))))) (takeMost_frame (Within.of rfl hm)))))))

theorem State.activate_frame {m : Nat} (hm : Within 13328318504 m) {s : State} {a1 : BitVec 2} :
    Fr m s (State.activate s a1) := by
  delta State.activate
  exact (by (try dsimp only); split; exacts [(Fr.refl _ _), (Fr.trans ((Fr.ite ((Fr.trans ((Fr.trans
    ((by (try dsimp only); split; exacts [(Fr.trans ((Fr.set_plan (Within.of rfl hm) ((Fr.trans
    ((by (try dsimp only); split; exacts [(Fr.trans (Fr.refl _ _) (State.setSlot_frame (Within.of rfl hm))), (Fr.refl _ _)]))
    (State.setSlot_frame (Within.of rfl hm)))))) (State.loadLinks_frame (Within.of rfl hm))), (Fr.set_plan (Within.of rfl hm)
    ((Fr.trans ((by (try dsimp only); split; exacts [(Fr.trans (Fr.refl _ _) (State.setSlot_frame (Within.of rfl hm))),
    (Fr.refl _ _)])) (State.setSlot_frame (Within.of rfl hm)))))])) (State.setPool_frame (Within.of rfl hm))))
    (State.loseRemote_frame (Within.of rfl hm)))) ((Fr.trans ((by (try dsimp only); split; exacts [(Fr.trans ((Fr.set_plan
    (Within.of rfl hm) ((Fr.trans ((by (try dsimp only); split; exacts [(Fr.trans (Fr.refl _ _) (State.setSlot_frame (Within.of
    rfl hm))), (Fr.refl _ _)])) (State.setSlot_frame (Within.of rfl hm)))))) (State.loadLinks_frame (Within.of rfl hm))),
    (Fr.set_plan (Within.of rfl hm) ((Fr.trans ((by (try dsimp only); split; exacts [(Fr.trans (Fr.refl _ _) (State.setSlot_frame
    (Within.of rfl hm))), (Fr.refl _ _)])) (State.setSlot_frame (Within.of rfl hm)))))])) (State.setPool_frame (Within.of rfl
    hm)))))) (State.flushStuck_frame (Within.of rfl hm)))])

end Sys2Proof.Machine
end

