-- ==== Sys2Proof/Laws/FrameOperands.lean ====
section
/-! SUPPORT. The frame of every operation of Machine/Operands: the parts of the state that it can change. -/

set_option Elab.async false
set_option linter.unusedTactic false

namespace Sys2Proof.Machine
open Sys2Proof.Safety

theorem State.rejectTally_frame {m : Nat} (hm : Within 44477964 m) {s : State} {a1 : ℕ} {a2 : ℕ} {a3 : BitVec 512} {a4 : Option
  (ℕ × BitVec 6)} :
    Fr m s (State.rejectTally s a1 a2 a3 a4) := by
  delta State.rejectTally
  exact (Fr.trans ((Fr.trans (Fr.refl _ _) (State.modCluster_frame (Within.of rfl hm)))) (State.failDesc_frame (Within.of rfl
    hm)))

theorem State.checked_frame {m : Nat} (hm : Within 44477964 m) {s : State} {a1 : ℕ} {a2 : ℕ} {a3 : Thread} {a4 : BitVec 512} {a5
  : Checks} {a6 : Option Code} {a7 : Option (ℕ × BitVec 6) → State} (h7 : ∀ v0, Fr m s (a7 v0)) :
    Fr m s (State.checked s a1 a2 a3 a4 a5 a6 a7) := by
  delta State.checked
  exact (Fr.ite ((Fr.trans (Fr.refl _ _) (State.failDesc_frame (Within.of rfl hm)))) ((Fr.ite ((Fr.trans (Fr.refl _ _)
    (State.failDesc_frame (Within.of rfl hm)))) ((Fr.ite ((by (try dsimp only); split; exacts [(Fr.trans (Fr.refl _ _)
    (State.completeNow_frame (Within.of rfl hm))), (Fr.trans (Fr.refl _ _) (State.rejectTally_frame (Within.of rfl hm)))]))
    ((Fr.ite ((Fr.trans (Fr.refl _ _) (State.failDesc_frame (Within.of rfl hm)))) ((Fr.ite ((Fr.trans (Fr.refl _ _)
    (State.failDesc_frame (Within.of rfl hm)))) ((Fr.ite ((Fr.trans (Fr.refl _ _) (State.failDesc_frame (Within.of rfl hm))))
    ((by (try dsimp only); split; exacts [(Fr.trans (Fr.refl _ _) (State.rejectTally_frame (Within.of rfl hm))), (Fr.trans
    (Fr.refl _ _) (State.failDesc_frame (Within.of rfl hm))), (h7 _)])))))))))))))

theorem State.descStep_frame {m : Nat} (hm : Within 1024 m) {s : State} {a1 : UnitAddr} {a2 : SlotNo} {a3 : BitVec 512 → Bool}
  {a4 : State → ℕ → ℕ → Thread → BitVec 512 → State} (h4 : ∀ v0 v1 v2 v3 v4, Fr m v0 (a4 v0 v1 v2 v3 v4)) :
    Fr m s (State.descStep s a1 a2 a3 a4) := by
  delta State.descStep
  exact (by (try dsimp only); split; exacts [(Fr.refl _ _), (by (try dsimp only); split; exacts [(Fr.refl _ _),
    (by (try dsimp only); split; exacts [(Fr.refl _ _), (Fr.ite (Fr.refl _ _) ((Fr.ite ((Fr.trans (Fr.refl _ _)
    (State.setThread_frame (Within.of rfl hm)))) ((Fr.ite (Fr.refl _ _) ((Fr.ite ((Fr.trans (Fr.refl _ _) (State.setThread_frame
    (Within.of rfl hm)))) ((Fr.ite ((Fr.trans (Fr.refl _ _) (State.setThread_frame (Within.of rfl hm)))) ((Fr.trans (Fr.refl _ _)
    (h4 _ _ _ _ _))))))))))))])])])

theorem State.finish_frame {m : Nat} (hm : Within 44477964 m) {s : State} {a1 : ℕ} {a2 : ℕ} {a3 : Thread} {a4 : BitVec 512} {a5 :
  Option (ℕ × BitVec 6)} {a6 : Seat} {a7 : Option Code} :
    Fr m s (State.finish s a1 a2 a3 a4 a5 a6 a7) := by
  delta State.finish
  exact (Fr.ite ((by (try dsimp only); split; exacts [(Fr.trans (Fr.refl _ _) (State.setThread_frame (Within.of rfl hm))),
    (Fr.refl _ _)])) ((by (try dsimp only); split; exacts [(Fr.trans (Fr.refl _ _) (State.failDesc_frame (Within.of rfl hm))),
    (Fr.trans (Fr.refl _ _) (State.completeNow_frame (Within.of rfl hm)))])))

theorem State.produce_frame {m : Nat} (hm : Within 44478220 m) {s : State} {a1 : ℕ} {a2 : ℕ} {a3 : Thread} {a4 : BitVec 512} {a5
  : Option (ℕ × BitVec 6)} {a6 : List (Opnd × ℕ)} {a7 : List (Opnd × ℕ)} {a8 : Option (List (Opnd × List Byte))} {a9 : Bool} :
    Fr m s (State.produce s a1 a2 a3 a4 a5 a6 a7 a8 a9) := by
  delta State.produce
  exact (Fr.ite (Fr.refl _ _) ((Fr.ite ((Fr.trans ((Fr.trans ((Fr.trans ((Fr.trans (Fr.refl _ _) (Fr.foldl (fun _ _ => (Fr.trans
    (Fr.refl _ _) (State.touchOp_frame (Within.of rfl hm))))))) (Fr.foldl (fun _ _ => (Fr.trans (Fr.refl _ _) (State.putL_frame
    (Within.of rfl hm))))))) (State.draw_frame (Within.of rfl hm)))) (State.finish_frame (Within.of rfl hm))))
    ((by (try dsimp only); split; exacts [(Fr.trans ((Fr.trans (Fr.refl _ _) (Fr.foldl (fun _ _ => (Fr.trans (Fr.refl _ _)
    (State.touchOp_frame (Within.of rfl hm))))))) (State.failDesc_frame (Within.of rfl hm))), (Fr.trans ((Fr.trans ((Fr.trans
    (Fr.refl _ _) (Fr.foldl (fun _ _ => (Fr.trans (Fr.refl _ _) (State.touchOp_frame (Within.of rfl hm))))))) (Fr.foldl (fun _ _
    => (Fr.trans (Fr.refl _ _) (State.putL_frame (Within.of rfl hm))))))) (State.finish_frame (Within.of rfl hm)))])))))

end Sys2Proof.Machine
end

