-- ==== Sys2Proof/Laws/FrameThreads.lean ====
section
/-! SUPPORT. The frame of every operation of Machine/Threads: the parts of the state that it can change. -/

set_option Elab.async false
set_option linter.unusedTactic false

namespace Sys2Proof.Machine
open Sys2Proof.Safety

theorem State.deviceCycle_frame {m : Nat} (hm : Within 1536 m) {s : State} {a1 : ℕ} :
    Fr m s (State.deviceCycle s a1) := by
  delta State.deviceCycle
  exact (Fr.trans ((Fr.trans (Fr.refl _ _) (State.modCore_frame (Within.of rfl hm)))) (State.modCluster_frame (Within.of rfl hm)))

theorem State.threadCycle_frame {m : Nat} (hm : Within 1536 m) {s : State} {a1 : ℕ} {a2 : ℕ} {a3 : ℕ} {a4 : List ℕ} :
    Fr m s (State.threadCycle s a1 a2 a3 a4) := by
  delta State.threadCycle
  exact (Fr.ite ((Fr.trans ((Fr.trans ((Fr.trans (Fr.refl _ _) (State.modCore_frame (Within.of rfl hm)))) (State.modCore_frame
    (Within.of rfl hm)))) (State.modCluster_frame (Within.of rfl hm)))) ((Fr.ite ((by (try dsimp only); split; exacts [(Fr.trans
    ((Fr.trans (Fr.refl _ _) (State.modCore_frame (Within.of rfl hm)))) (State.setThread_frame (Within.of rfl hm))), (Fr.trans
    (Fr.refl _ _) (State.modCore_frame (Within.of rfl hm)))])) ((Fr.trans (Fr.refl _ _) (State.modCore_frame (Within.of rfl
    hm)))))))

theorem State.issueCycle_frame {m : Nat} (hm : Within 1536 m) {s : State} {a1 : ℕ} :
    Fr m s (State.issueCycle s a1) := by
  delta State.issueCycle
  exact (Fr.ite ((Fr.trans ((Fr.ite ((Fr.trans (Fr.refl _ _) (State.modCluster_frame (Within.of rfl hm)))) (Fr.refl _ _)))
    (State.deviceCycle_frame (Within.of rfl hm)))) ((Fr.ite ((Fr.trans ((Fr.ite ((Fr.trans (Fr.refl _ _) (State.modCluster_frame
    (Within.of rfl hm)))) (Fr.refl _ _))) (State.threadCycle_frame (Within.of rfl hm)))) ((by (try dsimp only); split; exacts
    [(Fr.trans ((Fr.ite ((Fr.trans (Fr.refl _ _) (State.modCluster_frame (Within.of rfl hm)))) (Fr.refl _ _)))
    (State.threadCycle_frame (Within.of rfl hm))), (Fr.ite ((Fr.trans (Fr.refl _ _) (State.modCluster_frame (Within.of rfl hm))))
    (Fr.refl _ _))])))))

theorem State.dropCurrent_frame {m : Nat} (hm : Within 44562188 m) {s : State} {a1 : ℕ} {a2 : ℕ} :
    Fr m s (State.dropCurrent s a1 a2) := by
  delta State.dropCurrent
  cases s.thread? a1 a2 with
  | none => exact Fr.refl _ _
  | some t =>
    dsimp only
    generalize t.wait = w
    cases w <;> first
      | exact Fr.refl _ _
      | exact Fr.set_starts (Within.of rfl hm) (Fr.refl _ _)
      | exact (State.scrapAppend_frame (Within.of rfl hm)).trans (State.seqDone_frame (Within.of rfl hm))
      | exact (Fr.foldl fun _ _ => State.abortXfer_frame (Within.of rfl hm)).trans (State.scrapMovers_frame (Within.of rfl hm))
      | skip
    cases t.desc <;> cases t.cur <;> try exact Fr.refl _ _
    dsimp only
    split
    · exact Fr.ite (State.land_frame (Within.of rfl hm)) (Fr.set_outst (Within.of rfl hm) (Fr.refl _ _))
    · exact Fr.refl _ _

theorem State.lsUncorr_frame {m : Nat} (hm : Within 44564236 m) {s : State} {a1 : ℕ} {a2 : ℕ} :
    Fr m s (State.lsUncorr s a1 a2) := by
  delta State.lsUncorr
  exact (by (try dsimp only); split; exacts [(Fr.refl _ _), (Fr.ite ((Fr.trans (Fr.refl _ _) (State.modCluster_frame (Within.of
    rfl hm)))) ((Fr.trans ((by (try dsimp only); split; exacts [(Fr.trans ((Fr.trans ((Fr.trans ((Fr.trans (Fr.refl _ _)
    (State.modCluster_frame (Within.of rfl hm)))) (State.dropCurrent_frame (Within.of rfl hm)))) (State.tallySend_frame
    (Within.of rfl hm)))) (State.fresh_frame (Within.of rfl hm))), (Fr.trans ((Fr.trans (Fr.refl _ _) (State.modCluster_frame
    (Within.of rfl hm)))) (State.dropCurrent_frame (Within.of rfl hm)))])) (State.threadEnd_frame (Within.of rfl hm)))))])

theorem State.coreCycle_frame {m : Nat} (hm : Within 44564236 m) {s : State} {a1 : ℕ} {a2 : LsEcc} :
    Fr m s (State.coreCycle s a1 a2) := by
  delta State.coreCycle
  exact (by (try dsimp only); split; exacts [(Fr.trans (Fr.refl _ _) (State.issueCycle_frame (Within.of rfl hm))), (Fr.trans
    ((Fr.trans (Fr.refl _ _) (State.issueCycle_frame (Within.of rfl hm)))) (State.modCluster_frame (Within.of rfl hm))),
    (Fr.trans ((Fr.trans (Fr.refl _ _) (State.issueCycle_frame (Within.of rfl hm)))) (State.lsUncorr_frame (Within.of rfl hm)))])

theorem State.onCore_frame {m : Nat} (_hm : Within 0 m) {s : State} {a1 : UnitAddr} {a2 : State → ℕ → State} (h2 : ∀ v0 v1, Fr m
  v0 (a2 v0 v1)) :
    Fr m s (State.onCore s a1 a2) := by
  delta State.onCore
  exact (by (try dsimp only); split; exacts [(Fr.trans (Fr.refl _ _) (h2 _ _)), (Fr.refl _ _)])

theorem execCoreIssueCycle_frame {m : Nat} (hm : Within 44564236 m) {a0 : UnitAddr} {a1 : LsEcc} {s : State} :
    OutFr m s (execCoreIssueCycle a0 a1 s) := by
  delta execCoreIssueCycle
  exact OutFr.next ((Fr.trans (Fr.refl _ _) (State.onCore_frame (Within.of rfl hm) (fun _ _ => (Fr.trans (Fr.refl _ _)
    (State.coreCycle_frame (Within.of rfl hm)))))))

theorem State.startThread_frame {m : Nat} (hm : Within 44482060 m) {s : State} {a1 : StartReq} {a2 : ℕ} {a3 : ℕ} {a4 : ℕ} :
    Fr m s (State.startThread s a1 a2 a3 a4) := by
  delta State.startThread
  exact (by (try dsimp only); split; exacts [(by (try dsimp only); split; exacts [(by (try dsimp only); split; exacts [(Fr.trans
    ((by (try dsimp only); split; exacts [(Fr.ite ((Fr.trans ((Fr.trans ((Fr.trans ((Fr.set_starts (Within.of rfl hm) (Fr.refl _
    _))) (State.fresh_frame (Within.of rfl hm)))) (State.setThread_frame (Within.of rfl hm)))) (State.rewrite_frame (Within.of
    rfl hm)))) ((Fr.trans ((Fr.trans ((Fr.trans ((Fr.set_starts (Within.of rfl hm) (Fr.refl _ _))) (State.fresh_frame (Within.of
    rfl hm)))) (State.setThread_frame (Within.of rfl hm)))) (State.setSub_frame (Within.of rfl hm))))), (Fr.trans ((Fr.trans
    ((Fr.set_starts (Within.of rfl hm) (Fr.refl _ _))) (State.fresh_frame (Within.of rfl hm)))) (State.setThread_frame (Within.of
    rfl hm)))])) (State.completeNow_frame (Within.of rfl hm))), (by (try dsimp only); split; exacts [(Fr.ite ((Fr.trans
    ((Fr.trans ((Fr.trans ((Fr.set_starts (Within.of rfl hm) (Fr.refl _ _))) (State.fresh_frame (Within.of rfl hm))))
    (State.setThread_frame (Within.of rfl hm)))) (State.rewrite_frame (Within.of rfl hm)))) ((Fr.trans ((Fr.trans ((Fr.trans
    ((Fr.set_starts (Within.of rfl hm) (Fr.refl _ _))) (State.fresh_frame (Within.of rfl hm)))) (State.setThread_frame (Within.of
    rfl hm)))) (State.setSub_frame (Within.of rfl hm))))), (Fr.trans ((Fr.trans ((Fr.set_starts (Within.of rfl hm) (Fr.refl _
    _))) (State.fresh_frame (Within.of rfl hm)))) (State.setThread_frame (Within.of rfl hm)))])]),
    (by (try dsimp only); split; exacts [(Fr.ite ((Fr.trans ((Fr.trans ((Fr.trans ((Fr.set_starts (Within.of rfl hm) (Fr.refl _
    _))) (State.fresh_frame (Within.of rfl hm)))) (State.setThread_frame (Within.of rfl hm)))) (State.rewrite_frame (Within.of
    rfl hm)))) ((Fr.trans ((Fr.trans ((Fr.trans ((Fr.set_starts (Within.of rfl hm) (Fr.refl _ _))) (State.fresh_frame (Within.of
    rfl hm)))) (State.setThread_frame (Within.of rfl hm)))) (State.setSub_frame (Within.of rfl hm))))), (Fr.trans ((Fr.trans
    ((Fr.set_starts (Within.of rfl hm) (Fr.refl _ _))) (State.fresh_frame (Within.of rfl hm)))) (State.setThread_frame (Within.of
    rfl hm)))])]), (by (try dsimp only); split; exacts [(Fr.ite ((Fr.trans ((Fr.trans ((Fr.trans ((Fr.set_starts (Within.of rfl
    hm) (Fr.refl _ _))) (State.fresh_frame (Within.of rfl hm)))) (State.setThread_frame (Within.of rfl hm))))
    (State.rewrite_frame (Within.of rfl hm)))) ((Fr.trans ((Fr.trans ((Fr.trans ((Fr.set_starts (Within.of rfl hm) (Fr.refl _
    _))) (State.fresh_frame (Within.of rfl hm)))) (State.setThread_frame (Within.of rfl hm)))) (State.setSub_frame (Within.of rfl
    hm))))), (Fr.trans ((Fr.trans ((Fr.set_starts (Within.of rfl hm) (Fr.refl _ _))) (State.fresh_frame (Within.of rfl hm))))
    (State.setThread_frame (Within.of rfl hm)))])])

theorem State.dispatch_frame {m : Nat} (hm : Within 44482060 m) {s : State} {a1 : StartReq} {a2 : ℕ} {a3 : ℕ} {a4 : ℕ} :
    Fr m s (State.dispatch s a1 a2 a3 a4) := by
  delta State.dispatch
  exact (by (try dsimp only); split; exacts [(Fr.trans (Fr.refl _ _) (State.refuseStart_frame (Within.of rfl hm))), (Fr.trans
    (Fr.refl _ _) (State.startThread_frame (Within.of rfl hm)))])

theorem State.dispatchAt_frame {m : Nat} (hm : Within 44482060 m) {s : State} {a1 : ℕ} :
    Fr m s (State.dispatchAt s a1) := by
  delta State.dispatchAt
  exact (by (try dsimp only); split; exacts [(Fr.trans (Fr.refl _ _) (State.dispatch_frame (Within.of rfl hm))), (Fr.refl _ _)])

theorem State.onCluster_frame {m : Nat} (_hm : Within 0 m) {s : State} {a1 : UnitAddr} {a2 : State → ℕ → State} (h2 : ∀ v0 v1, Fr
  m v0 (a2 v0 v1)) :
    Fr m s (State.onCluster s a1 a2) := by
  delta State.onCluster
  exact (by (try dsimp only); split; exacts [(Fr.trans (Fr.refl _ _) (h2 _ _)), (Fr.refl _ _)])

theorem execThreadDispatch_frame {m : Nat} (hm : Within 44482060 m) {a0 : UnitAddr} {s : State} :
    OutFr m s (execThreadDispatch a0 s) := by
  delta execThreadDispatch
  exact OutFr.next ((Fr.trans (Fr.refl _ _) (State.onCluster_frame (Within.of rfl hm) (fun _ _ => (Fr.trans (Fr.refl _ _)
    (State.dispatchAt_frame (Within.of rfl hm)))))))

theorem State.windowDone_frame {m : Nat} (hm : Within 1024 m) {s : State} {a1 : ℕ} {a2 : ℕ} :
    Fr m s (State.windowDone s a1 a2) := by
  delta State.windowDone
  exact (by (try dsimp only); split; exacts [(Fr.ite ((Fr.trans (Fr.refl _ _) (State.modCore_frame (Within.of rfl hm)))) (Fr.refl
    _ _)), (Fr.refl _ _)])

theorem execWindowCleared_frame {m : Nat} (hm : Within 1024 m) {a0 : UnitAddr} {a1 : SlotNo} {s : State} :
    OutFr m s (execWindowCleared a0 a1 s) := by
  delta execWindowCleared
  exact OutFr.next ((Fr.trans (Fr.refl _ _) (State.onCore_frame (Within.of rfl hm) (fun _ _ => (Fr.trans (Fr.refl _ _)
    (State.windowDone_frame (Within.of rfl hm)))))))

theorem State.completeCur_frame {m : Nat} (hm : Within 44477964 m) {s : State} {a1 : ℕ} {a2 : ℕ} :
    Fr m s (State.completeCur s a1 a2) := by
  delta State.completeCur
  exact (by (try dsimp only); split; exacts [(by (try dsimp only); split; exacts [(Fr.trans (Fr.refl _ _)
    (State.completeNow_frame (Within.of rfl hm))), (Fr.refl _ _)]), (Fr.refl _ _)])

theorem State.judgeWait_frame {m : Nat} (hm : Within 44477964 m) {s : State} {a1 : ℕ} {a2 : ℕ} :
    Fr m s (State.judgeWait s a1 a2) := by
  delta State.judgeWait
  exact (by (try dsimp only); split; exacts [(Fr.refl _ _), (by (try dsimp only); split; exacts [(Fr.ite ((Fr.trans (Fr.refl _ _)
    (State.setThread_frame (Within.of rfl hm)))) (Fr.refl _ _)), (Fr.ite ((Fr.trans (Fr.refl _ _) (State.completeCur_frame
    (Within.of rfl hm)))) (Fr.refl _ _)), (Fr.refl _ _)])])

theorem State.judgeWaits_frame {m : Nat} (hm : Within 44477964 m) {s : State} {a1 : ℕ} :
    Fr m s (State.judgeWaits s a1) := by
  delta State.judgeWaits
  exact (Fr.trans (Fr.refl _ _) (Fr.foldl (fun _ _ => (Fr.trans (Fr.refl _ _) (Fr.foldl (fun _ _ => (Fr.trans (Fr.refl _ _)
    (State.judgeWait_frame (Within.of rfl hm)))))))))

theorem State.tallyArrive_frame {m : Nat} (hm : Within 44477964 m) {s : State} {a1 : ℕ} :
    Fr m s (State.tallyArrive s a1) := by
  delta State.tallyArrive
  exact (by (try dsimp only); split; exacts [(Fr.refl _ _), (Fr.trans ((by (try dsimp only); split; exacts [(Fr.ite ((Fr.trans
    ((Fr.trans (Fr.refl _ _) (State.modCluster_frame (Within.of rfl hm)))) (State.completeCur_frame (Within.of rfl hm))))
    ((Fr.trans (Fr.refl _ _) (State.modCluster_frame (Within.of rfl hm))))), (Fr.trans (Fr.refl _ _) (State.modCluster_frame
    (Within.of rfl hm)))])) (State.judgeWaits_frame (Within.of rfl hm)))])

theorem execTallyApply_frame {m : Nat} (hm : Within 44477964 m) {a0 : UnitAddr} {s : State} :
    OutFr m s (execTallyApply a0 s) := by
  delta execTallyApply
  exact OutFr.next ((Fr.trans (Fr.refl _ _) (State.onCluster_frame (Within.of rfl hm) (fun _ _ => (Fr.trans (Fr.refl _ _)
    (State.tallyArrive_frame (Within.of rfl hm)))))))

theorem State.waitTimeout_frame {m : Nat} (hm : Within 44477964 m) {s : State} {a1 : ℕ} {a2 : ℕ} :
    Fr m s (State.waitTimeout s a1 a2) := by
  delta State.waitTimeout
  exact (by (try dsimp only); split; exacts [(by (try dsimp only); split; exacts [(Fr.ite (Fr.refl _ _) ((Fr.trans (Fr.refl _ _)
    (State.endWait_frame (Within.of rfl hm))))), (Fr.refl _ _)]), (Fr.refl _ _)])

theorem execTallyWaitTimeout_frame {m : Nat} (hm : Within 44477964 m) {a0 : UnitAddr} {a1 : SlotNo} {s : State} :
    OutFr m s (execTallyWaitTimeout a0 a1 s) := by
  delta execTallyWaitTimeout
  exact OutFr.next ((Fr.trans (Fr.refl _ _) (State.onCore_frame (Within.of rfl hm) (fun _ _ => (Fr.trans (Fr.refl _ _)
    (State.waitTimeout_frame (Within.of rfl hm)))))))

theorem State.clockStep_frame {m : Nat} (hm : Within 512 m) {s : State} {a1 : ℕ} :
    Fr m s (State.clockStep s a1) := by
  delta State.clockStep
  exact (Fr.trans (Fr.refl _ _) (State.modCluster_frame (Within.of rfl hm)))

theorem execClockStepApply_frame {m : Nat} (hm : Within 512 m) {a0 : UnitAddr} {s : State} :
    OutFr m s (execClockStepApply a0 s) := by
  delta execClockStepApply
  exact OutFr.next ((Fr.trans (Fr.refl _ _) (State.onCluster_frame (Within.of rfl hm) (fun _ _ => (Fr.trans (Fr.refl _ _)
    (State.clockStep_frame (Within.of rfl hm)))))))

theorem State.threadsWrite_frame {m : Nat} (hm : Within 2098176 m) {s : State} {a1 : Path} {a2 : Word} :
    Fr m s (State.threadsWrite s a1 a2) := by
  delta State.threadsWrite
  exact (Fr.ite (Fr.refl _ _) ((Fr.set_cores (Within.of rfl hm) ((Fr.trans (Fr.refl _ _) (State.setCtx_frame (Within.of rfl
    hm)))))))

theorem execCtxThreadsWrite_frame {m : Nat} (hm : Within 2098176 m) {a0 : Path} {a1 : Word} {s : State} :
    OutFr m s (execCtxThreadsWrite a0 a1 s) := by
  delta execCtxThreadsWrite
  exact OutFr.next ((Fr.trans (Fr.refl _ _) (State.threadsWrite_frame (Within.of rfl hm))))

theorem State.fetched_frame {m : Nat} (hm : Within 44477964 m) {s : State} {a1 : ℕ} {a2 : ℕ} :
    Fr m s (State.fetched s a1 a2) := by
  delta State.fetched
  exact (by (try dsimp only); split; exacts [(Fr.refl _ _), (Fr.ite (Fr.refl _ _) ((by (try dsimp only); split; exacts [(Fr.trans
    (Fr.refl _ _) (State.setThread_frame (Within.of rfl hm))), (Fr.ite (Fr.refl _ _) ((by (try dsimp only); split; exacts
    [(Fr.trans (Fr.refl _ _) (State.threadEnd_frame (Within.of rfl hm))), (Fr.trans ((Fr.trans (Fr.refl _ _)
    (State.setThread_frame (Within.of rfl hm)))) (State.devTouch_frame (Within.of rfl hm)))])))])))])

theorem execChainFetchDone_frame {m : Nat} (hm : Within 13063597580 m) {a0 : UnitAddr} {a1 : SlotNo} {a2 : List MemErr} {s :
  State} :
    OutFr m s (execChainFetchDone a0 a1 a2 s) := by
  delta execChainFetchDone
  exact OutFr.next ((Fr.trans ((Fr.trans (Fr.refl _ _) (State.meet_frame (Within.of rfl hm)))) (State.onCore_frame (Within.of rfl
    hm) (fun _ _ => (Fr.trans (Fr.refl _ _) (State.fetched_frame (Within.of rfl hm)))))))

end Sys2Proof.Machine
end

