-- ==== Sys2Proof/Laws/FrameDescriptors.lean ====
section
/-! SUPPORT. The frame of every operation of Machine/Descriptors: the parts of the state that it can change. -/

set_option Elab.async false
set_option linter.unusedTactic false

namespace Sys2Proof.Machine
open Sys2Proof.Safety

theorem State.nopRun_frame {m : Nat} (hm : Within 44477964 m) {s : State} {a1 : ℕ} {a2 : ℕ} {a3 : Thread} {a4 : BitVec 512} :
    Fr m s (State.nopRun s a1 a2 a3 a4) := by
  delta State.nopRun
  exact (Fr.trans (Fr.refl _ _) (State.checked_frame (Within.of rfl hm) (fun _ => (Fr.trans (Fr.refl _ _)
    (State.completeNow_frame (Within.of rfl hm))))))

theorem execNop_frame {m : Nat} (hm : Within 44477964 m) {a0 : UnitAddr} {a1 : SlotNo} {s : State} :
    OutFr m s (execNop a0 a1 s) := by
  delta execNop
  exact OutFr.next ((Fr.trans (Fr.refl _ _) (State.descStep_frame (Within.of rfl hm) (fun _ _ _ _ _ => (Fr.trans (Fr.refl _ _)
    (State.nopRun_frame (Within.of rfl hm)))))))

theorem State.endRun_frame {m : Nat} (hm : Within 44477964 m) {s : State} {a1 : ℕ} {a2 : ℕ} {a3 : Thread} {a4 : BitVec 512} :
    Fr m s (State.endRun s a1 a2 a3 a4) := by
  delta State.endRun
  exact (Fr.trans (Fr.refl _ _) (State.checked_frame (Within.of rfl hm) (fun _ => (Fr.trans ((by (try dsimp only); split; exacts
    [(Fr.set_outst (Within.of rfl hm) ((Fr.trans (Fr.refl _ _) (State.fresh_frame (Within.of rfl hm))))), (Fr.refl _ _)]))
    (State.threadEnd_frame (Within.of rfl hm))))))

theorem execEndThread_frame {m : Nat} (hm : Within 44477964 m) {a0 : UnitAddr} {a1 : SlotNo} {s : State} :
    OutFr m s (execEndThread a0 a1 s) := by
  delta execEndThread
  exact OutFr.next ((Fr.trans (Fr.refl _ _) (State.descStep_frame (Within.of rfl hm) (fun _ _ _ _ _ => (Fr.trans (Fr.refl _ _)
    (State.endRun_frame (Within.of rfl hm)))))))

theorem State.jumpRun_frame {m : Nat} (hm : Within 44477964 m) {s : State} {a1 : ℕ} {a2 : ℕ} {a3 : Thread} {a4 : BitVec 512} :
    Fr m s (State.jumpRun s a1 a2 a3 a4) := by
  delta State.jumpRun
  exact (Fr.trans (Fr.refl _ _) (State.checked_frame (Within.of rfl hm) (fun _ => (Fr.trans ((Fr.trans (Fr.refl _ _)
    (State.addOut_frame (Within.of rfl hm)))) (State.advanceTo_frame (Within.of rfl hm))))))

theorem execJump_frame {m : Nat} (hm : Within 44477964 m) {a0 : UnitAddr} {a1 : SlotNo} {s : State} :
    OutFr m s (execJump a0 a1 s) := by
  delta execJump
  exact OutFr.next ((Fr.trans (Fr.refl _ _) (State.descStep_frame (Within.of rfl hm) (fun _ _ _ _ _ => (Fr.trans (Fr.refl _ _)
    (State.jumpRun_frame (Within.of rfl hm)))))))

theorem State.unknownRun_frame {m : Nat} (hm : Within 44477964 m) {s : State} {a1 : ℕ} {a2 : ℕ} {a3 : Thread} {a4 : BitVec 512} :
    Fr m s (State.unknownRun s a1 a2 a3 a4) := by
  delta State.unknownRun
  exact (Fr.trans (Fr.refl _ _) (State.failDesc_frame (Within.of rfl hm)))

theorem execUnknownOpcode_frame {m : Nat} (hm : Within 44477964 m) {a0 : UnitAddr} {a1 : SlotNo} {s : State} :
    OutFr m s (execUnknownOpcode a0 a1 s) := by
  delta execUnknownOpcode
  exact OutFr.next ((Fr.trans (Fr.refl _ _) (State.descStep_frame (Within.of rfl hm) (fun _ _ _ _ _ => (Fr.trans (Fr.refl _ _)
    (State.unknownRun_frame (Within.of rfl hm)))))))

theorem State.threadStartRun_frame {m : Nat} (hm : Within 44482060 m) {s : State} {a1 : ℕ} {a2 : ℕ} {a3 : Thread} {a4 : BitVec
  512} :
    Fr m s (State.threadStartRun s a1 a2 a3 a4) := by
  delta State.threadStartRun
  exact (Fr.trans (Fr.refl _ _) (State.checked_frame (Within.of rfl hm) (fun _ => (Fr.ite ((Fr.trans (Fr.refl _ _)
    (State.rejectTally_frame (Within.of rfl hm)))) ((by (try dsimp only); split; exacts [(Fr.trans (Fr.refl _ _)
    (State.failDesc_frame (Within.of rfl hm))), (Fr.trans ((Fr.trans (Fr.refl _ _) (State.fresh_frame (Within.of rfl hm))))
    (State.startThread_frame (Within.of rfl hm))), (Fr.set_starts (Within.of rfl hm) ((Fr.trans ((Fr.trans (Fr.refl _ _)
    (State.fresh_frame (Within.of rfl hm)))) (State.setThread_frame (Within.of rfl hm)))))]))))))

theorem execThreadStart_frame {m : Nat} (hm : Within 44482060 m) {a0 : UnitAddr} {a1 : SlotNo} {s : State} :
    OutFr m s (execThreadStart a0 a1 s) := by
  delta execThreadStart
  exact OutFr.next ((Fr.trans (Fr.refl _ _) (State.descStep_frame (Within.of rfl hm) (fun _ _ _ _ _ => (Fr.trans (Fr.refl _ _)
    (State.threadStartRun_frame (Within.of rfl hm)))))))

theorem State.tallyOut_frame {m : Nat} (hm : Within 3584 m) {s : State} {a1 : ℕ} {a2 : ℕ} {a3 : Thread} {a4 : BitVec 512} {a5 :
  Bool} {a6 : ℕ} :
    Fr m s (State.tallyOut s a1 a2 a3 a4 a5 a6) := by
  delta State.tallyOut
  exact (Fr.trans ((Fr.trans ((Fr.trans (Fr.refl _ _) (State.fresh_frame (Within.of rfl hm)))) (State.setThread_frame (Within.of
    rfl hm)))) (State.tallySend_frame (Within.of rfl hm)))

theorem State.tallyAddRun_frame {m : Nat} (hm : Within 44477964 m) {s : State} {a1 : ℕ} {a2 : ℕ} {a3 : Thread} {a4 : BitVec 512} :
    Fr m s (State.tallyAddRun s a1 a2 a3 a4) := by
  delta State.tallyAddRun
  exact (Fr.trans (Fr.refl _ _) (State.checked_frame (Within.of rfl hm) (fun _ => (by (try dsimp only); split; exacts [(Fr.trans
    (Fr.refl _ _) (State.tallyOut_frame (Within.of rfl hm))), (Fr.trans (Fr.refl _ _) (State.rejectTally_frame (Within.of rfl
    hm)))]))))

theorem execTallyAdd_frame {m : Nat} (hm : Within 44477964 m) {a0 : UnitAddr} {a1 : SlotNo} {s : State} :
    OutFr m s (execTallyAdd a0 a1 s) := by
  delta execTallyAdd
  exact OutFr.next ((Fr.trans (Fr.refl _ _) (State.descStep_frame (Within.of rfl hm) (fun _ _ _ _ _ => (Fr.trans (Fr.refl _ _)
    (State.tallyAddRun_frame (Within.of rfl hm)))))))

theorem State.tallySetRun_frame {m : Nat} (hm : Within 44477964 m) {s : State} {a1 : ℕ} {a2 : ℕ} {a3 : Thread} {a4 : BitVec 512} :
    Fr m s (State.tallySetRun s a1 a2 a3 a4) := by
  delta State.tallySetRun
  exact (Fr.trans (Fr.refl _ _) (State.checked_frame (Within.of rfl hm) (fun _ => (by (try dsimp only); split; exacts [(Fr.trans
    (Fr.refl _ _) (State.tallyOut_frame (Within.of rfl hm))), (Fr.trans (Fr.refl _ _) (State.rejectTally_frame (Within.of rfl
    hm)))]))))

theorem execTallySet_frame {m : Nat} (hm : Within 44477964 m) {a0 : UnitAddr} {a1 : SlotNo} {s : State} :
    OutFr m s (execTallySet a0 a1 s) := by
  delta execTallySet
  exact OutFr.next ((Fr.trans (Fr.refl _ _) (State.descStep_frame (Within.of rfl hm) (fun _ _ _ _ _ => (Fr.trans (Fr.refl _ _)
    (State.tallySetRun_frame (Within.of rfl hm)))))))

theorem State.tallyWaitRun_frame {m : Nat} (hm : Within 44477964 m) {s : State} {a1 : ℕ} {a2 : ℕ} {a3 : Thread} {a4 : BitVec 512}
  :
    Fr m s (State.tallyWaitRun s a1 a2 a3 a4) := by
  delta State.tallyWaitRun
  exact (Fr.trans (Fr.refl _ _) (State.checked_frame (Within.of rfl hm) (fun _ => (Fr.ite ((Fr.trans (Fr.refl _ _)
    (State.completeNow_frame (Within.of rfl hm)))) ((Fr.trans (Fr.refl _ _) (State.setThread_frame (Within.of rfl hm))))))))

theorem execTallyWait_frame {m : Nat} (hm : Within 44477964 m) {a0 : UnitAddr} {a1 : SlotNo} {s : State} :
    OutFr m s (execTallyWait a0 a1 s) := by
  delta execTallyWait
  exact OutFr.next ((Fr.trans (Fr.refl _ _) (State.descStep_frame (Within.of rfl hm) (fun _ _ _ _ _ => (Fr.trans (Fr.refl _ _)
    (State.tallyWaitRun_frame (Within.of rfl hm)))))))

theorem State.toMover_frame {m : Nat} (hm : Within 44494348 m) {s : State} {a1 : ℕ} {a2 : ℕ} {a3 : Thread} {a4 : BitVec 512} {a5
  : Option (ℕ × BitVec 6)} :
    Fr m s (State.toMover s a1 a2 a3 a4 a5) := by
  delta State.toMover
  exact (Fr.ite ((Fr.ite ((Fr.trans (Fr.refl _ _) (State.setThread_frame (Within.of rfl hm)))) ((Fr.trans ((Fr.trans
    ((Fr.set_movers (Within.of rfl hm) (Fr.refl _ _))) (State.openDesc_frame (Within.of rfl hm)))) (State.advance_frame
    (Within.of rfl hm)))))) ((Fr.set_movers (Within.of rfl hm) ((Fr.trans ((Fr.trans (Fr.refl _ _) (State.fresh_frame (Within.of
    rfl hm)))) (State.setThread_frame (Within.of rfl hm)))))))

theorem State.moverEnd_frame {m : Nat} (hm : Within 44494604 m) {s : State} {a1 : MoverOp} {a2 : Option Code} :
    Fr m s (State.moverEnd s a1 a2) := by
  delta State.moverEnd
  exact (Fr.trans ((Fr.ite ((Fr.trans ((by (try dsimp only); split; exacts [(Fr.trans ((Fr.set_movers (Within.of rfl hm) (Fr.refl
    _ _))) (State.deferred_frame (Within.of rfl hm))), (Fr.set_movers (Within.of rfl hm) (Fr.refl _ _))])) (State.land_frame
    (Within.of rfl hm)))) ((by (try dsimp only); split; exacts [(Fr.ite ((by (try dsimp only); split; exacts [(Fr.trans
    ((Fr.set_movers (Within.of rfl hm) (Fr.refl _ _))) (State.completeCur_frame (Within.of rfl hm))), (Fr.trans ((Fr.set_movers
    (Within.of rfl hm) (Fr.refl _ _))) (State.failDesc_frame (Within.of rfl hm)))])) ((Fr.set_movers (Within.of rfl hm) (Fr.refl
    _ _)))), (Fr.set_movers (Within.of rfl hm) (Fr.refl _ _))])))) (State.flushLate_frame (Within.of rfl hm)))

theorem State.moverWrote_frame {m : Nat} (hm : Within 44494604 m) {s : State} {a1 : MoverOp} {a2 : Option Code} :
    Fr m s (State.moverWrote s a1 a2) := by
  delta State.moverWrote
  exact (Fr.ite ((Fr.set_movers (Within.of rfl hm) (Fr.refl _ _))) ((Fr.trans (Fr.refl _ _) (State.moverEnd_frame (Within.of rfl
    hm)))))

theorem State.copyRun_frame {m : Nat} (hm : Within 44494348 m) {s : State} {a1 : ℕ} {a2 : ℕ} {a3 : Thread} {a4 : BitVec 512} :
    Fr m s (State.copyRun s a1 a2 a3 a4) := by
  delta State.copyRun
  exact (Fr.trans (Fr.refl _ _) (State.checked_frame (Within.of rfl hm) (fun _ => (Fr.trans (Fr.refl _ _) (State.toMover_frame
    (Within.of rfl hm))))))

theorem execCopy_frame {m : Nat} (hm : Within 44494348 m) {a0 : UnitAddr} {a1 : SlotNo} {s : State} :
    OutFr m s (execCopy a0 a1 s) := by
  delta execCopy
  exact OutFr.next ((Fr.trans (Fr.refl _ _) (State.descStep_frame (Within.of rfl hm) (fun _ _ _ _ _ => (Fr.trans (Fr.refl _ _)
    (State.copyRun_frame (Within.of rfl hm)))))))

theorem State.fillRun_frame {m : Nat} (hm : Within 44494348 m) {s : State} {a1 : ℕ} {a2 : ℕ} {a3 : Thread} {a4 : BitVec 512} :
    Fr m s (State.fillRun s a1 a2 a3 a4) := by
  delta State.fillRun
  exact (Fr.trans (Fr.refl _ _) (State.checked_frame (Within.of rfl hm) (fun _ => (Fr.trans (Fr.refl _ _) (State.toMover_frame
    (Within.of rfl hm))))))

theorem execFill_frame {m : Nat} (hm : Within 44494348 m) {a0 : UnitAddr} {a1 : SlotNo} {s : State} :
    OutFr m s (execFill a0 a1 s) := by
  delta execFill
  exact OutFr.next ((Fr.trans (Fr.refl _ _) (State.descStep_frame (Within.of rfl hm) (fun _ _ _ _ _ => (Fr.trans (Fr.refl _ _)
    (State.fillRun_frame (Within.of rfl hm)))))))

theorem State.copyNow_frame {m : Nat} (hm : Within 44494604 m) {s : State} {a1 : MoverOp} :
    Fr m s (State.copyNow s a1) := by
  delta State.copyNow
  exact (Fr.trans ((Fr.trans ((Fr.trans ((Fr.trans (Fr.refl _ _) (Fr.foldl (fun _ _ => (Fr.trans (Fr.refl _ _)
    (State.touchOp_frame (Within.of rfl hm))))))) (Fr.foldl (fun _ _ => (Fr.trans (Fr.refl _ _) (State.putL_frame (Within.of rfl
    hm))))))) (State.draw_frame (Within.of rfl hm)))) (State.moverWrote_frame (Within.of rfl hm)))

theorem State.fillNow_frame {m : Nat} (hm : Within 44494604 m) {s : State} {a1 : MoverOp} :
    Fr m s (State.fillNow s a1) := by
  delta State.fillNow
  exact (Fr.trans ((Fr.trans ((Fr.trans (Fr.refl _ _) (State.putL_frame (Within.of rfl hm)))) (State.draw_frame (Within.of rfl
    hm)))) (State.moverWrote_frame (Within.of rfl hm)))

theorem State.accReadRun_frame {m : Nat} (hm : Within 44494348 m) {s : State} {a1 : ℕ} {a2 : ℕ} {a3 : Thread} {a4 : BitVec 512} :
    Fr m s (State.accReadRun s a1 a2 a3 a4) := by
  delta State.accReadRun
  exact (Fr.trans (Fr.refl _ _) (State.checked_frame (Within.of rfl hm) (fun _ => (Fr.trans (Fr.refl _ _) (State.toMover_frame
    (Within.of rfl hm))))))

theorem execAccRead_frame {m : Nat} (hm : Within 44494348 m) {a0 : UnitAddr} {a1 : SlotNo} {s : State} :
    OutFr m s (execAccRead a0 a1 s) := by
  delta execAccRead
  exact OutFr.next ((Fr.trans (Fr.refl _ _) (State.descStep_frame (Within.of rfl hm) (fun _ _ _ _ _ => (Fr.trans (Fr.refl _ _)
    (State.accReadRun_frame (Within.of rfl hm)))))))

theorem State.accWriteRun_frame {m : Nat} (hm : Within 44494348 m) {s : State} {a1 : ℕ} {a2 : ℕ} {a3 : Thread} {a4 : BitVec 512} :
    Fr m s (State.accWriteRun s a1 a2 a3 a4) := by
  delta State.accWriteRun
  exact (Fr.trans (Fr.refl _ _) (State.checked_frame (Within.of rfl hm) (fun _ => (Fr.trans (Fr.refl _ _) (State.toMover_frame
    (Within.of rfl hm))))))

theorem execAccWrite_frame {m : Nat} (hm : Within 44494348 m) {a0 : UnitAddr} {a1 : SlotNo} {s : State} :
    OutFr m s (execAccWrite a0 a1 s) := by
  delta execAccWrite
  exact OutFr.next ((Fr.trans (Fr.refl _ _) (State.descStep_frame (Within.of rfl hm) (fun _ _ _ _ _ => (Fr.trans (Fr.refl _ _)
    (State.accWriteRun_frame (Within.of rfl hm)))))))

theorem State.accReadNow_frame {m : Nat} (hm : Within 44494604 m) {s : State} {a1 : MoverOp} :
    Fr m s (State.accReadNow s a1) := by
  delta State.accReadNow
  exact (Fr.trans ((Fr.trans ((Fr.ite ((Fr.trans ((Fr.trans (Fr.refl _ _) (Fr.foldl (fun _ _ => (Fr.trans (Fr.refl _ _)
    (State.putL_frame (Within.of rfl hm))))))) (State.modTray_frame (Within.of rfl hm)))) ((Fr.trans (Fr.refl _ _) (Fr.foldl (fun
    _ _ => (Fr.trans (Fr.refl _ _) (State.putL_frame (Within.of rfl hm))))))))) (State.draw_frame (Within.of rfl hm))))
    (State.moverWrote_frame (Within.of rfl hm)))

theorem State.accWriteNow_frame {m : Nat} (hm : Within 44494604 m) {s : State} {a1 : MoverOp} :
    Fr m s (State.accWriteNow s a1) := by
  delta State.accWriteNow
  exact (Fr.trans ((Fr.trans ((Fr.trans ((Fr.ite (Fr.refl _ _) ((Fr.trans (Fr.refl _ _) (State.touchOp_frame (Within.of rfl
    hm)))))) (State.modTray_frame (Within.of rfl hm)))) (State.draw_frame (Within.of rfl hm)))) (State.moverEnd_frame (Within.of
    rfl hm)))

theorem State.moverDone_frame {m : Nat} (hm : Within 44494604 m) {s : State} {a1 : ℕ} :
    Fr m s (State.moverDone s a1) := by
  delta State.moverDone
  exact (by (try dsimp only); split; exacts [(Fr.refl _ _), (Fr.ite ((Fr.ite (Fr.refl _ _) ((Fr.trans (Fr.refl _ _)
    (State.moverEnd_frame (Within.of rfl hm)))))) ((Fr.ite (Fr.refl _ _) ((Fr.ite ((Fr.trans (Fr.refl _ _) (State.copyNow_frame
    (Within.of rfl hm)))) ((Fr.ite ((Fr.trans (Fr.refl _ _) (State.fillNow_frame (Within.of rfl hm)))) ((Fr.ite
    ((by (try dsimp only); split; exacts [(Fr.trans ((Fr.set_fab (Within.of rfl hm) (Fr.refl _ _))) (State.moverWrote_frame
    (Within.of rfl hm))), (Fr.refl _ _)])) ((Fr.ite ((Fr.ite (Fr.refl _ _) ((Fr.trans (Fr.refl _ _) (State.accReadNow_frame
    (Within.of rfl hm)))))) ((Fr.ite ((Fr.ite (Fr.refl _ _) ((Fr.trans (Fr.refl _ _) (State.accWriteNow_frame (Within.of rfl
    hm)))))) (Fr.refl _ _))))))))))))))])

theorem execMoverDone_frame {m : Nat} (hm : Within 13063614220 m) {a0 : ℕ} {a1 : List MemErr} {s : State} :
    OutFr m s (execMoverDone a0 a1 s) := by
  delta execMoverDone
  exact OutFr.next ((Fr.trans ((Fr.trans (Fr.refl _ _) (State.meet_frame (Within.of rfl hm)))) (State.moverDone_frame (Within.of
    rfl hm))))

theorem State.failOpen_frame {m : Nat} (hm : Within 44477964 m) {s : State} {a1 : ℕ} {a2 : ℕ} {a3 : BitVec 512} {a4 : ℕ} {a5 :
  Code} :
    Fr m s (State.failOpen s a1 a2 a3 a4 a5) := by
  delta State.failOpen
  exact (Fr.trans ((Fr.set_outst (Within.of rfl hm) (Fr.refl _ _))) (State.failDesc_frame (Within.of rfl hm)))

@[simp] theorem Tray.takeIn_tb (t : Tray) (d : BitVec 512) (g i n x y : Nat) (p : Pid) (c : CtxNo) :
    (t.takeIn d g i n x y p c).tb = t.tb := by
  unfold Tray.takeIn
  (repeat' split) <;> rfl

@[simp] theorem Tray.takeIn_cnt (t : Tray) (d : BitVec 512) (g i n x y : Nat) (p : Pid) (c : CtxNo) :
    (t.takeIn d g i n x y p c).cnt = t.cnt := by
  unfold Tray.takeIn
  (repeat' split) <;> rfl

theorem State.admitOn_frame {m : Nat} (hm : Within 44478220 m) {s : State} {a1 : ℕ} {a2 : ℕ} {a3 : Thread} {a4 : BitVec 512} {a5
  : ℕ} :
    Fr m s (State.admitOn s a1 a2 a3 a4 a5) := by
  delta State.admitOn
  exact (Fr.ite ((Fr.trans ((Fr.trans (Fr.refl _ _) (State.modTray_frame (Within.of rfl hm)))) (State.failOpen_frame (Within.of
    rfl hm)))) ((Fr.ite ((Fr.trans ((Fr.trans ((Fr.ite (Fr.refl _ _) ((Fr.trans (Fr.refl _ _) (State.modTray_frame (Within.of rfl
    hm)))))) (State.setThread_frame (Within.of rfl hm)))) (State.advance_frame (Within.of rfl hm)))) ((Fr.trans ((Fr.ite (Fr.refl
    _ _) ((Fr.trans (Fr.refl _ _) (State.modTray_frame (Within.of rfl hm)))))) (State.setThread_frame (Within.of rfl hm)))))))

theorem State.admitFirst_frame {m : Nat} (hm : Within 44478220 m) {s : State} {a1 : ℕ} {a2 : ℕ} {a3 : Thread} {a4 : BitVec 512}
  {a5 : Option (ℕ × BitVec 6)} :
    Fr m s (State.admitFirst s a1 a2 a3 a4 a5) := by
  delta State.admitFirst
  exact (Fr.ite ((Fr.trans (Fr.refl _ _) (State.failDesc_frame (Within.of rfl hm)))) ((Fr.trans ((Fr.trans (Fr.refl _ _)
    (State.openDesc_frame (Within.of rfl hm)))) (State.admitOn_frame (Within.of rfl hm)))))

theorem State.exposeRun_frame {m : Nat} (hm : Within 44478220 m) {s : State} {a1 : ℕ} {a2 : ℕ} {a3 : Thread} {a4 : BitVec 512} :
    Fr m s (State.exposeRun s a1 a2 a3 a4) := by
  delta State.exposeRun
  exact (Fr.trans (Fr.refl _ _) (State.checked_frame (Within.of rfl hm) (fun _ => (Fr.trans (Fr.refl _ _) (State.admitFirst_frame
    (Within.of rfl hm))))))

theorem execExpose_frame {m : Nat} (hm : Within 44478220 m) {a0 : UnitAddr} {a1 : SlotNo} {s : State} :
    OutFr m s (execExpose a0 a1 s) := by
  delta execExpose
  exact OutFr.next ((Fr.trans (Fr.refl _ _) (State.descStep_frame (Within.of rfl hm) (fun _ _ _ _ _ => (Fr.trans (Fr.refl _ _)
    (State.exposeRun_frame (Within.of rfl hm)))))))

theorem State.planeLoadRun_frame {m : Nat} (hm : Within 44478220 m) {s : State} {a1 : ℕ} {a2 : ℕ} {a3 : Thread} {a4 : BitVec 512}
  :
    Fr m s (State.planeLoadRun s a1 a2 a3 a4) := by
  delta State.planeLoadRun
  exact (Fr.trans (Fr.refl _ _) (State.checked_frame (Within.of rfl hm) (fun _ => (Fr.trans (Fr.refl _ _) (State.admitFirst_frame
    (Within.of rfl hm))))))

theorem execPlaneLoad_frame {m : Nat} (hm : Within 44478220 m) {a0 : UnitAddr} {a1 : SlotNo} {s : State} :
    OutFr m s (execPlaneLoad a0 a1 s) := by
  delta execPlaneLoad
  exact OutFr.next ((Fr.trans (Fr.refl _ _) (State.descStep_frame (Within.of rfl hm) (fun _ _ _ _ _ => (Fr.trans (Fr.refl _ _)
    (State.planeLoadRun_frame (Within.of rfl hm)))))))

theorem State.planeSwapRun_frame {m : Nat} (hm : Within 44478220 m) {s : State} {a1 : ℕ} {a2 : ℕ} {a3 : Thread} {a4 : BitVec 512}
  :
    Fr m s (State.planeSwapRun s a1 a2 a3 a4) := by
  delta State.planeSwapRun
  exact (Fr.trans (Fr.refl _ _) (State.checked_frame (Within.of rfl hm) (fun _ => (Fr.trans (Fr.refl _ _) (State.admitFirst_frame
    (Within.of rfl hm))))))

theorem execPlaneSwap_frame {m : Nat} (hm : Within 44478220 m) {a0 : UnitAddr} {a1 : SlotNo} {s : State} :
    OutFr m s (execPlaneSwap a0 a1 s) := by
  delta execPlaneSwap
  exact OutFr.next ((Fr.trans (Fr.refl _ _) (State.descStep_frame (Within.of rfl hm) (fun _ _ _ _ _ => (Fr.trans (Fr.refl _ _)
    (State.planeSwapRun_frame (Within.of rfl hm)))))))

theorem State.queueAdmit_frame {m : Nat} (hm : Within 44478220 m) {s : State} {a1 : ℕ} {a2 : ℕ} :
    Fr m s (State.queueAdmit s a1 a2) := by
  delta State.queueAdmit
  exact (by (try dsimp only); split; exacts [(Fr.refl _ _), (by (try dsimp only); split; exacts [(Fr.ite ((Fr.trans (Fr.refl _ _)
    (State.failOpen_frame (Within.of rfl hm)))) ((Fr.trans (Fr.refl _ _) (State.admitOn_frame (Within.of rfl hm))))),
    (Fr.refl _ _)])])

theorem execQueueAdmit_frame {m : Nat} (hm : Within 44478220 m) {a0 : UnitAddr} {a1 : SlotNo} {s : State} :
    OutFr m s (execQueueAdmit a0 a1 s) := by
  delta execQueueAdmit
  exact OutFr.next ((Fr.trans (Fr.refl _ _) (State.onCore_frame (Within.of rfl hm) (fun _ _ => (Fr.trans (Fr.refl _ _)
    (State.queueAdmit_frame (Within.of rfl hm)))))))

theorem State.seqOpenRun_frame {m : Nat} (hm : Within 44543756 m) {s : State} {a1 : ℕ} {a2 : ℕ} {a3 : Thread} {a4 : BitVec 512} :
    Fr m s (State.seqOpenRun s a1 a2 a3 a4) := by
  delta State.seqOpenRun
  exact (Fr.trans (Fr.refl _ _) (State.checked_frame (Within.of rfl hm) (fun _ => (by (try dsimp only); split; exacts
    [(Fr.refl _ _), (by (try dsimp only); split; exacts [(Fr.trans (Fr.refl _ _) (State.failDesc_frame (Within.of rfl hm))),
    (Fr.trans ((Fr.trans ((Fr.trans (Fr.refl _ _) (State.setSeq_frame (Within.of rfl hm)))) (State.putL_frame (Within.of rfl
    hm)))) (State.finish_frame (Within.of rfl hm)))])]))))

theorem execSeqOpen_frame {m : Nat} (hm : Within 44543756 m) {a0 : UnitAddr} {a1 : SlotNo} {s : State} :
    OutFr m s (execSeqOpen a0 a1 s) := by
  delta execSeqOpen
  exact OutFr.next ((Fr.trans (Fr.refl _ _) (State.descStep_frame (Within.of rfl hm) (fun _ _ _ _ _ => (Fr.trans (Fr.refl _ _)
    (State.seqOpenRun_frame (Within.of rfl hm)))))))

theorem State.seqCloseRun_frame {m : Nat} (hm : Within 44543500 m) {s : State} {a1 : ℕ} {a2 : ℕ} {a3 : Thread} {a4 : BitVec 512} :
    Fr m s (State.seqCloseRun s a1 a2 a3 a4) := by
  delta State.seqCloseRun
  exact (Fr.trans (Fr.refl _ _) (State.checked_frame (Within.of rfl hm) (fun _ => (Fr.trans ((Fr.trans (Fr.refl _ _)
    (State.setSeq_frame (Within.of rfl hm)))) (State.completeNow_frame (Within.of rfl hm))))))

theorem execSeqClose_frame {m : Nat} (hm : Within 44543500 m) {a0 : UnitAddr} {a1 : SlotNo} {s : State} :
    OutFr m s (execSeqClose a0 a1 s) := by
  delta execSeqClose
  exact OutFr.next ((Fr.trans (Fr.refl _ _) (State.descStep_frame (Within.of rfl hm) (fun _ _ _ _ _ => (Fr.trans (Fr.refl _ _)
    (State.seqCloseRun_frame (Within.of rfl hm)))))))

theorem State.seqAppendRun_frame {m : Nat} (hm : Within 44477964 m) {s : State} {a1 : ℕ} {a2 : ℕ} {a3 : Thread} {a4 : BitVec 512}
  :
    Fr m s (State.seqAppendRun s a1 a2 a3 a4) := by
  delta State.seqAppendRun
  exact (Fr.trans (Fr.refl _ _) (State.checked_frame (Within.of rfl hm) (fun _ => (Fr.trans (Fr.refl _ _) (State.setThread_frame
    (Within.of rfl hm))))))

theorem execSeqAppend_frame {m : Nat} (hm : Within 44477964 m) {a0 : UnitAddr} {a1 : SlotNo} {s : State} :
    OutFr m s (execSeqAppend a0 a1 s) := by
  delta execSeqAppend
  exact OutFr.next ((Fr.trans (Fr.refl _ _) (State.descStep_frame (Within.of rfl hm) (fun _ _ _ _ _ => (Fr.trans (Fr.refl _ _)
    (State.seqAppendRun_frame (Within.of rfl hm)))))))

theorem State.seqReserve_frame {m : Nat} (hm : Within 44543500 m) {s : State} {a1 : ℕ} {a2 : ℕ} :
    Fr m s (State.seqReserve s a1 a2) := by
  delta State.seqReserve
  exact (by (try dsimp only); split; exacts [(Fr.refl _ _), (by (try dsimp only); split; exacts [(Fr.ite ((Fr.trans (Fr.refl _ _)
    (State.failDesc_frame (Within.of rfl hm)))) ((Fr.ite ((Fr.trans (Fr.refl _ _) (State.failDesc_frame (Within.of rfl hm))))
    ((Fr.trans ((Fr.trans (Fr.refl _ _) (State.setSeq_frame (Within.of rfl hm)))) (State.setThread_frame (Within.of rfl
    hm))))))), (Fr.refl _ _)])])

theorem execSeqReserveDone_frame {m : Nat} (hm : Within 44543500 m) {a0 : UnitAddr} {a1 : SlotNo} {s : State} :
    OutFr m s (execSeqReserveDone a0 a1 s) := by
  delta execSeqReserveDone
  exact OutFr.next ((Fr.trans (Fr.refl _ _) (State.onCore_frame (Within.of rfl hm) (fun _ _ => (Fr.trans (Fr.refl _ _)
    (State.seqReserve_frame (Within.of rfl hm)))))))

theorem State.seqVisible_frame {m : Nat} (hm : Within 44543756 m) {s : State} {a1 : BitVec 8} {a2 : BitVec 24} :
    Fr m s (State.seqVisible s a1 a2) := by
  delta State.seqVisible
  exact (by (try dsimp only); split; exacts [(Fr.refl _ _), (by (try dsimp only); split; exacts [(Fr.refl _ _),
    (by (try dsimp only); split; exacts [(Fr.refl _ _), (Fr.ite (Fr.refl _ _) ((by (try dsimp only); split; exacts [(Fr.trans
    ((Fr.trans ((Fr.trans ((Fr.trans (Fr.refl _ _) (State.putL_frame (Within.of rfl hm)))) (State.draw_frame (Within.of rfl
    hm)))) (State.seqDone_frame (Within.of rfl hm)))) (State.finish_frame (Within.of rfl hm))), (Fr.trans ((Fr.trans ((Fr.ite
    ((Fr.trans ((Fr.trans ((Fr.trans (Fr.refl _ _) (State.touchOp_frame (Within.of rfl hm)))) (State.putL_frame (Within.of rfl
    hm)))) (State.putL_frame (Within.of rfl hm)))) ((Fr.trans ((Fr.trans (Fr.refl _ _) (State.touchOp_frame (Within.of rfl hm))))
    (State.putL_frame (Within.of rfl hm)))))) (State.seqDone_frame (Within.of rfl hm)))) (State.finish_frame (Within.of rfl
    hm)))])))])])])

theorem execSeqEntriesVisible_frame {m : Nat} (hm : Within 13063663372 m) {a0 : BitVec 8} {a1 : BitVec 24} {a2 : List MemErr} {s
  : State} :
    OutFr m s (execSeqEntriesVisible a0 a1 a2 s) := by
  delta execSeqEntriesVisible
  exact OutFr.next ((Fr.trans ((Fr.trans (Fr.refl _ _) (State.meet_frame (Within.of rfl hm)))) (State.seqVisible_frame (Within.of
    rfl hm))))

theorem State.seqQueryRun_frame {m : Nat} (hm : Within 44478220 m) {s : State} {a1 : ℕ} {a2 : ℕ} {a3 : Thread} {a4 : BitVec 512} :
    Fr m s (State.seqQueryRun s a1 a2 a3 a4) := by
  delta State.seqQueryRun
  exact (Fr.trans (Fr.refl _ _) (State.checked_frame (Within.of rfl hm) (fun _ => (Fr.trans (Fr.refl _ _) (State.produce_frame
    (Within.of rfl hm))))))

theorem execSeqQuery_frame {m : Nat} (hm : Within 44478220 m) {a0 : UnitAddr} {a1 : SlotNo} {s : State} :
    OutFr m s (execSeqQuery a0 a1 s) := by
  delta execSeqQuery
  exact OutFr.next ((Fr.trans (Fr.refl _ _) (State.descStep_frame (Within.of rfl hm) (fun _ _ _ _ _ => (Fr.trans (Fr.refl _ _)
    (State.seqQueryRun_frame (Within.of rfl hm)))))))

theorem State.publishRun_frame {m : Nat} (hm : Within 44477964 m) {s : State} {a1 : ℕ} {a2 : ℕ} {a3 : Thread} {a4 : BitVec 512} :
    Fr m s (State.publishRun s a1 a2 a3 a4) := by
  delta State.publishRun
  exact (Fr.trans (Fr.refl _ _) (State.checked_frame (Within.of rfl hm) (fun _ => (Fr.ite (Fr.refl _ _)
    ((by (try dsimp only); split; exacts [(Fr.trans ((Fr.trans (Fr.refl _ _) (State.rewrite_frame (Within.of rfl hm))))
    (State.completeNow_frame (Within.of rfl hm))), (Fr.trans (Fr.refl _ _) (State.completeNow_frame (Within.of rfl hm)))]))))))

theorem execPublish_frame {m : Nat} (hm : Within 44477964 m) {a0 : UnitAddr} {a1 : SlotNo} {s : State} :
    OutFr m s (execPublish a0 a1 s) := by
  delta execPublish
  exact OutFr.next ((Fr.trans (Fr.refl _ _) (State.descStep_frame (Within.of rfl hm) (fun _ _ _ _ _ => (Fr.trans (Fr.refl _ _)
    (State.publishRun_frame (Within.of rfl hm)))))))

end Sys2Proof.Machine
end

