-- ==== Sys2Proof/Laws/FrameMessages.lean ====
section
/-! SUPPORT. The frame of every operation of Machine/Messages: the parts of the state that it can change. -/

set_option Elab.async false
set_option linter.unusedTactic false

namespace Sys2Proof.Machine
open Sys2Proof.Safety

theorem State.setXfer_frame {m : Nat} (hm : Within 33554432 m) {s : State} {a1 : Xfer} :
    Fr m s (State.setXfer s a1) := by
  delta State.setXfer
  exact (Fr.set_fab (Within.of rfl hm) (Fr.refl _ _))

theorem State.dropXfer_frame {m : Nat} (hm : Within 33554432 m) {s : State} {a1 : Xfer} :
    Fr m s (State.dropXfer s a1) := by
  delta State.dropXfer
  exact (Fr.set_fab (Within.of rfl hm) (Fr.refl _ _))

theorem State.xferFail_frame {m : Nat} (hm : Within 44494604 m) {s : State} {a1 : Xfer} {a2 : Code} :
    Fr m s (State.xferFail s a1 a2) := by
  delta State.xferFail
  exact (by (try dsimp only); split; exacts [(Fr.trans (Fr.refl _ _) (State.dropXfer_frame (Within.of rfl hm))), (Fr.trans
    ((Fr.ite ((Fr.trans ((Fr.trans ((Fr.trans (Fr.refl _ _) (State.dropXfer_frame (Within.of rfl hm)))) (State.putL_frame
    (Within.of rfl hm)))) (State.draw_frame (Within.of rfl hm)))) ((Fr.trans (Fr.refl _ _) (State.dropXfer_frame (Within.of rfl
    hm)))))) (State.moverEnd_frame (Within.of rfl hm)))])

theorem State.fabricRun_frame {m : Nat} (hm : Within 44494348 m) {a0 : Bool} {s : State} {a2 : ℕ} {a3 : ℕ} {a4 : Thread} {a5 :
  BitVec 512} :
    Fr m s (State.fabricRun a0 s a2 a3 a4 a5) := by
  delta State.fabricRun
  exact (Fr.trans (Fr.refl _ _) (State.checked_frame (Within.of rfl hm) (fun _ => (Fr.ite ((Fr.trans (Fr.refl _ _)
    (State.setThread_frame (Within.of rfl hm)))) ((Fr.trans ((Fr.set_fab (Within.of rfl hm) ((Fr.trans (Fr.refl _ _)
    (State.toMover_frame (Within.of rfl hm)))))) (State.sendMsg_frame (Within.of rfl hm))))))))

theorem execFabricPut_frame {m : Nat} (hm : Within 44494348 m) {a0 : UnitAddr} {a1 : SlotNo} {s : State} :
    OutFr m s (execFabricPut a0 a1 s) := by
  delta execFabricPut
  exact OutFr.next ((Fr.trans (Fr.refl _ _) (State.descStep_frame (Within.of rfl hm) (fun _ _ _ _ _ => (Fr.trans (Fr.refl _ _)
    (State.fabricRun_frame (Within.of rfl hm)))))))

theorem execFabricGet_frame {m : Nat} (hm : Within 44494348 m) {a0 : UnitAddr} {a1 : SlotNo} {s : State} :
    OutFr m s (execFabricGet a0 a1 s) := by
  delta execFabricGet
  exact OutFr.next ((Fr.trans (Fr.refl _ _) (State.descStep_frame (Within.of rfl hm) (fun _ _ _ _ _ => (Fr.trans (Fr.refl _ _)
    (State.fabricRun_frame (Within.of rfl hm)))))))

theorem State.noProgress_frame {m : Nat} (hm : Within 44494604 m) {s : State} {a1 : ℕ} :
    Fr m s (State.noProgress s a1) := by
  delta State.noProgress
  exact (by (try dsimp only); split; exacts [(Fr.ite ((Fr.trans ((Fr.trans (Fr.refl _ _) (State.sendMsg_frame (Within.of rfl
    hm)))) (State.xferFail_frame (Within.of rfl hm)))) (Fr.refl _ _)), (Fr.refl _ _)])

theorem execTransferNoProgress_frame {m : Nat} (hm : Within 44494604 m) {a0 : ℕ} {s : State} :
    OutFr m s (execTransferNoProgress a0 s) := by
  delta execTransferNoProgress
  exact OutFr.next ((Fr.trans (Fr.refl _ _) (State.noProgress_frame (Within.of rfl hm))))

theorem State.onMsg_frame {m : Nat} (hm : Within 33554432 m) {s : State} {a1 : ℕ} {a2 : FabMsg} {a3 : State → State} (h3 : ∀ v0,
  Fr m v0 (a3 v0)) :
    Fr m s (State.onMsg s a1 a2 a3) := by
  delta State.onMsg
  exact (Fr.ite ((Fr.trans ((Fr.trans (Fr.refl _ _) (State.setLink_frame (Within.of rfl hm)))) (h3 _))) (Fr.refl _ _))

theorem State.putOpen_frame {m : Nat} (hm : Within 33556488 m) {s : State} {a1 : FabMsg} :
    Fr m s (State.putOpen s a1) := by
  delta State.putOpen
  exact (by (try dsimp only); split; exacts [(Fr.trans (Fr.refl _ _) (State.sendMsg_frame (Within.of rfl hm))), (Fr.trans
    ((Fr.set_fab (Within.of rfl hm) ((Fr.trans (Fr.refl _ _) (State.fresh_frame (Within.of rfl hm)))))) (State.sendMsg_frame
    (Within.of rfl hm)))])

theorem execPutOpen_frame {m : Nat} (hm : Within 33556488 m) {a0 : FabMsg} {s : State} :
    OutFr m s (execPutOpen a0 s) := by
  delta execPutOpen
  exact OutFr.next ((Fr.trans (Fr.refl _ _) (State.onMsg_frame (Within.of rfl hm) (fun _ => (Fr.trans (Fr.refl _ _)
    (State.putOpen_frame (Within.of rfl hm)))))))

theorem State.remoteTally_frame {m : Nat} (hm : Within 44477964 m) {s : State} {a1 : ℕ} {a2 : BitVec 6} :
    Fr m s (State.remoteTally s a1 a2) := by
  delta State.remoteTally
  exact (Fr.trans ((Fr.trans (Fr.refl _ _) (State.modCluster_frame (Within.of rfl hm)))) (State.judgeWaits_frame (Within.of rfl
    hm)))

theorem State.spoilRange_frame {m : Nat} (hm : Within 36044812 m) {s : State} {a1 : Xfer} :
    Fr m s (State.spoilRange s a1) := by
  delta State.spoilRange
  exact (Fr.trans ((Fr.trans (Fr.refl _ _) (State.devWriteBy_frame (Within.of rfl hm)))) (State.draw_frame (Within.of rfl hm)))

theorem State.putServed_frame {m : Nat} (hm : Within 44477964 m) {s : State} {a1 : Xfer} :
    Fr m s (State.putServed s a1) := by
  delta State.putServed
  exact (Fr.ite (Fr.refl _ _) ((Fr.trans ((Fr.trans ((by (try dsimp only); split; exacts [(Fr.trans (Fr.refl _ _)
    (State.remoteTally_frame (Within.of rfl hm))), (Fr.refl _ _)])) (State.dropXfer_frame (Within.of rfl hm))))
    (State.sendMsg_frame (Within.of rfl hm)))))

theorem State.putData_frame {m : Nat} (hm : Within 44477964 m) {s : State} {a1 : FabMsg} :
    Fr m s (State.putData s a1) := by
  delta State.putData
  exact (by (try dsimp only); split; exacts [(Fr.refl _ _), (by (try dsimp only); split; exacts [(Fr.trans ((Fr.trans ((Fr.trans
    (Fr.refl _ _) (State.dropXfer_frame (Within.of rfl hm)))) (State.spoilRange_frame (Within.of rfl hm)))) (State.sendMsg_frame
    (Within.of rfl hm))), (Fr.trans ((Fr.trans ((Fr.trans (Fr.refl _ _) (State.devWriteBy_frame (Within.of rfl hm))))
    (State.setXfer_frame (Within.of rfl hm)))) (State.putServed_frame (Within.of rfl hm)))])])

theorem execPutData_frame {m : Nat} (hm : Within 44477964 m) {a0 : FabMsg} {s : State} :
    OutFr m s (execPutData a0 s) := by
  delta execPutData
  exact OutFr.next ((Fr.trans (Fr.refl _ _) (State.onMsg_frame (Within.of rfl hm) (fun _ => (Fr.trans (Fr.refl _ _)
    (State.putData_frame (Within.of rfl hm)))))))

theorem State.getReq_frame {m : Nat} (hm : Within 35651592 m) {s : State} {a1 : FabMsg} :
    Fr m s (State.getReq s a1) := by
  delta State.getReq
  exact (by (try dsimp only); split; exacts [(Fr.trans (Fr.refl _ _) (State.sendMsg_frame (Within.of rfl hm))), (Fr.trans
    ((Fr.trans ((Fr.trans (Fr.refl _ _) (State.devTouch_frame (Within.of rfl hm)))) (State.sendMsg_frame (Within.of rfl hm))))
    (State.sendMsg_frame (Within.of rfl hm)))])

theorem State.holdRead_frame {m : Nat} (hm : Within 1048576 m) {s : State} {a1 : Bool} {a2 : Instr} {a3 : State → State} (h3 : ∀
  v0, Fr m v0 (a3 v0)) :
    Fr m s (State.holdRead s a1 a2 a3) := by
  delta State.holdRead
  exact (Fr.ite ((Fr.set_memheldR (Within.of rfl hm) (Fr.refl _ _))) ((Fr.trans (Fr.refl _ _) (h3 _))))

theorem State.getReqIn_frame {m : Nat} (hm : Within 36700168 m) {s : State} {a1 : FabMsg} :
    Fr m s (State.getReqIn s a1) := by
  delta State.getReqIn
  exact (Fr.trans (Fr.refl _ _) (State.holdRead_frame (Within.of rfl hm) (fun _ => (Fr.trans (Fr.refl _ _) (State.getReq_frame
    (Within.of rfl hm))))))

theorem execGetReq_frame {m : Nat} (hm : Within 13055950856 m) {a0 : FabMsg} {a1 : List MemErr} {s : State} :
    OutFr m s (execGetReq a0 a1 s) := by
  delta execGetReq
  exact OutFr.next ((Fr.trans (Fr.refl _ _) (State.onMsg_frame (Within.of rfl hm) (fun _ => (Fr.trans ((Fr.trans (Fr.refl _ _)
    (State.meet_frame (Within.of rfl hm)))) (State.getReqIn_frame (Within.of rfl hm)))))))

theorem State.getData_frame {m : Nat} (hm : Within 44494604 m) {s : State} {a1 : FabMsg} :
    Fr m s (State.getData s a1) := by
  delta State.getData
  exact (by (try dsimp only); split; exacts [(Fr.refl _ _), (by (try dsimp only); split; exacts [(Fr.refl _ _), (Fr.ite (Fr.refl
    _ _) ((by (try dsimp only); split; exacts [(Fr.trans (Fr.refl _ _) (State.xferFail_frame (Within.of rfl hm))), (Fr.trans
    ((Fr.trans (Fr.refl _ _) (State.putL_frame (Within.of rfl hm)))) (State.setXfer_frame (Within.of rfl hm)))])))])])

theorem execGetData_frame {m : Nat} (hm : Within 44494604 m) {a0 : FabMsg} {s : State} :
    OutFr m s (execGetData a0 s) := by
  delta execGetData
  exact OutFr.next ((Fr.trans (Fr.refl _ _) (State.onMsg_frame (Within.of rfl hm) (fun _ => (Fr.trans (Fr.refl _ _)
    (State.getData_frame (Within.of rfl hm)))))))

theorem State.accepted_frame {m : Nat} (hm : Within 44494604 m) {s : State} {a1 : FabMsg} :
    Fr m s (State.accepted s a1) := by
  delta State.accepted
  exact (by (try dsimp only); split; exacts [(Fr.refl _ _), (Fr.ite (Fr.refl _ _) ((Fr.ite ((Fr.trans (Fr.refl _ _)
    (State.setXfer_frame (Within.of rfl hm)))) ((by (try dsimp only); split; exacts [(Fr.refl _ _),
    (by (try dsimp only); split; exacts [(Fr.trans ((Fr.trans (Fr.refl _ _) (State.sendMsg_frame (Within.of rfl hm))))
    (State.xferFail_frame (Within.of rfl hm))), (Fr.trans ((Fr.trans ((Fr.trans (Fr.refl _ _) (State.touchOp_frame (Within.of rfl
    hm)))) (State.setXfer_frame (Within.of rfl hm)))) (State.sendMsg_frame (Within.of rfl hm)))])])))))])

theorem State.acceptIn_frame {m : Nat} (hm : Within 45543180 m) {s : State} {a1 : FabMsg} :
    Fr m s (State.acceptIn s a1) := by
  delta State.acceptIn
  exact (Fr.trans (Fr.refl _ _) (State.holdRead_frame (Within.of rfl hm) (fun _ => (Fr.trans (Fr.refl _ _) (State.accepted_frame
    (Within.of rfl hm))))))

theorem execMsgAccept_frame {m : Nat} (hm : Within 13064662796 m) {a0 : FabMsg} {a1 : List MemErr} {s : State} :
    OutFr m s (execMsgAccept a0 a1 s) := by
  delta execMsgAccept
  exact OutFr.next ((Fr.trans (Fr.refl _ _) (State.onMsg_frame (Within.of rfl hm) (fun _ => (Fr.trans ((Fr.trans (Fr.refl _ _)
    (State.meet_frame (Within.of rfl hm)))) (State.acceptIn_frame (Within.of rfl hm)))))))

theorem State.refused_frame {m : Nat} (hm : Within 44494604 m) {s : State} {a1 : FabMsg} :
    Fr m s (State.refused s a1) := by
  delta State.refused
  exact (by (try dsimp only); split; exacts [(Fr.trans (Fr.refl _ _) (State.xferFail_frame (Within.of rfl hm))), (Fr.ite
    ((Fr.set_memremBad (Within.of rfl hm) (Fr.refl _ _))) (Fr.refl _ _))])

theorem execMsgRefuse_frame {m : Nat} (hm : Within 44494604 m) {a0 : FabMsg} {s : State} :
    OutFr m s (execMsgRefuse a0 s) := by
  delta execMsgRefuse
  exact OutFr.next ((Fr.trans (Fr.refl _ _) (State.onMsg_frame (Within.of rfl hm) (fun _ => (Fr.trans (Fr.refl _ _)
    (State.refused_frame (Within.of rfl hm)))))))

theorem State.putDone_frame {m : Nat} (hm : Within 44494604 m) {s : State} {a1 : FabMsg} :
    Fr m s (State.putDone s a1) := by
  delta State.putDone
  exact (by (try dsimp only); split; exacts [(Fr.ite ((by (try dsimp only); split; exacts [(Fr.trans ((Fr.trans (Fr.refl _ _)
    (State.dropXfer_frame (Within.of rfl hm)))) (State.moverEnd_frame (Within.of rfl hm))), (Fr.trans (Fr.refl _ _)
    (State.dropXfer_frame (Within.of rfl hm)))])) (Fr.refl _ _)), (Fr.refl _ _)])

theorem execMsgDone_frame {m : Nat} (hm : Within 44494604 m) {a0 : FabMsg} {s : State} :
    OutFr m s (execMsgDone a0 s) := by
  delta execMsgDone
  exact OutFr.next ((Fr.trans (Fr.refl _ _) (State.onMsg_frame (Within.of rfl hm) (fun _ => (Fr.trans (Fr.refl _ _)
    (State.putDone_frame (Within.of rfl hm)))))))

theorem State.aborted_frame {m : Nat} (hm : Within 36044812 m) {s : State} {a1 : FabMsg} :
    Fr m s (State.aborted s a1) := by
  delta State.aborted
  exact (by (try dsimp only); split; exacts [(Fr.trans ((Fr.trans (Fr.refl _ _) (State.dropXfer_frame (Within.of rfl hm))))
    (State.spoilRange_frame (Within.of rfl hm))), (Fr.refl _ _)])

theorem execMsgAbort_frame {m : Nat} (hm : Within 36044812 m) {a0 : FabMsg} {s : State} :
    OutFr m s (execMsgAbort a0 s) := by
  delta execMsgAbort
  exact OutFr.next ((Fr.trans (Fr.refl _ _) (State.onMsg_frame (Within.of rfl hm) (fun _ => (Fr.trans (Fr.refl _ _)
    (State.aborted_frame (Within.of rfl hm)))))))

theorem State.lend_frame {m : Nat} (hm : Within 655360 m) {s : State} {a1 : Node} {a2 : ℕ} :
    Fr m s (State.lend s a1 a2) := by
  delta State.lend
  exact (Fr.ite (Fr.refl _ _) ((by (try dsimp only); split; exacts [(Fr.set_memlent (Within.of rfl hm) ((Fr.trans (Fr.refl _ _)
    (State.setSite_frame (Within.of rfl hm))))), (Fr.refl _ _)])))

theorem State.lentPut_frame {m : Nat} (hm : Within 655360 m) {s : State} {a1 : Node} {a2 : ℕ} {a3 : ℕ} {a4 : ℕ} {a5 : Byte} :
    Fr m s (State.lentPut s a1 a2 a3 a4 a5) := by
  delta State.lentPut
  exact (by (try dsimp only); split; exacts [(Fr.trans ((Fr.trans (Fr.refl _ _) (State.lend_frame (Within.of rfl hm))))
    (State.setSite_frame (Within.of rfl hm) (by intro h; apply Site.putByte_sound; exact Sound.site h _))), (Fr.trans (Fr.refl _
    _) (State.lend_frame (Within.of rfl hm)))])

theorem State.lentPutL_frame {m : Nat} (hm : Within 655360 m) {s : State} {n : Node} {lo hi a : Nat} {l : List Byte} :
    Fr m s (s.lentPutL n lo hi a l) := by
  induction l generalizing s a with
  | nil => exact Fr.refl _ _
  | cons v l ih => exact (State.lentPut_frame (Within.of rfl hm)).trans ih

theorem State.pageRefuse_frame {m : Nat} (hm : Within 33554440 m) {s : State} {a1 : FabMsg} :
    Fr m s (State.pageRefuse s a1) := by
  delta State.pageRefuse
  exact (Fr.trans (Fr.refl _ _) (State.sendMsg_frame (Within.of rfl hm)))

theorem State.pageRead_frame {m : Nat} (hm : Within 33554440 m) {s : State} {a1 : FabMsg} :
    Fr m s (State.pageRead s a1) := by
  delta State.pageRead
  exact (Fr.ite (Fr.refl _ _) ((Fr.ite ((Fr.trans (Fr.refl _ _) (State.pageRefuse_frame (Within.of rfl hm)))) ((Fr.trans (Fr.refl
    _ _) (State.sendMsg_frame (Within.of rfl hm)))))))

theorem State.pageReadIn_frame {m : Nat} (hm : Within 34603016 m) {s : State} {a1 : FabMsg} :
    Fr m s (State.pageReadIn s a1) := by
  delta State.pageReadIn
  exact (Fr.trans (Fr.refl _ _) (State.holdRead_frame (Within.of rfl hm) (fun _ => (Fr.trans (Fr.refl _ _) (State.pageRead_frame
    (Within.of rfl hm))))))

theorem execPageRead_frame {m : Nat} (hm : Within 13053853704 m) {a0 : FabMsg} {a1 : List MemErr} {s : State} :
    OutFr m s (execPageRead a0 a1 s) := by
  delta execPageRead
  exact OutFr.next ((Fr.trans (Fr.refl _ _) (State.onMsg_frame (Within.of rfl hm) (fun _ => (Fr.trans ((Fr.trans (Fr.refl _ _)
    (State.meet_frame (Within.of rfl hm)))) (State.pageReadIn_frame (Within.of rfl hm)))))))

theorem State.pageWrite_frame {m : Nat} (hm : Within 34209800 m) {s : State} {a1 : FabMsg} :
    Fr m s (State.pageWrite s a1) := by
  delta State.pageWrite
  exact (Fr.ite (Fr.refl _ _) ((Fr.ite ((Fr.trans ((Fr.trans (Fr.refl _ _) (State.lentPutL_frame (Within.of rfl hm))))
    (State.pageRefuse_frame (Within.of rfl hm)))) ((Fr.trans (Fr.refl _ _) (State.lentPutL_frame (Within.of rfl hm)))))))

theorem execPageWrite_frame {m : Nat} (hm : Within 34209800 m) {a0 : FabMsg} {s : State} :
    OutFr m s (execPageWrite a0 s) := by
  delta execPageWrite
  exact OutFr.next ((Fr.trans (Fr.refl _ _) (State.onMsg_frame (Within.of rfl hm) (fun _ => (Fr.trans (Fr.refl _ _)
    (State.pageWrite_frame (Within.of rfl hm)))))))

theorem State.pageData_frame {m : Nat} (hm : Within 262144 m) {s : State} {a1 : FabMsg} :
    Fr m s (State.pageData s a1) := by
  delta State.pageData
  exact (Fr.ite ((Fr.set_memremote_memremBad (Within.of rfl hm) (Fr.refl _ _))) (Fr.refl _ _))

theorem execPageData_frame {m : Nat} (hm : Within 33816576 m) {a0 : FabMsg} {s : State} :
    OutFr m s (execPageData a0 s) := by
  delta execPageData
  exact OutFr.next ((Fr.trans (Fr.refl _ _) (State.onMsg_frame (Within.of rfl hm) (fun _ => (Fr.trans (Fr.refl _ _)
    (State.pageData_frame (Within.of rfl hm)))))))

end Sys2Proof.Machine
end

