-- ==== Sys2Proof/Laws/FrameSiteMemory.lean ====
section
/-! SUPPORT. The frame of every operation of Machine/SiteMemory: the parts of the state that it can change. -/

set_option Elab.async false
set_option linter.unusedTactic false

namespace Sys2Proof.Machine
open Sys2Proof.Safety

@[simp] theorem Site.passOn_mem (x : Site) (a u : Nat) : (x.passOn a u).mem = x.mem := by
  unfold Site.passOn
  split <;> rfl

theorem State.scrub_frame {m : Nat} (hm : Within 13019250696 m) {s : State} {a1 : ℕ} {a2 : ℕ} {a3 : List (Fin 36)} :
    Fr m s (State.scrub s a1 a2 a3) := by
  delta State.scrub
  exact (Fr.ite (Fr.refl _ _) ((Fr.trans ((Fr.trans (Fr.refl _ _) (State.readSector_frame (Within.of rfl hm))))
    (State.setSite_frame (Within.of rfl hm) (fun h => by simpa [SiteSound] using Sound.site h _)))))

theorem execScrubRead_frame {m : Nat} (hm : Within 13019250696 m) {a0 : BitVec 4} {a1 : BitVec 31} {a2 : List (Fin 36)} {s :
  State} :
    OutFr m s (execScrubRead a0 a1 a2 s) := by
  delta execScrubRead
  exact OutFr.next ((Fr.trans (Fr.refl _ _) (State.scrub_frame (Within.of rfl hm))))

theorem State.eraseDie_frame {m : Nat} (hm : Within 13019250696 m) {s : State} {a1 : ℕ} {a2 : Fin 36} :
    Fr m s (State.eraseDie s a1 a2) := by
  delta State.eraseDie
  exact (Fr.ite (Fr.refl _ _) ((Fr.trans ((Fr.trans (Fr.refl _ _) (State.setSite_frame (Within.of rfl hm)))) (State.event_frame
    (Within.of rfl hm)))))

theorem execDieErase_frame {m : Nat} (hm : Within 13019250696 m) {a0 : BitVec 4} {a1 : Fin 36} {s : State} :
    OutFr m s (execDieErase a0 a1 s) := by
  delta execDieErase
  exact OutFr.next ((Fr.trans (Fr.refl _ _) (State.eraseDie_frame (Within.of rfl hm))))

theorem State.remapRow_frame {m : Nat} (hm : Within 13019250696 m) {s : State} {a1 : ℕ} {a2 : ℕ × ℕ} :
    Fr m s (State.remapRow s a1 a2) := by
  delta State.remapRow
  exact (Fr.ite ((Fr.trans ((Fr.trans (Fr.refl _ _) (State.setSite_frame (Within.of rfl hm)))) (State.event_frame (Within.of rfl
    hm)))) (Fr.refl _ _))

theorem State.trainStart_frame {m : Nat} (hm : Within 13019250696 m) {s : State} {a1 : ℕ} {a2 : Fin 36} :
    Fr m s (State.trainStart s a1 a2) := by
  delta State.trainStart
  exact (Fr.ite (Fr.refl _ _) ((Fr.trans ((Fr.trans (Fr.refl _ _) (State.setSite_frame (Within.of rfl hm)))) (Fr.foldl (fun _ _
    => (Fr.trans (Fr.refl _ _) (State.remapRow_frame (Within.of rfl hm))))))))

theorem execRetrainStart_frame {m : Nat} (hm : Within 13019250696 m) {a0 : BitVec 4} {a1 : Fin 36} {s : State} :
    OutFr m s (execRetrainStart a0 a1 s) := by
  delta execRetrainStart
  exact OutFr.next ((Fr.trans (Fr.refl _ _) (State.trainStart_frame (Within.of rfl hm))))

theorem State.trainEnd_frame {m : Nat} (hm : Within 131072 m) {s : State} {i : Nat} {us : BitVec 8} :
    Fr m s (s.trainEnd i us) := by
  unfold State.trainEnd
  dsimp only
  refine Fr.ite (Fr.refl _ _) (State.setSite_frame hm fun h => ?_)
  show Memory.wf ((s.site i).heldW.foldr _ (s.site i).mem) = true
  have k : Memory.wf (s.site i).mem = true := Sound.site h i
  induction (s.site i).heldW with
  | nil => exact k
  | cons e l ih => exact Memory.wf_write ih _ _

theorem State.endVisible_frame {m : Nat} (hm : Within 44477964 m) {s : State} {a1 : ℕ} {a2 : ℕ} :
    Fr m s (State.endVisible s a1 a2) := by
  delta State.endVisible
  exact (by (try dsimp only); split; exacts [(Fr.refl _ _), (by (try dsimp only); split; exacts [(Fr.ite (Fr.refl _ _)
    ((by (try dsimp only); split; exacts [(Fr.trans (Fr.refl _ _) (State.failDesc_frame (Within.of rfl hm))), (Fr.trans (Fr.refl
    _ _) (State.completeCur_frame (Within.of rfl hm)))]))), (Fr.refl _ _)])])

theorem State.heldOver_frame {m : Nat} (hm : Within 45543180 m) {s : State} :
    Fr m s (State.heldOver s) := by
  delta State.heldOver
  exact (Fr.trans ((Fr.set_memheldR (Within.of rfl hm) ((Fr.trans ((Fr.trans (Fr.refl _ _) (Fr.foldl (fun _ _ => (Fr.trans
    (Fr.refl _ _) (State.endVisible_frame (Within.of rfl hm))))))) (Fr.foldl (fun _ _ => (Fr.trans (Fr.refl _ _)
    (State.putServed_frame (Within.of rfl hm))))))))) (Fr.foldl (fun _ _ => (by (try dsimp only); split; exacts [(Fr.trans
    (Fr.refl _ _) (State.getReqIn_frame (Within.of rfl hm))), (Fr.trans (Fr.refl _ _) (State.acceptIn_frame (Within.of rfl hm))),
    (Fr.trans (Fr.refl _ _) (State.pageReadIn_frame (Within.of rfl hm))), (Fr.refl _ _)]))))

theorem State.sample_frame {m : Nat} (hm : Within 541065216 m) {s : State} {a1 : BitVec 12} {a2 : BitVec 12} {a3 : BitVec 12} {a4
  : BitVec 8} :
    Fr m s (State.sample s a1 a2 a3 a4) := by
  delta State.sample
  exact (Fr.set_memsamples_memavg_mod (Within.of rfl hm) (Fr.refl _ _))

theorem execPowerSample_frame {m : Nat} (hm : Within 541065216 m) {a0 : BitVec 12} {a1 : BitVec 12} {a2 : BitVec 12} {a3 : BitVec
  8} {s : State} :
    OutFr m s (execPowerSample a0 a1 a2 a3 s) := by
  delta execPowerSample
  exact OutFr.next ((Fr.trans (Fr.refl _ _) (State.sample_frame (Within.of rfl hm))))

theorem State.capUp_frame {m : Nat} (hm : Within 13023313928 m) {s : State} :
    Fr m s (State.capUp s) := by
  delta State.capUp
  exact (Fr.ite ((Fr.set_memexhausted (Within.of rfl hm) (Fr.refl _ _))) ((Fr.ite ((Fr.trans ((Fr.set_memstep_memexhausted
    (Within.of rfl hm) (Fr.refl _ _))) (State.event_frame (Within.of rfl hm)))) ((Fr.ite (Fr.refl _ _) ((Fr.trans
    ((Fr.set_memexhausted (Within.of rfl hm) (Fr.refl _ _))) (State.event_frame (Within.of rfl hm)))))))))

theorem State.heatUp_frame {m : Nat} (hm : Within 13023313928 m) {s : State} :
    Fr m s (State.heatUp s) := by
  delta State.heatUp
  exact (Fr.ite ((Fr.trans ((Fr.set_memthermal (Within.of rfl hm) ((Fr.ite ((Fr.trans (Fr.refl _ _) (State.event_frame (Within.of
    rfl hm)))) (Fr.refl _ _))))) (State.event_frame (Within.of rfl hm)))) (Fr.refl _ _))

theorem execPowerCapStep_frame {m : Nat} (hm : Within 13023313928 m) {s : State} :
    OutFr m s (execPowerCapStep s) := by
  delta execPowerCapStep
  exact OutFr.next ((Fr.trans ((Fr.trans (Fr.refl _ _) (State.capUp_frame (Within.of rfl hm)))) (State.heatUp_frame (Within.of
    rfl hm))))

theorem State.capDown_frame {m : Nat} (hm : Within 13023313928 m) {s : State} :
    Fr m s (State.capDown s) := by
  delta State.capDown
  exact (Fr.ite ((Fr.trans ((Fr.set_memstep_memexhausted (Within.of rfl hm) (Fr.refl _ _))) (State.event_frame (Within.of rfl
    hm)))) (Fr.refl _ _))

theorem execPowerCapWithdraw_frame {m : Nat} (hm : Within 13023313928 m) {s : State} :
    OutFr m s (execPowerCapWithdraw s) := by
  delta execPowerCapWithdraw
  exact OutFr.next ((Fr.trans (Fr.refl _ _) (State.capDown_frame (Within.of rfl hm))))

theorem State.coolDown_frame {m : Nat} (hm : Within 13023313928 m) {s : State} :
    Fr m s (State.coolDown s) := by
  delta State.coolDown
  exact (Fr.ite ((Fr.trans ((Fr.set_memthermal (Within.of rfl hm) (Fr.refl _ _))) (State.event_frame (Within.of rfl hm))))
    (Fr.refl _ _))

theorem execThermalWithdraw_frame {m : Nat} (hm : Within 13023313928 m) {s : State} :
    OutFr m s (execThermalWithdraw s) := by
  delta execThermalWithdraw
  exact OutFr.next ((Fr.trans (Fr.refl _ _) (State.coolDown_frame (Within.of rfl hm))))

end Sys2Proof.Machine
end

