-- ==== Sys2Proof/Laws/FrameSteering.lean ====
section
/-! SUPPORT. The frame of every operation of Machine/Steering: the parts of the state that it can change. -/

set_option Elab.async false
set_option linter.unusedTactic false

namespace Sys2Proof.Machine
open Sys2Proof.Safety

theorem State.quiesce_frame {m : Nat} (hm : Within 33554432 m) {s : State} {a1 : List PortNo} :
    Fr m s (State.quiesce s a1) := by
  delta State.quiesce
  exact (Fr.trans (Fr.refl _ _) (Fr.foldl (fun _ _ => (Fr.trans (Fr.refl _ _) (State.setLink_frame (Within.of rfl hm))))))

theorem State.unquiesce_frame {m : Nat} (hm : Within 33554440 m) {s : State} :
    Fr m s (State.unquiesce s) := by
  delta State.unquiesce
  exact (Fr.trans (Fr.refl _ _) (Fr.foldl (fun _ _ => (Fr.trans ((Fr.trans (Fr.refl _ _) (State.setLink_frame (Within.of rfl
    hm)))) (State.pump_frame (Within.of rfl hm))))))

theorem State.retrainLt_frame {m : Nat} (hm : Within 33554440 m) {s : State} {a1 : PortNo} :
    Fr m s (State.retrainLt s a1) := by
  delta State.retrainLt
  exact (Fr.trans (Fr.refl _ _) (Fr.foldl (fun _ _ => (Fr.ite (Fr.refl _ _) ((Fr.trans (Fr.refl _ _) (State.dropChan_frame
    (Within.of rfl hm))))))))

theorem State.leaveLts_frame {m : Nat} (hm : Within 184549388 m) {s : State} {a1 : List (ℕ × ℕ)} :
    Fr m s (State.leaveLts s a1) := by
  delta State.leaveLts
  exact (Fr.trans (Fr.refl _ _) (Fr.foldl (fun _ _ => (by (try dsimp only); split; exacts [(Fr.ite (Fr.refl _ _) ((Fr.trans
    ((Fr.trans (Fr.refl _ _) (State.unlightAll_frame (Within.of rfl hm)))) (State.setLt_frame (Within.of rfl hm))))),
    (Fr.refl _ _)]))))

theorem State.joinLts_frame {m : Nat} (hm : Within 33554432 m) {s : State} {a1 : List (ℕ × ℕ)} :
    Fr m s (State.joinLts s a1) := by
  delta State.joinLts
  exact (Fr.trans (Fr.refl _ _) (Fr.foldl (fun _ _ => (by (try dsimp only); split; exacts [(Fr.trans (Fr.refl _ _)
    (State.setLt_frame (Within.of rfl hm))), (Fr.ite ((Fr.trans (Fr.refl _ _) (State.setLt_frame (Within.of rfl hm)))) (Fr.refl _
    _))]))))

theorem State.loosen_frame {m : Nat} (hm : Within 13052674056 m) {s : State} {a1 : PortNo} :
    Fr m s (State.loosen s a1) := by
  delta State.loosen
  exact (Fr.ite ((Fr.trans ((Fr.trans (Fr.refl _ _) (State.setFport_frame (Within.of rfl hm)))) (State.event_frame (Within.of rfl
    hm)))) (Fr.refl _ _))

theorem State.startMove_frame {m : Nat} (hm : Within 13136560140 m) {s : State} {a1 : Plan} {a2 : ℕ} {a3 : List PortNo} {a4 :
  State → State} (h4 : ∀ v0, Fr m v0 (a4 v0)) :
    Fr m s (State.startMove s a1 a2 a3 a4) := by
  delta State.startMove
  exact (Fr.ite ((Fr.trans ((Fr.trans ((Fr.trans ((Fr.trans ((Fr.trans ((Fr.set_steer (Within.of rfl hm) ((Fr.trans ((Fr.trans
    ((Fr.trans ((Fr.trans ((Fr.trans (Fr.refl _ _) (State.quiesce_frame (Within.of rfl hm)))) (State.leaveLts_frame (Within.of
    rfl hm)))) (Fr.foldl (fun _ _ => (Fr.trans (Fr.refl _ _) (State.retrainLt_frame (Within.of rfl hm))))))) (h4 _)))
    (State.quiesce_frame (Within.of rfl hm)))))) (State.joinLts_frame (Within.of rfl hm)))) (Fr.foldl (fun _ _ => (Fr.trans
    (Fr.refl _ _) (State.setShutter_frame (Within.of rfl hm))))))) (Fr.foldl (fun _ _ => (Fr.trans (Fr.refl _ _)
    (State.loosen_frame (Within.of rfl hm))))))) (State.wearEvent_frame (Within.of rfl hm)))) (State.event_frame (Within.of rfl
    hm)))) ((Fr.trans ((Fr.trans ((Fr.trans ((Fr.trans ((Fr.set_steer (Within.of rfl hm) ((Fr.trans ((Fr.trans ((Fr.trans
    ((Fr.trans ((Fr.trans (Fr.refl _ _) (State.quiesce_frame (Within.of rfl hm)))) (State.leaveLts_frame (Within.of rfl hm))))
    (Fr.foldl (fun _ _ => (Fr.trans (Fr.refl _ _) (State.retrainLt_frame (Within.of rfl hm))))))) (h4 _))) (State.quiesce_frame
    (Within.of rfl hm)))))) (State.joinLts_frame (Within.of rfl hm)))) (Fr.foldl (fun _ _ => (Fr.trans (Fr.refl _ _)
    (State.setShutter_frame (Within.of rfl hm))))))) (Fr.foldl (fun _ _ => (Fr.trans (Fr.refl _ _) (State.loosen_frame (Within.of
    rfl hm))))))) (State.wearEvent_frame (Within.of rfl hm)))))

theorem State.setPhase_frame {m : Nat} (hm : Within 67108864 m) {s : State} {a1 : BitVec 4} {a2 : BitVec 4} :
    Fr m s (State.setPhase s a1 a2) := by
  delta State.setPhase
  exact (Fr.ite ((Fr.set_steer (Within.of rfl hm) (Fr.refl _ _))) (Fr.refl _ _))

theorem State.latched_frame {m : Nat} (hm : Within 13136560140 m) {s : State} :
    Fr m s (State.latched s) := by
  delta State.latched
  exact (Fr.ite (Fr.refl _ _) ((Fr.trans ((Fr.trans ((Fr.trans ((Fr.set_steer (Within.of rfl hm) (Fr.refl _ _)))
    (State.setPhase_frame (Within.of rfl hm)))) (Fr.foldl (fun _ _ => (Fr.ite (Fr.refl _ _) ((Fr.trans (Fr.refl _ _)
    (State.setShutter_frame (Within.of rfl hm))))))))) (Fr.foldl (fun _ _ => (Fr.ite ((Fr.trans (Fr.refl _ _)
    (State.portByOutcome_frame (Within.of rfl hm)))) (Fr.refl _ _)))))))

theorem execElementsLatched_frame {m : Nat} (hm : Within 13136560140 m) {s : State} :
    OutFr m s (execElementsLatched s) := by
  delta execElementsLatched
  exact OutFr.next ((Fr.trans (Fr.refl _ _) (State.latched_frame (Within.of rfl hm))))

theorem State.badPath_frame {m : Nat} (hm : Within 33554432 m) {s : State} {a1 : PortNo} :
    Fr m s (State.badPath s a1) := by
  delta State.badPath
  exact (by (try dsimp only); split; exacts [(Fr.refl _ _), (Fr.trans (Fr.refl _ _) (Fr.foldl (fun _ _ => (Fr.ite ((Fr.trans
    ((Fr.trans (Fr.refl _ _) (State.setChan_frame (Within.of rfl hm)))) (State.setLtRing_frame (Within.of rfl hm)))) (Fr.refl _
    _)))))])

theorem State.verified_frame {m : Nat} (hm : Within 100663296 m) {s : State} {a1 : List PortNo} :
    Fr m s (State.verified s a1) := by
  delta State.verified
  exact (Fr.ite (Fr.refl _ _) ((Fr.trans ((Fr.trans ((Fr.set_steer (Within.of rfl hm) (Fr.refl _ _))) (Fr.foldl (fun _ _ =>
    (Fr.trans (Fr.refl _ _) (State.badPath_frame (Within.of rfl hm))))))) (State.setPhase_frame (Within.of rfl hm)))))

theorem execLightVerify_frame {m : Nat} (hm : Within 100663296 m) {a0 : List PortNo} {s : State} :
    OutFr m s (execLightVerify a0 s) := by
  delta execLightVerify
  exact OutFr.next ((Fr.trans (Fr.refl _ _) (State.verified_frame (Within.of rfl hm))))

theorem State.freeTrigger_frame {m : Nat} (hm : Within 1073741824 m) {s : State} :
    Fr m s (State.freeTrigger s) := by
  delta State.freeTrigger
  exact (Fr.ite ((Fr.trans (Fr.refl _ _) (State.setTrigger_frame (Within.of rfl hm)))) (Fr.refl _ _))

theorem State.endSwitch_frame {m : Nat} (hm : Within 14478737420 m) {s : State} {a1 : BitVec 4} {a2 : Code} :
    Fr m s (State.endSwitch s a1 a2) := by
  delta State.endSwitch
  exact (Fr.trans ((Fr.trans ((Fr.set_steer (Within.of rfl hm) (Fr.refl _ _))) (State.freeTrigger_frame (Within.of rfl hm))))
    (State.judgeHeld_frame (Within.of rfl hm)))

theorem State.failedNode_frame {m : Nat} (hm : Within 67108864 m) {s : State} {a1 : Node} :
    Fr m s (State.failedNode s a1) := by
  delta State.failedNode
  exact (Fr.set_steer (Within.of rfl hm) (Fr.refl _ _))

theorem State.noteResume_frame {m : Nat} (hm : Within 13086228488 m) {s : State} {a1 : BitVec 16} :
    Fr m s (State.noteResume s a1) := by
  delta State.noteResume
  exact (Fr.ite ((Fr.trans ((Fr.set_steer (Within.of rfl hm) (Fr.refl _ _))) (State.event_frame (Within.of rfl hm))))
    ((Fr.set_steer (Within.of rfl hm) (Fr.refl _ _))))

theorem State.report_frame {m : Nat} (hm : Within 201326600 m) {s : State} {a1 : Code} {a2 : BitVec 16} :
    Fr m s (State.report s a1 a2) := by
  delta State.report
  exact (by (try dsimp only); split; exacts [(Fr.ite ((Fr.ite (Fr.refl _ _) ((Fr.trans (Fr.refl _ _) (State.failedNode_frame
    (Within.of rfl hm)))))) ((Fr.trans (Fr.refl _ _) (State.slSend_frame (Within.of rfl hm))))), (Fr.refl _ _)])

theorem State.notMoved_frame {m : Nat} (hm : Within 14478737420 m) {s : State} :
    Fr m s (State.notMoved s) := by
  delta State.notMoved
  exact (Fr.trans ((Fr.trans ((Fr.trans ((Fr.trans ((Fr.trans (Fr.refl _ _) (State.draw_frame (Within.of rfl hm))))
    (State.report_frame (Within.of rfl hm)))) (State.unquiesce_frame (Within.of rfl hm)))) (State.event_frame (Within.of rfl
    hm)))) (State.endSwitch_frame (Within.of rfl hm)))

theorem execCommitMissing_frame {m : Nat} (hm : Within 14478737420 m) {s : State} :
    OutFr m s (execCommitMissing s) := by
  delta execCommitMissing
  exact OutFr.next ((by (try dsimp only); split; exacts [(Fr.ite ((Fr.trans (Fr.refl _ _) (State.notMoved_frame (Within.of rfl
    hm)))) (Fr.refl _ _)), (Fr.refl _ _)]))

theorem State.newCredits_frame {m : Nat} (hm : Within 33554432 m) {s : State} {a1 : BitVec 6} :
    Fr m s (State.newCredits s a1) := by
  delta State.newCredits
  exact (Fr.ite ((Fr.trans (Fr.refl _ _) (Fr.foldl (fun _ _ => (Fr.trans (Fr.refl _ _) (State.setFport_frame (Within.of rfl
    hm))))))) (Fr.refl _ _))

theorem State.switchDone_frame {m : Nat} (hm : Within 14478737420 m) {s : State} {a1 : BitVec 16} :
    Fr m s (State.switchDone s a1) := by
  delta State.switchDone
  exact (Fr.trans ((Fr.trans ((Fr.trans ((Fr.trans ((Fr.set_steer (Within.of rfl hm) (Fr.refl _ _))) (State.noteResume_frame
    (Within.of rfl hm)))) (State.report_frame (Within.of rfl hm)))) (State.event_frame (Within.of rfl hm))))
    (State.endSwitch_frame (Within.of rfl hm)))

theorem State.moveDone_frame {m : Nat} (hm : Within 67108864 m) {s : State} :
    Fr m s (State.moveDone s) := by
  delta State.moveDone
  exact (Fr.set_steer (Within.of rfl hm) (Fr.refl _ _))

theorem State.resumeTraffic_frame {m : Nat} (hm : Within 14478737420 m) {s : State} :
    Fr m s (State.resumeTraffic s) := by
  delta State.resumeTraffic
  exact (Fr.ite (Fr.refl _ _) ((Fr.ite ((Fr.trans ((Fr.trans ((Fr.trans ((Fr.trans (Fr.refl _ _) (Fr.foldl (fun _ _ => (Fr.trans
    (Fr.refl _ _) (State.newCredits_frame (Within.of rfl hm))))))) (State.unquiesce_frame (Within.of rfl hm))))
    (State.moveDone_frame (Within.of rfl hm)))) (State.switchDone_frame (Within.of rfl hm)))) ((Fr.trans ((Fr.trans ((Fr.trans
    (Fr.refl _ _) (Fr.foldl (fun _ _ => (Fr.trans (Fr.refl _ _) (State.newCredits_frame (Within.of rfl hm)))))))
    (State.unquiesce_frame (Within.of rfl hm)))) (State.moveDone_frame (Within.of rfl hm)))))))

theorem execTrafficResume_frame {m : Nat} (hm : Within 14478737420 m) {s : State} :
    OutFr m s (execTrafficResume s) := by
  delta execTrafficResume
  exact OutFr.next ((Fr.trans (Fr.refl _ _) (State.resumeTraffic_frame (Within.of rfl hm))))

theorem State.bypassWins_frame {m : Nat} (hm : Within 14478737420 m) {s : State} {a1 : BitVec 3} :
    Fr m s (State.bypassWins s a1) := by
  delta State.bypassWins
  exact (by (try dsimp only); split; exacts [(Fr.ite ((Fr.trans (Fr.refl _ _) (State.notMoved_frame (Within.of rfl hm))))
    (Fr.refl _ _)), (Fr.refl _ _)])

theorem State.driveBypass_frame {m : Nat} (hm : Within 14478737420 m) {s : State} {a1 : BitVec 3} :
    Fr m s (State.driveBypass s a1) := by
  delta State.driveBypass
  exact (Fr.trans ((Fr.trans ((Fr.trans ((Fr.trans ((Fr.set_steer (Within.of rfl hm) ((Fr.trans ((Fr.trans (Fr.refl _ _)
    (State.bypassWins_frame (Within.of rfl hm)))) (State.leaveLts_frame (Within.of rfl hm)))))) (State.joinLts_frame (Within.of
    rfl hm)))) (State.unquiesce_frame (Within.of rfl hm)))) (Fr.foldl (fun _ _ => (Fr.trans (Fr.refl _ _) (State.loosen_frame
    (Within.of rfl hm))))))) (State.wearEvent_frame (Within.of rfl hm)))

theorem State.bypassDone_frame {m : Nat} (hm : Within 13119782924 m) {s : State} :
    Fr m s (State.bypassDone s) := by
  delta State.bypassDone
  exact (Fr.ite ((Fr.ite ((Fr.trans ((Fr.set_steer (Within.of rfl hm) (Fr.refl _ _))) (Fr.foldl (fun _ _ => (Fr.ite (Fr.refl _ _)
    ((Fr.trans (Fr.refl _ _) (State.setShutter_frame (Within.of rfl hm))))))))) ((Fr.trans ((Fr.trans ((Fr.set_steer (Within.of
    rfl hm) (Fr.refl _ _))) (Fr.foldl (fun _ _ => (Fr.ite (Fr.refl _ _) ((Fr.trans (Fr.refl _ _) (State.setShutter_frame
    (Within.of rfl hm))))))))) (State.event_frame (Within.of rfl hm)))))) (Fr.refl _ _))

theorem execBypassLatched_frame {m : Nat} (hm : Within 13119782924 m) {s : State} :
    OutFr m s (execBypassLatched s) := by
  delta execBypassLatched
  exact OutFr.next ((Fr.trans (Fr.refl _ _) (State.bypassDone_frame (Within.of rfl hm))))

theorem execBypass_frame {m : Nat} (hm : Within 14478737420 m) {a0 : Path} {s : State} :
    OutFr m s (execBypass a0 s) := by
  delta execBypass
  exact OutFr.next ((Fr.ite ((Fr.set_steer (Within.of rfl hm) ((Fr.trans (Fr.refl _ _) (State.driveBypass_frame (Within.of rfl
    hm)))))) (Fr.refl _ _)))

theorem State.takePlan_frame {m : Nat} (hm : Within 13136560140 m) {s : State} :
    Fr m s (State.takePlan s) := by
  delta State.takePlan
  exact (by (try dsimp only); split; exacts [(Fr.trans (Fr.refl _ _) (State.startMove_frame (Within.of rfl hm) (fun _ => Fr.refl
    _ _))), (Fr.refl _ _)])

theorem State.restoreNow_frame {m : Nat} (hm : Within 13136560140 m) {s : State} :
    Fr m s (State.restoreNow s) := by
  delta State.restoreNow
  exact (Fr.ite ((Fr.trans ((Fr.set_steer (Within.of rfl hm) (Fr.refl _ _))) (State.takePlan_frame (Within.of rfl hm)))) (Fr.refl
    _ _))

theorem execRestore_frame {m : Nat} (hm : Within 13136560140 m) {a0 : Path} {s : State} :
    OutFr m s (execRestore a0 s) := by
  delta execRestore
  exact OutFr.next ((Fr.ite ((Fr.trans (Fr.refl _ _) (State.restoreNow_frame (Within.of rfl hm)))) (Fr.refl _ _)))

theorem State.settleMissed_frame {m : Nat} (hm : Within 13136560140 m) {s : State} {a1 : ℕ} {a2 : ℕ} :
    Fr m s (State.settleMissed s a1 a2) := by
  delta State.settleMissed
  exact (Fr.ite (Fr.refl _ _) ((Fr.ite ((Fr.set_steer (Within.of rfl hm) (Fr.refl _ _))) ((Fr.trans ((Fr.trans ((Fr.trans
    ((Fr.set_steer (Within.of rfl hm) (Fr.refl _ _))) (State.leaveLts_frame (Within.of rfl hm)))) (State.joinLts_frame (Within.of
    rfl hm)))) (State.event_frame (Within.of rfl hm)))))))

theorem execElementSettleTimeout_frame {m : Nat} (hm : Within 13136560140 m) {a0 : BitVec 7} {a1 : BitVec 7} {s : State} :
    OutFr m s (execElementSettleTimeout a0 a1 s) := by
  delta execElementSettleTimeout
  exact OutFr.next ((Fr.trans (Fr.refl _ _) (State.settleMissed_frame (Within.of rfl hm))))

theorem State.beginSwitch_frame {m : Nat} (hm : Within 67108864 m) {s : State} {a1 : Switch} :
    Fr m s (State.beginSwitch s a1) := by
  delta State.beginSwitch
  exact (Fr.set_steer (Within.of rfl hm) (Fr.refl _ _))

theorem State.switchTo_frame {m : Nat} (hm : Within 201326604 m) {s : State} {a1 : BitVec 2} {a2 : Plan} :
    Fr m s (State.switchTo s a1 a2) := by
  delta State.switchTo
  exact ((State.draw_frame (Within.of rfl hm)).trans (State.beginSwitch_frame (Within.of rfl hm))).trans (State.slSend_frame
    (Within.of rfl hm))

theorem State.refuseGo_frame {m : Nat} (hm : Within 67108864 m) {s : State} {a1 : Code} :
    Fr m s (State.refuseGo s a1) := by
  delta State.refuseGo
  exact Fr.ite (Fr.set_steer (Within.of rfl hm) (Fr.refl _ _)) (Fr.set_steer (Within.of rfl hm) (Fr.refl _ _))

theorem State.switchGoAt_frame {m : Nat} (hm : Within 201326604 m) {s : State} {a1 : BitVec 2} :
    Fr m s (State.switchGoAt s a1) := by
  delta State.switchGoAt
  cases s.goRefusal a1 s.swTime with
  | some c => exact State.refuseGo_frame (Within.of rfl hm)
  | none =>
    cases (s.plan.slot a1).plan with
    | none => exact Fr.refl _ _
    | some pl => exact State.switchTo_frame (Within.of rfl hm)

theorem State.switchGo_frame {m : Nat} (hm : Within 201326620 m) {s : State} {a1 : BitVec 2} :
    Fr m s (State.switchGo s a1) :=
  (State.setPol_frame (Within.of rfl hm)).trans (State.switchGoAt_frame (Within.of rfl hm))

theorem execSteerSwitchGo_frame {m : Nat} (hm : Within 201326620 m) {a0 : Path} {a1 : BitVec 2} {s : State} :
    OutFr m s (execSteerSwitchGo a0 a1 s) := by
  delta execSteerSwitchGo
  exact OutFr.next ((Fr.ite ((Fr.trans (Fr.refl _ _) (State.switchGo_frame (Within.of rfl hm)))) (Fr.refl _ _)))

theorem State.answerReady_frame {m : Nat} (hm : Within 134217736 m) {s : State} {a1 : Node} {a2 : Word} :
    Fr m s (State.answerReady s a1 a2) := by
  delta State.answerReady
  exact (Fr.trans (Fr.refl _ _) (State.slSend_frame (Within.of rfl hm)))

theorem State.answerRefuse_frame {m : Nat} (hm : Within 134217736 m) {s : State} {a1 : Node} {a2 : Word} {a3 : Code} :
    Fr m s (State.answerRefuse s a1 a2 a3) := by
  delta State.answerRefuse
  exact (Fr.trans (Fr.refl _ _) (State.slSend_frame (Within.of rfl hm)))

theorem State.prepared_frame {m : Nat} (hm : Within 201326600 m) {s : State} {a1 : Node} {a2 : Word} {a3 : DevTime} {a4 : Word}
  {a5 : BitVec 384} :
    Fr m s (State.prepared s a1 a2 a3 a4 a5) := by
  delta State.prepared
  exact (Fr.ite ((Fr.trans (Fr.refl _ _) (State.answerReady_frame (Within.of rfl hm)))) ((Fr.ite (Fr.refl _ _) ((Fr.ite
    ((Fr.trans (Fr.refl _ _) (State.answerRefuse_frame (Within.of rfl hm)))) ((by (try dsimp only); split; exacts [(Fr.trans
    (Fr.refl _ _) (State.answerRefuse_frame (Within.of rfl hm))), (Fr.ite ((Fr.trans (Fr.refl _ _) (State.answerRefuse_frame
    (Within.of rfl hm)))) ((Fr.ite ((Fr.trans (Fr.refl _ _) (State.answerRefuse_frame (Within.of rfl hm)))) ((Fr.ite ((Fr.trans
    (Fr.refl _ _) (State.answerRefuse_frame (Within.of rfl hm)))) ((Fr.ite ((Fr.trans (Fr.refl _ _) (State.answerRefuse_frame
    (Within.of rfl hm)))) ((Fr.trans ((Fr.trans (Fr.refl _ _) (State.beginSwitch_frame (Within.of rfl hm))))
    (State.answerReady_frame (Within.of rfl hm)))))))))))])))))))

theorem execPrepare_frame {m : Nat} (hm : Within 201326600 m) {a0 : SlHead} {a1 : Word} {a2 : DevTime} {a3 : Word} {a4 : BitVec
  384} {s : State} :
    OutFr m s (execPrepare a0 a1 a2 a3 a4 s) := by
  delta execPrepare
  exact OutFr.next ((Fr.trans (Fr.refl _ _) (State.onFrame_frame (Within.of rfl hm) (fun _ => (Fr.trans (Fr.refl _ _)
    (State.prepared_frame (Within.of rfl hm)))))))

theorem State.asCoord_frame {m : Nat} (hm : Within 67108864 m) {s : State} {a1 : Word} {a2 : Switch → Switch} :
    Fr m s (State.asCoord s a1 a2) := by
  delta State.asCoord
  exact (by (try dsimp only); split; exacts [(Fr.ite ((Fr.set_steer (Within.of rfl hm) (Fr.refl _ _))) (Fr.refl _ _)),
    (Fr.refl _ _)])

theorem execSlReady_frame {m : Nat} (hm : Within 201326600 m) {a0 : SlHead} {a1 : Word} {s : State} :
    OutFr m s (execSlReady a0 a1 s) := by
  delta execSlReady
  exact OutFr.next ((Fr.trans (Fr.refl _ _) (State.onFrame_frame (Within.of rfl hm) (fun _ => (Fr.trans (Fr.refl _ _)
    (State.asCoord_frame (Within.of rfl hm)))))))

theorem execRefuseFrame_frame {m : Nat} (hm : Within 201326600 m) {a0 : SlHead} {a1 : Word} {a2 : Code} {s : State} :
    OutFr m s (execRefuseFrame a0 a1 a2 s) := by
  delta execRefuseFrame
  exact OutFr.next ((Fr.trans (Fr.refl _ _) (State.onFrame_frame (Within.of rfl hm) (fun _ => (Fr.trans (Fr.refl _ _)
    (State.asCoord_frame (Within.of rfl hm)))))))

theorem State.armTrigger_frame {m : Nat} (hm : Within 14092861448 m) {s : State} {a1 : DevTime} :
    Fr m s (State.armTrigger s a1) := by
  delta State.armTrigger
  exact (Fr.ite ((Fr.trans ((Fr.trans (Fr.refl _ _) (State.setTrigger_frame (Within.of rfl hm)))) (State.event_frame (Within.of
    rfl hm)))) ((Fr.trans (Fr.refl _ _) (State.setTrigger_frame (Within.of rfl hm)))))

theorem State.commitNow_frame {m : Nat} (hm : Within 14159970312 m) {s : State} {a1 : Switch} :
    Fr m s (State.commitNow s a1) := by
  delta State.commitNow
  exact (Fr.trans ((Fr.set_steer (Within.of rfl hm) (Fr.refl _ _))) (State.armTrigger_frame (Within.of rfl hm)))

theorem execCommit_frame {m : Nat} (hm : Within 14159970312 m) {a0 : SlHead} {a1 : Word} {s : State} :
    OutFr m s (execCommit a0 a1 s) := by
  delta execCommit
  exact OutFr.next ((Fr.trans (Fr.refl _ _) (State.onFrame_frame (Within.of rfl hm) (fun _ => (by (try dsimp only); split; exacts
    [(Fr.ite ((Fr.ite ((Fr.trans ((Fr.ite ((Fr.trans (Fr.refl _ _) (State.commitNow_frame (Within.of rfl hm)))) (Fr.refl _ _)))
    (State.slSend_frame (Within.of rfl hm)))) ((Fr.ite ((Fr.trans (Fr.refl _ _) (State.commitNow_frame (Within.of rfl hm))))
    (Fr.refl _ _))))) (Fr.refl _ _)), (Fr.refl _ _)])))))

theorem State.abortSwitch_frame {m : Nat} (hm : Within 14478737420 m) {s : State} {a1 : Code} :
    Fr m s (State.abortSwitch s a1) := by
  delta State.abortSwitch
  exact (Fr.trans ((Fr.trans (Fr.refl _ _) (State.event_frame (Within.of rfl hm)))) (State.endSwitch_frame (Within.of rfl hm)))

theorem execAbortFrame_frame {m : Nat} (hm : Within 14478737420 m) {a0 : SlHead} {a1 : Word} {a2 : Code} {s : State} :
    OutFr m s (execAbortFrame a0 a1 a2 s) := by
  delta execAbortFrame
  exact OutFr.next ((Fr.trans (Fr.refl _ _) (State.onFrame_frame (Within.of rfl hm) (fun _ => (by (try dsimp only); split; exacts
    [(Fr.ite ((Fr.trans (Fr.refl _ _) (State.abortSwitch_frame (Within.of rfl hm)))) (Fr.refl _ _)), (Fr.refl _ _)])))))

theorem execCommitAck_frame {m : Nat} (hm : Within 201326600 m) {a0 : SlHead} {a1 : Word} {s : State} :
    OutFr m s (execCommitAck a0 a1 s) := by
  delta execCommitAck
  exact OutFr.next ((Fr.trans (Fr.refl _ _) (State.onFrame_frame (Within.of rfl hm) (fun _ => (Fr.trans (Fr.refl _ _)
    (State.asCoord_frame (Within.of rfl hm)))))))

theorem State.outcomeIn_frame {m : Nat} (hm : Within 13086228488 m) {s : State} {a1 : Node} {a2 : Word} {a3 : Code} {a4 : BitVec
  16} :
    Fr m s (State.outcomeIn s a1 a2 a3 a4) := by
  delta State.outcomeIn
  exact (by (try dsimp only); split; exacts [(Fr.ite ((Fr.ite ((Fr.trans (Fr.refl _ _) (State.noteResume_frame (Within.of rfl
    hm)))) ((Fr.trans (Fr.refl _ _) (State.failedNode_frame (Within.of rfl hm)))))) (Fr.refl _ _)), (Fr.refl _ _)])

theorem execOutcomeFrame_frame {m : Nat} (hm : Within 13086228488 m) {a0 : SlHead} {a1 : Word} {a2 : Code} {a3 : BitVec 16} {s :
  State} :
    OutFr m s (execOutcomeFrame a0 a1 a2 a3 s) := by
  delta execOutcomeFrame
  exact OutFr.next ((Fr.trans (Fr.refl _ _) (State.onFrame_frame (Within.of rfl hm) (fun _ => (Fr.trans (Fr.refl _ _)
    (State.outcomeIn_frame (Within.of rfl hm)))))))

theorem execPrepareResend_frame {m : Nat} (hm : Within 134217736 m) {s : State} :
    OutFr m s (execPrepareResend s) := by
  delta execPrepareResend
  exact OutFr.next ((by (try dsimp only); split; exacts [(Fr.ite ((Fr.trans (Fr.refl _ _) (Fr.foldl (fun _ _ => (Fr.trans
    (Fr.refl _ _) (State.slSend_frame (Within.of rfl hm))))))) (Fr.refl _ _)), (Fr.refl _ _)]))

theorem State.deadline_frame {m : Nat} (hm : Within 14478737420 m) {s : State} {a1 : Switch} :
    Fr m s (State.deadline s a1) := by
  delta State.deadline
  exact (Fr.ite ((Fr.trans ((Fr.trans (Fr.refl _ _) (State.slSend_frame (Within.of rfl hm)))) (State.commitNow_frame (Within.of
    rfl hm)))) ((Fr.trans ((Fr.trans ((Fr.set_steer (Within.of rfl hm) (Fr.refl _ _))) (State.slSend_frame (Within.of rfl hm))))
    (State.abortSwitch_frame (Within.of rfl hm)))))

theorem execReadyDeadline_frame {m : Nat} (hm : Within 14478737420 m) {s : State} :
    OutFr m s (execReadyDeadline s) := by
  delta execReadyDeadline
  exact OutFr.next ((by (try dsimp only); split; exacts [(Fr.ite ((Fr.trans (Fr.refl _ _) (State.deadline_frame (Within.of rfl
    hm)))) (Fr.refl _ _)), (Fr.refl _ _)]))

theorem execCommitResend_frame {m : Nat} (hm : Within 134217736 m) {s : State} :
    OutFr m s (execCommitResend s) := by
  delta execCommitResend
  exact OutFr.next ((by (try dsimp only); split; exacts [(Fr.ite ((Fr.trans (Fr.refl _ _) (Fr.foldl (fun _ _ => (Fr.trans
    (Fr.refl _ _) (State.slSend_frame (Within.of rfl hm))))))) (Fr.refl _ _)), (Fr.refl _ _)]))

theorem State.abortNow_frame {m : Nat} (hm : Within 14478737420 m) {s : State} :
    Fr m s (State.abortNow s) := by
  delta State.abortNow
  exact (by (try dsimp only); split; exacts [(Fr.ite ((Fr.trans ((Fr.trans ((Fr.trans (Fr.refl _ _) (State.draw_frame (Within.of
    rfl hm)))) (State.slSend_frame (Within.of rfl hm)))) (State.abortSwitch_frame (Within.of rfl hm)))) (Fr.refl _ _)),
    (Fr.refl _ _)])

theorem execSteerAbort_frame {m : Nat} (hm : Within 14478737420 m) {a0 : Path} {s : State} :
    OutFr m s (execSteerAbort a0 s) := by
  delta execSteerAbort
  exact OutFr.next ((Fr.ite ((Fr.trans (Fr.refl _ _) (State.abortNow_frame (Within.of rfl hm)))) (Fr.refl _ _)))

theorem State.beginQuiesce_frame {m : Nat} (hm : Within 100663296 m) {s : State} :
    Fr m s (State.beginQuiesce s) := by
  delta State.beginQuiesce
  exact (by (try dsimp only); split; exacts [(Fr.ite ((Fr.trans ((Fr.set_steer (Within.of rfl hm) (Fr.refl _ _)))
    (State.quiesce_frame (Within.of rfl hm)))) (Fr.refl _ _)), (Fr.refl _ _)])

theorem execQuiesceStart_frame {m : Nat} (hm : Within 100663296 m) {s : State} :
    OutFr m s (execQuiesceStart s) := by
  delta execQuiesceStart
  exact OutFr.next ((Fr.trans (Fr.refl _ _) (State.beginQuiesce_frame (Within.of rfl hm))))

theorem execQuiesceEnd_frame {m : Nat} (_hm : Within 0 m) {s : State} :
    OutFr m s (execQuiesceEnd s) := by
  delta execQuiesceEnd
  exact OutFr.next (Fr.refl _ _)

theorem State.fireSteer_frame {m : Nat} (hm : Within 1073741824 m) {s : State} :
    Fr m s (State.fireSteer s) := by
  delta State.fireSteer
  exact (Fr.trans (Fr.refl _ _) (State.setTrigger_frame (Within.of rfl hm)))

theorem State.switchNow_frame {m : Nat} (hm : Within 14485946412 m) {s : State} {a1 : Switch} :
    Fr m s (State.switchNow s a1) := by
  delta State.switchNow
  exact (Fr.ite ((Fr.trans (Fr.refl _ _) (State.notMoved_frame (Within.of rfl hm)))) ((by (try dsimp only); split; exacts
    [(Fr.trans (Fr.refl _ _) (State.notMoved_frame (Within.of rfl hm))), (by (try dsimp only); split; exacts [(Fr.trans (Fr.refl
    _ _) (State.notMoved_frame (Within.of rfl hm))), (Fr.trans ((Fr.trans ((Fr.trans ((Fr.trans ((Fr.set_steer (Within.of rfl hm)
    (Fr.refl _ _))) (State.fireSteer_frame (Within.of rfl hm)))) (State.startMove_frame (Within.of rfl hm) (fun _ => (Fr.trans
    (Fr.refl _ _) (State.activate_frame (Within.of rfl hm))))))) (State.rejudgeAll_frame (Within.of rfl hm)))) (Fr.foldl (fun _ _
    => (Fr.trans (Fr.refl _ _) (State.ensureMin_frame (Within.of rfl hm))))))])])))

theorem execSwitchT_frame {m : Nat} (hm : Within 14485946412 m) {s : State} :
    OutFr m s (execSwitchT s) := by
  delta execSwitchT
  exact OutFr.next ((by (try dsimp only); split; exacts [(Fr.ite ((Fr.trans (Fr.refl _ _) (State.switchNow_frame (Within.of rfl
    hm)))) (Fr.refl _ _)), (Fr.refl _ _)]))

end Sys2Proof.Machine
end

