-- ==== Sys2Proof/Laws/FrameBoot.lean ====
section
/-! SUPPORT. The frame of every operation of Machine/Boot: the parts of the state that it can change. -/

set_option Elab.async false
set_option linter.unusedTactic false

namespace Sys2Proof.Machine
open Sys2Proof.Safety

theorem State.chooseHeader_frame {m : Nat} (hm : Within 15166603272 m) {s : State} :
    Fr m s (State.chooseHeader s) := by
  delta State.chooseHeader
  exact (Fr.set_fw (Within.of rfl hm) ((Fr.ite ((Fr.ite ((Fr.trans ((Fr.set_fw (Within.of rfl hm) ((Fr.ite (Fr.refl _ _)
    ((Fr.set_fw (Within.of rfl hm) (Fr.refl _ _))))))) (State.event_frame (Within.of rfl hm)))) ((Fr.ite ((Fr.trans ((Fr.trans
    ((Fr.set_fw (Within.of rfl hm) ((Fr.ite (Fr.refl _ _) ((Fr.set_fw (Within.of rfl hm) (Fr.refl _ _))))))) (State.event_frame
    (Within.of rfl hm)))) (State.event_frame (Within.of rfl hm)))) ((Fr.trans ((Fr.set_fw (Within.of rfl hm) ((Fr.ite (Fr.refl _
    _) ((Fr.set_fw (Within.of rfl hm) (Fr.refl _ _))))))) (State.event_frame (Within.of rfl hm)))))))) ((Fr.ite (Fr.refl _ _)
    ((Fr.set_fw (Within.of rfl hm) (Fr.refl _ _))))))))

theorem State.begin_frame {m : Nat} (hm : Within 536870912 m) {s : State} :
    Fr m s (State.begin s) := by
  delta State.begin
  exact (Fr.set_mod (Within.of rfl hm) (Fr.refl _ _))

theorem State.halt_frame {m : Nat} (hm : Within 13555990536 m) {s : State} {a1 : Byte} :
    Fr m s (State.halt s a1) := by
  delta State.halt
  exact (Fr.trans ((Fr.set_mod (Within.of rfl hm) (Fr.refl _ _))) (State.event_frame (Within.of rfl hm)))

theorem State.endStage_frame {m : Nat} (hm : Within 13555990536 m) {s : State} :
    Fr m s (State.endStage s) := by
  delta State.endStage
  exact (Fr.ite ((Fr.set_mod (Within.of rfl hm) ((Fr.ite ((Fr.set_gov (Within.of rfl hm) ((Fr.trans ((Fr.set_mod (Within.of rfl
    hm) (Fr.refl _ _))) (State.event_frame (Within.of rfl hm)))))) ((Fr.trans ((Fr.set_mod (Within.of rfl hm) (Fr.refl _ _)))
    (State.event_frame (Within.of rfl hm)))))))) ((Fr.set_mod (Within.of rfl hm) ((Fr.ite ((Fr.set_gov (Within.of rfl hm)
    ((Fr.trans ((Fr.set_mod (Within.of rfl hm) (Fr.refl _ _))) (State.event_frame (Within.of rfl hm)))))) ((Fr.trans ((Fr.set_mod
    (Within.of rfl hm) (Fr.refl _ _))) (State.event_frame (Within.of rfl hm)))))))))

theorem State.nextRecord_frame {m : Nat} (hm : Within 13555990536 m) {s : State} :
    Fr m s (State.nextRecord s) := by
  delta State.nextRecord
  exact (by (try dsimp only); split; exacts [(Fr.trans (Fr.refl _ _) (State.endStage_frame (Within.of rfl hm))), (Fr.ite
    ((Fr.trans (Fr.refl _ _) (State.halt_frame (Within.of rfl hm)))) ((Fr.set_mod (Within.of rfl hm) (Fr.refl _ _))))])

theorem State.startRecords_frame {m : Nat} (hm : Within 13555990536 m) {s : State} :
    Fr m s (State.startRecords s) := by
  delta State.startRecords
  exact (Fr.trans ((Fr.set_mod (Within.of rfl hm) (Fr.refl _ _))) (State.nextRecord_frame (Within.of rfl hm)))

theorem State.settleStage_frame {m : Nat} (hm : Within 13555990536 m) {s : State} :
    Fr m s (State.settleStage s) := by
  delta State.settleStage
  exact (Fr.ite ((Fr.trans (Fr.refl _ _) (State.startRecords_frame (Within.of rfl hm)))) (Fr.refl _ _))

theorem State.powerOn_frame {m : Nat} (hm : Within 13623099400 m) {s : State} {a1 : BitVec 12} {a2 : BitVec 12} :
    Fr m s (State.powerOn s a1 a2) := by
  delta State.powerOn
  exact (Fr.ite ((Fr.set_mod (Within.of rfl hm) (Fr.refl _ _))) ((Fr.ite ((Fr.ite ((Fr.trans ((Fr.set_steer_mod (Within.of rfl
    hm) ((Fr.set_mod (Within.of rfl hm) (Fr.refl _ _))))) (State.event_frame (Within.of rfl hm)))) ((Fr.set_steer_mod (Within.of
    rfl hm) ((Fr.set_mod (Within.of rfl hm) (Fr.refl _ _))))))) ((Fr.trans ((Fr.set_cs (Within.of rfl hm) ((Fr.ite ((Fr.trans
    ((Fr.set_steer_mod (Within.of rfl hm) ((Fr.set_mod (Within.of rfl hm) (Fr.refl _ _))))) (State.event_frame (Within.of rfl
    hm)))) ((Fr.set_steer_mod (Within.of rfl hm) ((Fr.set_mod (Within.of rfl hm) (Fr.refl _ _))))))))) (State.event_frame
    (Within.of rfl hm)))))))

theorem execPowerUp_frame {m : Nat} (hm : Within 13623099400 m) {a0 : BitVec 12} {a1 : BitVec 12} {s : State} :
    OutFr m s (execPowerUp a0 a1 s) := by
  delta execPowerUp
  exact OutFr.next ((Fr.trans (Fr.refl _ _) (State.powerOn_frame (Within.of rfl hm))))

theorem execStagePower_frame {m : Nat} (hm : Within 13555990536 m) {s : State} :
    OutFr m s (execStagePower s) := by
  delta execStagePower
  exact OutFr.next ((Fr.ite ((Fr.trans ((Fr.trans (Fr.refl _ _) (State.begin_frame (Within.of rfl hm)))) (State.settleStage_frame
    (Within.of rfl hm)))) (Fr.refl _ _)))

theorem State.takeImage_frame {m : Nat} (hm : Within 536870912 m) {s : State} {a1 : Image} {a2 : Bool} {a3 : Bool} :
    Fr m s (State.takeImage s a1 a2 a3) := by
  delta State.takeImage
  exact (Fr.set_mod (Within.of rfl hm) (Fr.refl _ _))

theorem State.recover_frame {m : Nat} (hm : Within 13824425992 m) {s : State} {a1 : Byte} :
    Fr m s (State.recover s a1) := by
  delta State.recover
  exact (Fr.trans ((Fr.set_plan_mod (Within.of rfl hm) (Fr.refl _ _))) (State.event_frame (Within.of rfl hm)))

theorem State.readImage_frame {m : Nat} (hm : Within 15971909640 m) {s : State} :
    Fr m s (State.readImage s) := by
  delta State.readImage
  exact (Fr.trans ((by (try dsimp only); split; exacts [(Fr.trans ((Fr.trans ((Fr.trans (Fr.refl _ _) (State.begin_frame
    (Within.of rfl hm)))) (State.chooseHeader_frame (Within.of rfl hm)))) (State.takeImage_frame (Within.of rfl hm))),
    (by (try dsimp only); split; exacts [(Fr.trans ((Fr.trans ((Fr.trans ((Fr.trans (Fr.refl _ _) (State.begin_frame (Within.of
    rfl hm)))) (State.chooseHeader_frame (Within.of rfl hm)))) (State.event_frame (Within.of rfl hm)))) (State.takeImage_frame
    (Within.of rfl hm))), (Fr.trans ((Fr.trans ((Fr.trans ((Fr.trans (Fr.refl _ _) (State.begin_frame (Within.of rfl hm))))
    (State.chooseHeader_frame (Within.of rfl hm)))) (State.event_frame (Within.of rfl hm)))) (State.recover_frame (Within.of rfl
    hm)))])])) (State.settleStage_frame (Within.of rfl hm)))

theorem execStageImage_frame {m : Nat} (hm : Within 15971909640 m) {s : State} :
    OutFr m s (execStageImage s) := by
  delta execStageImage
  exact OutFr.next ((Fr.ite ((Fr.trans (Fr.refl _ _) (State.readImage_frame (Within.of rfl hm)))) (Fr.refl _ _)))

theorem State.chooseBank_frame {m : Nat} (hm : Within 15166603272 m) {s : State} :
    Fr m s (State.chooseBank s) := by
  delta State.chooseBank
  exact (Fr.ite ((Fr.trans ((Fr.set_fw (Within.of rfl hm) (Fr.refl _ _))) (State.event_frame (Within.of rfl hm)))) ((Fr.set_fw
    (Within.of rfl hm) (Fr.refl _ _))))

theorem State.checkH4_frame {m : Nat} (hm : Within 15166603272 m) {s : State} {a1 : Bool} :
    Fr m s (State.checkH4 s a1) := by
  delta State.checkH4
  exact (Fr.ite ((Fr.trans ((Fr.set_fw (Within.of rfl hm) (Fr.refl _ _))) (State.event_frame (Within.of rfl hm)))) (Fr.refl _ _))

theorem State.govern_frame {m : Nat} (hm : Within 15703474188 m) {s : State} {a1 : Bool} {a2 : Bool} {a3 : Bool} :
    Fr m s (State.govern s a1 a2 a3) := by
  delta State.govern
  exact (Fr.ite ((Fr.trans ((Fr.set_fw (Within.of rfl hm) ((Fr.trans ((Fr.trans (Fr.refl _ _) (State.begin_frame (Within.of rfl
    hm)))) (State.checkH4_frame (Within.of rfl hm)))))) (State.halt_frame (Within.of rfl hm)))) ((Fr.trans ((Fr.trans ((Fr.trans
    ((Fr.set_gov (Within.of rfl hm) ((Fr.set_fw (Within.of rfl hm) ((Fr.trans ((Fr.trans (Fr.refl _ _) (State.begin_frame
    (Within.of rfl hm)))) (State.checkH4_frame (Within.of rfl hm)))))))) (State.draw_frame (Within.of rfl hm))))
    (State.chooseBank_frame (Within.of rfl hm)))) (State.settleStage_frame (Within.of rfl hm)))))

theorem execStageGovern_frame {m : Nat} (hm : Within 15703474188 m) {a0 : Bool} {a1 : Bool} {a2 : Bool} {s : State} :
    OutFr m s (execStageGovern a0 a1 a2 s) := by
  delta execStageGovern
  exact OutFr.next ((Fr.ite ((Fr.trans (Fr.refl _ _) (State.govern_frame (Within.of rfl hm)))) (Fr.refl _ _)))

theorem execStageSites_frame {m : Nat} (hm : Within 536870912 m) {s : State} :
    OutFr m s (execStageSites s) := by
  delta execStageSites
  exact OutFr.next ((Fr.ite ((Fr.trans (Fr.refl _ _) (State.begin_frame (Within.of rfl hm)))) (Fr.refl _ _)))

theorem State.powerSite_frame {m : Nat} (hm : Within 13556121608 m) {s : State} {a1 : ℕ} :
    Fr m s (State.powerSite s a1) := by
  delta State.powerSite
  exact (Fr.ite ((Fr.trans ((Fr.trans (Fr.refl _ _) (State.setSite_frame (Within.of rfl hm)))) (State.settleStage_frame
    (Within.of rfl hm)))) (Fr.refl _ _))

theorem execSitePowerOn_frame {m : Nat} (hm : Within 13556121608 m) {a0 : BitVec 4} {s : State} :
    OutFr m s (execSitePowerOn a0 s) := by
  delta execSitePowerOn
  exact OutFr.next ((Fr.trans (Fr.refl _ _) (State.powerSite_frame (Within.of rfl hm))))

theorem State.failTrayOnce_frame {m : Nat} (hm : Within 13063601932 m) {s : State} {a1 : ℕ} :
    Fr m s (State.failTrayOnce s a1) := by
  delta State.failTrayOnce
  exact (Fr.ite (Fr.refl _ _) ((Fr.trans (Fr.refl _ _) (State.failTray_frame (Within.of rfl hm)))))

theorem State.failClusterOnce_frame {m : Nat} (hm : Within 13063601676 m) {s : State} {a1 : ℕ} :
    Fr m s (State.failClusterOnce s a1) := by
  delta State.failClusterOnce
  exact (Fr.ite (Fr.refl _ _) ((Fr.trans (Fr.refl _ _) (State.failCluster_frame (Within.of rfl hm)))))

theorem State.failSite_frame {m : Nat} (hm : Within 13063601932 m) {s : State} {a1 : ℕ} :
    Fr m s (State.failSite s a1) := by
  delta State.failSite
  exact (Fr.trans ((Fr.trans ((Fr.trans (Fr.refl _ _) (State.setSite_frame (Within.of rfl hm)))) (Fr.foldl (fun _ _ => (Fr.trans
    ((Fr.trans (Fr.refl _ _) (State.failTrayOnce_frame (Within.of rfl hm)))) (Fr.foldl (fun _ _ => (Fr.trans (Fr.refl _ _)
    (State.failClusterOnce_frame (Within.of rfl hm)))))))))) (State.event_frame (Within.of rfl hm)))

theorem State.noSite_frame {m : Nat} (hm : Within 13555990536 m) {s : State} :
    Fr m s (State.noSite s) := by
  delta State.noSite
  exact (Fr.ite ((Fr.trans (Fr.refl _ _) (State.halt_frame (Within.of rfl hm)))) (Fr.refl _ _))

theorem State.siteSilent_frame {m : Nat} (hm : Within 13600472844 m) {s : State} {a1 : ℕ} :
    Fr m s (State.siteSilent s a1) := by
  delta State.siteSilent
  exact (Fr.ite ((Fr.trans ((Fr.trans ((Fr.trans (Fr.refl _ _) (State.failSite_frame (Within.of rfl hm)))) (State.noSite_frame
    (Within.of rfl hm)))) (State.settleStage_frame (Within.of rfl hm)))) (Fr.refl _ _))

theorem execSiteReportTimeout_frame {m : Nat} (hm : Within 13600472844 m) {a0 : BitVec 4} {s : State} :
    OutFr m s (execSiteReportTimeout a0 s) := by
  delta execSiteReportTimeout
  exact OutFr.next ((Fr.trans (Fr.refl _ _) (State.siteSilent_frame (Within.of rfl hm))))

theorem State.trainFailed_frame {m : Nat} (hm : Within 13063601932 m) {s : State} {a1 : BitVec 4 × Fin 36} :
    Fr m s (State.trainFailed s a1) := by
  delta State.trainFailed
  exact (Fr.ite (Fr.refl _ _) ((Fr.ite ((Fr.trans (Fr.refl _ _) (State.failSite_frame (Within.of rfl hm)))) ((Fr.trans (Fr.refl _
    _) (State.eraseDie_frame (Within.of rfl hm)))))))

theorem State.trainMemory_frame {m : Nat} (hm : Within 13600472844 m) {s : State} {a1 : List (BitVec 4 × Fin 36)} :
    Fr m s (State.trainMemory s a1) := by
  delta State.trainMemory
  exact (Fr.trans ((Fr.trans ((Fr.trans ((Fr.trans ((Fr.trans (Fr.refl _ _) (State.begin_frame (Within.of rfl hm)))) (Fr.foldl
    (fun _ _ => (Fr.trans (Fr.refl _ _) (State.trainFailed_frame (Within.of rfl hm))))))) (Fr.foldl (fun _ _ => (Fr.ite (Fr.refl
    _ _) ((Fr.trans (Fr.refl _ _) (State.setSite_frame (Within.of rfl hm) (by intro _; exact Memory.wf_nil)))))))))
    (State.noSite_frame (Within.of rfl hm)))) (State.settleStage_frame (Within.of rfl hm)))

theorem execStageMemory_frame {m : Nat} (hm : Within 13600472844 m) {a0 : List (BitVec 4 × Fin 36)} {s : State} :
    OutFr m s (execStageMemory a0 s) := by
  delta execStageMemory
  exact OutFr.next ((Fr.ite ((Fr.trans (Fr.refl _ _) (State.trainMemory_frame (Within.of rfl hm)))) (Fr.refl _ _)))

theorem execStageLight_frame {m : Nat} (hm : Within 553648128 m) {s : State} :
    OutFr m s (execStageLight s) := by
  delta execStageLight
  exact OutFr.next ((Fr.ite ((Fr.set_light (Within.of rfl hm) ((Fr.trans (Fr.refl _ _) (State.begin_frame (Within.of rfl hm))))))
    (Fr.refl _ _)))

theorem State.startBay_frame {m : Nat} (hm : Within 256 m) {s : State} {a1 : ℕ} :
    Fr m s (State.startBay s a1) := by
  delta State.startBay
  exact (Fr.ite ((Fr.trans (Fr.refl _ _) (Fr.foldl (fun _ _ => (Fr.ite (Fr.refl _ _) ((Fr.trans (Fr.refl _ _)
    (State.acquire_frame (Within.of rfl hm))))))))) (Fr.refl _ _))

theorem execBayLaserStart_frame {m : Nat} (hm : Within 256 m) {a0 : BitVec 7} {s : State} :
    OutFr m s (execBayLaserStart a0 s) := by
  delta execBayLaserStart
  exact OutFr.next ((Fr.trans (Fr.refl _ _) (State.startBay_frame (Within.of rfl hm))))

theorem State.startTray_frame {m : Nat} (hm : Within 13600472908 m) {s : State} {a1 : ℕ} :
    Fr m s (State.startTray s a1) := by
  delta State.startTray
  exact (Fr.ite ((Fr.ite ((Fr.trans ((Fr.trans (Fr.refl _ _) (State.modTray_frame (Within.of rfl hm)))) (State.trayUnfit_frame
    (Within.of rfl hm)))) ((Fr.trans (Fr.refl _ _) (State.modTray_frame (Within.of rfl hm)))))) (Fr.refl _ _))

theorem State.bootSeeds_frame {m : Nat} (hm : Within 260 m) {s : State} :
    Fr m s (State.bootSeeds s) := by
  delta State.bootSeeds
  exact (Fr.trans (Fr.refl _ _) (Fr.foldl (fun _ _ => (Fr.trans ((Fr.trans (Fr.refl _ _) (State.modTray_frame (Within.of rfl
    hm)))) (State.draw_frame (Within.of rfl hm))))))

theorem State.startTrays_frame {m : Nat} (hm : Within 13600472908 m) {s : State} :
    Fr m s (State.startTrays s) := by
  delta State.startTrays
  exact (Fr.trans ((Fr.trans ((Fr.trans ((Fr.trans ((Fr.trans ((Fr.trans (Fr.refl _ _) (State.begin_frame (Within.of rfl hm))))
    (State.sendTable_frame (Within.of rfl hm)))) (State.bootSeeds_frame (Within.of rfl hm)))) (Fr.foldl (fun _ _ => (Fr.trans
    (Fr.refl _ _) (State.startTray_frame (Within.of rfl hm))))))) (Fr.foldl (fun _ _ => (Fr.trans (Fr.refl _ _)
    (State.startClusters_frame (Within.of rfl hm))))))) (State.settleStage_frame (Within.of rfl hm)))

theorem execStageTrays_frame {m : Nat} (hm : Within 13600472908 m) {s : State} :
    OutFr m s (execStageTrays s) := by
  delta execStageTrays
  exact OutFr.next ((Fr.ite ((Fr.trans (Fr.refl _ _) (State.startTrays_frame (Within.of rfl hm)))) (Fr.refl _ _)))

theorem State.planFromImage_frame {m : Nat} (hm : Within 13287555080 m) {s : State} :
    Fr m s (State.planFromImage s) := by
  delta State.planFromImage
  exact (by (try dsimp only); split; exacts [(Fr.refl _ _), (Fr.ite (Fr.refl _ _) ((by (try dsimp only); split; exacts
    [(Fr.set_plan (Within.of rfl hm) ((Fr.trans (Fr.refl _ _) (State.setSlot_frame (Within.of rfl hm))))), (Fr.trans (Fr.refl _
    _) (State.event_frame (Within.of rfl hm)))])))])

theorem State.linkFabric_frame {m : Nat} (hm : Within 13412204588 m) {s : State} :
    Fr m s (State.linkFabric s) := by
  delta State.linkFabric
  exact (by (try dsimp only); split; exacts [(Fr.trans ((Fr.trans (Fr.refl _ _) (State.startMove_frame (Within.of rfl hm) (fun _
    => (Fr.trans (Fr.refl _ _) (State.activate_frame (Within.of rfl hm))))))) (State.rejudgeAll_frame (Within.of rfl hm))),
    (Fr.refl _ _)])

theorem execStageFabric_frame {m : Nat} (hm : Within 13949075500 m) {s : State} :
    OutFr m s (execStageFabric s) := by
  delta execStageFabric
  exact OutFr.next ((Fr.ite ((Fr.trans ((Fr.trans ((Fr.trans ((Fr.trans (Fr.refl _ _) (State.begin_frame (Within.of rfl hm))))
    (State.planFromImage_frame (Within.of rfl hm)))) (State.linkFabric_frame (Within.of rfl hm)))) (State.settleStage_frame
    (Within.of rfl hm)))) (Fr.refl _ _)))

theorem State.closeLatch_frame {m : Nat} (hm : Within 13412204588 m) {s : State} :
    Fr m s (State.closeLatch s) := by
  delta State.closeLatch
  exact (Fr.ite ((Fr.trans ((Fr.set_steer (Within.of rfl hm) (Fr.refl _ _))) (State.linkFabric_frame (Within.of rfl hm))))
    ((Fr.set_steer (Within.of rfl hm) (Fr.refl _ _))))

theorem execHotSwapLatchClose_frame {m : Nat} (hm : Within 13412204588 m) {s : State} :
    OutFr m s (execHotSwapLatchClose s) := by
  delta execHotSwapLatchClose
  exact OutFr.next ((Fr.trans (Fr.refl _ _) (State.closeLatch_frame (Within.of rfl hm))))

theorem State.releaseUnready_frame {m : Nat} (hm : Within 184549388 m) {s : State} {a1 : PortNo} :
    Fr m s (State.releaseUnready s a1) := by
  delta State.releaseUnready
  exact (Fr.trans (Fr.refl _ _) (Fr.foldl (fun _ _ => (Fr.ite ((Fr.trans (Fr.refl _ _) (State.unlight_frame (Within.of rfl hm))))
    (Fr.refl _ _)))))

theorem State.fabricLate_frame {m : Nat} (hm : Within 13606322188 m) {s : State} :
    Fr m s (State.fabricLate s) := by
  delta State.fabricLate
  exact (Fr.ite ((Fr.trans ((Fr.trans ((Fr.set_mod (Within.of rfl hm) ((Fr.trans (Fr.refl _ _) (Fr.foldl (fun _ _ => (Fr.trans
    (Fr.refl _ _) (State.releaseUnready_frame (Within.of rfl hm))))))))) (State.event_frame (Within.of rfl hm))))
    (State.startRecords_frame (Within.of rfl hm)))) (Fr.refl _ _))

theorem execS7Timeout_frame {m : Nat} (hm : Within 13606322188 m) {s : State} :
    OutFr m s (execS7Timeout s) := by
  delta execS7Timeout
  exact OutFr.next ((Fr.trans (Fr.refl _ _) (State.fabricLate_frame (Within.of rfl hm))))

theorem State.startHost_frame {m : Nat} (hm : Within 13564379148 m) {s : State} :
    Fr m s (State.startHost s) := by
  delta State.startHost
  exact (Fr.trans ((Fr.trans ((Fr.trans (Fr.refl _ _) (State.begin_frame (Within.of rfl hm)))) (Fr.foldl (fun _ _ => (Fr.ite
    ((Fr.trans (Fr.refl _ _) (State.connect_frame (Within.of rfl hm)))) (Fr.refl _ _)))))) (State.settleStage_frame (Within.of
    rfl hm)))

theorem execStageHost_frame {m : Nat} (hm : Within 13564379148 m) {s : State} :
    OutFr m s (execStageHost s) := by
  delta execStageHost
  exact OutFr.next ((Fr.ite ((Fr.trans (Fr.refl _ _) (State.startHost_frame (Within.of rfl hm)))) (Fr.refl _ _)))

theorem State.goReady_frame {m : Nat} (hm : Within 13614710796 m) {s : State} :
    Fr m s (State.goReady s) := by
  delta State.goReady
  exact (Fr.trans ((Fr.trans ((Fr.trans ((Fr.set_host_mod (Within.of rfl hm) (Fr.refl _ _))) (State.event_frame (Within.of rfl
    hm)))) (State.event_frame (Within.of rfl hm)))) (Fr.foldl (fun _ _ => (Fr.trans (Fr.refl _ _) (State.ensureMin_frame
    (Within.of rfl hm))))))

theorem execStageReady_frame {m : Nat} (hm : Within 13614710796 m) {s : State} :
    OutFr m s (execStageReady s) := by
  delta execStageReady
  exact OutFr.next ((Fr.ite ((Fr.trans (Fr.refl _ _) (State.goReady_frame (Within.of rfl hm)))) (Fr.refl _ _)))

theorem State.stageGo_frame {m : Nat} (hm : Within 13555990536 m) {s : State} {a1 : Path} {a2 : Word} :
    Fr m s (State.stageGo s a1 a2) := by
  delta State.stageGo
  exact (Fr.ite (Fr.refl _ _) ((Fr.ite ((Fr.set_mod (Within.of rfl hm) (Fr.refl _ _))) ((Fr.ite ((Fr.ite ((Fr.set_mod (Within.of
    rfl hm) ((Fr.set_mod (Within.of rfl hm) (Fr.refl _ _))))) ((Fr.set_mod (Within.of rfl hm) ((Fr.set_mod (Within.of rfl hm)
    (Fr.refl _ _))))))) ((Fr.ite ((Fr.ite ((Fr.ite ((Fr.trans ((Fr.set_mod (Within.of rfl hm) ((Fr.set_mod (Within.of rfl hm)
    (Fr.refl _ _))))) (State.startRecords_frame (Within.of rfl hm)))) ((Fr.set_mod (Within.of rfl hm) ((Fr.set_mod (Within.of rfl
    hm) ((Fr.set_mod (Within.of rfl hm) (Fr.refl _ _))))))))) ((Fr.set_mod (Within.of rfl hm) ((Fr.set_mod (Within.of rfl hm)
    (Fr.refl _ _))))))) ((Fr.set_mod (Within.of rfl hm) (Fr.refl _ _))))))))))

theorem execModStageGo_frame {m : Nat} (hm : Within 13555990536 m) {a0 : Path} {a1 : Word} {s : State} :
    OutFr m s (execModStageGo a0 a1 s) := by
  delta execModStageGo
  exact OutFr.next ((Fr.trans (Fr.refl _ _) (State.stageGo_frame (Within.of rfl hm))))

theorem State.modResetWrite_frame {m : Nat} (hm : Within 274877904888 m) {s : State} {a1 : Path} {a2 : Word} :
    Fr m s (State.modResetWrite s a1 a2) := by
  delta State.modResetWrite
  exact (Fr.ite ((Fr.trans (Fr.refl _ _) (State.moduleReset_frame (Within.of rfl hm)))) (Fr.refl _ _))

theorem execModReset_frame {m : Nat} (hm : Within 274877904888 m) {a0 : Path} {a1 : Word} {s : State} :
    OutFr m s (execModReset a0 a1 s) := by
  delta execModReset
  exact OutFr.next ((Fr.trans (Fr.refl _ _) (State.modResetWrite_frame (Within.of rfl hm))))

theorem execGovWatchdog_frame {m : Nat} (hm : Within 274877904888 m) {s : State} :
    OutFr m s (execGovWatchdog s) := by
  delta execGovWatchdog
  exact OutFr.next ((Fr.ite ((Fr.trans ((Fr.trans (Fr.refl _ _) (State.fatal_frame (Within.of rfl hm)))) (State.moduleReset_frame
    (Within.of rfl hm)))) (Fr.refl _ _)))

theorem State.seedsDone_frame {m : Nat} (hm : Within 137438953472 m) {s : State} {a1 : Option URef} :
    Fr m s (State.seedsDone s a1) := by
  delta State.seedsDone
  exact (by (try dsimp only); split; exacts [(Fr.set_seedsOwed (Within.of rfl hm) (Fr.refl _ _)), (Fr.refl _ _)])

theorem State.leaveOut_frame {m : Nat} (hm : Within 151039426508 m) {s : State} {a1 : URef} {a2 : UnitAddr} :
    Fr m s (State.leaveOut s a1 a2) := by
  delta State.leaveOut
  exact (by (try dsimp only); split; exacts [(Fr.trans ((Fr.trans ((Fr.set_mod (Within.of rfl hm) ((Fr.trans (Fr.refl _ _)
    (State.seedsDone_frame (Within.of rfl hm)))))) (State.event_frame (Within.of rfl hm)))) (State.failSite_frame (Within.of rfl
    hm))), (Fr.trans ((Fr.trans ((Fr.trans ((Fr.set_mod (Within.of rfl hm) ((Fr.trans (Fr.refl _ _) (State.seedsDone_frame
    (Within.of rfl hm)))))) (State.event_frame (Within.of rfl hm)))) (State.trayUnfit_frame (Within.of rfl hm))))
    (State.endResets_frame (Within.of rfl hm))), (Fr.trans ((Fr.trans ((Fr.trans ((Fr.set_mod (Within.of rfl hm) ((Fr.trans
    (Fr.refl _ _) (State.seedsDone_frame (Within.of rfl hm)))))) (State.event_frame (Within.of rfl hm))))
    (State.clusterUnfit_frame (Within.of rfl hm)))) (State.endResets_frame (Within.of rfl hm))), (Fr.trans ((Fr.set_mod
    (Within.of rfl hm) ((Fr.trans (Fr.refl _ _) (State.seedsDone_frame (Within.of rfl hm)))))) (State.event_frame (Within.of rfl
    hm)))])

theorem State.tableWrong_frame {m : Nat} (hm : Within 151039426508 m) {s : State} {a1 : UnitAddr} {a2 : TableNo} :
    Fr m s (State.tableWrong s a1 a2) := by
  delta State.tableWrong
  exact (by (try dsimp only); split; exacts [(Fr.refl _ _), (Fr.ite (Fr.refl _ _) ((Fr.ite ((Fr.trans ((Fr.trans ((Fr.set_mod
    (Within.of rfl hm) (Fr.refl _ _))) (State.leaveOut_frame (Within.of rfl hm)))) (State.settleStage_frame (Within.of rfl hm))))
    ((Fr.set_mod (Within.of rfl hm) (Fr.refl _ _))))))])

theorem State.tableCrc_frame {m : Nat} (hm : Within 151039426508 m) {s : State} {a1 : UnitAddr} {a2 : TableNo} {a3 : Bool} :
    Fr m s (State.tableCrc s a1 a2 a3) := by
  delta State.tableCrc
  exact (Fr.ite ((Fr.ite ((Fr.trans ((Fr.set_mod (Within.of rfl hm) (Fr.refl _ _))) (State.seedsDone_frame (Within.of rfl hm))))
    ((Fr.set_mod (Within.of rfl hm) (Fr.refl _ _))))) ((Fr.trans (Fr.refl _ _) (State.tableWrong_frame (Within.of rfl hm)))))

theorem execTableCrcReturn_frame {m : Nat} (hm : Within 151039426508 m) {a0 : UnitAddr} {a1 : TableNo} {a2 : Bool} {s : State} :
    OutFr m s (execTableCrcReturn a0 a1 a2 s) := by
  delta execTableCrcReturn
  exact OutFr.next ((Fr.trans (Fr.refl _ _) (State.tableCrc_frame (Within.of rfl hm))))

theorem execTableCrcTimeout_frame {m : Nat} (hm : Within 151039426508 m) {a0 : UnitAddr} {a1 : TableNo} {s : State} :
    OutFr m s (execTableCrcTimeout a0 a1 s) := by
  delta execTableCrcTimeout
  exact OutFr.next ((Fr.trans (Fr.refl _ _) (State.tableWrong_frame (Within.of rfl hm))))

end Sys2Proof.Machine
end

