-- ==== Sys2Proof/Laws/FrameFirmware.lean ====
section
/-! SUPPORT. The frame of every operation of Machine/Firmware: the parts of the state that it can change. -/

set_option Elab.async false
set_option linter.unusedTactic false

namespace Sys2Proof.Machine
open Sys2Proof.Safety

theorem State.received_frame {m : Nat} (hm : Within 2147483648 m) {s : State} {a1 : BitVec 2} :
    Fr m s (State.received s a1) := by
  delta State.received
  exact (Fr.ite ((Fr.set_fw (Within.of rfl hm) (Fr.refl _ _))) ((Fr.ite ((Fr.set_fw (Within.of rfl hm) (Fr.refl _ _)))
    ((Fr.set_fw (Within.of rfl hm) (Fr.refl _ _))))))

theorem State.takeUnits_frame {m : Nat} (hm : Within 15166603276 m) {s : State} {t : HXfer} {n : Nat} :
    Fr m s (s.takeUnits t n).1 := by
  induction n generalizing s t with
  | zero => exact Fr.refl _ _
  | succ n ih =>
    unfold State.takeUnits
    dsimp only
    split
    · exact Fr.refl _ _
    · split
      · split
        · exact State.event_frame (Within.of rfl hm)
        · refine Fr.trans ?_ ih
          refine Fr.ite (Fr.trans ?_ (State.received_frame (Within.of rfl hm))) ?_ <;>
            exact ((Fr.set_fw (Within.of rfl hm) (Fr.refl _ _)).trans (State.draw_frame (Within.of rfl hm))).trans
              (State.draw_frame (Within.of rfl hm))
      · split
        · exact Fr.refl _ _
        · refine Fr.trans ?_ ih
          refine Fr.ite (Fr.trans ?_ (State.received_frame (Within.of rfl hm))) ?_ <;>
            exact Fr.set_fw (Within.of rfl hm) (Fr.refl _ _)

theorem State.slotVerified_frame {m : Nat} (hm : Within 15166603272 m) {s : State} {a1 : BitVec 2} {a2 : Bool} :
    Fr m s (State.slotVerified s a1 a2) := by
  delta State.slotVerified
  exact (Fr.ite (Fr.refl _ _) ((Fr.ite ((Fr.trans ((Fr.set_fw (Within.of rfl hm) (Fr.refl _ _))) (State.event_frame (Within.of
    rfl hm)))) ((Fr.set_fw (Within.of rfl hm) (Fr.refl _ _))))))

theorem execSlotVerifyDone_frame {m : Nat} (hm : Within 15166603272 m) {a0 : BitVec 2} {a1 : Bool} {s : State} :
    OutFr m s (execSlotVerifyDone a0 a1 s) := by
  delta execSlotVerifyDone
  exact OutFr.next ((Fr.trans (Fr.refl _ _) (State.slotVerified_frame (Within.of rfl hm))))

theorem State.fwResult_frame {m : Nat} (hm : Within 2147483648 m) {s : State} {a1 : Code} :
    Fr m s (State.fwResult s a1) := by
  delta State.fwResult
  exact (Fr.set_fw (Within.of rfl hm) (Fr.refl _ _))

theorem State.fwRefuse_frame {m : Nat} (hm : Within 15166603272 m) {s : State} {a1 : Code} :
    Fr m s (State.fwRefuse s a1) := by
  delta State.fwRefuse
  exact (Fr.trans ((Fr.trans (Fr.refl _ _) (State.fwResult_frame (Within.of rfl hm)))) (State.event_frame (Within.of rfl hm)))

theorem State.fwOp_frame {m : Nat} (hm : Within 15166603288 m) {s : State} {a1 : Path} {a2 : ℕ} {a3 : Word} {a4 : State → List
  Code} {a5 : State → State} (h5 : ∀ v0, Fr m v0 (a5 v0)) :
    Fr m s (State.fwOp s a1 a2 a3 a4 a5) := by
  delta State.fwOp
  exact (Fr.ite (Fr.refl _ _) ((by (try dsimp only); split; exacts [(Fr.trans ((Fr.trans (Fr.refl _ _) (State.setPol_frame
    (Within.of rfl hm)))) (State.fwRefuse_frame (Within.of rfl hm))), (Fr.trans ((Fr.trans ((Fr.trans (Fr.refl _ _)
    (State.setPol_frame (Within.of rfl hm)))) (State.fwResult_frame (Within.of rfl hm)))) (h5 _))])))

theorem State.openSlot_frame {m : Nat} (hm : Within 2147483648 m) {s : State} {a1 : Bool} :
    Fr m s (State.openSlot s a1) := by
  delta State.openSlot
  exact (Fr.set_fw (Within.of rfl hm) (Fr.refl _ _))

theorem execFwOpen_frame {m : Nat} (hm : Within 15166603288 m) {a0 : Path} {a1 : Bool} {s : State} :
    OutFr m s (execFwOpen a0 a1 s) := by
  delta execFwOpen
  exact OutFr.next ((Fr.trans (Fr.refl _ _) (State.fwOp_frame (Within.of rfl hm) (fun _ => (Fr.trans (Fr.refl _ _)
    (State.openSlot_frame (Within.of rfl hm)))))))

theorem State.eraseSlot_frame {m : Nat} (hm : Within 2147483648 m) {s : State} {a1 : Bool} :
    Fr m s (State.eraseSlot s a1) := by
  delta State.eraseSlot
  exact (Fr.set_fw (Within.of rfl hm) (Fr.refl _ _))

theorem execFwErase_frame {m : Nat} (hm : Within 15166603288 m) {a0 : Path} {a1 : Bool} {s : State} :
    OutFr m s (execFwErase a0 a1 s) := by
  delta execFwErase
  exact OutFr.next ((Fr.trans (Fr.refl _ _) (State.fwOp_frame (Within.of rfl hm) (fun _ => (Fr.trans (Fr.refl _ _)
    (State.eraseSlot_frame (Within.of rfl hm)))))))

theorem State.onTrial_frame {m : Nat} (hm : Within 15166603272 m) {s : State} :
    Fr m s (State.onTrial s) := by
  delta State.onTrial
  exact (Fr.trans ((Fr.set_fw (Within.of rfl hm) (Fr.refl _ _))) (State.event_frame (Within.of rfl hm)))

theorem execActivateReset_frame {m : Nat} (hm : Within 274877904888 m) {a0 : Path} {s : State} :
    OutFr m s (execActivateReset a0 s) := by
  delta execActivateReset
  exact OutFr.next ((Fr.trans (Fr.refl _ _) (State.fwOp_frame (Within.of rfl hm) (fun _ => (Fr.trans ((Fr.trans (Fr.refl _ _)
    (State.onTrial_frame (Within.of rfl hm)))) (State.moduleReset_frame (Within.of rfl hm)))))))

theorem execSelectConfig_frame {m : Nat} (hm : Within 15166603288 m) {a0 : Path} {s : State} :
    OutFr m s (execSelectConfig a0 s) := by
  delta execSelectConfig
  exact OutFr.next ((Fr.trans (Fr.refl _ _) (State.fwOp_frame (Within.of rfl hm) (fun _ => (Fr.set_fw (Within.of rfl hm) (Fr.refl
    _ _))))))

theorem execConfirm_frame {m : Nat} (hm : Within 15166603288 m) {a0 : Path} {s : State} :
    OutFr m s (execConfirm a0 s) := by
  delta execConfirm
  exact OutFr.next ((Fr.trans (Fr.refl _ _) (State.fwOp_frame (Within.of rfl hm) (fun _ => (Fr.trans ((Fr.set_fw (Within.of rfl
    hm) (Fr.refl _ _))) (State.event_frame (Within.of rfl hm)))))))

theorem execRollback_frame {m : Nat} (hm : Within 274877904888 m) {a0 : Path} {s : State} :
    OutFr m s (execRollback a0 s) := by
  delta execRollback
  exact OutFr.next ((Fr.trans (Fr.refl _ _) (State.fwOp_frame (Within.of rfl hm) (fun _ => (Fr.trans ((Fr.trans ((Fr.set_fw
    (Within.of rfl hm) (Fr.refl _ _))) (State.event_frame (Within.of rfl hm)))) (State.moduleReset_frame (Within.of rfl hm)))))))

theorem State.standbyBoots_frame {m : Nat} (hm : Within 134217728 m) {s : State} :
    Fr m s (State.standbyBoots s) := by
  delta State.standbyBoots
  exact (Fr.set_gov (Within.of rfl hm) (Fr.refl _ _))

theorem State.startHitless_frame {m : Nat} (hm : Within 15166603272 m) {s : State} :
    Fr m s (State.startHitless s) := by
  delta State.startHitless
  exact (Fr.set_fw (Within.of rfl hm) ((Fr.trans ((Fr.trans (Fr.refl _ _) (State.onTrial_frame (Within.of rfl hm))))
    (State.standbyBoots_frame (Within.of rfl hm)))))

theorem execActivateHitless_frame {m : Nat} (hm : Within 15166603288 m) {a0 : Path} {s : State} :
    OutFr m s (execActivateHitless a0 s) := by
  delta execActivateHitless
  exact OutFr.next ((Fr.trans (Fr.refl _ _) (State.fwOp_frame (Within.of rfl hm) (fun _ => (Fr.trans (Fr.refl _ _)
    (State.startHitless_frame (Within.of rfl hm)))))))

theorem State.hitlessSwap_frame {m : Nat} (hm : Within 2281701376 m) {s : State} :
    Fr m s (State.hitlessSwap s) := by
  delta State.hitlessSwap
  exact (Fr.set_gov_fw (Within.of rfl hm) (Fr.refl _ _))

theorem State.siteUpd_frame {m : Nat} (hm : Within 1792 m) {s : State} {a1 : ℕ} {a2 : Bool} :
    Fr m s (State.siteUpd s a1 a2) := by
  delta State.siteUpd
  exact (Fr.trans (Fr.refl _ _) (Fr.foldl (fun _ _ => (Fr.trans ((Fr.trans ((Fr.trans (Fr.refl _ _) (State.modTray_frame
    (Within.of rfl hm)))) (Fr.foldl (fun _ _ => (Fr.trans (Fr.refl _ _) (State.modCluster_frame (Within.of rfl hm)))))))
    (State.settleClusters_frame (Within.of rfl hm))))))

theorem State.hitlessSite_frame {m : Nat} (hm : Within 2147485440 m) {s : State} {a1 : ℕ} :
    Fr m s (State.hitlessSite s a1) := by
  delta State.hitlessSite
  exact (by (try dsimp only); split; exacts [(Fr.set_fw (Within.of rfl hm) (Fr.refl _ _)), (Fr.ite ((Fr.set_fw (Within.of rfl hm)
    (Fr.refl _ _))) ((Fr.set_fw (Within.of rfl hm) ((Fr.trans ((Fr.set_fw (Within.of rfl hm) (Fr.refl _ _))) (State.siteUpd_frame
    (Within.of rfl hm)))))))])

theorem State.hitlessJoined_frame {m : Nat} (hm : Within 15166605064 m) {s : State} :
    Fr m s (State.hitlessJoined s) := by
  delta State.hitlessJoined
  exact (Fr.trans ((Fr.trans ((Fr.set_gov (Within.of rfl hm) (Fr.refl _ _))) (State.event_frame (Within.of rfl hm))))
    (State.hitlessSite_frame (Within.of rfl hm)))

theorem State.hitlessBooted_frame {m : Nat} (hm : Within 15166605064 m) {s : State} :
    Fr m s (State.hitlessBooted s) := by
  delta State.hitlessBooted
  exact (Fr.ite (Fr.refl _ _) ((Fr.ite ((Fr.trans (Fr.refl _ _) (State.hitlessSwap_frame (Within.of rfl hm)))) ((Fr.ite
    ((Fr.trans (Fr.refl _ _) (State.hitlessJoined_frame (Within.of rfl hm)))) (Fr.refl _ _))))))

theorem execHitlessGovernorBooted_frame {m : Nat} (hm : Within 15166605064 m) {s : State} :
    OutFr m s (execHitlessGovernorBooted s) := by
  delta execHitlessGovernorBooted
  exact OutFr.next ((Fr.trans (Fr.refl _ _) (State.hitlessBooted_frame (Within.of rfl hm))))

theorem State.hitlessRestarted_frame {m : Nat} (hm : Within 2147485440 m) {s : State} :
    Fr m s (State.hitlessRestarted s) := by
  delta State.hitlessRestarted
  exact (Fr.ite (Fr.refl _ _) ((Fr.ite ((Fr.trans (Fr.refl _ _) (State.hitlessSite_frame (Within.of rfl hm)))) ((Fr.ite
    ((Fr.trans ((Fr.trans (Fr.refl _ _) (State.siteUpd_frame (Within.of rfl hm)))) (State.hitlessSite_frame (Within.of rfl hm))))
    (Fr.refl _ _))))))

theorem execHitlessSiteRestarted_frame {m : Nat} (hm : Within 2147485440 m) {s : State} :
    OutFr m s (execHitlessSiteRestarted s) := by
  delta execHitlessSiteRestarted
  exact OutFr.next ((Fr.trans (Fr.refl _ _) (State.hitlessRestarted_frame (Within.of rfl hm))))

theorem State.saveBank_frame {m : Nat} (hm : Within 2147483648 m) {s : State} :
    Fr m s (State.saveBank s) := by
  delta State.saveBank
  exact (Fr.set_fw (Within.of rfl hm) (Fr.refl _ _))

theorem execSave_frame {m : Nat} (hm : Within 15166603288 m) {a0 : Path} {s : State} :
    OutFr m s (execSave a0 s) := by
  delta execSave
  exact OutFr.next ((Fr.trans (Fr.refl _ _) (State.fwOp_frame (Within.of rfl hm) (fun _ => (Fr.trans (Fr.refl _ _)
    (State.saveBank_frame (Within.of rfl hm)))))))

theorem State.adoptBank_frame {m : Nat} (hm : Within 15166603272 m) {s : State} {a1 : Bank} {a2 : List Rec} :
    Fr m s (State.adoptBank s a1 a2) := by
  delta State.adoptBank
  exact (Fr.trans ((Fr.set_fw (Within.of rfl hm) (Fr.refl _ _))) (State.event_frame (Within.of rfl hm)))

theorem State.adoptWrite_frame {m : Nat} (hm : Within 15166603292 m) {s : State} {a1 : Path} {a2 : Bool} :
    Fr m s (State.adoptWrite s a1 a2) := by
  delta State.adoptWrite
  exact (Fr.ite (Fr.refl _ _) ((by (try dsimp only); split; exacts [(Fr.trans ((Fr.trans (Fr.refl _ _) (State.setPol_frame
    (Within.of rfl hm)))) (State.fwResult_frame (Within.of rfl hm))), (Fr.ite ((Fr.trans ((Fr.trans ((Fr.trans (Fr.refl _ _)
    (State.setPol_frame (Within.of rfl hm)))) (State.fwResult_frame (Within.of rfl hm)))) (State.adoptBank_frame (Within.of rfl
    hm)))) ((Fr.ite ((Fr.set_fv (Within.of rfl hm) ((Fr.trans ((Fr.trans ((Fr.trans (Fr.refl _ _) (State.setPol_frame (Within.of
    rfl hm)))) (State.fwResult_frame (Within.of rfl hm)))) (State.adoptBank_frame (Within.of rfl hm)))))) ((Fr.trans ((Fr.trans
    (Fr.refl _ _) (State.setPol_frame (Within.of rfl hm)))) (State.fwResult_frame (Within.of rfl hm)))))))])))

theorem execSettingsConvert_frame {m : Nat} (hm : Within 15166603292 m) {a0 : Path} {s : State} :
    OutFr m s (execSettingsConvert a0 s) := by
  delta execSettingsConvert
  exact OutFr.next ((Fr.trans (Fr.refl _ _) (State.adoptWrite_frame (Within.of rfl hm))))

theorem execSettingsEmpty_frame {m : Nat} (hm : Within 15166603292 m) {a0 : Path} {s : State} :
    OutFr m s (execSettingsEmpty a0 s) := by
  delta execSettingsEmpty
  exact OutFr.next ((Fr.trans (Fr.refl _ _) (State.adoptWrite_frame (Within.of rfl hm))))

theorem State.lockWrite_frame {m : Nat} (hm : Within 15166603272 m) {s : State} {a1 : Path} {a2 : Word} :
    Fr m s (State.lockWrite s a1 a2) := by
  delta State.lockWrite
  exact (Fr.ite (Fr.refl _ _) ((Fr.ite (Fr.refl _ _) ((Fr.trans ((Fr.set_fw (Within.of rfl hm) (Fr.refl _ _))) (State.event_frame
    (Within.of rfl hm)))))))

theorem execFwLockWrite_frame {m : Nat} (hm : Within 15166603272 m) {a0 : Path} {a1 : Word} {s : State} :
    OutFr m s (execFwLockWrite a0 a1 s) := by
  delta execFwLockWrite
  exact OutFr.next ((Fr.trans (Fr.refl _ _) (State.lockWrite_frame (Within.of rfl hm))))

theorem execFwAttest_frame {m : Nat} (hm : Within 2147483648 m) {a0 : Path} {s : State} :
    OutFr m s (execFwAttest a0 s) := by
  delta execFwAttest
  exact OutFr.next ((Fr.ite ((Fr.set_fw (Within.of rfl hm) (Fr.refl _ _))) (Fr.refl _ _)))

theorem State.reported_frame {m : Nat} (hm : Within 15166603276 m) {s : State} :
    Fr m s (State.reported s) := by
  delta State.reported
  exact (Fr.ite ((Fr.trans ((Fr.set_fv_fw (Within.of rfl hm) (Fr.refl _ _))) (State.event_frame (Within.of rfl hm)))) (Fr.refl _
    _))

theorem execAttestReportDone_frame {m : Nat} (hm : Within 15166603276 m) {s : State} :
    OutFr m s (execAttestReportDone s) := by
  delta execAttestReportDone
  exact OutFr.next ((Fr.trans (Fr.refl _ _) (State.reported_frame (Within.of rfl hm))))

end Sys2Proof.Machine
end

