-- ==== Sys2Proof/Laws/FrameMgmt.lean ====
section
/-! SUPPORT. The frame of every operation of Machine/Mgmt: the parts of the state that it can change. -/

set_option Elab.async false
set_option linter.unusedTactic false

namespace Sys2Proof.Machine
open Sys2Proof.Safety

theorem State.mpDrop_frame {m : Nat} (hm : Within 8589934592 m) {s : State} :
    Fr m s (State.mpDrop s) := by
  delta State.mpDrop
  exact (Fr.set_mgmt (Within.of rfl hm) (Fr.refl _ _))

theorem State.reply_frame {m : Nat} (hm : Within 8589934600 m) {s : State} {a1 : ℕ} {a2 : Byte} {a3 : Word} {a4 : Code} {a5 :
  List Byte} :
    Fr m s (State.reply s a1 a2 a3 a4 a5) := by
  delta State.reply
  exact (by (try dsimp only); split; exacts [(Fr.trans ((Fr.trans (Fr.refl _ _) (State.setSess_frame (Within.of rfl hm))))
    (State.hmpReply_frame (Within.of rfl hm))), (Fr.refl _ _)])

theorem State.onSess_frame {m : Nat} (hm : Within 8589934600 m) {s : State} {a1 : HmpHead} {a2 : State → ℕ → Sess → State} (h2 :
  ∀ v0 v1 v2, Fr m v0 (a2 v0 v1 v2)) :
    Fr m s (State.onSess s a1 a2) := by
  delta State.onSess
  exact (Fr.ite (Fr.refl _ _) ((by (try dsimp only); split; exacts [(Fr.trans (Fr.refl _ _) (State.mpDrop_frame (Within.of rfl
    hm))), (Fr.ite ((Fr.trans (Fr.refl _ _) (State.mpDrop_frame (Within.of rfl hm)))) ((by (try dsimp only); split; exacts
    [(Fr.trans (Fr.refl _ _) (State.hmpReply_frame (Within.of rfl hm))), (Fr.ite ((Fr.trans (Fr.refl _ _) (State.mpDrop_frame
    (Within.of rfl hm)))) ((Fr.trans (Fr.refl _ _) (h2 _ _ _))))])))])))

theorem State.onAuth_frame {m : Nat} (hm : Within 8589934600 m) {s : State} {a1 : Byte} {a2 : HmpHead} {a3 : State → ℕ → Sess →
  State} (h3 : ∀ v0 v1 v2, Fr m v0 (a3 v0 v1 v2)) :
    Fr m s (State.onAuth s a1 a2 a3) := by
  delta State.onAuth
  exact (Fr.trans (Fr.refl _ _) (State.onSess_frame (Within.of rfl hm) (fun _ _ _ => (Fr.ite ((Fr.trans (Fr.refl _ _) (h3 _ _
    _))) ((Fr.trans (Fr.refl _ _) (State.reply_frame (Within.of rfl hm))))))))

theorem State.closeSess_frame {m : Nat} (hm : Within 8589934624 m) {s : State} {a1 : ℕ} :
    Fr m s (State.closeSess s a1) := by
  delta State.closeSess
  exact (Fr.set_paths_mgmt (Within.of rfl hm) (Fr.refl _ _))

theorem State.newSess_frame {m : Nat} (hm : Within 8589934604 m) {s : State} {a1 : ℕ} {a2 : HmpHead} :
    Fr m s (State.newSess s a1 a2) := by
  delta State.newSess
  exact (Fr.trans ((Fr.trans ((Fr.trans (Fr.refl _ _) (State.setSess_frame (Within.of rfl hm)))) (State.draw_frame (Within.of rfl
    hm)))) (State.reply_frame (Within.of rfl hm)))

theorem State.openSess_frame {m : Nat} (hm : Within 8589934604 m) {s : State} {a1 : HmpHead} :
    Fr m s (State.openSess s a1) := by
  delta State.openSess
  exact (Fr.ite (Fr.refl _ _) ((by (try dsimp only); split; exacts [(Fr.trans (Fr.refl _ _) (State.hmpReply_frame (Within.of rfl
    hm))), (Fr.ite ((Fr.trans (Fr.refl _ _) (State.hmpReply_frame (Within.of rfl hm)))) ((by (try dsimp only); split; exacts
    [(Fr.trans (Fr.refl _ _) (State.hmpReply_frame (Within.of rfl hm))), (Fr.trans (Fr.refl _ _) (State.newSess_frame (Within.of
    rfl hm)))])))])))

theorem execHmpOpen_frame {m : Nat} (hm : Within 8589934604 m) {a0 : HmpHead} {s : State} :
    OutFr m s (execHmpOpen a0 s) := by
  delta execHmpOpen
  exact OutFr.next ((Fr.trans (Fr.refl _ _) (State.openSess_frame (Within.of rfl hm))))

theorem State.authResult_frame {m : Nat} (hm : Within 13019119660 m) {s : State} {a1 : ℕ} {a2 : Sess} {a3 : Word} {a4 : Bool} :
    Fr m s (State.authResult s a1 a2 a3 a4) := by
  delta State.authResult
  exact (Fr.ite ((Fr.trans ((Fr.trans ((Fr.trans (Fr.refl _ _) (State.setSess_frame (Within.of rfl hm)))) (State.draw_frame
    (Within.of rfl hm)))) (State.reply_frame (Within.of rfl hm)))) ((Fr.ite ((Fr.trans ((Fr.trans ((Fr.trans ((Fr.trans (Fr.refl
    _ _) (State.setSess_frame (Within.of rfl hm)))) (State.draw_frame (Within.of rfl hm)))) (State.event_frame (Within.of rfl
    hm)))) (State.reply_frame (Within.of rfl hm)))) ((Fr.set_mgmt (Within.of rfl hm) ((Fr.trans ((Fr.trans ((Fr.trans ((Fr.trans
    ((Fr.trans (Fr.refl _ _) (State.setSess_frame (Within.of rfl hm)))) (State.draw_frame (Within.of rfl hm))))
    (State.event_frame (Within.of rfl hm)))) (State.reply_frame (Within.of rfl hm)))) (State.closeSess_frame (Within.of rfl
    hm)))))))))

theorem execHmpAuth_frame {m : Nat} (hm : Within 13019119660 m) {a0 : HmpHead} {a1 : BitVec 8} {a2 : BitVec 768} {s : State} :
    OutFr m s (execHmpAuth a0 a1 a2 s) := by
  delta execHmpAuth
  exact OutFr.next ((Fr.trans (Fr.refl _ _) (State.onSess_frame (Within.of rfl hm) (fun _ _ _ => (Fr.ite (Fr.refl _ _) ((Fr.ite
    ((Fr.trans (Fr.refl _ _) (State.authResult_frame (Within.of rfl hm)))) ((Fr.trans (Fr.refl _ _) (State.setSess_frame
    (Within.of rfl hm)))))))))))

theorem execHmpAuthVerified_frame {m : Nat} (hm : Within 13019119660 m) {a0 : BitVec 2} {s : State} :
    OutFr m s (execHmpAuthVerified a0 s) := by
  delta execHmpAuthVerified
  exact OutFr.next ((by (try dsimp only); split; exacts [(by (try dsimp only); split; exacts [(Fr.trans (Fr.refl _ _)
    (State.authResult_frame (Within.of rfl hm))), (Fr.refl _ _)]), (Fr.refl _ _)]))

theorem execHmpClose_frame {m : Nat} (hm : Within 8589934632 m) {a0 : HmpHead} {s : State} :
    OutFr m s (execHmpClose a0 s) := by
  delta execHmpClose
  exact OutFr.next ((Fr.trans (Fr.refl _ _) (State.onSess_frame (Within.of rfl hm) (fun _ _ _ => (Fr.trans ((Fr.trans (Fr.refl _
    _) (State.reply_frame (Within.of rfl hm)))) (State.closeSess_frame (Within.of rfl hm)))))))

theorem execKeepalive_frame {m : Nat} (hm : Within 8589934600 m) {a0 : HmpHead} {s : State} :
    OutFr m s (execKeepalive a0 s) := by
  delta execKeepalive
  exact OutFr.next ((Fr.trans (Fr.refl _ _) (State.onSess_frame (Within.of rfl hm) (fun _ _ _ => (Fr.trans (Fr.refl _ _)
    (State.reply_frame (Within.of rfl hm)))))))

theorem execSessionTimeout_frame {m : Nat} (hm : Within 8589934624 m) {a0 : BitVec 2} {s : State} :
    OutFr m s (execSessionTimeout a0 s) := by
  delta execSessionTimeout
  exact OutFr.next ((Fr.ite ((Fr.trans (Fr.refl _ _) (State.closeSess_frame (Within.of rfl hm)))) (Fr.refl _ _)))

theorem execHmpLockoutEnd_frame {m : Nat} (hm : Within 8589934592 m) {a0 : BitVec 128} {s : State} :
    OutFr m s (execHmpLockoutEnd a0 s) := by
  delta execHmpLockoutEnd
  exact OutFr.next ((Fr.set_mgmt (Within.of rfl hm) (Fr.refl _ _)))

theorem execCertRead_frame {m : Nat} (hm : Within 8589934600 m) {a0 : HmpHead} {a1 : Word} {s : State} :
    OutFr m s (execCertRead a0 a1 s) := by
  delta execCertRead
  exact OutFr.next ((Fr.trans (Fr.refl _ _) (State.onSess_frame (Within.of rfl hm) (fun _ _ _ => (Fr.trans (Fr.refl _ _)
    (State.reply_frame (Within.of rfl hm)))))))

theorem State.onXfer_frame {m : Nat} (hm : Within 8589934600 m) {s : State} {a1 : Byte} {a2 : HmpHead} {a3 : State → Sess →
  Option Byte} {a4 : State → ℕ → Sess → State} (h4 : ∀ v0 v1 v2, Fr m v0 (a4 v0 v1 v2)) :
    Fr m s (State.onXfer s a1 a2 a3 a4) := by
  delta State.onXfer
  exact (Fr.trans (Fr.refl _ _) (State.onSess_frame (Within.of rfl hm) (fun _ _ _ => (Fr.ite ((Fr.trans (Fr.refl _ _) (h4 _ _
    _))) ((Fr.trans (Fr.refl _ _) (State.reply_frame (Within.of rfl hm))))))))

theorem State.openXfer_frame {m : Nat} (hm : Within 8858370056 m) {s : State} {a1 : ℕ} {a2 : Sess} {a3 : HmpHead} {a4 : Byte} {a5
  : Word} :
    Fr m s (State.openXfer s a1 a2 a3 a4 a5) := by
  delta State.openXfer
  exact (Fr.ite ((Fr.trans (Fr.refl _ _) (State.reply_frame (Within.of rfl hm)))) ((Fr.trans ((Fr.ite ((Fr.set_plan (Within.of
    rfl hm) ((Fr.trans (Fr.refl _ _) (State.setSess_frame (Within.of rfl hm)))))) ((Fr.trans (Fr.refl _ _) (State.setSess_frame
    (Within.of rfl hm)))))) (State.reply_frame (Within.of rfl hm)))))

theorem execXferOpen_frame {m : Nat} (hm : Within 8858370056 m) {a0 : HmpHead} {a1 : BitVec 8} {a2 : Word} {s : State} :
    OutFr m s (execXferOpen a0 a1 a2 s) := by
  delta execXferOpen
  exact OutFr.next ((Fr.trans (Fr.refl _ _) (State.onXfer_frame (Within.of rfl hm) (fun _ _ _ => (Fr.trans (Fr.refl _ _)
    (State.openXfer_frame (Within.of rfl hm)))))))

theorem State.chunk_frame {m : Nat} (hm : Within 15435038732 m) {s : State} {a1 : ℕ} {a2 : Sess} {a3 : HXfer} {a4 : HmpHead} {a5
  : List Byte} :
    Fr m s (State.chunk s a1 a2 a3 a4 a5) := by
  delta State.chunk
  exact (Fr.ite ((Fr.trans ((Fr.trans ((Fr.set_plan (Within.of rfl hm) (Fr.refl _ _))) (State.setSess_frame (Within.of rfl hm))))
    (State.reply_frame (Within.of rfl hm)))) ((Fr.ite ((Fr.trans ((Fr.trans ((Fr.trans (Fr.refl _ _) (State.takeUnits_frame
    (Within.of rfl hm)))) (State.setSess_frame (Within.of rfl hm)))) (State.reply_frame (Within.of rfl hm)))) ((Fr.trans
    ((Fr.trans (Fr.refl _ _) (State.setSess_frame (Within.of rfl hm)))) (State.reply_frame (Within.of rfl hm)))))))

theorem State.dataIn_frame {m : Nat} (hm : Within 15435038732 m) {s : State} {a1 : ℕ} {a2 : Sess} {a3 : HmpHead} {a4 : ℕ} {a5 :
  List Byte} :
    Fr m s (State.dataIn s a1 a2 a3 a4 a5) := by
  delta State.dataIn
  exact (by (try dsimp only); split; exacts [(Fr.trans (Fr.refl _ _) (State.reply_frame (Within.of rfl hm))), (Fr.ite ((Fr.trans
    (Fr.refl _ _) (State.reply_frame (Within.of rfl hm)))) ((Fr.ite ((Fr.trans (Fr.refl _ _) (State.reply_frame (Within.of rfl
    hm)))) ((Fr.trans (Fr.refl _ _) (State.chunk_frame (Within.of rfl hm)))))))])

theorem execXferData_frame {m : Nat} (hm : Within 15435038732 m) {a0 : HmpHead} {a1 : Word} {a2 : List Byte} {s : State} :
    OutFr m s (execXferData a0 a1 a2 s) := by
  delta execXferData
  exact OutFr.next ((Fr.trans (Fr.refl _ _) (State.onXfer_frame (Within.of rfl hm) (fun _ _ _ => (Fr.trans (Fr.refl _ _)
    (State.dataIn_frame (Within.of rfl hm)))))))

theorem State.takePack_frame {m : Nat} (hm : Within 2147483648 m) {s : State} {b : Bool} {l : List Byte} : Fr m s (s.takePack b
  l).1 := by
  unfold State.takePack
  dsimp only
  split
  · exact Fr.refl _ _
  · split
    · exact Fr.refl _ _
    · exact Fr.set_fw (Within.of rfl hm) (Fr.refl _ _)

theorem State.closeXfer_frame {m : Nat} (hm : Within 10737418248 m) {s : State} {a1 : ℕ} {a2 : Sess} {a3 : HmpHead} :
    Fr m s (State.closeXfer s a1 a2 a3) := by
  delta State.closeXfer
  exact (by (try dsimp only); split; exacts [(Fr.trans (Fr.refl _ _) (State.reply_frame (Within.of rfl hm))), (Fr.ite ((Fr.trans
    ((Fr.trans ((Fr.trans (Fr.refl _ _) (State.setSess_frame (Within.of rfl hm)))) (State.takePack_frame (Within.of rfl hm))))
    (State.reply_frame (Within.of rfl hm)))) ((Fr.ite ((Fr.trans ((Fr.trans (Fr.refl _ _) (State.setSess_frame (Within.of rfl
    hm)))) (State.reply_frame (Within.of rfl hm)))) ((Fr.trans ((Fr.trans (Fr.refl _ _) (State.setSess_frame (Within.of rfl
    hm)))) (State.reply_frame (Within.of rfl hm)))))))])

theorem execXferClose_frame {m : Nat} (hm : Within 10737418248 m) {a0 : HmpHead} {s : State} :
    OutFr m s (execXferClose a0 s) := by
  delta execXferClose
  exact OutFr.next ((Fr.trans (Fr.refl _ _) (State.onXfer_frame (Within.of rfl hm) (fun _ _ _ => (Fr.trans (Fr.refl _ _)
    (State.closeXfer_frame (Within.of rfl hm)))))))

theorem State.keyRequest_frame {m : Nat} (hm : Within 15166603272 m) {s : State} {a1 : HmpHead} {a2 : State → Bool} {a3 : SMap
  (BitVec 768) → SMap (BitVec 768)} :
    Fr m s (State.keyRequest s a1 a2 a3) := by
  delta State.keyRequest
  exact (Fr.trans (Fr.refl _ _) (State.onXfer_frame (Within.of rfl hm) (fun _ _ _ => (Fr.ite ((Fr.trans (Fr.refl _ _)
    (State.reply_frame (Within.of rfl hm)))) ((Fr.ite ((Fr.trans ((Fr.trans ((Fr.set_fw (Within.of rfl hm) ((Fr.trans (Fr.refl _
    _) (State.setSess_frame (Within.of rfl hm)))))) (State.event_frame (Within.of rfl hm)))) (State.reply_frame (Within.of rfl
    hm)))) ((Fr.trans ((Fr.trans (Fr.refl _ _) (State.setSess_frame (Within.of rfl hm)))) (State.reply_frame (Within.of rfl
    hm))))))))))

theorem execKeyInstall_frame {m : Nat} (hm : Within 15166603272 m) {a0 : HmpHead} {a1 : BitVec 2} {a2 : BitVec 768} {a3 : BitVec
  768} {s : State} :
    OutFr m s (execKeyInstall a0 a1 a2 a3 s) := by
  delta execKeyInstall
  exact OutFr.next ((Fr.trans (Fr.refl _ _) (State.keyRequest_frame (Within.of rfl hm))))

theorem execKeyRemove_frame {m : Nat} (hm : Within 15166603272 m) {a0 : HmpHead} {a1 : BitVec 2} {a2 : BitVec 768} {s : State} :
    OutFr m s (execKeyRemove a0 a1 a2 s) := by
  delta execKeyRemove
  exact OutFr.next ((Fr.trans (Fr.refl _ _) (State.keyRequest_frame (Within.of rfl hm))))

theorem State.noticeAcked_frame {m : Nat} (hm : Within 8589934592 m) {s : State} {a1 : BitVec 16} {a2 : BitVec 16} {a3 : Word} :
    Fr m s (State.noticeAcked s a1 a2 a3) := by
  delta State.noticeAcked
  exact (Fr.set_mgmt (Within.of rfl hm) (Fr.refl _ _))

theorem State.ackIn_frame {m : Nat} (hm : Within 8724152328 m) {s : State} {a1 : BitVec 16} {a2 : BitVec 16} {a3 : Word} :
    Fr m s (State.ackIn s a1 a2 a3) := by
  delta State.ackIn
  exact (Fr.ite (Fr.refl _ _) ((Fr.ite ((Fr.trans (Fr.refl _ _) (State.noticeAcked_frame (Within.of rfl hm)))) ((Fr.trans
    (Fr.refl _ _) (State.slSend_frame (Within.of rfl hm)))))))

theorem execNoticeAck_frame {m : Nat} (hm : Within 8724152328 m) {a0 : BitVec 16} {a1 : BitVec 16} {a2 : Word} {s : State} :
    OutFr m s (execNoticeAck a0 a1 a2 s) := by
  delta execNoticeAck
  exact OutFr.next ((Fr.trans (Fr.refl _ _) (State.ackIn_frame (Within.of rfl hm))))

theorem State.passOn_frame {m : Nat} (hm : Within 8 m) {s : State} {a1 : SlHead} {a2 : List Byte} :
    Fr m s (State.passOn s a1 a2) := by
  delta State.passOn
  exact (Fr.ite ((Fr.trans (Fr.refl _ _) (Fr.foldl (fun _ _ => (Fr.trans (Fr.refl _ _) (State.toStation_frame (Within.of rfl
    hm))))))) (Fr.refl _ _))

theorem execHealthRelay_frame {m : Nat} (hm : Within 8724152328 m) {a0 : SlHead} {a1 : RelayMsg} {s : State} :
    OutFr m s (execHealthRelay a0 a1 s) := by
  delta execHealthRelay
  exact OutFr.next ((by (try dsimp only); split; exacts [(Fr.ite ((Fr.trans ((Fr.trans (Fr.refl _ _) (State.onFrame_frame
    (Within.of rfl hm) (fun _ => Fr.refl _ _)))) (State.passOn_frame (Within.of rfl hm)))) ((Fr.trans (Fr.refl _ _)
    (State.onFrame_frame (Within.of rfl hm) (fun _ => Fr.refl _ _))))), (Fr.trans (Fr.refl _ _) (State.onFrame_frame (Within.of
    rfl hm) (fun _ => (Fr.trans (Fr.refl _ _) (State.noticeAcked_frame (Within.of rfl hm))))))]))

theorem State.resend_frame {m : Nat} (hm : Within 13019119624 m) {s : State} {a1 : Word} :
    Fr m s (State.resend s a1) := by
  delta State.resend
  exact (by (try dsimp only); split; exacts [(Fr.refl _ _), (Fr.ite (Fr.refl _ _) ((Fr.ite ((Fr.trans ((Fr.set_mgmt (Within.of
    rfl hm) (Fr.refl _ _))) (State.noticeLost_frame (Within.of rfl hm)))) ((Fr.trans ((Fr.set_mgmt (Within.of rfl hm) (Fr.refl _
    _))) (State.sendNotice_frame (Within.of rfl hm)))))))])

theorem execNoticeResend_frame {m : Nat} (hm : Within 13019119624 m) {a0 : Word} {s : State} :
    OutFr m s (execNoticeResend a0 s) := by
  delta execNoticeResend
  exact OutFr.next ((Fr.ite ((Fr.trans (Fr.refl _ _) (State.resend_frame (Within.of rfl hm)))) (Fr.refl _ _)))

theorem State.judgeRelay_frame {m : Nat} (hm : Within 8589934592 m) {s : State} :
    Fr m s (State.judgeRelay s) := by
  delta State.judgeRelay
  exact (Fr.ite ((Fr.set_mgmt (Within.of rfl hm) (Fr.refl _ _))) (Fr.refl _ _))

theorem State.mpLink_frame {m : Nat} (hm : Within 13019119624 m) {s : State} {a1 : Bool} :
    Fr m s (State.mpLink s a1) := by
  delta State.mpLink
  exact (Fr.ite (Fr.refl _ _) ((Fr.trans ((Fr.trans ((Fr.set_mgmt (Within.of rfl hm) (Fr.refl _ _))) (State.judgeRelay_frame
    (Within.of rfl hm)))) (State.event_frame (Within.of rfl hm)))))

theorem execMgmtLink_frame {m : Nat} (hm : Within 13019119624 m) {a0 : Bool} {s : State} :
    OutFr m s (execMgmtLink a0 s) := by
  delta execMgmtLink
  exact OutFr.next ((Fr.trans (Fr.refl _ _) (State.mpLink_frame (Within.of rfl hm))))

theorem execRelayStart_frame {m : Nat} (hm : Within 8589934592 m) {s : State} :
    OutFr m s (execRelayStart s) := by
  delta execRelayStart
  exact OutFr.next ((Fr.ite ((Fr.set_mgmt (Within.of rfl hm) (Fr.refl _ _))) (Fr.refl _ _)))

theorem State.telemetryOut_frame {m : Nat} (hm : Within 8724152328 m) {s : State} :
    Fr m s (State.telemetryOut s) := by
  delta State.telemetryOut
  exact (Fr.ite (Fr.refl _ _) ((Fr.set_mgmt (Within.of rfl hm) ((Fr.trans ((Fr.trans (Fr.refl _ _) (State.govSeq_frame (Within.of
    rfl hm)))) (Fr.foldl (fun _ _ => (Fr.trans (Fr.refl _ _) (State.toStation_frame (Within.of rfl hm))))))))))

theorem execTelemetry_frame {m : Nat} (hm : Within 8724152328 m) {s : State} :
    OutFr m s (execTelemetry s) := by
  delta execTelemetry
  exact OutFr.next ((Fr.trans (Fr.refl _ _) (State.telemetryOut_frame (Within.of rfl hm))))

theorem execBucketRefill_frame {m : Nat} (hm : Within 4294967296 m) {s : State} :
    OutFr m s (execBucketRefill s) := by
  delta execBucketRefill
  exact OutFr.next ((Fr.set_cs (Within.of rfl hm) (Fr.refl _ _)))

theorem State.persistNow_frame {m : Nat} (hm : Within 4294967296 m) {s : State} :
    Fr m s (State.persistNow s) := by
  delta State.persistNow
  exact (Fr.set_cs (Within.of rfl hm) ((Fr.trans (Fr.refl _ _) (State.fatal_frame (Within.of rfl hm)))))

theorem execPersist_frame {m : Nat} (hm : Within 4294967296 m) {a0 : Path} {s : State} :
    OutFr m s (execPersist a0 s) := by
  delta execPersist
  exact OutFr.next ((Fr.ite ((Fr.trans (Fr.refl _ _) (State.persistNow_frame (Within.of rfl hm)))) (Fr.refl _ _)))

theorem State.persisted_frame {m : Nat} (hm : Within 13019119624 m) {s : State} :
    Fr m s (State.persisted s) := by
  delta State.persisted
  exact (by (try dsimp only); split; exacts [(Fr.refl _ _), (Fr.ite ((Fr.trans ((Fr.set_cs (Within.of rfl hm) (Fr.refl _ _)))
    (State.event_frame (Within.of rfl hm)))) ((Fr.set_cs (Within.of rfl hm) (Fr.refl _ _))))])

theorem execPersistDone_frame {m : Nat} (hm : Within 13019119624 m) {s : State} :
    OutFr m s (execPersistDone s) := by
  delta execPersistDone
  exact OutFr.next ((Fr.trans (Fr.refl _ _) (State.persisted_frame (Within.of rfl hm))))

theorem State.clearSheet_frame {m : Nat} (hm : Within 13019119624 m) {s : State} {a1 : Path} {a2 : Word} :
    Fr m s (State.clearSheet s a1 a2) := by
  delta State.clearSheet
  exact (Fr.trans ((Fr.set_cs (Within.of rfl hm) (Fr.refl _ _))) (State.writeRecord_frame (Within.of rfl hm)))

theorem execCsClear_frame {m : Nat} (hm : Within 13019119624 m) {a0 : Path} {a1 : Word} {s : State} :
    OutFr m s (execCsClear a0 a1 s) := by
  delta execCsClear
  exact OutFr.next ((Fr.ite ((Fr.trans (Fr.refl _ _) (State.clearSheet_frame (Within.of rfl hm)))) (Fr.refl _ _)))

end Sys2Proof.Machine
end

