-- ==== Sys2Proof/Laws/FrameTime.lean ====
section
/-! SUPPORT. The frame of every operation of Machine/Time: the parts of the state that it can change. -/

set_option Elab.async false
set_option linter.unusedTactic false

namespace Sys2Proof.Machine
open Sys2Proof.Safety

theorem State.firedTrigger_frame {m : Nat} (hm : Within 1073741824 m) {s : State} {a1 : ℕ} {a2 : ℕ} :
    Fr m s (State.firedTrigger s a1 a2) := by
  delta State.firedTrigger
  exact (Fr.trans (Fr.refl _ _) (State.setTrigger_frame (Within.of rfl hm)))

theorem State.stripReady_frame {m : Nat} (hm : Within 256 m) {s : State} :
    Fr m s (State.stripReady s) := by
  delta State.stripReady
  exact (Fr.trans (Fr.refl _ _) (Fr.foldl (fun _ _ => (Fr.ite ((Fr.trans (Fr.refl _ _) (State.askStrip_frame (Within.of rfl
    hm)))) (Fr.refl _ _)))))

theorem State.sendMarker_frame {m : Nat} (hm : Within 1207959560 m) {s : State} {a1 : ℕ} :
    Fr m s (State.sendMarker s a1) := by
  delta State.sendMarker
  exact (Fr.trans ((Fr.set_time (Within.of rfl hm) (Fr.refl _ _))) (State.slSend_frame (Within.of rfl hm)))

theorem State.triggerAction_frame {m : Nat} (hm : Within 14092861704 m) {s : State} {a1 : ℕ} :
    Fr m s (State.triggerAction s a1) := by
  delta State.triggerAction
  exact (Fr.ite ((Fr.trans (Fr.refl _ _) (State.stripReady_frame (Within.of rfl hm)))) ((Fr.ite ((Fr.trans (Fr.refl _ _)
    (State.event_frame (Within.of rfl hm)))) ((Fr.ite ((Fr.trans (Fr.refl _ _) (State.sendMarker_frame (Within.of rfl hm))))
    (Fr.refl _ _))))))

theorem State.triggerDue_frame {m : Nat} (hm : Within 14092861704 m) {s : State} {a1 : ℕ} {a2 : BitVec 4} :
    Fr m s (State.triggerDue s a1 a2) := by
  delta State.triggerDue
  exact (Fr.ite ((Fr.trans ((Fr.trans (Fr.refl _ _) (State.firedTrigger_frame (Within.of rfl hm)))) (State.triggerAction_frame
    (Within.of rfl hm)))) (Fr.refl _ _))

theorem execTriggerStrip_frame {m : Nat} (hm : Within 14092861704 m) {a0 : BitVec 3} {s : State} :
    OutFr m s (execTriggerStrip a0 s) := by
  delta execTriggerStrip
  exact OutFr.next ((Fr.trans (Fr.refl _ _) (State.triggerDue_frame (Within.of rfl hm))))

theorem execTriggerSnapshot_frame {m : Nat} (hm : Within 14092861704 m) {a0 : BitVec 3} {s : State} :
    OutFr m s (execTriggerSnapshot a0 s) := by
  delta execTriggerSnapshot
  exact OutFr.next ((Fr.trans (Fr.refl _ _) (State.triggerDue_frame (Within.of rfl hm))))

theorem execTriggerMarker_frame {m : Nat} (hm : Within 14092861704 m) {a0 : BitVec 3} {s : State} :
    OutFr m s (execTriggerMarker a0 s) := by
  delta execTriggerMarker
  exact OutFr.next ((Fr.trans (Fr.refl _ _) (State.triggerDue_frame (Within.of rfl hm))))

theorem execTriggerActionNone_frame {m : Nat} (hm : Within 14092861704 m) {a0 : BitVec 3} {s : State} :
    OutFr m s (execTriggerActionNone a0 s) := by
  delta execTriggerActionNone
  exact OutFr.next ((Fr.trans (Fr.refl _ _) (State.triggerDue_frame (Within.of rfl hm))))

theorem State.stepTo_frame {m : Nat} (hm : Within 14092861704 m) {s : State} {a1 : DevTime} :
    Fr m s (State.stepTo s a1) := by
  delta State.stepTo
  exact (Fr.trans ((Fr.trans ((Fr.set_time (Within.of rfl hm) (Fr.refl _ _))) (State.event_frame (Within.of rfl hm)))) (Fr.foldl
    (fun _ _ => (Fr.ite ((Fr.trans ((Fr.trans (Fr.refl _ _) (State.firedTrigger_frame (Within.of rfl hm))))
    (State.triggerAction_frame (Within.of rfl hm)))) (Fr.refl _ _)))))

theorem State.setTime_frame {m : Nat} (hm : Within 14092861704 m) {s : State} :
    Fr m s (State.setTime s) := by
  delta State.setTime
  exact (Fr.ite ((Fr.set_time (Within.of rfl hm) (Fr.refl _ _))) ((Fr.trans (Fr.refl _ _) (State.stepTo_frame (Within.of rfl
    hm)))))

theorem State.forceNext_frame {m : Nat} (hm : Within 1073741824 m) {s : State} :
    Fr m s (State.forceNext s) := by
  delta State.forceNext
  exact (Fr.ite ((Fr.set_time (Within.of rfl hm) (Fr.refl _ _))) ((Fr.set_time (Within.of rfl hm) (Fr.refl _ _))))

theorem execForceStep_frame {m : Nat} (hm : Within 1073741824 m) {a0 : Path} {s : State} :
    OutFr m s (execForceStep a0 s) := by
  delta execForceStep
  exact OutFr.next ((Fr.ite ((Fr.trans (Fr.refl _ _) (State.forceNext_frame (Within.of rfl hm)))) (Fr.refl _ _)))

theorem execTimeSet_frame {m : Nat} (hm : Within 14092861704 m) {a0 : Path} {s : State} :
    OutFr m s (execTimeSet a0 s) := by
  delta execTimeSet
  exact OutFr.next ((Fr.ite ((Fr.trans (Fr.refl _ _) (State.setTime_frame (Within.of rfl hm)))) (Fr.refl _ _)))

theorem State.applyHeld_frame {m : Nat} (hm : Within 14092861704 m) {s : State} :
    Fr m s (State.applyHeld s) := by
  delta State.applyHeld
  exact (Fr.ite (Fr.refl _ _) ((Fr.ite ((Fr.trans ((Fr.set_time (Within.of rfl hm) (Fr.refl _ _))) (State.stepTo_frame (Within.of
    rfl hm)))) ((Fr.set_time (Within.of rfl hm) (Fr.refl _ _))))))

theorem execHeldStepApply_frame {m : Nat} (hm : Within 14092861704 m) {s : State} :
    OutFr m s (execHeldStepApply s) := by
  delta execHeldStepApply
  exact OutFr.next ((Fr.trans (Fr.refl _ _) (State.applyHeld_frame (Within.of rfl hm))))

theorem State.armed_frame {m : Nat} (hm : Within 14092861448 m) {s : State} {a1 : ℕ} :
    Fr m s (State.armed s a1) := by
  delta State.armed
  exact (Fr.ite (Fr.refl _ _) ((Fr.ite ((Fr.trans ((Fr.trans (Fr.refl _ _) (State.setTrigger_frame (Within.of rfl hm))))
    (State.event_frame (Within.of rfl hm)))) ((Fr.trans (Fr.refl _ _) (State.setTrigger_frame (Within.of rfl hm)))))))

theorem State.cancelled_frame {m : Nat} (hm : Within 1073741824 m) {s : State} {a1 : ℕ} :
    Fr m s (State.cancelled s a1) := by
  delta State.cancelled
  exact (Fr.ite (Fr.refl _ _) ((Fr.trans (Fr.refl _ _) (State.setTrigger_frame (Within.of rfl hm)))))

theorem execTtArm_frame {m : Nat} (hm : Within 14092861448 m) {a0 : Path} {a1 : BitVec 3} {s : State} :
    OutFr m s (execTtArm a0 a1 s) := by
  delta execTtArm
  exact OutFr.next ((Fr.ite ((Fr.trans (Fr.refl _ _) (State.armed_frame (Within.of rfl hm)))) (Fr.refl _ _)))

theorem execTtCancel_frame {m : Nat} (hm : Within 1073741824 m) {a0 : Path} {a1 : BitVec 3} {s : State} :
    OutFr m s (execTtCancel a0 a1 s) := by
  delta execTtCancel
  exact OutFr.next ((Fr.ite ((Fr.trans (Fr.refl _ _) (State.cancelled_frame (Within.of rfl hm)))) (Fr.refl _ _)))

theorem State.lockState_frame {m : Nat} (hm : Within 14092861448 m) {s : State} {a1 : ℤ} :
    Fr m s (State.lockState s a1) := by
  delta State.lockState
  exact (Fr.ite ((Fr.ite ((Fr.trans ((Fr.set_time (Within.of rfl hm) (Fr.refl _ _))) (State.event_frame (Within.of rfl hm))))
    ((Fr.set_time (Within.of rfl hm) (Fr.refl _ _))))) ((Fr.ite ((Fr.set_time (Within.of rfl hm) (Fr.refl _ _))) (Fr.refl _ _))))

theorem State.correct_frame {m : Nat} (hm : Within 14092861452 m) {s : State} {a1 : ℤ} :
    Fr m s (State.correct s a1) := by
  delta State.correct
  exact (Fr.ite ((Fr.trans ((Fr.ite ((Fr.set_time (Within.of rfl hm) ((Fr.set_time (Within.of rfl hm) (Fr.refl _ _)))))
    ((Fr.trans ((Fr.set_time (Within.of rfl hm) ((Fr.set_time (Within.of rfl hm) (Fr.refl _ _))))) (State.draw_frame (Within.of
    rfl hm)))))) (State.event_frame (Within.of rfl hm)))) ((Fr.ite ((Fr.set_time (Within.of rfl hm) ((Fr.set_time (Within.of rfl
    hm) (Fr.refl _ _))))) ((Fr.trans ((Fr.set_time (Within.of rfl hm) ((Fr.set_time (Within.of rfl hm) (Fr.refl _ _)))))
    (State.draw_frame (Within.of rfl hm)))))))

theorem State.rawOffset_frame {m : Nat} (hm : Within 14092861708 m) {s : State} {a1 : ℤ} :
    Fr m s (State.rawOffset s a1) := by
  delta State.rawOffset
  exact (Fr.ite ((Fr.set_time (Within.of rfl hm) (Fr.refl _ _))) ((Fr.ite ((Fr.trans ((Fr.set_time (Within.of rfl hm) ((Fr.ite
    ((Fr.set_time (Within.of rfl hm) ((Fr.trans ((Fr.set_time (Within.of rfl hm) ((Fr.set_time (Within.of rfl hm) (Fr.refl _
    _))))) (State.draw_frame (Within.of rfl hm)))))) ((Fr.trans ((Fr.set_time (Within.of rfl hm) ((Fr.set_time (Within.of rfl hm)
    (Fr.refl _ _))))) (State.draw_frame (Within.of rfl hm)))))))) (State.stepTo_frame (Within.of rfl hm)))) ((Fr.trans ((Fr.trans
    ((Fr.ite ((Fr.set_time (Within.of rfl hm) ((Fr.trans ((Fr.set_time (Within.of rfl hm) ((Fr.set_time (Within.of rfl hm)
    (Fr.refl _ _))))) (State.draw_frame (Within.of rfl hm)))))) ((Fr.trans ((Fr.set_time (Within.of rfl hm) ((Fr.set_time
    (Within.of rfl hm) (Fr.refl _ _))))) (State.draw_frame (Within.of rfl hm)))))) (State.correct_frame (Within.of rfl hm))))
    (State.lockState_frame (Within.of rfl hm)))))))

theorem State.syncTaken_frame {m : Nat} (hm : Within 14092861708 m) {s : State} {a1 : DevTime} {a2 : DevTime} :
    Fr m s (State.syncTaken s a1 a2) := by
  delta State.syncTaken
  exact (Fr.trans ((Fr.set_time (Within.of rfl hm) (Fr.refl _ _))) (State.rawOffset_frame (Within.of rfl hm)))

theorem execPtpSync_frame {m : Nat} (hm : Within 14092861708 m) {a0 : BitVec 64} {a1 : BitVec 16} {a2 : DevTime} {a3 : DevTime}
  {a4 : Bool} {s : State} :
    OutFr m s (execPtpSync a0 a1 a2 a3 a4 s) := by
  delta execPtpSync
  exact OutFr.next ((Fr.ite (Fr.refl _ _) ((Fr.ite ((Fr.set_time (Within.of rfl hm) (Fr.refl _ _))) ((Fr.trans (Fr.refl _ _)
    (State.syncTaken_frame (Within.of rfl hm))))))))

theorem execPtpFollowUp_frame {m : Nat} (hm : Within 14092861708 m) {a0 : BitVec 64} {a1 : BitVec 16} {a2 : DevTime} {s : State} :
    OutFr m s (execPtpFollowUp a0 a1 a2 s) := by
  delta execPtpFollowUp
  exact OutFr.next ((by (try dsimp only); split; exacts [(Fr.ite ((Fr.trans (Fr.refl _ _) (State.syncTaken_frame (Within.of rfl
    hm)))) (Fr.refl _ _)), (Fr.refl _ _)]))

theorem State.selectMaster_frame {m : Nat} (hm : Within 14092861448 m) {s : State} {a1 : PtpMaster} :
    Fr m s (State.selectMaster s a1) := by
  delta State.selectMaster
  exact (by (try dsimp only); split; exacts [(Fr.ite ((Fr.set_time (Within.of rfl hm) (Fr.refl _ _))) ((Fr.trans ((Fr.set_time
    (Within.of rfl hm) ((Fr.set_time (Within.of rfl hm) (Fr.refl _ _))))) (State.event_frame (Within.of rfl hm))))), (Fr.set_time
    (Within.of rfl hm) ((Fr.set_time (Within.of rfl hm) (Fr.refl _ _))))])

theorem State.announced_frame {m : Nat} (hm : Within 14092861448 m) {s : State} {a1 : PtpMaster} {a2 : BitVec 16} :
    Fr m s (State.announced s a1 a2) := by
  delta State.announced
  exact (Fr.ite (Fr.refl _ _) ((by (try dsimp only); split; exacts [(Fr.set_time (Within.of rfl hm) (Fr.refl _ _)), (Fr.ite
    ((Fr.set_time (Within.of rfl hm) ((Fr.trans ((Fr.set_time (Within.of rfl hm) (Fr.refl _ _))) (State.selectMaster_frame
    (Within.of rfl hm)))))) ((Fr.trans ((Fr.set_time (Within.of rfl hm) (Fr.refl _ _))) (State.selectMaster_frame (Within.of rfl
    hm)))))])))

theorem execPtpAnnounce_frame {m : Nat} (hm : Within 14092861448 m) {a0 : PtpMaster} {a1 : BitVec 16} {s : State} :
    OutFr m s (execPtpAnnounce a0 a1 s) := by
  delta execPtpAnnounce
  exact OutFr.next ((Fr.trans (Fr.refl _ _) (State.announced_frame (Within.of rfl hm))))

theorem State.holdover_frame {m : Nat} (hm : Within 14092861448 m) {s : State} :
    Fr m s (State.holdover s) := by
  delta State.holdover
  exact (Fr.ite ((Fr.trans ((Fr.set_time (Within.of rfl hm) (Fr.refl _ _))) (State.event_frame (Within.of rfl hm)))) (Fr.refl _
    _))

theorem execAnnounceTimeout_frame {m : Nat} (hm : Within 14092861448 m) {s : State} :
    OutFr m s (execAnnounceTimeout s) := by
  delta execAnnounceTimeout
  exact OutFr.next ((Fr.trans (Fr.refl _ _) (State.holdover_frame (Within.of rfl hm))))

theorem State.askDelay_frame {m : Nat} (hm : Within 1073741832 m) {s : State} :
    Fr m s (State.askDelay s) := by
  delta State.askDelay
  exact (Fr.ite ((Fr.trans ((Fr.set_time (Within.of rfl hm) (Fr.refl _ _))) (State.send_frame (Within.of rfl hm)))) (Fr.refl _ _))

theorem execDelayReqSend_frame {m : Nat} (hm : Within 1073741832 m) {s : State} :
    OutFr m s (execDelayReqSend s) := by
  delta execDelayReqSend
  exact OutFr.next ((Fr.trans (Fr.refl _ _) (State.askDelay_frame (Within.of rfl hm))))

theorem State.stampIn_frame {m : Nat} (hm : Within 14092861448 m) {s : State} {a1 : Bool} {a2 : BitVec 16} {a3 : DevTime} :
    Fr m s (State.stampIn s a1 a2 a3) := by
  delta State.stampIn
  exact (Fr.ite ((Fr.set_time (Within.of rfl hm) (Fr.refl _ _))) ((Fr.trans ((Fr.set_time (Within.of rfl hm) (Fr.refl _ _)))
    (State.event_frame (Within.of rfl hm)))))

theorem execTxStamp_frame {m : Nat} (hm : Within 14092861448 m) {a0 : Bool} {a1 : BitVec 16} {a2 : DevTime} {s : State} :
    OutFr m s (execTxStamp a0 a1 a2 s) := by
  delta execTxStamp
  exact OutFr.next ((Fr.trans (Fr.refl _ _) (State.stampIn_frame (Within.of rfl hm))))

theorem State.delayIn_frame {m : Nat} (hm : Within 1073741824 m) {s : State} {a1 : BitVec 64} {a2 : BitVec 16} {a3 : DevTime} :
    Fr m s (State.delayIn s a1 a2 a3) := by
  delta State.delayIn
  exact (Fr.ite (Fr.refl _ _) ((by (try dsimp only); split; exacts [(Fr.set_time (Within.of rfl hm) (Fr.refl _ _)), (Fr.set_time
    (Within.of rfl hm) (Fr.refl _ _)), (Fr.refl _ _)])))

theorem execPtpDelayResp_frame {m : Nat} (hm : Within 1073741824 m) {a0 : BitVec 64} {a1 : BitVec 16} {a2 : DevTime} {s : State} :
    OutFr m s (execPtpDelayResp a0 a1 a2 s) := by
  delta execPtpDelayResp
  exact OutFr.next ((Fr.trans (Fr.refl _ _) (State.delayIn_frame (Within.of rfl hm))))

theorem State.markerIn_frame {m : Nat} (hm : Within 1073741824 m) {s : State} {a1 : Node} {a2 : Marker} :
    Fr m s (State.markerIn s a1 a2) := by
  delta State.markerIn
  exact (by (try dsimp only); split; exacts [(Fr.ite ((Fr.set_time (Within.of rfl hm) ((Fr.set_time (Within.of rfl hm) (Fr.refl _
    _))))) ((Fr.set_time (Within.of rfl hm) (Fr.refl _ _)))), (Fr.set_time (Within.of rfl hm) (Fr.refl _ _))])

theorem execTimeMarker_frame {m : Nat} (hm : Within 1207959560 m) {a0 : SlHead} {a1 : Marker} {s : State} :
    OutFr m s (execTimeMarker a0 a1 s) := by
  delta execTimeMarker
  exact OutFr.next ((Fr.trans (Fr.refl _ _) (State.onFrame_frame (Within.of rfl hm) (fun _ => (Fr.trans (Fr.refl _ _)
    (State.markerIn_frame (Within.of rfl hm)))))))

theorem State.timeCfg_frame {m : Nat} (hm : Within 1073741840 m) {s : State} {a1 : Word} :
    Fr m s (State.timeCfg s a1) := by
  delta State.timeCfg
  exact (Fr.ite ((Fr.ite ((Fr.trans (Fr.refl _ _) (State.setPol_frame (Within.of rfl hm)))) ((Fr.set_time (Within.of rfl hm)
    ((Fr.trans (Fr.refl _ _) (State.setPol_frame (Within.of rfl hm)))))))) ((Fr.ite ((Fr.set_time (Within.of rfl hm) ((Fr.trans
    (Fr.refl _ _) (State.setPol_frame (Within.of rfl hm)))))) ((Fr.trans (Fr.refl _ _) (State.setPol_frame (Within.of rfl
    hm)))))))

end Sys2Proof.Machine
end

