-- ==== Sys2Proof/Laws/FrameAccess.lean ====
section
/-! SUPPORT. The frame of every operation of Machine/Access: the parts of the state that it can change. -/

set_option Elab.async false
set_option linter.unusedTactic false

namespace Sys2Proof.Machine
open Sys2Proof.Safety

theorem State.after_frame {m : Nat} (_hm : Within 0 m) {s : State} {o : Out} (h : OutFr m s o) : Fr m s (s.after o) := by
  unfold State.after
  split
  · exact h _ rfl
  · exact Fr.refl _ _

theorem State.windowRead_frame {m : Nat} (hm : Within 800 m) {s : State} {p : Path} {a : Nat} : Fr m s (s.windowRead p a) := by
  unfold State.windowRead
  refine Fr.ite (State.windowTouch_frame (Within.of rfl hm) ?_) (Fr.refl _ _)
  intro t x
  split
  · exact State.clearPeak_frame (Within.of rfl hm)
  · split
    · exact State.clearSlew_frame (Within.of rfl hm)
    · exact Fr.refl _ _

theorem State.readReg_frame {m : Nat} (hm : Within 800 m) {s : State} {p : Path} {a : Nat} : Fr m s (s.readReg p a).2 := by
  unfold State.readReg
  dsimp only
  split
  · exact (State.setPath_frame (Within.of rfl hm)).trans (State.windowRead_frame (Within.of rfl hm))
  · exact (Fr.ite (State.setPath_frame (Within.of rfl hm)) (Fr.refl _ _)).trans (State.windowRead_frame (Within.of rfl hm))

theorem State.readRegs_frame {m : Nat} (hm : Within 800 m) {s : State} {p : Path} {a n : Nat} : Fr m s (s.readRegs p a n).2 := by
  induction n generalizing s a with
  | zero => exact Fr.refl _ _
  | succ n ih => exact (State.readReg_frame (Within.of rfl hm)).trans ih

theorem State.readSent_frame {m : Nat} (hm : Within 808 m) {s : State} {a1 : Path} {a2 : ℕ} :
    Fr m s (State.readSent s a1 a2) := by
  delta State.readSent
  exact (Fr.trans ((Fr.trans (Fr.refl _ _) (State.readReg_frame (Within.of rfl hm)))) (State.send_frame (Within.of rfl hm)))

theorem State.storePol_frame {m : Nat} (hm : Within 16 m) {s : State} {a1 : ℕ} {a2 : Word} :
    Fr m s (State.storePol s a1 a2) := by
  delta State.storePol
  exact (by (try dsimp only); split; exacts [(Fr.trans (Fr.refl _ _) (State.setPol_frame (Within.of rfl hm))), (Fr.refl _ _)])

theorem State.putMod_frame {m : Nat} (hm : Within 274877904888 m) {s : State} {a1 : Path} {a2 : ℕ} {a3 : Word} :
    Fr m s (State.putMod s a1 a2 a3) := by
  delta State.putMod
  exact (Fr.ite ((Fr.set_mod (Within.of rfl hm) ((Fr.trans (Fr.refl _ _) (State.storePol_frame (Within.of rfl hm)))))) ((Fr.ite
    ((Fr.trans (Fr.refl _ _) (State.stageGo_frame (Within.of rfl hm)))) ((Fr.ite ((Fr.trans (Fr.refl _ _)
    (State.modResetWrite_frame (Within.of rfl hm)))) ((Fr.trans (Fr.refl _ _) (State.storePol_frame (Within.of rfl hm)))))))))

theorem State.putGov_frame {m : Nat} (hm : Within 13086228504 m) {s : State} {a1 : Path} {a2 : ℕ} {a3 : Word} :
    Fr m s (State.putGov s a1 a2 a3) := by
  delta State.putGov
  exact (Fr.ite ((Fr.ite ((Fr.trans (Fr.refl _ _) (State.after_frame (Within.of rfl hm) (OutFr.trans (Fr.refl _ _)
    (execGovSwap_frame (Within.of rfl hm)))))) ((Fr.ite ((Fr.trans (Fr.refl _ _) (State.after_frame (Within.of rfl hm)
    (OutFr.trans (Fr.refl _ _) (execResync_frame (Within.of rfl hm)))))) ((Fr.ite ((Fr.trans (Fr.refl _ _) (State.after_frame
    (Within.of rfl hm) (OutFr.trans (Fr.refl _ _) (execKeepA_frame (Within.of rfl hm)))))) ((Fr.ite ((Fr.trans (Fr.refl _ _)
    (State.after_frame (Within.of rfl hm) (OutFr.trans (Fr.refl _ _) (execKeepB_frame (Within.of rfl hm)))))) (Fr.refl _
    _))))))))) ((Fr.trans (Fr.refl _ _) (State.storePol_frame (Within.of rfl hm)))))

theorem State.putTrigger_frame {m : Nat} (hm : Within 14092861448 m) {s : State} {a1 : ℕ} {a2 : ℕ} {a3 : Word} :
    Fr m s (State.putTrigger s a1 a2 a3) := by
  delta State.putTrigger
  exact (Fr.ite (Fr.refl _ _) ((Fr.ite ((Fr.ite ((Fr.trans ((Fr.ite ((Fr.trans ((Fr.trans (Fr.refl _ _) (State.setTrigger_frame
    (Within.of rfl hm)))) (State.armed_frame (Within.of rfl hm)))) ((Fr.trans (Fr.refl _ _) (State.setTrigger_frame (Within.of
    rfl hm)))))) (State.cancelled_frame (Within.of rfl hm)))) ((Fr.ite ((Fr.trans ((Fr.trans (Fr.refl _ _)
    (State.setTrigger_frame (Within.of rfl hm)))) (State.armed_frame (Within.of rfl hm)))) ((Fr.trans (Fr.refl _ _)
    (State.setTrigger_frame (Within.of rfl hm)))))))) ((Fr.ite ((Fr.ite ((Fr.trans (Fr.refl _ _) (State.setTrigger_frame
    (Within.of rfl hm)))) (Fr.refl _ _))) ((Fr.ite ((Fr.trans (Fr.refl _ _) (State.setTrigger_frame (Within.of rfl hm))))
    ((Fr.ite ((Fr.trans (Fr.refl _ _) (State.setTrigger_frame (Within.of rfl hm)))) ((Fr.ite ((Fr.trans (Fr.refl _ _)
    (State.setTrigger_frame (Within.of rfl hm)))) (Fr.refl _ _))))))))))))

theorem State.putTime_frame {m : Nat} (hm : Within 14092861720 m) {s : State} {a1 : ℕ} {a2 : Word} :
    Fr m s (State.putTime s a1 a2) := by
  delta State.putTime
  exact (Fr.ite ((Fr.trans (Fr.refl _ _) (State.timeCfg_frame (Within.of rfl hm)))) ((Fr.ite ((Fr.ite ((Fr.trans ((Fr.ite
    ((Fr.trans (Fr.refl _ _) (State.forceNext_frame (Within.of rfl hm)))) (Fr.refl _ _))) (State.setTime_frame (Within.of rfl
    hm)))) ((Fr.ite ((Fr.trans (Fr.refl _ _) (State.forceNext_frame (Within.of rfl hm)))) (Fr.refl _ _))))) ((Fr.ite ((Fr.ite
    ((Fr.set_time (Within.of rfl hm) (Fr.refl _ _))) (Fr.refl _ _))) ((Fr.ite ((Fr.set_time (Within.of rfl hm) (Fr.refl _ _)))
    ((Fr.ite ((Fr.set_time (Within.of rfl hm) (Fr.refl _ _))) ((Fr.ite ((Fr.trans (Fr.refl _ _) (State.putTrigger_frame
    (Within.of rfl hm)))) (Fr.refl _ _))))))))))))

theorem State.modSnap_frame {m : Nat} (hm : Within 4294967296 m) {s : State} {a1 : SnapList → SnapList} :
    Fr m s (State.modSnap s a1) := by
  delta State.modSnap
  exact (Fr.set_cs (Within.of rfl hm) (Fr.refl _ _))

theorem State.putCs_frame {m : Nat} (hm : Within 13019119672 m) {s : State} {a1 : Path} {a2 : ℕ} {a3 : Word} :
    Fr m s (State.putCs s a1 a2 a3) := by
  delta State.putCs
  exact (Fr.ite ((Fr.trans (Fr.refl _ _) (State.setPath_frame (Within.of rfl hm)))) ((Fr.ite ((Fr.trans (Fr.refl _ _)
    (State.setPath_frame (Within.of rfl hm)))) ((Fr.ite ((Fr.trans (Fr.refl _ _) (State.clearSheet_frame (Within.of rfl hm))))
    ((Fr.ite ((Fr.ite ((Fr.trans (Fr.refl _ _) (State.persistNow_frame (Within.of rfl hm)))) (Fr.refl _ _))) ((Fr.ite
    ((Fr.set_mgmt (Within.of rfl hm) (Fr.refl _ _))) ((Fr.ite ((Fr.trans (Fr.refl _ _) (State.modSnap_frame (Within.of rfl hm))))
    ((Fr.ite ((Fr.trans (Fr.refl _ _) (State.modSnap_frame (Within.of rfl hm)))) ((Fr.trans (Fr.refl _ _) (State.storePol_frame
    (Within.of rfl hm)))))))))))))))))

theorem State.putSteer_frame {m : Nat} (hm : Within 14478737468 m) {s : State} {a1 : Path} {a2 : ℕ} {a3 : Word} :
    Fr m s (State.putSteer s a1 a2 a3) := by
  delta State.putSteer
  exact Fr.ite
    (Fr.step (Fr.step (Fr.step (Fr.refl _ _) (State.abortNow_frame (Within.of rfl hm)))
      (State.after_frame (Within.of rfl hm) (execBypass_frame (Within.of rfl hm)))) (State.restoreNow_frame (Within.of rfl hm)))
    (Fr.ite (State.switchGo_frame (Within.of rfl hm)) (Fr.ite (State.setPath_frame (Within.of rfl hm))
      (Fr.ite (State.loadPlan_frame (Within.of rfl hm)) (Fr.ite (State.erasePlan_frame (Within.of rfl hm))
        (Fr.ite (State.acceptPort_frame (Within.of rfl hm)) (State.storePol_frame (Within.of rfl hm)))))))

theorem State.linkCfg_frame {m : Nat} (hm : Within 184549388 m) {s : State} {a1 : BitVec 6} {a2 : Word} :
    Fr m s (State.linkCfg s a1 a2) := by
  delta State.linkCfg
  exact (Fr.trans ((Fr.trans (Fr.refl _ _) (State.setLink_frame (Within.of rfl hm)))) (State.ensureMin_frame (Within.of rfl hm)))

theorem State.putFab_frame {m : Nat} (hm : Within 13069451308 m) {s : State} {a1 : Path} {a2 : ℕ} {a3 : Word} :
    Fr m s (State.putFab s a1 a2 a3) := by
  delta State.putFab
  exact (Fr.ite ((Fr.ite ((Fr.trans (Fr.refl _ _) (State.probeNow_frame (Within.of rfl hm)))) ((Fr.ite ((Fr.trans (Fr.refl _ _)
    (State.setPath_frame (Within.of rfl hm)))) (Fr.refl _ _))))) ((Fr.ite ((Fr.trans (Fr.refl _ _) (State.setPath_frame
    (Within.of rfl hm)))) ((Fr.ite ((Fr.trans (Fr.refl _ _) (State.linkCfg_frame (Within.of rfl hm)))) (Fr.refl _ _))))))

theorem State.putQp_frame {m : Nat} (hm : Within 8388608 m) {s : State} {a1 : ℕ} {a2 : Qp → Qp} :
    Fr m s (State.putQp s a1 a2) := by
  delta State.putQp
  exact (Fr.ite ((Fr.trans (Fr.refl _ _) (State.modQp_frame (Within.of rfl hm)))) (Fr.refl _ _))

theorem State.qpCmd_frame {m : Nat} (hm : Within 8388620 m) {s : State} {a1 : ℕ} {a2 : Word} :
    Fr m s (State.qpCmd s a1 a2) := by
  delta State.qpCmd
  exact (Fr.ite ((Fr.trans ((Fr.trans (Fr.refl _ _) (State.qpOp_frame (Within.of rfl hm)))) (State.connect_frame (Within.of rfl
    hm)))) ((Fr.ite ((Fr.trans ((Fr.trans (Fr.refl _ _) (State.qpOp_frame (Within.of rfl hm)))) (State.modQp_frame (Within.of rfl
    hm)))) ((Fr.trans (Fr.refl _ _) (State.qpOp_frame (Within.of rfl hm)))))))

theorem State.putHostCtx_frame {m : Nat} (hm : Within 36077576 m) {s : State} {a1 : Path} {a2 : ℕ} {a3 : Word} :
    Fr m s (State.putHostCtx s a1 a2 a3) := by
  delta State.putHostCtx
  exact (Fr.ite ((Fr.ite ((Fr.trans (Fr.refl _ _) (State.ringOn_frame (Within.of rfl hm)))) ((Fr.trans (Fr.refl _ _)
    (State.ringOff_frame (Within.of rfl hm)))))) ((Fr.ite ((Fr.trans (Fr.refl _ _) (State.statusSet_frame (Within.of rfl hm))))
    ((Fr.ite ((Fr.trans (Fr.refl _ _) (State.setCtx_frame (Within.of rfl hm)))) ((Fr.ite ((Fr.trans (Fr.refl _ _)
    (State.setCtx_frame (Within.of rfl hm)))) (Fr.refl _ _))))))))

theorem State.putHost_frame {m : Nat} (hm : Within 44466236 m) {s : State} {a1 : Path} {a2 : ℕ} {a3 : Word} :
    Fr m s (State.putHost s a1 a2 a3) := by
  delta State.putHost
  exact (Fr.ite ((Fr.trans ((Fr.trans (Fr.refl _ _) (State.storePol_frame (Within.of rfl hm)))) (State.noIdle_frame (Within.of
    rfl hm)))) ((Fr.ite ((Fr.trans (Fr.refl _ _) (State.setPath_frame (Within.of rfl hm)))) ((Fr.ite ((Fr.trans (Fr.refl _ _)
    (State.qpCmd_frame (Within.of rfl hm)))) ((Fr.ite ((Fr.trans (Fr.refl _ _) (State.putQp_frame (Within.of rfl hm)))) ((Fr.ite
    ((Fr.trans (Fr.refl _ _) (State.putQp_frame (Within.of rfl hm)))) ((Fr.ite ((Fr.trans (Fr.refl _ _) (State.putQp_frame
    (Within.of rfl hm)))) ((Fr.ite ((Fr.trans (Fr.refl _ _) (State.putQp_frame (Within.of rfl hm)))) ((Fr.ite ((Fr.trans (Fr.refl
    _ _) (State.putQp_frame (Within.of rfl hm)))) ((Fr.ite ((Fr.trans (Fr.refl _ _) (State.putQp_frame (Within.of rfl hm))))
    ((Fr.ite ((Fr.trans (Fr.refl _ _) (State.putHostCtx_frame (Within.of rfl hm)))) ((Fr.trans (Fr.refl _ _)
    (State.storePol_frame (Within.of rfl hm)))))))))))))))))))))))

theorem State.putLight_frame {m : Nat} (hm : Within 13019119896 m) {s : State} {a1 : Path} {a2 : ℕ} {a3 : Word} :
    Fr m s (State.putLight s a1 a2 a3) := by
  delta State.putLight
  exact Fr.ite (State.after_frame (Within.of rfl hm) (execLightCalWrite_frame (Within.of rfl hm)))
    (Fr.ite
      (Fr.step (Fr.step (Fr.refl _ _) (State.after_frame (Within.of rfl hm) (execStripAll_frame (Within.of rfl hm))))
        (State.after_frame (Within.of rfl hm) (execRelockAll_frame (Within.of rfl hm))))
      (State.storePol_frame (Within.of rfl hm)))

theorem State.fwDl_frame {m : Nat} (hm : Within 15166603288 m) {s : State} {a1 : Path} {a2 : Word} :
    Fr m s (State.fwDl s a1 a2) := by
  delta State.fwDl
  exact (Fr.ite ((Fr.trans (Fr.refl _ _) (State.after_frame (Within.of rfl hm) (OutFr.trans (Fr.refl _ _) (execFwOpen_frame
    (Within.of rfl hm)))))) ((Fr.ite ((Fr.trans (Fr.refl _ _) (State.after_frame (Within.of rfl hm) (OutFr.trans (Fr.refl _ _)
    (execFwErase_frame (Within.of rfl hm)))))) ((Fr.trans (Fr.refl _ _) (State.storePol_frame (Within.of rfl hm)))))))

theorem State.fwCtl_frame {m : Nat} (hm : Within 274877904888 m) {s : State} {a1 : Path} {a2 : Word} :
    Fr m s (State.fwCtl s a1 a2) := by
  delta State.fwCtl
  exact (Fr.ite ((Fr.trans (Fr.refl _ _) (State.after_frame (Within.of rfl hm) (OutFr.trans (Fr.refl _ _)
    (execActivateHitless_frame (Within.of rfl hm)))))) ((Fr.ite ((Fr.trans (Fr.refl _ _) (State.after_frame (Within.of rfl hm)
    (OutFr.trans (Fr.refl _ _) (execActivateReset_frame (Within.of rfl hm)))))) ((Fr.ite ((Fr.trans (Fr.refl _ _)
    (State.after_frame (Within.of rfl hm) (OutFr.trans (Fr.refl _ _) (execSelectConfig_frame (Within.of rfl hm)))))) ((Fr.ite
    ((Fr.trans (Fr.refl _ _) (State.after_frame (Within.of rfl hm) (OutFr.trans (Fr.refl _ _) (execConfirm_frame (Within.of rfl
    hm)))))) ((Fr.ite ((Fr.trans (Fr.refl _ _) (State.after_frame (Within.of rfl hm) (OutFr.trans (Fr.refl _ _)
    (execRollback_frame (Within.of rfl hm)))))) ((Fr.ite ((Fr.trans (Fr.refl _ _) (State.after_frame (Within.of rfl hm)
    (OutFr.trans (Fr.refl _ _) (execSave_frame (Within.of rfl hm)))))) ((Fr.trans (Fr.refl _ _) (State.storePol_frame (Within.of
    rfl hm)))))))))))))))

theorem State.fwAdopt_frame {m : Nat} (hm : Within 15166603292 m) {s : State} {a1 : Path} {a2 : Word} :
    Fr m s (State.fwAdopt s a1 a2) := by
  delta State.fwAdopt
  exact (Fr.ite ((Fr.trans (Fr.refl _ _) (State.after_frame (Within.of rfl hm) (OutFr.trans (Fr.refl _ _)
    (execSettingsConvert_frame (Within.of rfl hm)))))) ((Fr.ite ((Fr.trans (Fr.refl _ _) (State.after_frame (Within.of rfl hm)
    (OutFr.trans (Fr.refl _ _) (execSettingsEmpty_frame (Within.of rfl hm)))))) ((Fr.trans (Fr.refl _ _) (State.storePol_frame
    (Within.of rfl hm)))))))

theorem State.putFw_frame {m : Nat} (hm : Within 274877904892 m) {s : State} {a1 : Path} {a2 : ℕ} {a3 : Word} :
    Fr m s (State.putFw s a1 a2 a3) := by
  delta State.putFw
  exact (Fr.ite ((Fr.trans (Fr.refl _ _) (State.fwDl_frame (Within.of rfl hm)))) ((Fr.ite ((Fr.trans (Fr.refl _ _)
    (State.fwCtl_frame (Within.of rfl hm)))) ((Fr.ite ((Fr.trans (Fr.refl _ _) (State.fwAdopt_frame (Within.of rfl hm))))
    ((Fr.ite ((Fr.trans (Fr.refl _ _) (State.lockWrite_frame (Within.of rfl hm)))) ((Fr.ite ((Fr.ite ((Fr.trans (Fr.refl _ _)
    (State.after_frame (Within.of rfl hm) (OutFr.trans (Fr.refl _ _) (execFwAttest_frame (Within.of rfl hm)))))) (Fr.refl _ _)))
    ((Fr.trans (Fr.refl _ _) (State.storePol_frame (Within.of rfl hm)))))))))))))

theorem State.putCtxCmd_frame {m : Nat} (hm : Within 44564268 m) {s : State} {a1 : Path} {a2 : Word} :
    Fr m s (State.putCtxCmd s a1 a2) := by
  delta State.putCtxCmd
  exact (Fr.ite ((Fr.trans (Fr.refl _ _) (State.ctxCmd_frame (Within.of rfl hm)))) ((Fr.ite ((Fr.trans ((Fr.trans (Fr.refl _ _)
    (State.ctxCmd_frame (Within.of rfl hm)))) (State.ctxMake_frame (Within.of rfl hm)))) ((Fr.ite ((Fr.trans ((Fr.trans (Fr.refl
    _ _) (State.ctxCmd_frame (Within.of rfl hm)))) (State.ctxCommand_frame (Within.of rfl hm)))) ((Fr.trans (Fr.refl _ _)
    (State.ctxCmd_frame (Within.of rfl hm)))))))))

theorem State.putRcmd_frame {m : Nat} (hm : Within 40239144 m) {s : State} {a1 : Path} {a2 : Word} :
    Fr m s (State.putRcmd s a1 a2) := by
  delta State.putRcmd
  exact (Fr.ite ((Fr.trans (Fr.refl _ _) (State.rStore_frame (Within.of rfl hm)))) ((Fr.ite ((Fr.trans (Fr.refl _ _)
    (State.after_frame (Within.of rfl hm) (OutFr.trans (Fr.refl _ _) (execRegionAllocate_frame (Within.of rfl hm)))))) ((Fr.ite
    ((Fr.trans (Fr.refl _ _) (State.after_frame (Within.of rfl hm) (OutFr.trans (Fr.refl _ _) (execRegionRelease_frame (Within.of
    rfl hm)))))) ((Fr.trans (Fr.refl _ _) (State.after_frame (Within.of rfl hm) (OutFr.trans (Fr.refl _ _) (execRegionQuery_frame
    (Within.of rfl hm)))))))))))

theorem State.putMemCtx_frame {m : Nat} (hm : Within 13059359784 m) {s : State} {a1 : Path} {a2 : ℕ} {a3 : Word} :
    Fr m s (State.putMemCtx s a1 a2 a3) := by
  delta State.putMemCtx
  exact (Fr.ite ((Fr.trans (Fr.refl _ _) (State.putRcmd_frame (Within.of rfl hm)))) ((Fr.ite ((Fr.trans (Fr.refl _ _)
    (State.setPath_frame (Within.of rfl hm)))) ((Fr.ite (Fr.refl _ _) ((Fr.ite ((Fr.trans (Fr.refl _ _) (State.setCtx_frame
    (Within.of rfl hm)))) ((Fr.ite ((Fr.trans (Fr.refl _ _) (State.setCtx_frame (Within.of rfl hm)))) ((Fr.ite ((Fr.trans
    (Fr.refl _ _) (State.threadsWrite_frame (Within.of rfl hm)))) ((Fr.ite ((Fr.trans (Fr.refl _ _) (State.setCtx_frame
    (Within.of rfl hm)))) ((Fr.ite ((Fr.trans (Fr.refl _ _) (State.grantWrite_frame (Within.of rfl hm)))) ((Fr.ite ((Fr.trans
    (Fr.refl _ _) (State.setCtx_frame (Within.of rfl hm)))) (Fr.refl _ _))))))))))))))))))

theorem State.putMem_frame {m : Nat} (hm : Within 13067878204 m) {s : State} {a1 : Path} {a2 : ℕ} {a3 : Word} :
    Fr m s (State.putMem s a1 a2 a3) := by
  delta State.putMem
  exact (Fr.ite ((Fr.trans (Fr.refl _ _) (State.setPath_frame (Within.of rfl hm)))) ((Fr.ite ((Fr.trans (Fr.refl _ _)
    (State.putCtxCmd_frame (Within.of rfl hm)))) ((Fr.ite ((Fr.trans (Fr.refl _ _) (State.putMemCtx_frame (Within.of rfl hm))))
    ((Fr.trans (Fr.refl _ _) (State.storePol_frame (Within.of rfl hm)))))))))

theorem State.putProof_frame {m : Nat} (hm : Within 137975824660 m) {s : State} {a1 : Path} {a2 : ℕ} {a3 : Word} :
    Fr m s (State.putProof s a1 a2 a3) := by
  delta State.putProof
  exact (Fr.ite ((Fr.ite ((Fr.trans ((Fr.ite ((Fr.trans (Fr.refl _ _) (State.reseed_frame (Within.of rfl hm)))) (Fr.refl _ _)))
    (State.relearn_frame (Within.of rfl hm)))) ((Fr.ite ((Fr.trans (Fr.refl _ _) (State.reseed_frame (Within.of rfl hm))))
    (Fr.refl _ _))))) ((Fr.trans (Fr.refl _ _) (State.storePol_frame (Within.of rfl hm)))))

theorem State.modStation_frame {m : Nat} (hm : Within 8589934592 m) {s : State} {a1 : Station → Station} :
    Fr m s (State.modStation s a1) := by
  delta State.modStation
  exact (Fr.set_mgmt (Within.of rfl hm) (Fr.refl _ _))

theorem State.putMgmt_frame {m : Nat} (hm : Within 8589934608 m) {s : State} {a1 : ℕ} {a2 : Word} :
    Fr m s (State.putMgmt s a1 a2) := by
  delta State.putMgmt
  exact (Fr.ite ((Fr.set_mgmt (Within.of rfl hm) (Fr.refl _ _))) ((Fr.ite ((Fr.trans ((Fr.trans (Fr.refl _ _)
    (State.modStation_frame (Within.of rfl hm)))) (State.judgeRelay_frame (Within.of rfl hm)))) ((Fr.ite ((Fr.trans (Fr.refl _ _)
    (State.modStation_frame (Within.of rfl hm)))) ((Fr.trans (Fr.refl _ _) (State.storePol_frame (Within.of rfl hm)))))))))

theorem State.ctlRegWrite_frame {m : Nat} (hm : Within 274877906940 m) {s : State} {a1 : Path} {a2 : Word} :
    Fr m s (State.ctlRegWrite s a1 a2) := by
  delta State.ctlRegWrite
  exact (Fr.ite ((Fr.trans ((Fr.trans (Fr.refl _ _) (State.ctlWrite_frame (Within.of rfl hm)))) (State.resetWrite_frame
    (Within.of rfl hm)))) ((Fr.trans (Fr.refl _ _) (State.ctlWrite_frame (Within.of rfl hm)))))

theorem State.levelWrite_frame {m : Nat} (hm : Within 800 m) {a0 : Path} {a1 : ℕ} {a2 : Word} {s : State} {a4 : URef} :
    Fr m s (State.levelWrite a0 a1 a2 s a4) := by
  delta State.levelWrite
  exact (by (try dsimp only); split; exacts [(Fr.ite ((Fr.trans (Fr.refl _ _) (State.modTray_frame (Within.of rfl hm)))) ((Fr.ite
    ((Fr.trans (Fr.refl _ _) (State.modTray_frame (Within.of rfl hm)))) ((Fr.ite ((Fr.ite ((Fr.trans ((Fr.ite ((Fr.trans (Fr.refl
    _ _) (State.stripTray_frame (Within.of rfl hm)))) (Fr.refl _ _))) (State.relockUnit_frame (Within.of rfl hm)))) ((Fr.ite
    ((Fr.trans (Fr.refl _ _) (State.stripTray_frame (Within.of rfl hm)))) (Fr.refl _ _))))) ((Fr.ite ((Fr.trans (Fr.refl _ _)
    (State.setPath_frame (Within.of rfl hm)))) (Fr.refl _ _)))))))), (Fr.ite ((Fr.trans (Fr.refl _ _) (State.modCluster_frame
    (Within.of rfl hm)))) (Fr.refl _ _)), (Fr.refl _ _)])

theorem State.windowWrite_frame {m : Nat} (hm : Within 274877906940 m) {s : State} {a1 : Path} {a2 : ℕ} {a3 : Word} :
    Fr m s (State.windowWrite s a1 a2 a3) := by
  delta State.windowWrite
  exact (Fr.ite ((Fr.trans (Fr.refl _ _) (State.ctlRegWrite_frame (Within.of rfl hm)))) ((Fr.ite ((Fr.trans (Fr.refl _ _)
    (State.mapField_frame (Within.of rfl hm)))) ((Fr.ite ((Fr.trans (Fr.refl _ _) (State.vfField_frame (Within.of rfl hm))))
    ((Fr.ite ((Fr.trans (Fr.refl _ _) (State.narrowWrite_frame (Within.of rfl hm) (fun _ _ => (Fr.trans (Fr.refl _ _)
    (State.missUnit_frame (Within.of rfl hm)))) (fun _ _ => (Fr.trans (Fr.refl _ _) (State.missPid_frame (Within.of rfl hm)))))))
    ((Fr.ite ((Fr.trans (Fr.refl _ _) (State.ownerField_frame (Within.of rfl hm)))) ((Fr.trans (Fr.refl _ _)
    (State.narrowWrite_frame (Within.of rfl hm) (fun _ _ => (Fr.trans (Fr.refl _ _) (State.levelWrite_frame (Within.of rfl hm))))
    (fun _ _ => Fr.refl _ _)))))))))))))

theorem State.putUnit_frame {m : Nat} (hm : Within 274877906940 m) {s : State} {a1 : Path} {a2 : ℕ} {a3 : Word} :
    Fr m s (State.putUnit s a1 a2 a3) := by
  delta State.putUnit
  exact (Fr.ite ((Fr.trans (Fr.refl _ _) (State.after_frame (Within.of rfl hm) (OutFr.trans (Fr.refl _ _) (execUnitSelWrite_frame
    (Within.of rfl hm)))))) ((Fr.ite ((Fr.trans (Fr.refl _ _) (State.after_frame (Within.of rfl hm) (OutFr.trans (Fr.refl _ _)
    (execUnitSelModeWrite_frame (Within.of rfl hm)))))) ((Fr.ite ((Fr.trans (Fr.refl _ _) (State.windowed_frame (Within.of rfl
    hm) (fun _ => (Fr.trans (Fr.refl _ _) (State.windowWrite_frame (Within.of rfl hm))))))) (Fr.refl _ _))))))

theorem State.putReg_frame {m : Nat} (hm : Within 274877906940 m) {s : State} {a1 : Path} {a2 : ℕ} {a3 : Word} :
    Fr m s (State.putReg s a1 a2 a3) := by
  delta State.putReg
  exact (Fr.ite ((Fr.trans (Fr.refl _ _) (State.putMod_frame (Within.of rfl hm)))) ((Fr.ite ((Fr.trans (Fr.refl _ _)
    (State.putGov_frame (Within.of rfl hm)))) ((Fr.ite ((Fr.trans (Fr.refl _ _) (State.putTime_frame (Within.of rfl hm))))
    ((Fr.ite ((Fr.trans (Fr.refl _ _) (State.putCs_frame (Within.of rfl hm)))) ((Fr.ite ((Fr.trans (Fr.refl _ _)
    (State.putSteer_frame (Within.of rfl hm)))) ((Fr.ite ((Fr.trans (Fr.refl _ _) (State.putFab_frame (Within.of rfl hm))))
    ((Fr.ite ((Fr.trans (Fr.refl _ _) (State.putHost_frame (Within.of rfl hm)))) ((Fr.ite ((Fr.trans (Fr.refl _ _)
    (State.putLight_frame (Within.of rfl hm)))) ((Fr.ite ((Fr.trans (Fr.refl _ _) (State.putFw_frame (Within.of rfl hm))))
    ((Fr.ite ((Fr.trans (Fr.refl _ _) (State.putMem_frame (Within.of rfl hm)))) ((Fr.ite ((Fr.trans (Fr.refl _ _)
    (State.putProof_frame (Within.of rfl hm)))) ((Fr.ite ((Fr.trans (Fr.refl _ _) (State.putMgmt_frame (Within.of rfl hm))))
    ((Fr.trans (Fr.refl _ _) (State.putUnit_frame (Within.of rfl hm)))))))))))))))))))))))))))

theorem State.putWide_frame {m : Nat} (hm : Within 36077608 m) {s : State} {a1 : Path} {a2 : ℕ} {a3 : BitVec 64} :
    Fr m s (State.putWide s a1 a2 a3) := by
  delta State.putWide
  exact (Fr.ite ((Fr.trans (Fr.refl _ _) (State.setPath_frame (Within.of rfl hm)))) ((Fr.ite ((Fr.trans (Fr.refl _ _)
    (State.setPath_frame (Within.of rfl hm)))) ((Fr.ite ((Fr.ite (Fr.refl _ _) ((Fr.trans (Fr.refl _ _) (State.setRing_frame
    (Within.of rfl hm)))))) ((Fr.ite ((Fr.trans (Fr.refl _ _) (State.statusSet_frame (Within.of rfl hm)))) ((Fr.ite ((Fr.trans
    (Fr.refl _ _) (State.setCtx_frame (Within.of rfl hm)))) (Fr.refl _ _))))))))))

theorem State.lowWrite_frame {m : Nat} (hm : Within 32 m) {s : State} {a1 : Path} {a2 : ℕ} {a3 : Word} :
    Fr m s (State.lowWrite s a1 a2 a3) := by
  delta State.lowWrite
  exact (Fr.trans (Fr.refl _ _) (State.setPath_frame (Within.of rfl hm)))

theorem State.highWrite_frame {m : Nat} (hm : Within 36077608 m) {s : State} {a1 : Path} {a2 : ℕ} {a3 : Word} :
    Fr m s (State.highWrite s a1 a2 a3) := by
  delta State.highWrite
  exact (by (try dsimp only); split; exacts [(Fr.trans ((Fr.trans (Fr.refl _ _) (State.setPath_frame (Within.of rfl hm))))
    (State.putWide_frame (Within.of rfl hm))), (Fr.refl _ _)])

theorem State.writeReg_frame {m : Nat} (hm : Within 274877906940 m) {s : State} {a1 : Path} {a2 : ℕ} {a3 : Word} :
    Fr m s (State.writeReg s a1 a2 a3) := by
  delta State.writeReg
  exact (Fr.ite (Fr.refl _ _) ((Fr.ite ((Fr.trans (Fr.refl _ _) (State.lowWrite_frame (Within.of rfl hm)))) ((Fr.ite ((Fr.trans
    (Fr.refl _ _) (State.highWrite_frame (Within.of rfl hm)))) ((Fr.trans (Fr.refl _ _) (State.putReg_frame (Within.of rfl
    hm)))))))))

theorem State.writeRegs_frame {m : Nat} (hm : Within 274877906940 m) {s : State} {p : Path} {a : Nat} {l : List Word} :
    Fr m s (s.writeRegs p a l) := by
  induction l generalizing s a with
  | nil => exact Fr.refl _ _
  | cons v l ih => exact (State.writeReg_frame (Within.of rfl hm)).trans ih

theorem execRegWrite_frame {m : Nat} (hm : Within 274877906940 m) {a0 : Path} {a1 : CsrAddr} {a2 : Word} {s : State} :
    OutFr m s (execRegWrite a0 a1 a2 s) := by
  delta execRegWrite
  exact OutFr.next ((Fr.trans (Fr.refl _ _) (State.writeReg_frame (Within.of rfl hm))))

theorem execWideLowRead_frame {m : Nat} (hm : Within 808 m) {a0 : Path} {a1 : CsrAddr} {s : State} :
    OutFr m s (execWideLowRead a0 a1 s) := by
  delta execWideLowRead
  exact OutFr.next ((Fr.ite ((Fr.trans (Fr.refl _ _) (State.readSent_frame (Within.of rfl hm)))) (Fr.refl _ _)))

theorem execWideHighRead_frame {m : Nat} (hm : Within 808 m) {a0 : Path} {a1 : CsrAddr} {s : State} :
    OutFr m s (execWideHighRead a0 a1 s) := by
  delta execWideHighRead
  exact OutFr.next ((Fr.ite ((Fr.trans (Fr.refl _ _) (State.readSent_frame (Within.of rfl hm)))) (Fr.refl _ _)))

theorem execWideLowWrite_frame {m : Nat} (hm : Within 32 m) {a0 : Path} {a1 : CsrAddr} {a2 : Word} {s : State} :
    OutFr m s (execWideLowWrite a0 a1 a2 s) := by
  delta execWideLowWrite
  exact OutFr.next ((Fr.ite ((Fr.trans (Fr.refl _ _) (State.lowWrite_frame (Within.of rfl hm)))) (Fr.refl _ _)))

theorem execWideHighWrite_frame {m : Nat} (hm : Within 36077608 m) {a0 : Path} {a1 : CsrAddr} {a2 : Word} {s : State} :
    OutFr m s (execWideHighWrite a0 a1 a2 s) := by
  delta execWideHighWrite
  exact OutFr.next ((Fr.ite ((Fr.trans (Fr.refl _ _) (State.highWrite_frame (Within.of rfl hm)))) (Fr.refl _ _)))

theorem State.redo_frame {m : Nat} (hm : Within 274877906940 m) {s : State} {a1 : Instr} :
    Fr m s (State.redo s a1) := by
  delta State.redo
  exact (by (try dsimp only); split; exacts [(Fr.trans (Fr.refl _ _) (State.behind_frame (Within.of rfl hm) (fun _ => (Fr.trans
    (Fr.refl _ _) (State.selWrite_frame (Within.of rfl hm)))))), (Fr.trans (Fr.refl _ _) (State.behind_frame (Within.of rfl hm)
    (fun _ => (Fr.trans (Fr.refl _ _) (State.selModeWrite_frame (Within.of rfl hm)))))), (Fr.trans (Fr.refl _ _)
    (State.behind_frame (Within.of rfl hm) (fun _ => (Fr.trans (Fr.refl _ _) (State.holdBit_frame (Within.of rfl hm)))))),
    (Fr.trans (Fr.refl _ _) (State.behind_frame (Within.of rfl hm) (fun _ => (Fr.trans (Fr.refl _ _) (State.fenceBit_frame
    (Within.of rfl hm)))))), (Fr.trans (Fr.refl _ _) (State.behind_frame (Within.of rfl hm) (fun _ => (Fr.trans (Fr.refl _ _)
    (State.drainBit_frame (Within.of rfl hm)))))), (Fr.trans (Fr.refl _ _) (State.behind_frame (Within.of rfl hm) (fun _ =>
    (Fr.trans (Fr.refl _ _) (State.enableBit_frame (Within.of rfl hm)))))), (Fr.trans (Fr.refl _ _) (State.behind_frame
    (Within.of rfl hm) (fun _ => (Fr.trans (Fr.refl _ _) (State.resetWrite_frame (Within.of rfl hm)))))), (Fr.trans (Fr.refl _ _)
    (State.behind_frame (Within.of rfl hm) (fun _ => (Fr.trans (Fr.refl _ _) (State.mapField_frame (Within.of rfl hm)))))),
    (Fr.trans (Fr.refl _ _) (State.behind_frame (Within.of rfl hm) (fun _ => (Fr.trans (Fr.refl _ _) (State.vfField_frame
    (Within.of rfl hm)))))), (Fr.trans (Fr.refl _ _) (State.behind_frame (Within.of rfl hm) (fun _ => (Fr.trans (Fr.refl _ _)
    (State.ownerField_frame (Within.of rfl hm)))))), (Fr.trans (Fr.refl _ _) (State.behind_frame (Within.of rfl hm) (fun _ =>
    (Fr.trans (Fr.refl _ _) (State.stripField_frame (Within.of rfl hm)))))), (Fr.trans (Fr.refl _ _) (State.behind_frame
    (Within.of rfl hm) (fun _ => (Fr.trans (Fr.refl _ _) (State.relockField_frame (Within.of rfl hm)))))), (Fr.trans (Fr.refl _
    _) (State.behind_frame (Within.of rfl hm) (fun _ => (Fr.trans (Fr.refl _ _) (State.windowWrite_frame (Within.of rfl hm)))))),
    (Fr.refl _ _)])

theorem State.delivered_frame {m : Nat} (hm : Within 274877906940 m) {s : State} {a1 : Path} :
    Fr m s (State.delivered s a1) := by
  delta State.delivered
  exact (Fr.ite ((Fr.trans ((Fr.trans (Fr.refl _ _) (State.setPath_frame (Within.of rfl hm)))) (Fr.foldl (fun _ _ =>
    (by dsimp only; exact (Fr.trans (Fr.refl _ _) (State.redo_frame (Within.of rfl hm)))))))) (Fr.refl _ _))

theorem execWildcardDelivered_frame {m : Nat} (hm : Within 274877906940 m) {a0 : Path} {s : State} :
    OutFr m s (execWildcardDelivered a0 s) := by
  delta execWildcardDelivered
  exact OutFr.next ((Fr.trans (Fr.refl _ _) (State.delivered_frame (Within.of rfl hm))))

theorem State.recordDone_frame {m : Nat} (hm : Within 13555990536 m) {s : State} :
    Fr m s (State.recordDone s) := by
  delta State.recordDone
  exact (Fr.trans ((Fr.set_mod (Within.of rfl hm) (Fr.refl _ _))) (State.nextRecord_frame (Within.of rfl hm)))

theorem execRecordWrite_frame {m : Nat} (hm : Within 274877906940 m) {s : State} :
    OutFr m s (execRecordWrite s) := by
  delta execRecordWrite
  exact OutFr.next ((by (try dsimp only); split; exacts [(Fr.trans ((Fr.trans (Fr.refl _ _) (State.writeReg_frame (Within.of rfl
    hm)))) (State.recordDone_frame (Within.of rfl hm))), (Fr.refl _ _)]))

theorem State.recordMod_frame {m : Nat} (hm : Within 274877906940 m) {s : State} {a1 : Rec} :
    Fr m s (State.recordMod s a1) := by
  delta State.recordMod
  exact (Fr.trans ((Fr.trans (Fr.refl _ _) (State.readReg_frame (Within.of rfl hm)))) (State.writeReg_frame (Within.of rfl hm)))

theorem execRecordModify_frame {m : Nat} (hm : Within 274877906940 m) {s : State} :
    OutFr m s (execRecordModify s) := by
  delta execRecordModify
  exact OutFr.next ((by (try dsimp only); split; exacts [(Fr.trans ((Fr.trans (Fr.refl _ _) (State.recordMod_frame (Within.of rfl
    hm)))) (State.recordDone_frame (Within.of rfl hm))), (Fr.refl _ _)]))

theorem State.recordRead_frame {m : Nat} (hm : Within 13555991336 m) {s : State} {a1 : Rec} :
    Fr m s (State.recordRead s a1) := by
  delta State.recordRead
  exact (Fr.ite ((Fr.trans ((Fr.trans (Fr.refl _ _) (State.readReg_frame (Within.of rfl hm)))) (State.recordDone_frame (Within.of
    rfl hm)))) ((Fr.trans (Fr.refl _ _) (State.readReg_frame (Within.of rfl hm)))))

theorem execRecordPoll_frame {m : Nat} (hm : Within 13555991336 m) {s : State} :
    OutFr m s (execRecordPoll s) := by
  delta execRecordPoll
  exact OutFr.next ((by (try dsimp only); split; exacts [(Fr.trans (Fr.refl _ _) (State.recordRead_frame (Within.of rfl hm))),
    (Fr.refl _ _)]))

theorem execRecordPollTimeout_frame {m : Nat} (hm : Within 13555990536 m) {s : State} :
    OutFr m s (execRecordPollTimeout s) := by
  delta execRecordPollTimeout
  exact OutFr.next ((Fr.ite ((Fr.trans (Fr.refl _ _) (State.halt_frame (Within.of rfl hm)))) (Fr.refl _ _)))

theorem execRecordDelay_frame {m : Nat} (hm : Within 536870912 m) {s : State} :
    OutFr m s (execRecordDelay s) := by
  delta execRecordDelay
  exact OutFr.next ((Fr.ite ((Fr.set_mod (Within.of rfl hm) (Fr.refl _ _))) (Fr.refl _ _)))

theorem execRecordDelayEnd_frame {m : Nat} (hm : Within 13555990536 m) {s : State} :
    OutFr m s (execRecordDelayEnd s) := by
  delta execRecordDelayEnd
  exact OutFr.next ((Fr.ite ((Fr.trans (Fr.refl _ _) (State.recordDone_frame (Within.of rfl hm)))) (Fr.refl _ _)))

theorem execCsrRead_frame {m : Nat} (hm : Within 8589935400 m) {a0 : HmpHead} {a1 : CsrAddr} {a2 : BitVec 8} {s : State} :
    OutFr m s (execCsrRead a0 a1 a2 s) := by
  delta execCsrRead
  exact OutFr.next ((Fr.trans (Fr.refl _ _) (State.onAuth_frame (Within.of rfl hm) (fun _ _ _ => (Fr.ite ((Fr.trans (Fr.refl _ _)
    (State.mpDrop_frame (Within.of rfl hm)))) ((Fr.trans ((Fr.trans (Fr.refl _ _) (State.readRegs_frame (Within.of rfl hm))))
    (State.reply_frame (Within.of rfl hm)))))))))

theorem execCsrWrite_frame {m : Nat} (hm : Within 274877906940 m) {a0 : HmpHead} {a1 : CsrAddr} {a2 : List Word} {s : State} :
    OutFr m s (execCsrWrite a0 a1 a2 s) := by
  delta execCsrWrite
  exact OutFr.next ((Fr.trans (Fr.refl _ _) (State.onAuth_frame (Within.of rfl hm) (fun _ _ _ => (Fr.ite ((Fr.trans (Fr.refl _ _)
    (State.mpDrop_frame (Within.of rfl hm)))) ((Fr.trans ((Fr.trans (Fr.refl _ _) (State.writeRegs_frame (Within.of rfl hm))))
    (State.reply_frame (Within.of rfl hm)))))))))

theorem State.ceMark_frame {m : Nat} (hm : Within 8388620 m) {s : State} {a1 : ℕ} {a2 : Bool} :
    Fr m s (State.ceMark s a1 a2) := by
  delta State.ceMark
  exact (Fr.ite ((Fr.trans ((Fr.trans ((Fr.trans (Fr.refl _ _) (State.setQp_frame (Within.of rfl hm)))) (State.setHport_frame
    (Within.of rfl hm)))) (State.roce_frame (Within.of rfl hm)))) (Fr.refl _ _))

theorem State.pfcOut_frame {m : Nat} (hm : Within 8388616 m) {s : State} {a1 : BitVec 1} {a2 : ℕ} :
    Fr m s (State.pfcOut s a1 a2) := by
  delta State.pfcOut
  exact (Fr.ite ((Fr.trans ((Fr.trans (Fr.refl _ _) (State.setHport_frame (Within.of rfl hm)))) (State.send_frame (Within.of rfl
    hm)))) ((Fr.ite ((Fr.trans ((Fr.trans (Fr.refl _ _) (State.setHport_frame (Within.of rfl hm)))) (State.send_frame (Within.of
    rfl hm)))) (Fr.refl _ _))))

theorem State.nak_frame {m : Nat} (hm : Within 13027508236 m) {s : State} {a1 : ℕ} {a2 : BitVec 24} {a3 : Byte} :
    Fr m s (State.nak s a1 a2 a3) := by
  delta State.nak
  exact (Fr.trans ((Fr.trans (Fr.refl _ _) (State.roce_frame (Within.of rfl hm)))) (State.qpError_frame (Within.of rfl hm)))

theorem State.hostRequest_frame {m : Nat} (hm : Within 8598323212 m) {s : State} {a1 : RoceHead} {a2 : ℕ} {a3 : State → ℕ →
  State} {a4 : State → ℕ → State} (h3 : ∀ v0 v1, Fr m v0 (a3 v0 v1)) (h4 : ∀ v0 v1, Fr m v0 (a4 v0 v1)) :
    Fr m s (State.hostRequest s a1 a2 a3 a4) := by
  delta State.hostRequest
  exact (by (try dsimp only); split; exacts [(Fr.trans ((Fr.trans ((Fr.trans (Fr.refl _ _) (State.frameIn_frame (Within.of rfl
    hm)))) (State.pfcOut_frame (Within.of rfl hm)))) (State.dropFrame_frame (Within.of rfl hm))), (Fr.ite ((Fr.trans ((Fr.trans
    (Fr.refl _ _) (State.frameIn_frame (Within.of rfl hm)))) (State.pfcOut_frame (Within.of rfl hm)))) ((Fr.ite ((Fr.trans
    ((Fr.trans ((Fr.trans ((Fr.trans ((Fr.trans (Fr.refl _ _) (State.frameIn_frame (Within.of rfl hm)))) (State.pfcOut_frame
    (Within.of rfl hm)))) (State.ceMark_frame (Within.of rfl hm)))) (State.modQp_frame (Within.of rfl hm)))) (h4 _ _))) ((Fr.ite
    ((Fr.trans ((Fr.trans ((Fr.trans ((Fr.trans (Fr.refl _ _) (State.frameIn_frame (Within.of rfl hm)))) (State.pfcOut_frame
    (Within.of rfl hm)))) (State.ceMark_frame (Within.of rfl hm)))) (State.roce_frame (Within.of rfl hm)))) ((Fr.trans ((Fr.trans
    ((Fr.trans ((Fr.trans (Fr.refl _ _) (State.frameIn_frame (Within.of rfl hm)))) (State.pfcOut_frame (Within.of rfl hm))))
    (State.ceMark_frame (Within.of rfl hm)))) (h3 _ _))))))))])

theorem State.authWrite_frame {m : Nat} (hm : Within 8388608 m) {s : State} {a1 : BitVec 4} {a2 : ℕ} {a3 : Word} :
    Fr m s (State.authWrite s a1 a2 a3) := by
  delta State.authWrite
  exact (Fr.ite ((Fr.trans (Fr.refl _ _) (State.modQp_frame (Within.of rfl hm)))) ((Fr.ite ((Fr.trans (Fr.refl _ _)
    (State.modQp_frame (Within.of rfl hm)))) ((Fr.ite ((Fr.trans (Fr.refl _ _) (State.authStart_frame (Within.of rfl hm))))
    (Fr.refl _ _))))))

theorem State.authWrites_frame {m : Nat} (hm : Within 8388608 m) {s : State} {a : BitVec 4} {o : Nat} {l : List Word} :
    Fr m s (s.authWrites a o l) := by
  induction l generalizing s o with
  | nil => exact Fr.refl _ _
  | cons v l ih => exact (State.authWrite_frame (Within.of rfl hm)).trans ih

theorem State.acknowledge_frame {m : Nat} (hm : Within 8388620 m) {s : State} {a1 : ℕ} {a2 : BitVec 24} :
    Fr m s (State.acknowledge s a1 a2) := by
  delta State.acknowledge
  exact (Fr.ite ((Fr.trans (Fr.refl _ _) (State.modQp_frame (Within.of rfl hm)))) ((Fr.trans (Fr.refl _ _) (State.roce_frame
    (Within.of rfl hm)))))

theorem State.wrote_frame {m : Nat} (hm : Within 8388620 m) {s : State} {a1 : ℕ} {a2 : BitVec 24} {a3 : WriteRun} {a4 : ℕ} {a5 :
  Bool} :
    Fr m s (State.wrote s a1 a2 a3 a4 a5) := by
  delta State.wrote
  exact (Fr.ite (Fr.refl _ _) ((Fr.ite ((Fr.trans ((Fr.trans (Fr.refl _ _) (State.modQp_frame (Within.of rfl hm))))
    (State.acknowledge_frame (Within.of rfl hm)))) ((Fr.trans (Fr.refl _ _) (State.modQp_frame (Within.of rfl hm)))))))

theorem State.rdmaPut_frame {m : Nat} (hm : Within 274877906940 m) {s : State} {a1 : ℕ} {a2 : BitVec 24} {a3 : WritePkt} {a4 :
  Word} {a5 : ℕ} {a6 : List Byte} {a7 : List MemErr} :
    Fr m s (State.rdmaPut s a1 a2 a3 a4 a5 a6 a7) := by
  delta State.rdmaPut
  exact (by (try dsimp only); split; exacts [(Fr.trans (Fr.refl _ _) (State.nak_frame (Within.of rfl hm))),
    (by (try dsimp only); split; exacts [(Fr.trans (Fr.refl _ _) (State.nak_frame (Within.of rfl hm))),
    (by (try dsimp only); split; exacts [(Fr.trans ((Fr.trans (Fr.refl _ _) (State.meet_frame (Within.of rfl hm))))
    (State.nak_frame (Within.of rfl hm))), (Fr.trans ((Fr.trans ((Fr.trans (Fr.refl _ _) (State.meet_frame (Within.of rfl hm))))
    (State.devWritePart_frame (Within.of rfl hm)))) (State.nak_frame (Within.of rfl hm))), (Fr.trans ((Fr.trans ((Fr.trans
    (Fr.refl _ _) (State.meet_frame (Within.of rfl hm)))) (State.devWritePart_frame (Within.of rfl hm)))) (State.wrote_frame
    (Within.of rfl hm)))]), (Fr.trans ((Fr.trans (Fr.refl _ _) (State.authWrites_frame (Within.of rfl hm)))) (State.wrote_frame
    (Within.of rfl hm))), (Fr.trans ((Fr.trans (Fr.refl _ _) (State.writeRegs_frame (Within.of rfl hm)))) (State.wrote_frame
    (Within.of rfl hm))), (Fr.trans ((Fr.trans (Fr.refl _ _) (State.writeRegs_frame (Within.of rfl hm)))) (State.wrote_frame
    (Within.of rfl hm)))])])

theorem State.answered_frame {m : Nat} (hm : Within 8388620 m) {s : State} {a1 : ℕ} {a2 : BitVec 24} {a3 : List Byte} :
    Fr m s (State.answered s a1 a2 a3) := by
  delta State.answered
  exact (Fr.trans (Fr.refl _ _) (Fr.foldl (fun _ _ => (Fr.trans (Fr.refl _ _) (State.roce_frame (Within.of rfl hm))))))

theorem State.stall_frame {m : Nat} (hm : Within 8388608 m) {s : State} {a1 : ℕ} {a2 : Instr} :
    Fr m s (State.stall s a1 a2) := by
  delta State.stall
  exact (Fr.trans (Fr.refl _ _) (State.modQp_frame (Within.of rfl hm)))

theorem State.rdmaGet_frame {m : Nat} (hm : Within 13063291692 m) {s : State} {a1 : ℕ} {a2 : BitVec 24} {a3 : Word} {a4 : ℕ} {a5
  : ℕ} {a6 : List (BitVec 16 × Bool)} {a7 : List MemErr} {a8 : Instr} :
    Fr m s (State.rdmaGet s a1 a2 a3 a4 a5 a6 a7 a8) := by
  delta State.rdmaGet
  exact (Fr.ite ((Fr.trans (Fr.refl _ _) (State.nak_frame (Within.of rfl hm)))) ((by (try dsimp only); split; exacts [(Fr.trans
    (Fr.refl _ _) (State.nak_frame (Within.of rfl hm))), (Fr.ite ((Fr.trans (Fr.refl _ _) (State.stall_frame (Within.of rfl
    hm)))) ((Fr.ite ((Fr.trans ((Fr.trans (Fr.refl _ _) (State.meet_frame (Within.of rfl hm)))) (State.nak_frame (Within.of rfl
    hm)))) ((Fr.trans ((Fr.trans ((Fr.trans (Fr.refl _ _) (State.meet_frame (Within.of rfl hm)))) (State.devTouch_frame
    (Within.of rfl hm)))) (State.answered_frame (Within.of rfl hm))))))), (Fr.trans (Fr.refl _ _) (State.answered_frame
    (Within.of rfl hm))), (Fr.trans ((Fr.trans (Fr.refl _ _) (State.readRegs_frame (Within.of rfl hm)))) (State.answered_frame
    (Within.of rfl hm))), (Fr.trans ((Fr.trans (Fr.refl _ _) (State.readRegs_frame (Within.of rfl hm)))) (State.answered_frame
    (Within.of rfl hm)))])))

theorem State.inTurn_frame {m : Nat} (hm : Within 274877906940 m) {s : State} {a1 : ℕ} {a2 : Instr} :
    Fr m s (State.inTurn s a1 a2) := by
  delta State.inTurn
  exact (Fr.ite (Fr.refl _ _) ((Fr.ite ((Fr.trans (Fr.refl _ _) (State.stall_frame (Within.of rfl hm))))
    ((by (try dsimp only); split; exacts [(Fr.trans (Fr.refl _ _) (State.rdmaPut_frame (Within.of rfl hm))), (Fr.trans (Fr.refl _
    _) (State.rdmaGet_frame (Within.of rfl hm))), (Fr.refl _ _)])))))

theorem State.ackAgain_frame {m : Nat} (hm : Within 8388620 m) {s : State} {a1 : ℕ} {a2 : BitVec 24} :
    Fr m s (State.ackAgain s a1 a2) := by
  delta State.ackAgain
  exact (Fr.ite (Fr.refl _ _) ((Fr.trans (Fr.refl _ _) (State.roce_frame (Within.of rfl hm)))))

theorem execRdmaWrite_frame {m : Nat} (hm : Within 274877906940 m) {a0 : RoceHead} {a1 : WritePkt} {a2 : Word} {a3 : BitVec 64}
  {a4 : List Byte} {a5 : List MemErr} {s : State} :
    OutFr m s (execRdmaWrite a0 a1 a2 a3 a4 a5 s) := by
  delta execRdmaWrite
  exact OutFr.next ((Fr.trans (Fr.refl _ _) (State.hostRequest_frame (Within.of rfl hm) (fun _ _ => (Fr.trans (Fr.refl _ _)
    (State.ackAgain_frame (Within.of rfl hm)))) (fun _ _ => (Fr.trans (Fr.refl _ _) (State.inTurn_frame (Within.of rfl hm)))))))

theorem State.readIn_frame {m : Nat} (hm : Within 274877906940 m) {s : State} {a1 : ℕ} {a2 : BitVec 24} {a3 : Instr} :
    Fr m s (State.readIn s a1 a2 a3) := by
  delta State.readIn
  exact (Fr.ite ((Fr.trans (Fr.refl _ _) (State.nak_frame (Within.of rfl hm)))) ((Fr.trans (Fr.refl _ _) (State.inTurn_frame
    (Within.of rfl hm)))))

theorem execRdmaRead_frame {m : Nat} (hm : Within 274877906940 m) {a0 : RoceHead} {a1 : Word} {a2 : BitVec 64} {a3 : BitVec 32}
  {a4 : List MemErr} {a5 : List (BitVec 16 × Bool)} {s : State} :
    OutFr m s (execRdmaRead a0 a1 a2 a3 a4 a5 s) := by
  delta execRdmaRead
  exact OutFr.next ((Fr.trans (Fr.refl _ _) (State.hostRequest_frame (Within.of rfl hm) (fun _ _ => (Fr.trans (Fr.refl _ _)
    (State.readIn_frame (Within.of rfl hm)))) (fun _ _ => (Fr.trans (Fr.refl _ _) (State.readIn_frame (Within.of rfl hm)))))))

theorem State.hostOver_frame {m : Nat} (hm : Within 274877906940 m) {s : State} {a1 : ℕ} :
    Fr m s (State.hostOver s a1) := by
  delta State.hostOver
  exact (Fr.ite (Fr.refl _ _) ((Fr.trans ((by (try dsimp only); split; exacts [(Fr.trans ((Fr.trans (Fr.refl _ _)
    (State.modQp_frame (Within.of rfl hm)))) (State.roce_frame (Within.of rfl hm))), (Fr.trans (Fr.refl _ _) (State.modQp_frame
    (Within.of rfl hm)))])) (Fr.foldl (fun _ _ => (Fr.trans (Fr.refl _ _) (State.inTurn_frame (Within.of rfl hm))))))))

theorem State.windowOver_frame {m : Nat} (hm : Within 274877906940 m) {s : State} {a1 : ℕ} {a2 : BitVec 8} :
    Fr m s (State.windowOver s a1 a2) := by
  delta State.windowOver
  exact (Fr.ite (Fr.refl _ _) ((Fr.trans ((Fr.trans ((Fr.trans (Fr.refl _ _) (State.trainEnd_frame (Within.of rfl hm))))
    (State.heldOver_frame (Within.of rfl hm)))) (Fr.foldl (fun _ _ => (Fr.trans (Fr.refl _ _) (State.hostOver_frame (Within.of
    rfl hm))))))))

theorem execRetrainEnd_frame {m : Nat} (hm : Within 274877906940 m) {a0 : BitVec 4} {a1 : BitVec 8} {s : State} :
    OutFr m s (execRetrainEnd a0 a1 s) := by
  delta execRetrainEnd
  exact OutFr.next ((Fr.trans (Fr.refl _ _) (State.windowOver_frame (Within.of rfl hm))))

end Sys2Proof.Machine
end

