-- ==== Sys2Proof/Laws/FrameIdle.lean ====
section
/-! SUPPORT. The frame of every operation of Machine/Idle: the parts of the state that it can change. -/

set_option Elab.async false
set_option linter.unusedTactic false

namespace Sys2Proof.Machine
open Sys2Proof.Safety

theorem tick_frame {m : Nat} (hm : Within 1073741824 m) {s : State} {a1 : ℕ} :
    Fr m s (tick s a1) := by
  delta tick
  exact (Fr.set_time (Within.of rfl hm) (Fr.refl _ _))

theorem State.hitlessGo_frame {m : Nat} (hm : Within 2147485440 m) {s : State} :
    Fr m s (State.hitlessGo s) := by
  delta State.hitlessGo
  exact (Fr.ite ((Fr.trans (Fr.refl _ _) (State.hitlessSite_frame (Within.of rfl hm)))) (Fr.refl _ _))

theorem idle_frame {m : Nat} (hm : Within 16777217800 m) {s : State} :
    Fr m s (idle s) := by
  delta idle
  exact (Fr.ite ((Fr.trans ((Fr.trans ((Fr.trans (Fr.refl _ _) (tick_frame (Within.of rfl hm)))) (State.settleStage_frame
    (Within.of rfl hm)))) (State.hitlessGo_frame (Within.of rfl hm)))) (Fr.refl _ _))

end Sys2Proof.Machine
end

