-- ==== Sys2Proof/Laws/FramePower.lean ====
section
/-! SUPPORT. The frame of every operation of Machine/Power: the parts of the state that it can change. -/

set_option Elab.async false
set_option linter.unusedTactic false

namespace Sys2Proof.Machine
open Sys2Proof.Safety

theorem State.shed_frame {m : Nat} (hm : Within 50591488 m) {s : State} :
    Fr m s (State.shed s) := by
  delta State.shed
  exact (Fr.set_trays_clusters_cores_starts_outst_movers_subs_seqs_memsites_light_fab (Within.of rfl hm) (Fr.refl _
    _) (kx0 := by intro _ e he; obtain ⟨x, -, rfl⟩ := List.mem_map.mp he; exact TraySound.blank) (kx2 := by intro _ e he; cases he) (kx8 := by intro _ e he; obtain ⟨x, -, rfl⟩ := List.mem_map.mp he; exact Memory.wf_nil))

theorem State.failPower_frame {m : Nat} (hm : Within 15015868172 m) {s : State} :
    Fr m s (State.failPower s) := by
  delta State.failPower
  exact (Fr.ite (Fr.refl _ _) ((Fr.trans ((Fr.trans ((Fr.trans ((Fr.trans ((Fr.trans ((Fr.set_mod (Within.of rfl hm) (Fr.refl _
    _))) (State.event_frame (Within.of rfl hm)))) (State.shed_frame (Within.of rfl hm)))) (State.driveBypass_frame (Within.of rfl
    hm)))) (State.persisted_frame (Within.of rfl hm)))) (State.startPersist_frame (Within.of rfl hm)))))

theorem execPowerFailSignal_frame {m : Nat} (hm : Within 15015868172 m) {s : State} :
    OutFr m s (execPowerFailSignal s) := by
  delta execPowerFailSignal
  exact OutFr.next ((Fr.ite ((Fr.trans (Fr.refl _ _) (State.failPower_frame (Within.of rfl hm)))) (Fr.refl _ _)))

theorem State.openLatch_frame {m : Nat} (hm : Within 15015868172 m) {s : State} :
    Fr m s (State.openLatch s) := by
  delta State.openLatch
  exact (Fr.ite ((Fr.set_steer (Within.of rfl hm) (Fr.refl _ _))) ((Fr.ite ((Fr.trans ((Fr.trans ((Fr.set_steer (Within.of rfl
    hm) (Fr.refl _ _))) (State.driveBypass_frame (Within.of rfl hm)))) (State.failPower_frame (Within.of rfl hm)))) ((Fr.trans
    ((Fr.set_steer (Within.of rfl hm) (Fr.refl _ _))) (State.driveBypass_frame (Within.of rfl hm)))))))

theorem execHotSwapLatchRelease_frame {m : Nat} (hm : Within 15015868172 m) {s : State} :
    OutFr m s (execHotSwapLatchRelease s) := by
  delta execHotSwapLatchRelease
  exact OutFr.next ((Fr.trans (Fr.refl _ _) (State.openLatch_frame (Within.of rfl hm))))

theorem State.switchOff_frame {m : Nat} (hm : Within 274877904888 m) {s : State} :
    Fr m s (State.switchOff s) := by
  delta State.switchOff
  exact (Fr.ite (Fr.refl _ _) ((Fr.ite ((Fr.set_mod (Within.of rfl hm) ((Fr.trans ((Fr.set_mod (Within.of rfl hm) ((Fr.trans
    ((Fr.trans (Fr.refl _ _) (State.persisted_frame (Within.of rfl hm)))) (State.rebooted_frame (Within.of rfl hm))))))
    (State.powerOn_frame (Within.of rfl hm)))))) ((Fr.set_mod (Within.of rfl hm) ((Fr.trans ((Fr.trans (Fr.refl _ _)
    (State.persisted_frame (Within.of rfl hm)))) (State.rebooted_frame (Within.of rfl hm)))))))))

theorem execControlOff_frame {m : Nat} (hm : Within 274877904888 m) {s : State} :
    OutFr m s (execControlOff s) := by
  delta execControlOff
  exact OutFr.next ((Fr.trans (Fr.refl _ _) (State.switchOff_frame (Within.of rfl hm))))

theorem State.loseInput_frame {m : Nat} (hm : Within 15015868172 m) {s : State} {a1 : Bool} :
    Fr m s (State.loseInput s a1) := by
  delta State.loseInput
  exact (Fr.ite (Fr.refl _ _) ((Fr.ite ((Fr.ite ((Fr.set_mod (Within.of rfl hm) ((Fr.trans ((Fr.set_mod (Within.of rfl hm)
    (Fr.refl _ _))) (State.draw_frame (Within.of rfl hm)))))) ((Fr.trans ((Fr.set_mod (Within.of rfl hm) (Fr.refl _ _)))
    (State.draw_frame (Within.of rfl hm)))))) ((Fr.ite ((Fr.trans ((Fr.trans ((Fr.trans ((Fr.set_mod (Within.of rfl hm) (Fr.refl
    _ _))) (State.draw_frame (Within.of rfl hm)))) (State.event_frame (Within.of rfl hm)))) (State.failPower_frame (Within.of rfl
    hm)))) ((Fr.trans ((Fr.trans ((Fr.set_mod (Within.of rfl hm) (Fr.refl _ _))) (State.draw_frame (Within.of rfl hm))))
    (State.event_frame (Within.of rfl hm)))))))))

theorem execInputLost_frame {m : Nat} (hm : Within 15015868172 m) {a0 : Bool} {s : State} :
    OutFr m s (execInputLost a0 s) := by
  delta execInputLost
  exact OutFr.next ((Fr.trans (Fr.refl _ _) (State.loseInput_frame (Within.of rfl hm))))

theorem State.regainInput_frame {m : Nat} (hm : Within 536870912 m) {s : State} {a1 : Bool} {a2 : BitVec 12} :
    Fr m s (State.regainInput s a1 a2) := by
  delta State.regainInput
  exact (Fr.ite (Fr.refl _ _) ((Fr.set_mod (Within.of rfl hm) (Fr.refl _ _))))

theorem execInputRegained_frame {m : Nat} (hm : Within 536870912 m) {a0 : Bool} {a1 : BitVec 12} {s : State} :
    OutFr m s (execInputRegained a0 a1 s) := by
  delta execInputRegained
  exact OutFr.next ((Fr.trans (Fr.refl _ _) (State.regainInput_frame (Within.of rfl hm))))

theorem execHoldupDegraded_frame {m : Nat} (hm : Within 13019119624 m) {s : State} :
    OutFr m s (execHoldupDegraded s) := by
  delta execHoldupDegraded
  exact OutFr.next ((Fr.ite ((Fr.trans (Fr.refl _ _) (State.event_frame (Within.of rfl hm)))) (Fr.refl _ _)))

theorem execCoolantAlarm_frame {m : Nat} (hm : Within 13019119624 m) {s : State} :
    OutFr m s (execCoolantAlarm s) := by
  delta execCoolantAlarm
  exact OutFr.next ((Fr.ite ((Fr.trans (Fr.refl _ _) (State.event_frame (Within.of rfl hm)))) (Fr.refl _ _)))

theorem State.trip_frame {m : Nat} (hm : Within 15015868172 m) {s : State} :
    Fr m s (State.trip s) := by
  delta State.trip
  exact (Fr.ite (Fr.refl _ _) ((Fr.trans ((Fr.trans ((Fr.set_mod (Within.of rfl hm) (Fr.refl _ _))) (State.event_frame (Within.of
    rfl hm)))) (State.failPower_frame (Within.of rfl hm)))))

theorem execThermalTrip_frame {m : Nat} (hm : Within 15015868172 m) {s : State} :
    OutFr m s (execThermalTrip s) := by
  delta execThermalTrip
  exact OutFr.next ((Fr.trans (Fr.refl _ _) (State.trip_frame (Within.of rfl hm))))

end Sys2Proof.Machine
end

