-- ==== Sys2Proof/Laws/FrameVector.lean ====
section
/-! SUPPORT. The frame of every operation of Machine/Vector: the parts of the state that it can change. -/

set_option Elab.async false
set_option linter.unusedTactic false

namespace Sys2Proof.Machine
open Sys2Proof.Safety

theorem State.convertBs8Run_frame {m : Nat} (hm : Within 44478220 m) {s : State} {a1 : ℕ} {a2 : ℕ} {a3 : Thread} {a4 : BitVec
  512} :
    Fr m s (State.convertBs8Run s a1 a2 a3 a4) := by
  delta State.convertBs8Run
  exact (Fr.trans (Fr.refl _ _) (State.checked_frame (Within.of rfl hm) (fun _ => (Fr.trans (Fr.refl _ _) (State.produce_frame
    (Within.of rfl hm))))))

theorem execConvertBs8_frame {m : Nat} (hm : Within 44478220 m) {a0 : UnitAddr} {a1 : SlotNo} {s : State} :
    OutFr m s (execConvertBs8 a0 a1 s) := by
  delta execConvertBs8
  exact OutFr.next ((Fr.trans (Fr.refl _ _) (State.descStep_frame (Within.of rfl hm) (fun _ _ _ _ _ => (Fr.trans (Fr.refl _ _)
    (State.convertBs8Run_frame (Within.of rfl hm)))))))

theorem State.convertPlaneRun_frame {m : Nat} (hm : Within 44478220 m) {s : State} {a1 : ℕ} {a2 : ℕ} {a3 : Thread} {a4 : BitVec
  512} :
    Fr m s (State.convertPlaneRun s a1 a2 a3 a4) := by
  delta State.convertPlaneRun
  exact (Fr.trans (Fr.refl _ _) (State.checked_frame (Within.of rfl hm) (fun _ => (Fr.trans (Fr.refl _ _) (State.produce_frame
    (Within.of rfl hm))))))

theorem execConvertPlane_frame {m : Nat} (hm : Within 44478220 m) {a0 : UnitAddr} {a1 : SlotNo} {s : State} :
    OutFr m s (execConvertPlane a0 a1 s) := by
  delta execConvertPlane
  exact OutFr.next ((Fr.trans (Fr.refl _ _) (State.descStep_frame (Within.of rfl hm) (fun _ _ _ _ _ => (Fr.trans (Fr.refl _ _)
    (State.convertPlaneRun_frame (Within.of rfl hm)))))))

theorem State.intSat_frame {m : Nat} (hm : Within 512 m) {s : State} {a1 : ℕ} {a2 : Bool} :
    Fr m s (State.intSat s a1 a2) := by
  delta State.intSat
  exact (Fr.ite ((Fr.trans (Fr.refl _ _) (State.modCluster_frame (Within.of rfl hm)))) (Fr.refl _ _))

theorem State.vecRun_frame {m : Nat} (hm : Within 44478220 m) {s : State} {a1 : ℕ} {a2 : ℕ} {a3 : Thread} {a4 : BitVec 512} :
    Fr m s (State.vecRun s a1 a2 a3 a4) := by
  delta State.vecRun
  exact (Fr.trans (Fr.refl _ _) (State.checked_frame (Within.of rfl hm) (fun _ => (Fr.trans ((Fr.trans (Fr.refl _ _)
    (State.intSat_frame (Within.of rfl hm)))) (State.produce_frame (Within.of rfl hm))))))

theorem execVec_frame {m : Nat} (hm : Within 44478220 m) {a0 : UnitAddr} {a1 : SlotNo} {s : State} :
    OutFr m s (execVec a0 a1 s) := by
  delta execVec
  exact OutFr.next ((Fr.trans (Fr.refl _ _) (State.descStep_frame (Within.of rfl hm) (fun _ _ _ _ _ => (Fr.trans (Fr.refl _ _)
    (State.vecRun_frame (Within.of rfl hm)))))))

theorem State.activateRun_frame {m : Nat} (hm : Within 44478220 m) {s : State} {a1 : ℕ} {a2 : ℕ} {a3 : Thread} {a4 : BitVec 512} :
    Fr m s (State.activateRun s a1 a2 a3 a4) := by
  delta State.activateRun
  exact (Fr.trans (Fr.refl _ _) (State.checked_frame (Within.of rfl hm) (fun _ => (Fr.trans (Fr.refl _ _) (State.produce_frame
    (Within.of rfl hm))))))

theorem execActivate_frame {m : Nat} (hm : Within 44478220 m) {a0 : UnitAddr} {a1 : SlotNo} {s : State} :
    OutFr m s (execActivate a0 a1 s) := by
  delta execActivate
  exact OutFr.next ((Fr.trans (Fr.refl _ _) (State.descStep_frame (Within.of rfl hm) (fun _ _ _ _ _ => (Fr.trans (Fr.refl _ _)
    (State.activateRun_frame (Within.of rfl hm)))))))

theorem State.reduceRun_frame {m : Nat} (hm : Within 44478220 m) {s : State} {a1 : ℕ} {a2 : ℕ} {a3 : Thread} {a4 : BitVec 512} :
    Fr m s (State.reduceRun s a1 a2 a3 a4) := by
  delta State.reduceRun
  exact (Fr.trans (Fr.refl _ _) (State.checked_frame (Within.of rfl hm) (fun _ => (Fr.trans (Fr.refl _ _) (State.produce_frame
    (Within.of rfl hm))))))

theorem execReduce_frame {m : Nat} (hm : Within 44478220 m) {a0 : UnitAddr} {a1 : SlotNo} {s : State} :
    OutFr m s (execReduce a0 a1 s) := by
  delta execReduce
  exact OutFr.next ((Fr.trans (Fr.refl _ _) (State.descStep_frame (Within.of rfl hm) (fun _ _ _ _ _ => (Fr.trans (Fr.refl _ _)
    (State.reduceRun_frame (Within.of rfl hm)))))))

theorem State.matmulRun_frame {m : Nat} (hm : Within 44478220 m) {s : State} {a1 : ℕ} {a2 : ℕ} {a3 : Thread} {a4 : BitVec 512} :
    Fr m s (State.matmulRun s a1 a2 a3 a4) := by
  delta State.matmulRun
  exact (Fr.trans (Fr.refl _ _) (State.checked_frame (Within.of rfl hm) (fun _ => (Fr.trans ((Fr.trans (Fr.refl _ _)
    (State.intSat_frame (Within.of rfl hm)))) (State.produce_frame (Within.of rfl hm))))))

theorem execMatmulExact_frame {m : Nat} (hm : Within 44478220 m) {a0 : UnitAddr} {a1 : SlotNo} {s : State} :
    OutFr m s (execMatmulExact a0 a1 s) := by
  delta execMatmulExact
  exact OutFr.next ((Fr.trans (Fr.refl _ _) (State.descStep_frame (Within.of rfl hm) (fun _ _ _ _ _ => (Fr.trans (Fr.refl _ _)
    (State.matmulRun_frame (Within.of rfl hm)))))))

end Sys2Proof.Machine
end

