-- ==== Sys2Proof/WellFormed.lean ====
section
/-! DEFINITION. Which commands a sender can form: the ranges that the rules give the operands where the operand's type
is wider. exec does not depend on it; statements may. -/

namespace Sys2Proof

/-- A device time whose nanoseconds are below 10^9 (R362). -/
def DevTime.wf (t : DevTime) : Bool := decide (t.ns.toNat < 1000000000)

/-- Coefficients for all 32 rows (R53). -/
def FixCoef.wf (f : FixCoef) : Bool :=
  f.o.length == 32 && f.g.length == 32 && f.kLo.length == 32 && f.kHi.length == 32

/-- A message with at most 4,080 bytes of data behind its header, as many as LEN says where it carries data (R265). -/
def FabMsg.wf (m : FabMsg) : Bool := decide (m.data.length ≤ 4096)

/-- The sectors in error that a command meets (R190): none twice, with no die of a sector twice. -/
def errsWf (es : List MemErr) : Bool :=
  decide ((es.map fun e => (e.site, e.sector)).Nodup) && es.all fun e => decide e.bad.Nodup

/-- The junction sensors of a tray (R245), and the one temperature of a transceiver (R253). -/
def TagUnit.sensors : TagUnit → Nat
  | .tray _ => 4
  | .lt _ => 1

/-- The command can be formed by its sender. -/
def Instr.wf : Instr → Bool
  | .stripEnd _ f => f.std.wf && f.fine.wf
  | .refereeReport _ _ err => err == [] || err.length == 32
  | .secondRefereeReport _ _ err => err == [] || err.length == 32
  | .sensorSample t temps => temps.length == t.sensors
  | .csrRead _ _ n => decide (1 ≤ n.toNat)
  | .csrWrite _ _ vs => vs != []
  | .rdmaWrite _ _ _ _ data es => decide (data.length ≤ 4096) && errsWf es
  | .rdmaRead _ _ _ _ es _ => errsWf es
  | .chainFetchDone _ _ es => errsWf es
  | .moverDone _ es => errsWf es
  | .seqEntriesVisible _ _ es => errsWf es
  | .getReq _ es => errsWf es
  | .msgAccept _ es => errsWf es
  | .pageRead _ es => errsWf es
  | .ptpSync _ _ rx origin _ => rx.wf && origin.wf
  | .ptpFollowUp _ _ origin => origin.wf
  | .ptpDelayResp _ _ t4 => t4.wf
  | .txStamp _ _ t => t.wf
  | .timeMarker _ m => m.prev.wf
  | .prepare _ _ t _ _ => t.wf
  | .putData m => m.wf
  | .getData m => m.wf
  | .pageWrite m => m.wf
  | .pageData m => m.wf
  | _ => true

end Sys2Proof
end

