-- ==== Sys2Proof/Tests/Slice0.lean ====
section
/-! SUPPORT. Tests of the model: the checks of well-formedness, single commands on small states with results from the spec's
tables, and for every statement with hypotheses a state and operands that meet them. -/

set_option Elab.async false
set_option maxRecDepth 20000
set_option linter.unusedVariables false

namespace Sys2Proof.Tests

open Sys2Proof.Machine Sys2Proof.Safety

/-! ### Well-formed commands and the decoder -/

/-- No row of the opcode table has bits, so no word spells a command. -/
theorem test_decode_none : decodeTableWord 0 0 = none ∧ decodeTableWord 32 5 = none := ⟨rfl, rfl⟩

/-- A word that spells no command leaves the state as it was. -/
theorem test_withFetchWord_same : (State.reset.withFetchWord 32 5).pending = [] := by decide

/-- A sector named twice among the sectors in error, or a die of it. -/
theorem test_ill_errors :
    Instr.wf (.moverDone 3 [⟨1, 7, [2]⟩, ⟨1, 7, [4]⟩]) = false ∧ Instr.wf (.getReq ⟨3, false, false, 5, 0, 0, 7, 3, 0, 64, 0, 0, 0, []⟩ [⟨1, 7, [2, 2]⟩]) = false ∧
    Instr.wf (.rdmaRead ⟨0, false, 1, 77, true, 0⟩ 0 0 64 [⟨1, 7, [2, 2]⟩] []) = false ∧ Instr.wf (.chainFetchDone 0 0 [⟨1, 7, [2, 2]⟩]) = false ∧
    Instr.wf (.seqEntriesVisible 0 0 [⟨1, 7, [2, 2]⟩]) = false := by decide

/-- Coefficients for one row, where a set has 32. -/
theorem test_ill_stripEnd :
    Instr.wf (.stripEnd 0x30000000 ⟨500, 2, 3, 4, 5, ⟨[1], [2], [3], [4]⟩, ⟨[5], [6], [7], [8]⟩⟩) = false := by decide
theorem test_ill_refereeReport : Instr.wf (.refereeReport 0x30000000 5 [1, 2]) = false := by decide
theorem test_ill_secondRefereeReport : Instr.wf (.secondRefereeReport 0x30000000 5 [1]) = false := by decide
theorem test_ill_sensorSample : Instr.wf (.sensorSample (.tray 0x30000000) [400]) = false := by decide
theorem test_ill_sensorLt : Instr.wf (.sensorSample (.lt 5) [400, 400]) = false := by decide
theorem test_ill_csrRead : Instr.wf (.csrRead ⟨1, 5, 9, 7⟩ 0 0) = false := by decide
theorem test_ill_csrWrite : Instr.wf (.csrWrite ⟨1, 5, 9, 7⟩ 0 []) = false := by decide
theorem test_ill_rdmaWrite : Instr.wf (.rdmaWrite ⟨0, false, 1, 77, true, 0⟩ .only 0 0 (List.replicate 4097 0) []) = false := by decide

/-- A device time with 10^9 nanoseconds. -/
theorem test_ill_times :
    Instr.wf (.ptpSync 5 6 ⟨0, 1000000000⟩ ⟨0, 0⟩ false) = false ∧ Instr.wf (.ptpSync 5 6 ⟨0, 0⟩ ⟨0, 1000000000⟩ false) = false ∧
    Instr.wf (.ptpFollowUp 5 6 ⟨0, 1000000000⟩) = false ∧ Instr.wf (.ptpDelayResp 5 6 ⟨0, 1000000000⟩) = false ∧
    Instr.wf (.txStamp true 6 ⟨0, 1000000000⟩) = false ∧ Instr.wf (.prepare ⟨5, 7, 3, 0, 1, 0, 5, false, false, false, 0⟩ 5 ⟨0, 1000000000⟩ 7 8) = false := by
  decide
/-! ### States for the tests -/

/-- The module on, with the executor of records at a record: the path `.image` carries. -/
def w0 : State := { State.reset with mod := { on := true, recWait := .next, stage := 9, st := 2 } }

/-- The path of a state, changed. -/
def wP (s : State) (f : PathSt → PathSt) : State := s.setPath .image (f (s.path .image))

/-- An admin queue pair that is authenticated. -/
def wA : State := ({ State.reset with mod := { on := true, stage := 9, st := 2 } }).modQp 4096 fun q => { q with st := 1, auth := true }

/-- A selection of the path `.image`. -/
def wS (s : State) (u : UnitAddr) : State := wP s fun q => { q with unitSel := u }

/-- A partition, and a wildcard, selected. -/
def wPart (s : State) (pid : Pid) : State := wP s fun q => { q with mode := 2 + 256 * pid.setWidth 32 }
def wWild (s : State) (u : UnitAddr) : State := wP s fun q => { q with unitSel := u, mode := 1 }

/-- A tray, a cluster and a core in a state. -/
def wT (s : State) (k : Nat) (st : UState) (f : Tray → Tray := id) : State :=
  s.modTray k fun x => f { x with ctl := { x.ctl with st := st, enable := true } }
def wC (s : State) (k : Nat) (st : UState) (f : Cluster → Cluster := id) : State :=
  s.modCluster k fun x => f { x with ctl := { x.ctl with st := st, enable := true } }
def wK (s : State) (k : Nat) (st : UState) (f : Core → Core := id) : State :=
  s.modCore k fun x => f { x with ctl := { x.ctl with st := st, enable := true } }

/-- A plane LOADED with ones, and a request for a load. -/
def wPlane : Plane := { st := .loaded, gen := 3, data := { rows := List.replicate 32 (List.replicate 32 1), exps := List.replicate 32 0 } }
def wReq : LoadReq := { adm := 1, src := 0, image := 0, expsOff := 1024, desc := none, sub := none, pid := 0, ctx := 0 }
def wRun (n : Nat) : LoadRun := { kind := .user, req := wReq, toB := true, rows := List.replicate n (List.replicate 32 2), exps := List.replicate 32 0 }

/-- An exposure that waits for its verdict, and one that waits for its referee. -/
def wPend : Pend := { id := 5, m := List.replicate 32 0, e := 0, acc := 0, add := false, sh := wPlane.data, outs := List.replicate 32 0 }
def wMiss : Pend := { wPend with outs := 4294967296 :: List.replicate 31 0 }
def wAsk : Pend := { wPend with phase := .awaitRef, ref1 := some 3 }
def wDep (s : State) (p : Pend) : State := wT s 0 .ready fun x => { x with a := { wPlane with st := .active }, pend := [p] }

/-- A descriptor from fields: byte offset, bytes, value. -/
def wD (l : List (Nat × Nat)) : BitVec 512 := BitVec.ofNat 512 (l.foldl (fun a x => a + x.2 * 256 ^ x.1) 0)

/-- An operand in device memory, in the local store, in the tray buffer. -/
def wDev (o : Nat) : Nat := 0x200000 + o
def wLs (o : Nat) : Nat := 2 ^ 60 + o
def wTb (o : Nat) : Nat := 2 ^ 61 + o

/-- A context and a site, changed. -/
def wX (s : State) (c : CtxNo) (f : Ctx → Ctx) : State := s.setCtx c (f (s.ctx c))
def wSite (s : State) (k : Nat) (f : Site → Site) : State := s.setSite k (f (s.site k))

/-- A context with a region of 2 MiB at 2 MiB, four rows of tray buffer, and a quota of sequence slots. -/
def wCtx : Ctx :=
  { st := 1, pid := 5, squota := 8, gbase := 1, gsize := 4, tquota := some 100,
    regions := [(0, { base := 0x200000, size := 0x200000, big := false, place := 0, st := .mapped, pages := [.here 0 0x40000000] })] }

/-- A thread at a descriptor. -/
def wTh (d : BitVec 512) : Thread :=
  { id := 900, ctx := 1, pid := 5, sub := subKey 1 0, prio := 0, base := 0, size := 4, pc := 0x200000, st := .ready, wait := .none,
    cur := some d, desc := some 33 }

/-- Core 0 of cluster 0 READY with a thread in its slot 0, in a context and a partition of its own. -/
def wCore (x : Thread) : State :=
  let s := wT w0 0 .ready fun y => { y with owner := 5, a := { wPlane with st := .active } }
  let s := wC s 0 .ready
  let s := wK s 0 .ready fun y => { y with slots := [(0, x)] }
  let s := wK s 1 .ready
  let s := wX s 1 fun _ => wCtx
  let s := wSite s 0 fun y => { y with reported := true, trained := true }
  { s with nextId := 1000, subs := [(subKey 1 0, { ctx := 1, ring := 0, slot := 0, entry := 0, gen := 0, threads := 1, st := 2 })] }
def wRow (d : BitVec 512) : State := wCore (wTh d)

/-- A request for a thread on core 0. -/
def wStart : StartReq := { id := 77, ctx := 1, sub := subKey 1 0, chain := 0x200040, place := 0x50000000, lsKib := 4 }

/-- A movement with the mover, as number 950. -/
def wMov (d : BitVec 512) : MoverOp :=
  { id := 950, core := 0, slot := 0, thread := 900, ctx := 1, tray := 0, base := 0, d := d, desc := 33, isAsync := false }

/-- Slot 3 OPEN for context 1, and three slots taken. -/
def wSeq (s : State) : State :=
  { s with seqs := [(3, { st := 1, ctx := 1, gen := 9, base := 0x210000, units := 2, cap := 100, reserved := 96 })] }
def wSeq0 (s : State) : State :=
  { s with seqs := [(0, { st := 1, ctx := 2 }), (1, { st := 2, ctx := 2 }), (2, { st := 1, ctx := 1 }), (3, { st := 0, gen := 65535 })] }

/-- Core 0 with bytes in the local store of its thread and in its tray's buffer. -/
def wData (s : State) : State :=
  (s.modCore 0 fun y => { y with ls := Memory.writeL y.ls 64 (((List.range 128).map fun i => BitVec.ofNat 8 (if i % 4 = 3 then 63 else i % 100)) ++ ((List.range 64).map fun i => BitVec.ofNat 8 (if i % 2 = 1 then 60 else 3 * i % 256))) }).modTray 0
    fun y => { y with tb := Memory.writeL y.tb 65536 ((List.range 256).map fun i => BitVec.ofNat 8 (if i % 4 = 3 then 64 + 128 * (i % 2) else 3 * i % 256)) }

/-- The blocks of a conversion. -/
def wBs (s : State) (k : Nat) (t : Thread) (d : BitVec 512) (cnt stride fmt : Nat) : List (List Int × Int) :=
  (List.range cnt).filterMap fun v => toBlock ((List.range 32).map (elemF (s.getL (s.seat k t) ((opnd d 0x10).plus (v * stride)) (32 * fmtSize fmt)) fmt))

/-- A plan of three modules: this one is node 3, and joins node 7 by FP5 and node 9 by FP8; FP6 and FP7 are a transit. -/
def wPorts : List PPort := (List.range 64).map fun i =>
  if i = 5 then { kind := 1, join := 5, link := 5, pid := 5, nbrNode := 7, nbrPort := 5, altPort := 0xFF, altNode := 0xFFFF, rxLoss := 100 }
  else if i = 8 then { kind := 1, join := 8, link := 8, pid := 6, nbrNode := 9, nbrPort := 8, altPort := 8, altNode := 7, rxLoss := 100 }
  else if i = 6 ∨ i = 7 then
    { kind := 2, join := BitVec.ofNat 8 (13 - i), link := 0xFF, pid := 0xFF, nbrNode := if i = 6 then 7 else 9, nbrPort := 0, altPort := 0xFF, altNode := 0xFFFF, rxLoss := 0 }
  else { kind := 0, join := 0, link := 0xFF, pid := 0xFF, nbrNode := 0xFFFF, nbrPort := 0, altPort := 0xFF, altNode := 0xFFFF, rxLoss := 0 }
def wPlan : Plan :=
  { domain := 0, planId := 77, digest := 5,
    modules := [⟨State.reset.fuse.serial, 3, 0, 0, 7, 0, 0⟩, ⟨99, 7, 1, 0, 3, 100, 0⟩, ⟨98, 9, 2, 0, 0xFFFF, 100, 0⟩],
    ports := [wPorts, wPorts, wPorts],
    links := List.replicate 3 ((List.range 64).map fun i => if i = 5 then ⟨7, [5, 0xFF, 0xFF, 0xFF], 1, 16, 1, 0, 5⟩
      else if i = 8 then ⟨9, [8, 0xFF, 0xFF, 0xFF], 1, 16, 1, 0, 6⟩ else ⟨0xFFFF, [0xFF, 0xFF, 0xFF, 0xFF], 0, 0, 0, 0, 0xFF⟩),
    routes := [[0xFF, 5, 8], [5, 0xFF, 5], [8, 8, 0xFF]], topos := [], substs := [] }
def wNet (s : State) : State := { s with plan := { s.plan with s1 := { st := 3, plan := some wPlan } } }

/-- A message from node 7 to node 3. -/
def wMsg : FabMsg := { FabMsg.blank with link := 5, tag := 952, srcCtx := 4, dstCtx := 1, srcNode := 7, dstNode := 3, addr := 0x200040, len := 4 }

/-- A context with a peer, and a transfer. -/
def wPeer (s : State) : State := wX s 1 fun y => { y with peers := [(63, 0x80040007)] }
def wXfer : Xfer := { id := 960, mine := false, isPut := true, phase := .waiting, tag := 952, ctx := 1, peerNode := 7, peerCtx := 4, addr := 0x200040, len := 4 }
def wXf (s : State) (x : Xfer) : State := { s with fab := { s.fab with xfers := [{ x with id := 1, tag := 1 }, x, { x with id := 3, tag := 2 }] } }
def fwEs (m : FabMsg) : List (Nat × Instr) := [(1, Instr.putOpen m), (2, .putData m), (3, .getReq m []), (4, .getData m), (5, .msgAccept m []),
        (6, .msgRefuse m), (7, .msgDone m), (8, .pageRead m []), (9, .pageWrite m), (10, .pageData m), (11, .msgAbort m)]

/-- A path that commands regions of context 1: 4 MiB at 4 MiB. -/
def wReg (s : State) (f : Ctx → Ctx := id) : State :=
  let s := wX s 1 fun _ => f { wCtx with quota := 100, remEn := true, remCap := 100 }
  wP (wSite s 0 fun y => { y with reported := true, trained := true }) fun q => { q with ctxSel := 1, rbase := 0x400000, rsize := 0x400000 }

/-- Where an ALLOCATE would put its pages. -/
def wPlace (s : State) (p : Path) (v : Word) (n : Nat) : State × List PageAt :=
  ((s.rStore p v).place (BitVec.ofNat 2 (bitsOf v 17 16)) (bitsOf v 27 24) (v.getLsbD 20) n).getD (s, [])

/-- Context 1 with its queue pair in RTS. -/
def wQp (s : State) (k : Nat) (f : Qp → Qp := id) : State := s.modQp k fun q => f { q with st := 1 }
def wHead (qpn psn : BitVec 24) : RoceHead := ⟨0, false, qpn, psn, true, 0x1F0000⟩
def wHost : State := wQp (wRow 0) 1 fun q => { q with keytag := 0xABCDEF, expPsn := 77 }
def wHostA : State := wQp (wRow 0) 4096 fun q => { q with keytag := 0xABCDEF, expPsn := 77, auth := true }

/-- Ring 2 of context 1 at 0x210000, with a status region and PRODUCER `n`. -/
def wRing (n : Byte) (f : SubRing → SubRing := id) : State :=
  wP (wSite (wX (wRow 0) 1 fun x => { x with rings := [(2, f { base := 0x210000 })], sbase := 0x220000, scount := 16 }) 0
    fun y => { y with mem := if n = 0 then [] else [(0x40010000, n)] }) fun q => { q with ctxSel := 1 }
def wScan (s : State) : State := { s with host := { s.host with scanning := true } }
def wEnt (l : List (Nat × Nat)) : State := wRing 9 fun x => { x with en := true, taken := [(8, some (wD l))], consumer := 8 }

/-- Tray 0 READY with its light on. -/
def wLit (f : LightSt → LightSt := id) : State :=
  wT w0 0 .ready fun x => { x with light := f { x.light with lit := true, locked := true, ringBase := { lock := 2, tagOk := true } } }
def wFig : StripFigures := ⟨500, 1, 2, 3, 4, ⟨[1], [2], [3], [4]⟩, ⟨[5], [6], [7], [8]⟩⟩

/-- A channel of a transceiver, its ring, and a comb, changed. -/
def wCh (s : State) (x : PortNo) (k : ChanNo) (f : Chan → Chan) : State := s.setChan x k (f (s.chan x k))
def wRi (s : State) (x : PortNo) (rx : Bool) (k : ChanNo) (f : Ring → Ring) : State := s.setLtRing x rx k (f (s.ltRing x rx k))
def wCo (s : State) (c : Nat) (f : Comb → Comb) : State := s.setComb c (f (s.comb c))

/-- Link 5 to node 7 over FP5 and LT5. -/
def wFp (s : State) (p : PortNo) (f : FPort → FPort) : State := s.setFport p (f (s.fport p))
def wLl (s : State) (l : BitVec 6) (f : LLink → LLink) : State := s.setLink l (f (s.link l))
def wLink : State :=
  let s := wNet w0
  let s := s.setLt 5 { s.lt 5 with port := some 5 }
  let s := wFp s 5 fun p => { p with st := .linked, light := true }
  wLl s 5 fun l => { l with used := true, peer := 7, ports := [5], min := 1, max := 4, pid := 5 }
def wTx (n : BitVec 12) : TxFlit := { cseq := n, vc := false, lseq := n.setWidth 24, payload := [1, 2], sends := 1, home := 5 }
def wUp (f : Chan → Chan := id) : State := wCh wLink 5 3 fun c => f { c with tx := .up, rx := .up, line := some 0 }
def wFF : FlitF := { kind := 1, vc := false, cseq := 1, cack := 4, credVc := false, credit := 9, lseq := 0, payload := msgBytes 7 wMsg }
def wFlit (f : FlitF) : Flit := ⟨true, f.bits⟩

/-- A flit of a message to another node. -/
def wFor (n : Node) : FlitF := { wFF with payload := msgBytes 7 { wMsg with dstNode := n } }

/-- A module in a plan whose governors run and whose safelight on FP5 is UP; a second plan is STAGED in slot 2. -/
def wPlan2 : Plan := { wPlan with planId := 78, digest := 6, ports := [wPorts.set 8 { kind := 0, join := 0, link := 0xFF, pid := 0xFF, nbrNode := 0xFFFF, nbrPort := 0, altPort := 0xFF, altNode := 0xFFFF, rxLoss := 0 }, wPorts, wPorts] }
def wGov : State :=
  let s := { wLink with gov := { wLink.gov with roleA := 0, roleB := 1, relay := true, epoch := 4, sl := [(5, { st := 2, peer := 7 })] } }
  { s with plan := { s.plan with s2 := { st := 2, plan := some wPlan2 } }, mod := { s.mod with begun := true, holdup := 100, vinA := 48 } }
def wSl (seq : Word) (kind : Nat) (body : List Byte) : SlHead :=
  let h : SlHead := ⟨5, 7, 3, seq, 1, 0, 5, false, false, false, 0⟩
  { h with crc := crc32c (slBytes h kind body) }

/-- The same, to every module. -/
def wSlB (seq : Word) (kind : Nat) (body : List Byte) (near : Bool := false) : SlHead :=
  let h : SlHead := ⟨5, 7, 0xFFFF, seq, 1, 0, 5, false, false, near, 0⟩
  { h with crc := crc32c (slBytes h kind body) }

/-- A switch under way, in a phase. -/
def wSwitch : Switch := { id := 55, coord := true, coordNode := 3, t := ⟨10, 0⟩, planId := 78, digest := 6, slot := 2, ready := [3], committed := false }
def wPart2 : Switch := { wSwitch with coord := false, coordNode := 7, ready := [] }
def wSw (ph : BitVec 4) (w : Switch) (f : SteerSt → SteerSt := id) : State :=
  { wGov with steer := f { wGov.steer with sw := some w, phase := ph, swCoord := w.coord } }
def wSteer (f : SteerSt → SteerSt) : State := { wGov with steer := f wGov.steer }

/-- An owner key, and signatures with it. -/
def wKey : BitVec 768 := 0x7a30d2af9219e43d33be0b515a36f3c95c17b17dcad568ef85f51eae54657c72ed3ca9972dd90da5fc54207824db41876460f955efdcbf3bf7393081ddf04a64747781bc8956c1e5ff47be522f7f758244ae054e91e8aa160c76dc7302bcf181
def wSigAuth : BitVec 768 := 0x297027074d89ed29cc4ec9323dddd43fd035833663f7ff6dcc4652576315031b24bef785c45b32560c5ed4a211a99bae4617437dd60ac7de9e6d8ea1a372dbbf85f0aaa1f9b4f96fc01afec44a0e2fc73f7286666c2237353f08f6c18f4ba5e8
def wSigSess : BitVec 768 := 0x270e2ac902b5cc40cb70dc4a767dd758aea7742cedd567cb4ca6908cc6297121aa8ffb409fd9d4f4c6934e73604d3a364617437dd60ac7de9e6d8ea1a372dbbf85f0aaa1f9b4f96fc01afec44a0e2fc73f7286666c2237353f08f6c18f4ba5e8
def wSigIns : BitVec 768 := 0x13022b36118fa386c69a3cc3c33723dd69b6dbf460ef28a40c25b8a59111d921a85fadf05e59d641f15793905578c2014617437dd60ac7de9e6d8ea1a372dbbf85f0aaa1f9b4f96fc01afec44a0e2fc73f7286666c2237353f08f6c18f4ba5e8
def wSigRem : BitVec 768 := 0x2b2e1662ee6fa707d9cf5443f8558dfbe02824266f628b01ef95263503ef44545dee216033e2409cdcd7b56844cfbc5f4617437dd60ac7de9e6d8ea1a372dbbf85f0aaa1f9b4f96fc01afec44a0e2fc73f7286666c2237353f08f6c18f4ba5e8

/-- A key and a signature of the staged plan with it, for which the multiples of the base point and of the key's point are 1, so
that the kernel verifies the signature in little time. -/
def wPlanKey : BitVec 768 := 0x6dec5420e6212974c1cc218662e13dae0762283ec29ceeb6771ab61d49b36150dbaf15336c2d78c9c0f7a8dd6c22a7c50b512dc5c151072b30e124da91f9c84850f5bfb7db49d12090ce2402c07b9dc3b44e4d376c8a2428cebe943d276d21c6
def wSigPlan : BitVec 768 := 0x8494cb7add12dfe7cd141f8d67e73ef491420ae6691a748b66676ea924268333c7989f95cfecd15af299235d1cd20ef98494cb7add12dfe7cd141f8d67e73ef491420ae6691a748b66676ea924268333c7989f95cfecd15af299235d1cd20ef9

/-- A staged plan of this module alone, all of whose ports are dark. -/
def wStagedB : List (Nat × Byte) :=
  [(0, 0x4C), (1, 0x50), (2, 1), (4, 1), (8, 81), (12, 0x40), (13, 6), (16, 1), (33, 1), (36, 48), (41, 2), (45, 4), (48, 2), (49, 2), (53, 4),
   (56, 2), (57, 2), (60, 1), (65, 1), (73, 1)] ++
  ((keyBytes wSigPlan).zipIdx.filterMap fun x => if x.1 = 0 then none else some (160 + x.2, x.1)) ++
  ((leBytes 16 State.reset.fuse.serial.toNat).zipIdx.filterMap fun x => if x.1 = 0 then none else some (256 + x.2, x.1)) ++
  [(272, 3), (276, 0xFF), (277, 0xFF)] ++
  (List.range 64).flatMap fun p => (List.range 4).map fun i => (512 + 16 * p + 2 + i, 0xFF)
def wStaged : State :=
  { wGov with plan := { wGov.plan with staging := wStagedB, stagedLen := 1600, loading := some 3, s3 := { st := 1 } },
              fw := { wGov.fw with keys := [(0, wPlanKey)] } }
def wDisc : Disc := ⟨99, 77, 5, State.reset.fuse.serial, 5, true, false, false⟩

/-- The boot before a stage and in it. -/
def wEnters (k : BitVec 4) (f : ModSt → ModSt := id) : State :=
  { wGov with mod := f { wGov.mod with stage := k, begun := false, st := 0, recWait := .idle } }
def wIn (k : BitVec 4) (f : ModSt → ModSt := id) : State :=
  { wGov with mod := f { wGov.mod with stage := k, begun := true, st := 0, recWait := .idle } }

/-- Stage records at work. -/
def wRec (op : Byte) (addr v m : Word) (rest : List Rec := []) : State :=
  { wGov with mod := { wGov.mod with stage := 5, begun := true, st := 0, recWait := .next, recs := ⟨op, 5, 100, addr, v, m⟩ :: rest } }
def wR (op : Byte) (addr v m : Word) : Rec := ⟨op, 5, 100, addr, v, m⟩
def wJob : ResetJob := { target := .partition 5, trays := [0], clusters := [0], cores := [0], ctxs := [1] }
def wResetting : State :=
  let s := wT (wXf (wRow 0) wXfer) 0 .resetting fun x => { x with owner := 5 }
  { s with mod := { s.mod with resets := [wJob] } }

/-- The admin queue pair 0 carries. -/
def wA2 (s : State) : State := s.modQp 4096 fun q => { q with st := 1, auth := true }

/-- PTP on, with a master; firmware in a state. -/
def wMast : PtpMaster := ⟨0x1122334455667788, 1, 0, 128, 6, 0x21, 5, 128, 1⟩
def wPtp (f : TimeSt → TimeSt := id) : State :=
  let s := wGov.setPol 0x200010 0x80000000
  { s with time := f { s.time with master := some wMast, heard := [wMast], st := 1 } }
def wTt (n : Nat) (f : Trigger → Trigger) : State := wGov.setTrigger n (f { st := 1, s := 0, ns := 5 })
def wFw (f : FwSt → FwSt := id) : State := { wGov with fw := f { wGov.fw with fb := { st := 4, hitless := true, version := 9, svn := 3 }, runVersion := 5, h1 := { seq := 3 }, h2 := { seq := 3 } } }
def wHit (n : Nat) (a b : BitVec 2) : State :=
  let s := wFw fun f => { f with op := .hitless, hstep := n, phase := 3 }
  { s with gov := { s.gov with roleA := a, roleB := b, simplex := true } }
def wTrial (f : FwSt → FwSt := id) : State :=
  wFw fun x => f { x with h1 := { seq := 4, sel := { fwB := true, trial := true, tries := 3 } }, h2 := { seq := 4, sel := { fwB := true, trial := true, tries := 3 } } }
def wBank : Bank := { ok := true, schema := 2, seq := 7, entries := [⟨2, 2, 0, 0x700008, 5, 0xFF⟩] }

/-- The management port up, with a session 2. -/
def wSess : Sess := { id := 0xAA, ip := 5, port := 9, auth := true }
def wHh : HmpHead := ⟨0xAA, 5, 9, 7⟩
def wMg (x : Sess := wSess) (f : MgmtSt → MgmtSt := id) : State :=
  let s := wFw fun f => { f with keys := [(1, 6), (3, wKey)] }
  { s with mgmt := f { s.mgmt with link := true, sess := [(2, x)], stns := [(1, { en := true }), (3, { en := true })] } }
def wNote (n : Nat) : Notice := ⟨4, 3, 4, [1, 2], n⟩
def wCs : State := { wMg with cs := { wMg.cs with next := 3, recs := [(0, { code := 0x0101, index := 0, t := ⟨0, 1⟩ }), (1, { code := 0x0102, index := 1, t := ⟨0, 2⟩ }), (2, { code := 0x0103, index := 2, t := ⟨0, 3⟩ })] } }
def wOffS (a b : Bool) (f : ModSt → ModSt := id) : State := { wMg with mod := f { wMg.mod with lostA := a, lostB := b, vinA := 480, vinB := 480 } }

/-- A message delivered. -/
def wMail (s : State) (op : Nat) (m : FabMsg) : State :=
  s.setLink m.link { s.link m.link with inbox := (s.link m.link).inbox ++ [(m.vc, msgBytes op m)] }

/-! ### Single commands and operations, with results from the tables of the spec -/

/-- The state that a command answers. -/
def after (c : Instr) (s : State) : State := match exec c s with | .next t => t | _ => State.reset

/-- R22's worked example: 0xB008_0000 is the spare tray of bay 0, 0x4C35_4800 is a cluster of an HX16, and invalid in an HX12, whose site 12 is absent. -/
theorem test_address_example :
    State.reset.resolve 0xB0080000 = some (.tray 8) ∧ State.reset.resolve 0x4C354800 = some (.cluster (((12 * 8 + 3) * 9 + 5) * 20 + 18)) ∧
    ({ State.reset with fuse := { State.reset.fuse with variant := 1, sites := List.range 12 } }).resolve 0x4C354800 = none := by
  decide +kernel

/-- R52's worked exposure: the row sum, the exact product and the offset term 128·S. -/
theorem test_exposure_example :
    let w := List.replicate 16 (10 : Int) ++ List.replicate 16 (-6)
    let m := List.replicate 16 (50 : Int) ++ List.replicate 16 (-20)
    dot m w = 9920 ∧ w.foldl (· + ·) 0 = 64 ∧ dot (m.map (· + 128)) w = 18112 := by decide +kernel

/-- R16: a write where no register is changes nothing. -/
theorem test_hole_write : after (.regWrite .image 0x0FFFFFC 5) w0 = w0 := by decide +kernel

/-- R24: UNIT_SEL belongs to its path. -/
theorem test_unitSel_path :
    let t := after (.unitSelWrite .image 0x30000000) wA
    (t.path .image).unitSel = (wA.path .image).unitSel ∧ ((after (.unitSelWrite (.admin 0) 0x30000000) wA).path (.admin 0)).unitSel = 0x30000000 := by
  decide +kernel

/-- R30: the owner of a tray that is READY stays. -/
theorem test_owner_ready : ((after (.ucbOwnerWrite .image 9) (wS (wT w0 0 .ready) 0x30000000)).tray 0).owner = 0 := by decide +kernel
theorem test_owner_off : ((after (.ucbOwnerWrite .image 9) (wS w0 0x30000000)).tray 0).owner = 9 := by decide +kernel

/-- R290: bypass joins I(0) to O(1) and I(1) to O(0), and has 64 connections. -/
theorem test_bypass_pairs :
    let t := after (.bypass .image) w0
    (0, 1) ∈ t.steer.conn ∧ (1, 0) ∈ t.steer.conn ∧ (63, 62) ∈ t.steer.conn ∧ t.steer.conn.length = 64 := by decide +kernel

/-- R367: the 17th stamp is dropped and counted. -/
theorem test_stamp_dropped :
    let s := { w0 with time := { w0.time with txq := List.replicate 16 (true, 0, ⟨0, 0⟩) } }
    let t := after (.txStamp true 7 ⟨1, 2⟩) s
    t.time.txq = s.time.txq ∧ t.time.overflow = 1 := by decide +kernel

/-- R60: a swap that finds the idle plane EMPTY changes no plane, and one that finds it LOADED exchanges the planes and leaves
the old one EMPTY. -/
theorem test_swap_empty :
    ((after (.swapExecute 0x30000000) (wT w0 0 .ready fun x => { x with expQ := [.swap 3 none none] })).tray 0).activeB = false := by
  decide +kernel
theorem test_swap_loaded :
    let s := wT w0 0 .ready fun x => { x with expQ := [.swap 3 none none], a := { wPlane with st := .active }, b := wPlane }
    let t := (after (.swapExecute 0x30000000) s).tray 0
    t.activeB = true ∧ t.b.st = .active ∧ t.a.st = .empty ∧ t.expQ = [] := by decide +kernel

/-- R237: 10 GHz (40 quarter steps) is not refused, 10.25 GHz is; readmission needs 8 GHz. -/
theorem test_refusal_limits :
    ((after (.carrierRefused 5 3 40) (wUp)).chan 5 3).rx = .up ∧ ((after (.carrierRefused 5 3 41) (wUp)).chan 5 3).rx = .refused ∧
    ((after (.carrierReadmitted 5 3 33) (wUp fun c => { c with rx := .refused })).chan 5 3).rx ≠ .locking := by decide +kernel

/-- R398: a fifth OPEN is answered with HMP_SESSIONS. -/
theorem test_fifth_session :
    let x : Sess := { id := 0xAA, ip := 5, port := 9 }
    let s := wMg wSess fun m => { m with sess := [(0, x), (1, x), (2, x), (3, x)] }
    ((after (.hmpOpen ⟨0, 6, 9, 7⟩) s).sent.map fun e => match e with
      | .hmp ip port b => (ip, port, atN b 2 1, atN b 8 4, atN b 14 2)
      | _ => (0, 0, 0, 0, 0)) = [(6, 9, 1, 7, 0x0609)] := by decide +kernel

/-- R415: an input lost alone does not raise the power-fail signal; both do not either before the signal's own command. -/
theorem test_input_lost : (after (.inputLost false) (wOffS false false)).mod.lostA = true ∧
    (after (.inputLost false) (wOffS false false)).mod.powerFail = false := by decide +kernel

/-- R27: commands act in their order of arrival, one a step. -/
theorem test_step_order :
    let s := { wS w0 0x30000000 with pending := [.ucbOwnerWrite .image 9, .ucbOwnerWrite .image 4] }
    (match step s with
    | .next t => decide ((t.tray 0).owner = 9 ∧ t.pending = [.ucbOwnerWrite .image 4])
    | _ => false) = true := by decide +kernel


/-- FIPS 180-4's own example of SHA-384, and the check value of CRC-32C over the digits 1 to 9. -/
theorem test_sha384 : beNat (sha384 [0x61, 0x62, 0x63]) =
    0xcb00753f45a35e8bb5a03d699ac65007272c32ab0eded1631a8b605a43ff5bed8086072ba1e7cc2358baeca134c825a7 := by decide +kernel
theorem test_crc32c : crc32c ((List.range' 0x31 9).map fun n => BitVec.ofNat 8 n) = 0xE3069283 := by decide +kernel

/-- R264: a flit whose bits were changed on the way fails its CRC; the bits of a flit read back as its fields. -/
theorem test_flit_bits : readFlit wFF.bits = some wFF ∧ readFlit (wFF.bits ^^^ 0x1000) = none := by decide +kernel
/-! ### States and operands that meet the hypotheses of the statements -/

/-! ### The staged plan passes every check of a load -/

/-- What the staged plan holds. -/
def wDark : PPort := { kind := 0, join := 0, link := 0xFF, pid := 0xFF, nbrNode := 0xFFFF, nbrPort := 0, altPort := 0, altNode := 0, rxLoss := 0 }
def wNoLink : PLink := { peer := 0xFFFF, ports := [0xFF, 0xFF, 0, 0], min := 0, max := 0, prio := 0, flags := 0, pid := 0 }
def wStagedM : PModule :=
  { serial := State.reset.fuse.serial, node := 3, role := 0, variant := 0, lender := 0xFFFF, pool := 0, label := 0 }
def wStagedP : Plan :=
  { domain := 0, planId := 81, digest := 0, modules := [wStagedM], ports := [List.replicate 64 wDark],
    links := [List.replicate 64 wNoLink], routes := [[0xFF]], topos := [], substs := [] }

/-- The ports and links of the staged plan, one by one. -/
def portAt (p : Nat) : Bool := PPort.read wStagedB (512 + 1024 * 0 + 16 * p) == wDark && PPort.ok wStagedB (512 + 1024 * 0 + 16 * p) wDark
def linkAt (p : Nat) : Bool := PLink.read wStagedB (514 + 1024 * 0 + 16 * p) == wNoLink && PLink.ok wStagedB (514 + 1024 * 0 + 16 * p) wNoLink

theorem staged_ports_0 : (List.range' 0 16).all portAt = true := by decide +kernel

theorem staged_ports_1 : (List.range' 16 16).all portAt = true := by decide +kernel

theorem staged_ports_2 : (List.range' 32 16).all portAt = true := by decide +kernel

theorem staged_ports_3 : (List.range' 48 16).all portAt = true := by decide +kernel

theorem staged_links_0 : (List.range' 0 16).all linkAt = true := by decide +kernel

theorem staged_links_1 : (List.range' 16 16).all linkAt = true := by decide +kernel

theorem staged_links_2 : (List.range' 32 16).all linkAt = true := by decide +kernel

theorem staged_links_3 : (List.range' 48 16).all linkAt = true := by decide +kernel

theorem all_ports (f : Nat → Bool) (h0 : (List.range' 0 16).all f = true) (h1 : (List.range' 16 16).all f = true)
    (h2 : (List.range' 32 16).all f = true) (h3 : (List.range' 48 16).all f = true) (p : Nat) (hp : p < 64) : f p = true := by
  simp only [List.all_eq_true, List.mem_range'_1] at h0 h1 h2 h3
  rcases Nat.lt_or_ge p 16 with h | h
  · exact h0 p (by omega)
  rcases Nat.lt_or_ge p 32 with h | h
  · exact h1 p (by omega)
  rcases Nat.lt_or_ge p 48 with h | h
  · exact h2 p (by omega)
  · exact h3 p (by omega)

theorem port_at {p : Nat} (hp : p < 64) : PPort.read wStagedB (512 + 1024 * 0 + 16 * p) = wDark ∧ PPort.ok wStagedB (512 + 1024 * 0 + 16 * p) wDark = true := by
  simpa [portAt] using all_ports portAt staged_ports_0 staged_ports_1 staged_ports_2 staged_ports_3 p hp

theorem link_at {p : Nat} (hp : p < 64) : PLink.read wStagedB (514 + 1024 * 0 + 16 * p) = wNoLink ∧ PLink.ok wStagedB (514 + 1024 * 0 + 16 * p) wNoLink = true := by
  simpa [linkAt] using all_ports linkAt staged_links_0 staged_links_1 staged_links_2 staged_links_3 p hp

theorem map_const {α : Type} {n : Nat} {f : Nat → α} {c : α} (h : ∀ p < n, f p = c) : (List.range n).map f = List.replicate n c := by
  apply List.ext_getElem
  · simp
  · intro i h1 h2
    simpa using h i (by simpa using h1)

/-- The numbers of the header of the staged plan, by place and width. -/
theorem staged_numbers : [(0x0C, 4), (0x10, 2), (0x12, 2), (0x14, 2), (0x16, 1), (0, 4), (4, 2), (8, 4), (6, 2), (0x60, 48)].map (fun e => rdN wStagedB e.1 e.2) =
    [1600, 1, 0, 0, 0, 0x1504C, 1, 81, 0, 0] := by decide +kernel

theorem staged_tables : (List.range 6).map (fun k => (rdN wStagedB (0x20 + 8 * k) 4, rdN wStagedB (0x24 + 8 * k) 4)) =
    [(256, 48), (512, 1024), (514, 1024), (514, 1), (256, 0), (256, 0)] := by decide +kernel

theorem staged_rest : (rsv0 wStagedB 0x17 9 && rsv0 wStagedB 0x50 16 && rsv0 wStagedB 0x90 16 &&
    PModule.read wStagedB (256 + 48 * 0) == wStagedM && wStagedM.ok wStagedB (256 + 48 * 0) && Memory.read wStagedB 514 == 0xFF) = true := by decide +kernel

theorem staged_parse : Plan.parse wStagedB 1600 = some wStagedP := by
  have hn := staged_numbers
  have ht := staged_tables
  have hr := staged_rest
  simp only [List.map_cons, List.map_nil, List.cons.injEq, and_true, List.range, List.range.loop, Prod.mk.injEq, Bool.and_eq_true, beq_iff_eq] at hn ht hr
  obtain ⟨n1, n2, n3, n4, n5, n6, n7, n8, n9, n10⟩ := hn
  obtain ⟨⟨t0, u0⟩, ⟨t1, u1⟩, ⟨t2, u2⟩, ⟨t3, u3⟩, ⟨t4, u4⟩, ⟨t5, u5⟩⟩ := ht
  obtain ⟨⟨⟨⟨⟨r1, r2⟩, r3⟩, r4⟩, r5⟩, r6⟩ := hr
  have hp := map_const fun p hp => (port_at (p := p) hp).1
  have hl := map_const fun p hp => (link_at (p := p) hp).1
  have hpo : ((List.range 64).all fun p => PPort.ok wStagedB (512 + 1024 * 0 + 16 * p) (PPort.read wStagedB (512 + 1024 * 0 + 16 * p))) = true :=
    List.all_eq_true.mpr fun p hp => by rw [(port_at (List.mem_range.mp hp)).1]; exact (port_at (List.mem_range.mp hp)).2
  have hlo : ((List.range 64).all fun p => PLink.ok wStagedB (514 + 1024 * 0 + 16 * p) (PLink.read wStagedB (514 + 1024 * 0 + 16 * p))) = true :=
    List.all_eq_true.mpr fun p hp => by rw [(link_at (List.mem_range.mp hp)).1]; exact (link_at (List.mem_range.mp hp)).2
  have e1 : List.range 1 = [0] := rfl
  unfold Plan.parse
  simp only [n1, n2, n3, n4, n5, n6, n7, n8, n9, n10, e1, List.map_cons, List.map_nil, t0, t1, t2, t3, t4, t5, u0, u1, u2, u3, u4, u5]
  have el : (List.filter (fun e : PModule => e.role != 3) [wStagedM]).length = 1 := by decide
  have er : (Option.map (fun e : PModule => e.role) [wStagedM][0]? = some 3) = False := by decide
  have es : Plan.slotOf [wStagedM] 0 = 0 := by decide
  have ha : ((List.range 6).all fun k => decide (256 ≤ rdN wStagedB (32 + 8 * k) 4) && decide (rdN wStagedB (32 + 8 * k) 4 + rdN wStagedB (36 + 8 * k) 4 ≤ 1600)) = true := by
    simp only [List.range, List.range.loop, List.all_cons, List.all_nil, t0, t1, t2, t3, t4, t5, u0, u1, u2, u3, u4, u5]; decide
  simp only [r4, r1, r2, r3, r5, ha, el, er, es, readTopos, hp, hl, hpo, hlo, e1, List.all_cons, List.all_nil]
  simp [wStagedP, r6]

theorem staged_holds : Plan.parse wStaged.plan.staging wStaged.plan.stagedLen = some wStagedP := staged_parse

/-- `n` bytes from `a` on of a memory with no byte below `a`, in one pass. -/
def dump : Nat → Nat → SMap Byte → List Byte
  | _, 0, _ => []
  | a, n + 1, [] => 0 :: dump (a + 1) n []
  | a, n + 1, (k, v) :: r => if k = a then v :: dump (a + 1) n r else 0 :: dump (a + 1) n ((k, v) :: r)

/-- The addresses rise, from `a` on. -/
def rising : Nat → SMap Byte → Bool
  | _, [] => true
  | a, (k, _) :: r => decide (a ≤ k) && rising (k + 1) r

theorem find_below : ∀ {m : SMap Byte} {a k : Nat}, rising k m = true → a < k → SMap.find m a = none
  | [], _, _, _, _ => rfl
  | (b, v) :: r, a, k, h, l => by
    simp only [rising, Bool.and_eq_true, decide_eq_true_eq] at h
    rw [SMap.find, if_neg (by omega), find_below h.2 (by omega)]

theorem read_next {m : SMap Byte} {k a : Nat} {v : Byte} (h : k ≠ a) : Memory.read ((k, v) :: m) a = Memory.read m a := by
  simp only [Memory.read, SMap.get, SMap.find, if_neg h]

theorem readN_succ (m : SMap Byte) (a n : Nat) : Memory.readN m a (n + 1) = Memory.read m a :: Memory.readN m (a + 1) n := by
  simp only [Memory.readN, List.range_succ_eq_map, List.map_cons, List.map_map, Nat.add_zero]
  congr 1
  exact List.map_congr_left fun i _ => by simp only [Function.comp, Nat.succ_eq_add_one]; congr 1; omega

theorem readN_dump : ∀ (n a : Nat) (m : SMap Byte), rising a m = true → Memory.readN m a n = dump a n m
  | 0, _, _, _ => by simp [Memory.readN, dump]
  | n + 1, a, [], h => by rw [readN_succ, dump, readN_dump n (a + 1) [] rfl]; rfl
  | n + 1, a, (k, v) :: r, h => by
    have h' := h
    simp only [rising, Bool.and_eq_true, decide_eq_true_eq] at h'
    rw [readN_succ, dump]
    split
    · subst k
      rw [← readN_dump n (a + 1) r h'.2]
      congr 1
      · simp [Memory.read, SMap.get, SMap.find]
      · exact List.map_congr_left fun i _ => read_next (by omega)
    · rename_i ne
      rw [readN_dump n (a + 1) ((k, v) :: r) (by simp only [rising, Bool.and_eq_true, decide_eq_true_eq]; exact ⟨by omega, h'.2⟩)]
      congr 1
      rw [Memory.read, SMap.get, SMap.find, if_neg ne, find_below h'.2 (by omega)]; rfl

theorem readN_drop (m : SMap Byte) (a n : Nat) : Memory.readN m a n = (Memory.readN m 0 (a + n)).drop a := by
  simp only [Memory.readN, ← List.map_drop]
  apply List.ext_getElem <;> simp

/-- The bytes of the staged plan that its signature covers. -/
theorem staged_signed : planSigned wStagedB = (dump 0 96 wStagedB) ++ (dump 0 1600 wStagedB).drop 256 := by
  have h : rising 0 wStagedB = true := by decide +kernel
  have n : rdN wStagedB 0x0C 4 = 1600 := by
    have hn := staged_numbers
    simp only [List.map_cons, List.cons.injEq] at hn
    exact hn.1
  rw [planSigned, n, readN_dump _ _ _ h, readN_drop, readN_dump _ _ _ h]

theorem staged_key : wStaged.signed (rdN wStaged.plan.staging 0x16 1) (keyOf (Memory.readN wStaged.plan.staging 0xA0 96))
    (planSigned wStaged.plan.staging) = true := by
  have h : wStaged.plan.staging = wStagedB := rfl
  rw [h, staged_signed]
  decide +kernel

/-- A signature is refused by another key, and one with r = 0 by every key. -/
theorem test_sig_refused :
    ecdsaOk (half0 wKey) (half1 wKey) (half0 wSigPlan) (half1 wSigPlan) (planSigned wStagedB) = false ∧
    ecdsaOk (half0 wPlanKey) (half1 wPlanKey) 0 (half1 wSigPlan) (planSigned wStagedB) = false := by
  rw [staged_signed]
  decide +kernel

theorem staged_free : wStaged.slotTaken 3 = false := by decide +kernel

theorem staged_here : (wStagedP.domain == wStaged.domain && (wStagedP.modules.filter fun e => e.role != 3 && e.serial == wStaged.fuse.serial).length == 1) = true := by decide +kernel

theorem judged_of {s : State} {m : SMap Byte} {len : Nat} {n : BitVec 2} {pl : Plan} (h : Plan.parse m len = some pl)
    (hk : s.signed (rdN m 0x16 1) (keyOf (Memory.readN m 0xA0 96)) (planSigned m) = true)
    (hd : (pl.domain == s.domain && (pl.modules.filter fun e => e.role != 3 && e.serial == s.fuse.serial).length == 1) = true)
    (hc : (pl.noConflict && pl.circuitsOk && pl.routesOk && pl.lendersOk) = true) (ht : s.slotTaken n = false) :
    s.judgePlan m len n = (0, some pl) := by
  simp only [Bool.and_eq_true, beq_iff_eq] at hd hc
  have h4 : ¬ (pl.domain ≠ s.domain ∨ (pl.modules.filter fun e => e.role != 3 && e.serial == s.fuse.serial).length ≠ 1) := by
    simp only [hd.1, hd.2, ne_eq, not_true_eq_false, or_self, not_false_eq_true]
  unfold State.judgePlan
  simp only [h, hk, if_neg h4, hc.1.1.1, hc.1.1.2, hc.1.2, hc.2, ht, Bool.not_true, Bool.or_false, Bool.false_eq_true, if_false]

theorem staged_judged : wStaged.judgePlan wStaged.plan.staging wStaged.plan.stagedLen 3 = (0, some wStagedP) :=
  judged_of staged_holds staged_key staged_here (by decide +kernel) staged_free

/-! ### The statements, one by one -/

/-- The hypotheses of RegisterAccessesComplete, clause by clause. -/
theorem meets_RegisterAccessesComplete :
    (∃ (s : State) (p : Path) (a : Nat) (v : Word), s.priv p = true ∧ a ∈ storedRegs) ∧
    (∃ (s : State) (p : Path) (v : Word), s.priv p = true) ∧
    (∃ (s : State) (p : Path) (a : CsrAddr), s.carries p = true ∧ s.latches p a.toNat = true ∧ SMap.find (s.path p).rl (s.latchKey p a.toNat) = none) ∧
    (∃ (s : State) (p : Path) (a : CsrAddr) (v : Word), s.carries p = true ∧ s.wideHigh p a.toNat = true ∧ SMap.find (s.path p).rl (s.latchKey p a.toNat) = some v) ∧
    (∃ (s : State) (p : Path) (a : CsrAddr), s.carries p = true ∧ s.wideHigh p a.toNat = true ∧ s.latches p a.toNat = false ∧ SMap.find (s.path p).rl (s.latchKey p a.toNat) = none) ∧
    (∃ (s : State) (p : Path) (a : CsrAddr) (v : Word), s.carries p = true ∧ s.wideLow p (canon p a.toNat) = true) :=
  ⟨⟨w0, .image, 0x00002C, 0x12345, (by decide +kernel), (by decide +kernel)⟩,
    ⟨w0, .image, 0x12345, by decide +kernel⟩,
    ⟨w0, .image, 0x902424, (by decide +kernel), (by decide +kernel), (by decide +kernel)⟩,
    ⟨wP w0 fun q => { q with rl := [(w0.latchKey .image 0x902428, 5)] }, .image, 0x902428, 5, (by decide +kernel), (by decide +kernel), (by decide +kernel)⟩,
    ⟨w0, .image, 0x902428, (by decide +kernel), (by decide +kernel), (by decide +kernel), (by decide +kernel)⟩,
    ⟨w0, .image, 0x902424, 7, (by decide +kernel), (by decide +kernel)⟩⟩

/-- The hypotheses of RegisterAccessesComplete, clause by clause. -/
theorem meets_RegisterAccessesComplete_2 :
    (∃ (s : State) (p : Path) (a : CsrAddr) (v lo : Word), s.carries p = true ∧ s.wideHigh p a.toNat = true ∧ SMap.find (s.path p).wl (s.heldKey p (canon p a.toNat - 4)) = some lo) ∧
    (∃ (s : State) (p : Path) (v : Word), s.priv p = true ∧ (s.path p).busy = false) ∧
    (∃ (s : State) (p : Path) (v : Word), s.priv p = true ∧ (s.path p).busy = false) ∧
    (∃ (s : State) (p : Path), (s.path p).busy = true ∧ (s.path p).heldAcc = []) ∧
    (∃ (s : State) (p : Path) (v : Word), (s.path p).busy = true ∧ (s.path p).heldAcc = [.cmd (.unitSelWrite p v)]) :=
  ⟨⟨wP w0 fun q => { q with wl := [(w0.heldKey .image 0x902424, 7)] }, .image, 0x902428, 9, 7, (by decide +kernel), (by decide +kernel), (by decide +kernel)⟩,
    ⟨w0, .image, 0x60000000, (by decide +kernel), (by decide +kernel)⟩,
    ⟨w0, .image, 0xFFFFFFFF, (by decide +kernel), (by decide +kernel)⟩,
    ⟨wP w0 fun q => { q with busy := true }, .image, (by decide +kernel), (by decide +kernel)⟩,
    ⟨wP w0 fun q => { q with busy := true, heldAcc := [.cmd (.unitSelWrite .image 0x30000000)] }, .image, 0x30000000, (by decide +kernel), (by decide +kernel)⟩⟩

/-- The hypotheses of UnitControlBitsComplete, clause by clause. -/
theorem meets_UnitControlBitsComplete :
    ∃ (s : State) (p : Path) (on : Bool) (k : Nat), s.priv p = true ∧ (s.path p).busy = false ∧ k ∈ s.selTrays (s.selOf p) :=
  ⟨wS w0 0x30000000, .image, true, 0, (by decide +kernel), (by decide +kernel), (by decide +kernel)⟩

/-- The hypotheses of ClusterAndCoreControlBitsComplete, clause by clause. -/
theorem meets_ClusterAndCoreControlBitsComplete :
    (∃ (s : State) (p : Path) (on : Bool) (c : Nat), s.priv p = true ∧ (s.path p).busy = false ∧ s.selOf p = .one (.cluster c)) ∧
    (∃ (s : State) (p : Path) (on : Bool) (k : Nat), s.priv p = true ∧ (s.path p).busy = false ∧ s.selOf p = .one (.core k)) :=
  ⟨⟨wS w0 0x40000000, .image, true, 0, (by decide +kernel), (by decide +kernel), (by decide +kernel)⟩,
    ⟨wS w0 0x50000040, .image, true, 1, (by decide +kernel), (by decide +kernel), (by decide +kernel)⟩⟩

/-- The hypotheses of WildcardWritesRaiseBusy, clause by clause. -/
theorem meets_WildcardWritesRaiseBusy :
    (∃ (s : State) (p : Path) (us : List URef) (c : Instr), s.priv p = true ∧ (s.path p).busy = false ∧ s.selOf p = .wild us ∧ (((∃ on, c = .ucbHold p on ∨ c = .ucbFence p on ∨ c = .ucbDrain p on ∨ c = .ucbEnable p on) ∨ c = .ucbReset p ∨
      ∃ v, c = .ucbVfWrite p v))) ∧
    (∃ (s : State) (p : Path) (us : List URef) (c : Instr), s.priv p = true ∧ (s.path p).busy = false ∧ s.selOf p = .wild us ∧ (((∃ x, c = .ucbMapWrite p x) ∨ ∃ pid, c = .ucbOwnerWrite p pid))) ∧
    (∃ (s : State) (p : Path) (c : Instr), s.priv p = true ∧ (s.path p).busy = true ∧ (((∃ on, c = .ucbHold p on ∨ c = .ucbFence p on ∨ c = .ucbDrain p on ∨ c = .ucbEnable p on) ∨ c = .ucbReset p ∨
      (∃ v, c = .ucbVfWrite p v ∨ c = .unitSelWrite p v ∨ c = .unitSelModeWrite p v) ∨ (∃ x, c = .ucbMapWrite p x) ∨
      ∃ pid, c = .ucbOwnerWrite p pid))) :=
  ⟨⟨wWild w0 0x3F000000, .image, (wWild w0 0x3F000000).wildUnits 0x3F000000, .ucbHold .image true, (by decide +kernel), (by decide +kernel), (by decide +kernel), (by decide +kernel)⟩,
    ⟨wWild w0 0x30F00000, .image, (wWild w0 0x30F00000).wildUnits 0x30F00000, .ucbMapWrite .image 8, (by decide +kernel), (by decide +kernel), (by decide +kernel), (by decide +kernel)⟩,
    ⟨wP w0 fun q => { q with busy := true }, .image, .ucbFence .image true, (by decide +kernel), (by decide +kernel), (by decide +kernel)⟩⟩

/-- The hypotheses of UnitRowsComplete, clause by clause. -/
theorem meets_UnitRowsComplete :
    (∃ (s : State) (p : Path) (u : URef) (k : Nat), s.priv p = true ∧ (s.path p).busy = false ∧ s.unitsStarted = true ∧ s.selOf p = .one u ∧ u ≠ .module ∧ k ∈ (s.resetUnits u).1) ∧
    (∃ (s : State) (p : Path) (u : URef), s.priv p = true ∧ (s.path p).busy = false ∧ s.unitsStarted = true ∧ s.selOf p = .one u ∧ u ≠ .module) ∧
    (∃ (s : State) (p : Path), s.priv p = true ∧ (s.path p).busy = false ∧ s.unitsStarted = true ∧ s.selOf p = .one .module) ∧
    (∃ (s : State) (p : Path) (pid : Pid) (k : Nat), s.priv p = true ∧ (s.path p).busy = false ∧ s.unitsStarted = true ∧ s.selOf p = .part pid ∧ k ∈ s.traysOfPid pid) ∧
    (∃ (s : State) (p : Path) (k i : Nat), s.priv p = true ∧ (s.path p).busy = false ∧ s.selOf p = .one (.tray k) ∧ uPhys (s.path p).unitSel = false ∧ s.logTray k = some i ∧ s.spareTrayFree (bayOfTray k) = true ∧ (s.tray k).ctl.movable = true) ∧
    (∃ (s : State) (p : Path) (c j : Nat), s.priv p = true ∧ (s.path p).busy = false ∧ s.selOf p = .one (.cluster c) ∧ uPhys (s.path p).unitSel = false ∧ s.logCluster c = some j ∧ s.spareClusterFree (trayOfCluster c) = true ∧ (s.cluster c).ctl.movable = true) :=
  ⟨⟨wS (wT w0 0 .ready) 0x30000000, .image, .tray 0, 0, (by decide +kernel), (by decide +kernel), (by decide +kernel), (by decide +kernel), (by decide +kernel), (by decide +kernel)⟩,
    ⟨wS (wT w0 0 .ready) 0x30000000, .image, .tray 0, (by decide +kernel), (by decide +kernel), (by decide +kernel), (by decide +kernel), (by decide +kernel)⟩,
    ⟨wS w0 0, .image, (by decide +kernel), (by decide +kernel), (by decide +kernel), (by decide +kernel)⟩,
    ⟨wPart (wT w0 3 .ready fun x => { x with owner := 5 }) 5, .image, 5, 3, (by decide +kernel), (by decide +kernel), (by decide +kernel), (by decide +kernel), (by decide +kernel)⟩,
    ⟨wS w0 0x30000000, .image, 0, 0, (by decide +kernel), (by decide +kernel), (by decide +kernel), (by decide +kernel), (by decide +kernel), (by decide +kernel), (by decide +kernel)⟩,
    ⟨wS w0 0x40000000, .image, 0, 0, (by decide +kernel), (by decide +kernel), (by decide +kernel), (by decide +kernel), (by decide +kernel), (by decide +kernel), (by decide +kernel)⟩⟩

/-- The hypotheses of UnitRowsComplete, clause by clause. -/
theorem meets_UnitRowsComplete_2 :
    (∃ (s : State) (p : Path) (k : Nat) (v : Word), s.priv p = true ∧ (s.path p).busy = false ∧ s.selOf p = .one (.tray k)) ∧
    (∃ (s : State) (p : Path) (c : Nat) (v : Word), s.priv p = true ∧ (s.path p).busy = false ∧ s.selOf p = .one (.cluster c)) ∧
    (∃ (s : State) (p : Path) (k : Nat) (pid : Pid), s.priv p = true ∧ (s.path p).busy = false ∧ s.selOf p = .one (.tray k) ∧ (((s.tray k).ctl.st = .off ∨ (s.tray k).ctl.st = .held ∧ (s.tray k).ctl.drained = true))) ∧
    (∃ (s : State) (p : Path) (k : Nat), s.priv p = true ∧ s.selOf p = .one (.tray k)) :=
  ⟨⟨wS w0 0x30000000, .image, 0, 0x107, (by decide +kernel), (by decide +kernel), (by decide +kernel)⟩,
    ⟨wS w0 0x40000000, .image, 0, 0x37, (by decide +kernel), (by decide +kernel), (by decide +kernel)⟩,
    ⟨wS w0 0x30000000, .image, 0, 63, (by decide +kernel), (by decide +kernel), (by decide +kernel), (by decide +kernel)⟩,
    ⟨wS (wT w0 0 .ready fun x => { x with temp := { x.temp with peak := 77 } }) 0x30000000, .image, 0, (by decide +kernel), (by decide +kernel)⟩⟩

/-- The hypotheses of UnitEndRowsComplete, clause by clause. -/
theorem meets_UnitEndRowsComplete :
    (∃ (s : State) (u : UnitAddr) (k i : Nat) (b : Bool), s.resolve u = some (.tray k) ∧ SMap.find s.map (bayOfTray k) = some (i, true, b)) ∧
    (∃ (s : State) (u : UnitAddr) (c i : Nat) (b : Bool), s.resolve u = some (.cluster c) ∧ SMap.find s.cmap (trayOfCluster c) = some (i, true, b)) ∧
    (∃ (s : State) (u : UnitAddr) (k : Nat), s.resolve u = some (.tray k) ∧ (s.tray k).ctl.st = .starting ∧ (s.tray k).light.gridFailed = false ∧ (s.tray k).light.locked = true ∧ (s.tray k).light.acquiring = false) ∧
    (∃ (s : State) (u : UnitAddr) (k : Nat), s.resolve u = some (.tray k) ∧ (s.tray k).ctl.st = .starting ∧ (s.tray k).light.gridFailed = false ∧ (s.tray k).light.locked = false) ∧
    (∃ (s : State) (u : UnitAddr) (k : Nat) (a b : Bool), s.resolve u = some (.tray k) ∧ (s.tray k).ctl.st = .starting ∧ s.mod.stage ≠ 6) ∧
    (∃ (s : State) (u : UnitAddr) (k : Nat), s.resolve u = some (.core k) ∧ (s.core k).ctl.st = .starting) ∧
    (∃ (s : State) (u : UnitAddr) (k : Nat), s.resolve u = some (.tray k) ∧ (s.tray k).ctl.st = .draining ∧ s.trayBusy k = false ∧ (s.tray k).light.devHold = false) ∧
    (∃ (s : State) (u : UnitAddr) (k : Nat), s.resolve u = some (.core k) ∧ (s.core k).ctl.st = .draining ∧ (s.core k).busy = false) :=
  ⟨⟨{ w0 with map := [(0, (2, true, false))] }, 0x30010000, 1, 2, false, (by decide +kernel), (by decide +kernel)⟩,
    ⟨{ w0 with cmap := [(0, (2, true, false))] }, 0x40000400, 1, 2, false, (by decide +kernel), (by decide +kernel)⟩,
    ⟨wT w0 0 .starting (fun x => { x with light := { x.light with locked := true } }), 0x30000000, 0, (by decide +kernel), (by decide +kernel), (by decide +kernel), (by decide +kernel), (by decide +kernel)⟩,
    ⟨wT w0 0 .starting, 0x30000000, 0, (by decide +kernel), (by decide +kernel), (by decide +kernel), (by decide +kernel)⟩,
    ⟨wT w0 0 .starting, 0x30000000, 0, true, false, (by decide +kernel), (by decide +kernel), (by decide +kernel)⟩,
    ⟨wK w0 0 .starting, 0x50000000, 0, (by decide +kernel), (by decide +kernel)⟩,
    ⟨wT w0 0 .draining, 0x30000000, 0, (by decide +kernel), (by decide +kernel), (by decide +kernel), (by decide +kernel)⟩,
    ⟨wK w0 0 .draining, 0x50000000, 0, (by decide +kernel), (by decide +kernel), (by decide +kernel)⟩⟩

/-- The hypotheses of ExposureUnitRowsComplete, clause by clause. -/
theorem meets_ExposureUnitRowsComplete :
    (∃ (s : State) (u : UnitAddr) (k adm g v a : Nat) (add : Bool) (d sub : Option Nat) (rest : List QEntry), s.trayAt u = some k ∧ (s.tray k).runs = true ∧ (s.tray k).refSwap = false ∧ (s.tray k).pend = [] ∧ (s.tray k).expQ = .expo adm g v a add d sub :: rest ∧ (s.tray k).hasActive = true) ∧
    (∃ (s : State) (u : UnitAddr) (k : Nat), s.trayAt u = some k ∧ (s.tray k).runs = true ∧ (s.tray k).refSwap = false ∧ (s.tray k).pend = [] ∧ (s.tray k).expQ = []) ∧
    (∃ (s : State) (u : UnitAddr) (k : Nat) (r : LoadReq) (rest : List LoadReq), s.trayAt u = some k ∧ (s.tray k).dacsFree = true ∧ (s.tray k).loadQ = r :: rest ∧ (s.tray k).load = none ∧ (s.tray k).expQ = [] ∧ (s.tray k).refSwap = false) ∧
    (∃ (s : State) (u : UnitAddr) (k : Nat) (r : LoadRun), s.trayAt u = some k ∧ (s.tray k).load = some r ∧ (s.tray k).inplace = none ∧ (s.tray k).vPause = false ∧ ((s.tray k).nextRow r).contains (-128) = false ∧ r.rows.length < 31) ∧
    (∃ (s : State) (u : UnitAddr) (k : Nat) (r : LoadRun), s.trayAt u = some k ∧ (s.tray k).load = some r ∧ (s.tray k).inplace = none ∧ (s.tray k).vPause = false ∧ ((s.tray k).nextRow r).contains (-128) = false ∧ r.rows.length < 31) ∧
    (∃ (s : State) (u : UnitAddr) (k : Nat) (r : LoadRun), s.trayAt u = some k ∧ (s.tray k).load = some r ∧ r.kind = .user ∧ (s.tray k).inplace = none ∧ (s.tray k).vPause = false ∧ ((s.tray k).nextRow r).contains (-128) = false ∧ r.rows.length = 31 ∧ r.toB = !(s.tray k).activeB ∧ ((r.calGen = (s.tray k).cal.gen ∨ r.calGen = (s.tray k).loadGen))) :=
  ⟨⟨wT w0 0 .ready fun x => { x with a := { wPlane with st := .active }, expQ := [.expo 5 0 3 7 true none none] }, 0x30000000, 0, 5, 0, 3, 7, true, none, none, [], (by decide +kernel), (by decide +kernel), (by decide +kernel), (by decide +kernel), (by decide +kernel), (by decide +kernel)⟩,
    ⟨wT w0 0 .ready, 0x30000000, 0, (by decide +kernel), (by decide +kernel), (by decide +kernel), (by decide +kernel), (by decide +kernel)⟩,
    ⟨wT w0 0 .ready fun x => { x with loadQ := [wReq, wReq] }, 0x30000000, 0, wReq, [wReq], (by decide +kernel), (by decide +kernel), (by decide +kernel), (by decide +kernel), (by decide +kernel), (by decide +kernel)⟩,
    ⟨wT w0 0 .ready fun x => { x with load := some (wRun 0), b := { st := .loading } }, 0x30000000, 0, wRun 0, (by decide +kernel), (by decide +kernel), (by decide +kernel), (by decide +kernel), (by decide +kernel), (by decide +kernel)⟩,
    ⟨wT w0 0 .ready fun x => { x with load := some (wRun 30), b := { st := .loading } }, 0x30000000, 0, wRun 30, (by decide +kernel), (by decide +kernel), (by decide +kernel), (by decide +kernel), (by decide +kernel), (by decide +kernel)⟩,
    ⟨wT w0 0 .ready fun x => { x with load := some (wRun 31), b := { st := .loading } }, 0x30000000, 0, wRun 31, (by decide +kernel), (by decide +kernel), (by decide +kernel), (by decide +kernel), (by decide +kernel), (by decide +kernel), (by decide +kernel), (by decide +kernel), (by decide +kernel)⟩⟩

/-- The hypotheses of ExposureUnitRowsComplete, clause by clause. -/
theorem meets_ExposureUnitRowsComplete_2 :
    (∃ (s : State) (u : UnitAddr) (k n : Nat), s.trayAt u = some k ∧ (s.tray k).vPause = false ∧ (s.tray k).inplace = some n) ∧
    (∃ (s : State) (u : UnitAddr) (k adm : Nat) (d sub : Option Nat) (rest : List QEntry), s.trayAt u = some k ∧ (s.tray k).runs = true ∧ (s.tray k).refSwap = false ∧ (s.tray k).expQ = .swap adm d sub :: rest ∧ (s.tray k).load = none ∧ (s.tray k).loadQ = [] ∧ (s.tray k).idlePlane.st = .loaded) ∧
    (∃ (s : State) (u : UnitAddr) (k : Nat), s.trayAt u = some k ∧ (s.tray k).dacsFree = true ∧ (s.tray k).active.st = .active ∧ (s.tray k).idlePlane.st = .empty ∧ (s.tray k).load = none ∧ (s.tray k).loadQ = [] ∧ (s.tray k).refSwap = false) ∧
    (∃ (s : State) (u : UnitAddr) (k : Nat), s.trayAt u = some k ∧ (s.tray k).dacsFree = true ∧ (s.tray k).active.st = .active ∧ (s.tray k).refSwap = false) ∧
    (∃ (s : State) (u : UnitAddr) (k : Nat), s.trayAt u = some k ∧ (s.tray k).dacsFree = true ∧ (s.tray k).idlePlane.st = .loaded ∧ (s.tray k).load = none ∧ (s.tray k).loadQ = [] ∧ (s.tray k).refSwap = false) ∧
    (∃ (s : State) (u : UnitAddr) (k : Nat), s.trayAt u = some k ∧ (s.tray k).runs = true ∧ (s.tray k).expQ = [] ∧ (s.tray k).refSwap = false ∧ (s.tray k).idleAt = false ∧ (s.tray k).pend = []) ∧
    (∃ (s : State) (u : UnitAddr) (k : Nat), s.trayAt u = some k ∧ (s.tray k).vPause = true) ∧
    (∃ (s : State) (u : UnitAddr) (k : Nat), s.trayAt u = some k ∧ (s.tray k).settle = true ∧ (s.tray k).vPause = false) :=
  ⟨⟨wT w0 0 .ready fun x => { x with a := { wPlane with st := .refreshing }, inplace := some 7 }, 0x30000000, 0, 7, (by decide +kernel), (by decide +kernel), (by decide +kernel)⟩,
    ⟨wT w0 0 .ready fun x => { x with b := wPlane, expQ := [.swap 6 (some 1) none] }, 0x30000000, 0, 6, some 1, none, [], (by decide +kernel), (by decide +kernel), (by decide +kernel), (by decide +kernel), (by decide +kernel), (by decide +kernel), (by decide +kernel)⟩,
    ⟨wT w0 0 .ready fun x => { x with a := { wPlane with st := .active } }, 0x30000000, 0, (by decide +kernel), (by decide +kernel), (by decide +kernel), (by decide +kernel), (by decide +kernel), (by decide +kernel), (by decide +kernel)⟩,
    ⟨wT w0 0 .ready fun x => { x with a := { wPlane with st := .active } }, 0x30000000, 0, (by decide +kernel), (by decide +kernel), (by decide +kernel), (by decide +kernel)⟩,
    ⟨wT w0 0 .ready fun x => { x with b := wPlane }, 0x30000000, 0, (by decide +kernel), (by decide +kernel), (by decide +kernel), (by decide +kernel), (by decide +kernel), (by decide +kernel)⟩,
    ⟨wT w0 0 .ready fun x => { x with proof := { x.proof with runOpen := true } }, 0x30000000, 0, (by decide +kernel), (by decide +kernel), (by decide +kernel), (by decide +kernel), (by decide +kernel), (by decide +kernel)⟩,
    ⟨wT w0 0 .ready fun x => { x with vPause := true, settle := true }, 0x30000000, 0, (by decide +kernel), (by decide +kernel)⟩,
    ⟨wT w0 0 .ready fun x => { x with settle := true }, 0x30000000, 0, (by decide +kernel), (by decide +kernel), (by decide +kernel)⟩⟩

/-- The hypotheses of ProofRowsComplete, clause by clause. -/
theorem meets_ProofRowsComplete :
    (∃ (s : State) (u : UnitAddr) (k : Nat) (p : Pend) (r : Int × Int), s.trayAt u = some k ∧ ((s.tray k).pend.any fun q => q.phase == .settled || q.phase == .awaitRef) = false ∧ (s.tray k).pend.find? (fun q => q.phase == .piped) = some p ∧ residuals p.sh p.m p.outs p.pat = r ∧ beyondT r.1 p.k p.fine p.allow.toNat = false ∧ beyondT r.2 p.k p.fine p.allow.toNat = false) ∧
    (∃ (s : State) (u : UnitAddr) (k : Nat) (p : Pend) (r : Int × Int), s.trayAt u = some k ∧ ((s.tray k).pend.any fun q => q.phase == .settled || q.phase == .awaitRef) = false ∧ (s.tray k).pend.find? (fun q => q.phase == .piped) = some p ∧ residuals p.sh p.m p.outs p.pat = r ∧ ((beyondT r.1 p.k p.fine p.allow.toNat = true ∨ beyondT r.2 p.k p.fine p.allow.toNat = true))) ∧
    (∃ (s : State) (u : UnitAddr) (k x : Nat) (p : Pend) (err : List Int), s.trayAt u = some k ∧ (s.tray k).pending? x = some p ∧ p.phase = .awaitRef ∧ p.ref1.isSome = true ∧ p.out1 = [] ∧ p.partner = 0) ∧
    (∃ (s : State) (u : UnitAddr) (k x : Nat) (p : Pend) (err : List Int), s.trayAt u = some k ∧ (s.tray k).pending? x = some p ∧ p.phase = .awaitRef ∧ p.ref1.isSome = true ∧ p.out1 = [] ∧ p.partner ≠ 0 ∧ p.referee err ≠ [] ∧ sameSums p (p.referee err) = true) ∧
    (∃ (s : State) (u : UnitAddr) (k x : Nat) (p : Pend) (err : List Int), s.trayAt u = some k ∧ (s.tray k).pending? x = some p ∧ p.phase = .secondRef ∧ p.ref2.isSome = true) ∧
    (∃ (s : State) (u : UnitAddr) (k : Nat) (g : Nat × Nat) (p : Pend) (rest : List (Nat × Nat)), s.trayAt u = some k ∧ (s.tray k).proof.guestQ = g :: rest ∧ (s.tray g.1).pending? g.2 = some p ∧ (s.tray k).ctl.st = .ready ∧ (s.tray k).runs = true ∧ (s.tray k).load = none ∧ (s.tray k).refSwap = false) :=
  ⟨⟨wDep w0 wPend, 0x30000000, 0, wPend, residuals wPend.sh wPend.m wPend.outs wPend.pat, (by decide +kernel), (by decide +kernel), (by decide +kernel), (by decide +kernel), (by decide +kernel), (by decide +kernel)⟩,
    ⟨wDep w0 wMiss, 0x30000000, 0, wMiss, residuals wMiss.sh wMiss.m wMiss.outs wMiss.pat, (by decide +kernel), (by decide +kernel), (by decide +kernel), (by decide +kernel), (by decide +kernel)⟩,
    ⟨wDep w0 wAsk, 0x30000000, 0, 5, wAsk, List.replicate 32 0, (by decide +kernel), (by decide +kernel), (by decide +kernel), (by decide +kernel), (by decide +kernel), (by decide +kernel)⟩,
    ⟨wDep w0 { wAsk with partner := 1 }, 0x30000000, 0, 5, { wAsk with partner := 1 }, List.replicate 32 0, (by decide +kernel), (by decide +kernel), (by decide +kernel), (by decide +kernel), (by decide +kernel), (by decide +kernel), (by decide +kernel), (by decide +kernel)⟩,
    ⟨wDep w0 { wAsk with partner := 2, phase := .secondRef, ref2 := some 4, out1 := [1] }, 0x30000000, 0, 5, { wAsk with partner := 2, phase := .secondRef, ref2 := some 4, out1 := [1] }, List.replicate 32 0, (by decide +kernel), (by decide +kernel), (by decide +kernel), (by decide +kernel)⟩,
    ⟨wT (wDep w0 wAsk) 1 .ready fun x => { x with proof := { x.proof with guestQ := [(0, 5), (5, 5)] } }, 0x30010000, 1, (0, 5), wAsk, [(5, 5)], (by decide +kernel), (by decide +kernel), (by decide +kernel), (by decide +kernel), (by decide +kernel), (by decide +kernel), (by decide +kernel)⟩⟩

/-- The hypotheses of ProofRowsComplete, clause by clause. -/
theorem meets_ProofRowsComplete_2 :
    (∃ (s : State) (u : UnitAddr) (k : Nat) (g : Nat × Nat) (rest : List (Nat × Nat)), s.trayAt u = some k ∧ (s.tray k).proof.guestQ = g :: rest ∧ (s.tray g.1).pending? g.2 = none) ∧
    (∃ (s : State) (u : UnitAddr) (k x : Nat) (p : Pend) (e : Int), s.trayAt u = some k ∧ (s.tray k).pending? x = some p ∧ p.partner = 0 ∧ p.phase = .awaitRef ∧ p.out1 = [] ∧ s.guestMade k x = some (k, x, false, e)) ∧
    (∃ (s : State) (u : UnitAddr) (k x : Nat) (p : Pend) (e : Int), s.trayAt u = some k ∧ (s.tray k).pending? x = some p ∧ p.partner = 0 ∧ p.phase = .awaitRef ∧ p.out1 = [] ∧ s.guestMade k x = some (k, x, true, e)) ∧
    (∃ (s : State) (u : UnitAddr) (k x : Nat) (p : Pend), s.trayAt u = some k ∧ (s.tray k).pending? x = some p ∧ p.partner = 0 ∧ p.phase = .awaitRef ∧ p.out1 = []) ∧
    (∃ (s : State) (u : UnitAddr) (k : Nat), s.trayAt u = some k ∧ s.epochLen ≤ (s.tray k).proof.inEpoch ∧ s.monEn = false) ∧
    (∃ (s : State) (u : UnitAddr) (k : Nat), s.trayAt u = some k ∧ 16777216 ≤ (s.tray k).proof.rateExp) :=
  ⟨⟨wT w0 1 .ready fun x => { x with proof := { x.proof with guestQ := [(0, 5), (5, 5)] } }, 0x30010000, 1, (0, 5), [(5, 5)], (by decide +kernel), (by decide +kernel), (by decide +kernel)⟩,
    ⟨wT (wDep w0 wAsk) 1 .ready fun x => { x with proof := { x.proof with guestDone := [(0, 5, false, 77)] } }, 0x30000000, 0, 5, wAsk, 77, (by decide +kernel), (by decide +kernel), (by decide +kernel), (by decide +kernel), (by decide +kernel), (by decide +kernel)⟩,
    ⟨wT (wDep w0 wAsk) 1 .ready fun x => { x with proof := { x.proof with guestDone := [(0, 5, true, 77)] } }, 0x30000000, 0, 5, wAsk, 77, (by decide +kernel), (by decide +kernel), (by decide +kernel), (by decide +kernel), (by decide +kernel), (by decide +kernel)⟩,
    ⟨wDep w0 wAsk, 0x30000000, 0, 5, wAsk, (by decide +kernel), (by decide +kernel), (by decide +kernel), (by decide +kernel), (by decide +kernel)⟩,
    ⟨wT (w0.setPol 0xA00004 0) 0 .ready fun x => { x with proof := { x.proof with inEpoch := w0.epochLen } }, 0x30000000, 0, (by decide +kernel), (by decide +kernel), (by decide +kernel)⟩,
    ⟨wT w0 0 .ready fun x => { x with proof := { x.proof with rateExp := 16777216 } }, 0x30000000, 0, (by decide +kernel), (by decide +kernel)⟩⟩

/-- The hypotheses of ProofRowsComplete, clause by clause. -/
theorem meets_ProofRowsComplete_3 :
    (∃ (s : State) (u : UnitAddr) (k : Nat) (sec : BitVec 16), s.resolve u = some (.tray k)) ∧
    (∃ (s : State) (u : UnitAddr) (c : Nat) (sec : BitVec 16), s.resolve u = some (.cluster c)) ∧
    (∃ (s : State) (u : UnitAddr) (k : Nat) (lost : List (BitVec 16)), s.trayAt u = some k ∧ (s.tray k).restoring = true) ∧
    (∃ (s : State) (p : Path), s.priv p = true) ∧
    (∃ (s : State) (p : Path), s.priv p = true) :=
  ⟨⟨wT w0 0 .ready fun x => { x with lad := { x.lad with score := 640 } }, 0x30000000, 0, 60, by decide +kernel⟩,
    ⟨wC w0 7 .ready fun x => { x with lad := { x.lad with score := 640 } }, 0x40001C00, 7, 60, by decide +kernel⟩,
    ⟨wT w0 0 .ready fun x => { x with restoring := true }, 0x30000000, 0, [], (by decide +kernel), (by decide +kernel)⟩,
    ⟨wT w0 0 .ready, .image, by decide +kernel⟩,
    ⟨wT w0 0 .ready, .image, by decide +kernel⟩⟩

/-- The hypotheses of CoreAndThreadRowsComplete, clause by clause. -/
theorem meets_CoreAndThreadRowsComplete :
    (∃ (s : State) (c : UnitAddr) (k n : Nat), s.coreAt c = some k ∧ (s.core k).devWork = 0 ∧ (s.core k).keepsTurn = false ∧ (s.core k).nextTurn (s.core k).turn = some n ∧ issues (s.core k).ctl.st = true) ∧
    (∃ (s : State) (c : UnitAddr) (k : Nat), s.coreAt c = some k ∧ (s.core k).devWork = 0 ∧ (s.core k).slots ≠ [] ∧ ((s.core k).slots.any fun e => e.2.st == .ready) = false ∧ (s.core k).keepsTurn = false ∧ (s.core k).nextTurn (s.core k).turn = none) ∧
    (∃ (s : State) (c : UnitAddr) (k : Nat), s.coreAt c = some k ∧ 0 < (s.core k).devWork ∧ (s.core k).owesTurn = false ∧ issues (s.core k).ctl.st = true) ∧
    (∃ (s : State) (c : UnitAddr) (k : Nat), s.coreAt c = some k) ∧
    (∃ (s : State) (u : UnitAddr) (c k n b : Nat) (r : StartReq), s.clusterAt u = some c ∧ s.topStart (s.ableAt c) = some (r, k, n, b) ∧ (if r.first then s.fetchFault r.ctx r.chain.toNat else none) = none ∧ r.parent = none) ∧
    (∃ (s : State) (c : UnitAddr) (k : Nat) (n : SlotNo) (x : Thread), s.coreAt c = some k ∧ s.thread? k n.toNat = some x ∧ x.st = .ending ∧ (s.movers.any fun m => m.thread == x.id && usesWindow m.d) = false) :=
  ⟨⟨wRow (wD []), 0x50000000, 0, 0, (by decide +kernel), (by decide +kernel), (by decide +kernel), (by decide +kernel), (by decide +kernel)⟩,
    ⟨wCore { wTh 0 with st := .waitData }, 0x50000000, 0, (by decide +kernel), (by decide +kernel), (by decide +kernel), (by decide +kernel), (by decide +kernel), (by decide +kernel)⟩,
    ⟨(wRow (wD [])).modCore 0 (fun y => { y with devWork := 10 }), 0x50000000, 0, (by decide +kernel), (by decide +kernel), (by decide +kernel), (by decide +kernel)⟩,
    ⟨wRow (wD []), 0x50000000, 0, by decide +kernel⟩,
    ⟨{ wRow (wD []) with starts := [wStart] }, 0x40000000, 0, 0, 1, 4, wStart, (by decide +kernel), (by decide +kernel), (by decide +kernel), (by decide +kernel)⟩,
    ⟨wCore { wTh 0 with st := ThState.ending }, 0x50000000, 0, 0, { wTh 0 with st := ThState.ending }, (by decide +kernel), (by decide +kernel), (by decide +kernel), (by decide +kernel)⟩⟩

/-- The hypotheses of CoreAndThreadRowsComplete, clause by clause. -/
theorem meets_CoreAndThreadRowsComplete_2 :
    (∃ (s : State) (u : UnitAddr) (c : Nat) (op : TallyOp), s.clusterAt u = some c ∧ s.arrives (s.cluster c).inflight = some op) ∧
    (∃ (s : State) (c : UnitAddr) (k : Nat) (n : SlotNo) (x : Thread) (d : BitVec 512) (i : BitVec 6) (v us : Word), s.coreAt c = some k ∧ s.thread? k n.toNat = some x ∧ x.wait = .tally i v us ∧ us ≠ 0 ∧ x.cur = some d ∧ dFlag d 2 = false) ∧
    (∃ (s : State) (u : UnitAddr) (c : Nat), s.clusterAt u = some c) ∧
    (∃ (s : State) (c : UnitAddr) (k : Nat) (n : SlotNo) (x : Thread) (d : BitVec 512) (desc : Nat), s.coreAt c = some k ∧ s.thread? k n.toNat = some x ∧ x.st = .waitQueue ∧ x.cur = some d ∧ x.desc = some desc ∧ opcode d = 0x20 ∧ (s.tray (trayOfCore k)).admits = true ∧ s.queueAhead (trayOfCore k) d desc = false ∧ ((0 < x.prog ∨ (s.tray (trayOfCore k)).hasActive = true ∨ (s.tray (trayOfCore k)).swapQueued = true)) ∧ x.prog < entriesOf d ∧ entriesOf d - x.prog ≤ (s.tray (trayOfCore k)).roomFor d) ∧
    (∃ (s : State) (p : Path) (v : Word), s.priv p = true) ∧
    (∃ (s : State) (c : UnitAddr) (k : Nat) (n : SlotNo) (x : Thread) (d : BitVec 512) (errs : List MemErr), s.coreAt c = some k ∧ s.thread? k n.toNat = some x ∧ x.wait = .fetch ∧ x.nxt = some d) ∧
    (∃ (s : State) (c : UnitAddr) (k : Nat) (n : SlotNo) (x : Thread) (errs : List MemErr), s.coreAt c = some k ∧ s.thread? k n.toNat = some x ∧ x.wait = .fetch ∧ x.nxt = none ∧ (s.meet errs).readHeld x.ctx x.pc.toNat 64 = false ∧ (s.meet errs).fetchFault x.ctx x.pc.toNat = none) :=
  ⟨⟨(wRow (wD [])).modCluster 0 (fun y => { y with inflight := [⟨3, false, 5, some 33, 900, 0⟩] }), 0x40000000, 0, ⟨3, false, 5, some 33, 900, 0⟩, (by decide +kernel), (by decide +kernel)⟩,
    ⟨wCore { wTh (wD [(0, 4), (0x10, 2)]) with st := .waitTally, wait := .tally 3 5 100 }, 0x50000000, 0, 0, { wTh (wD [(0, 4), (0x10, 2)]) with st := .waitTally, wait := .tally 3 5 100 }, wD [(0, 4), (0x10, 2)], 3, 5, 100, (by decide +kernel), (by decide +kernel), (by decide +kernel), (by decide +kernel), (by decide +kernel), (by decide +kernel)⟩,
    ⟨wRow 0, 0x40000000, 0, by decide +kernel⟩,
    ⟨wCore { wTh (wD [(0, 0x20), (0x10, wTb 0), (0x18, 3)]) with st := .waitQueue, prog := 1 }, 0x50000000, 0, 0, { wTh (wD [(0, 0x20), (0x10, wTb 0), (0x18, 3)]) with st := .waitQueue, prog := 1 }, wD [(0, 0x20), (0x10, wTb 0), (0x18, 3)], 33, (by decide +kernel), (by decide +kernel), (by decide +kernel), (by decide +kernel), (by decide +kernel), (by decide +kernel), (by decide +kernel), (by decide +kernel), (by decide +kernel), (by decide +kernel), (by decide +kernel)⟩,
    ⟨wRow 0, .image, 0x02000007, by decide +kernel⟩,
    ⟨wCore { wTh 0 with st := .waitData, wait := .fetch, cur := none, nxt := some 7 }, 0x50000000, 0, 0, { wTh 0 with st := .waitData, wait := .fetch, cur := none, nxt := some 7 }, 7, [], (by decide +kernel), (by decide +kernel), (by decide +kernel), (by decide +kernel)⟩,
    ⟨wCore { wTh 0 with st := .waitData, wait := .fetch, cur := none }, 0x50000000, 0, 0, { wTh 0 with st := .waitData, wait := .fetch, cur := none }, [], (by decide +kernel), (by decide +kernel), (by decide +kernel), (by decide +kernel), (by decide +kernel), (by decide +kernel)⟩⟩

/-- The hypotheses of ControlDescriptorsComplete, clause by clause. -/
theorem meets_ControlDescriptorsComplete :
    (∃ (s : State) (c : UnitAddr) (n : SlotNo) (k : Nat) (t : Thread) (d : BitVec 512), Ready s c n k t d ∧ opcode d = 0x00 ∧ hdrOk d false = true ∧ bodyOk d [] = true ∧ (s.ctOf k t d).isSome = true) ∧
    (∃ (s : State) (c : UnitAddr) (n : SlotNo) (k : Nat) (t : Thread) (d : BitVec 512), Ready s c n k t d ∧ opcode d = 0x01 ∧ hdrOk d false = true ∧ bodyOk d [] = true ∧ (s.ctOf k t d).isSome = true) ∧
    (∃ (s : State) (c : UnitAddr) (n : SlotNo) (k : Nat) (t : Thread) (d : BitVec 512), Ready s c n k t d ∧ opcode d = 0x02 ∧ hdrOk d false = true ∧ bodyOk d [(0x10, 8)] = true ∧ (opnd d 0x10).among [0] = true ∧ (opnd d 0x10).off % 64 = 0 ∧ (s.ctOf k t d).isSome = true ∧ dFlag d 1 = false ∧ (s.ctx t.ctx).st ≠ 2) ∧
    (∃ (s : State) (c : UnitAddr) (n : SlotNo) (k : Nat) (t : Thread) (d : BitVec 512), Ready s c n k t d ∧ knownOpcodes.contains (opcode d) = false ∧ dFlag d 2 = false) ∧
    (∃ (s : State) (c : UnitAddr) (n : SlotNo) (k : Nat) (t : Thread) (d : BitVec 512), Ready s c n k t d ∧ opcode d = 0x03 ∧ Passes (startChecks s t d) ∧ (s.ctOf k t d).isSome = true ∧ s.judgeStart t.ctx (BitVec.ofNat 32 (dN d 0x18 4)) (dN d 0x1C 1) = none ∧ (startReq s k n t d).isSome = true ∧ dN d 0x1D 1 % 2 = 0) ∧
    (∃ (s : State) (c : UnitAddr) (n : SlotNo) (k : Nat) (t : Thread) (d : BitVec 512) (q : StartReq) (ck cn b : Nat), Ready s c n k t d ∧ opcode d = 0x03 ∧ Passes (startChecks s t d) ∧ (s.ctOf k t d).isSome = true ∧ s.judgeStart t.ctx (BitVec.ofNat 32 (dN d 0x18 4)) (dN d 0x1C 1) = none ∧ startReq s k n t d = some q ∧ dN d 0x1D 1 % 2 = 1 ∧ s.placeOf q = some (ck, cn, b)) :=
  ⟨⟨wRow 0, 0x50000000, 0, 0, wTh 0, 0, (by constructor <;> decide +kernel), (by decide +kernel), (by decide +kernel), (by decide +kernel), (by decide +kernel)⟩,
    ⟨wRow (wD [(0, 1)]), 0x50000000, 0, 0, wTh (wD [(0, 1)]), wD [(0, 1)], (by constructor <;> decide +kernel), (by decide +kernel), (by decide +kernel), (by decide +kernel), (by decide +kernel)⟩,
    ⟨wRow (wD [(0, 2), (0x10, wDev 0x400)]), 0x50000000, 0, 0, wTh (wD [(0, 2), (0x10, wDev 0x400)]), wD [(0, 2), (0x10, wDev 0x400)], (by constructor <;> decide +kernel), (by decide +kernel), (by decide +kernel), (by decide +kernel), (by decide +kernel), (by decide +kernel), (by decide +kernel), (by decide +kernel), (by decide +kernel)⟩,
    ⟨wRow (wD [(0, 0xEE)]), 0x50000000, 0, 0, wTh (wD [(0, 0xEE)]), wD [(0, 0xEE)], (by constructor <;> decide +kernel), (by decide +kernel), (by decide +kernel)⟩,
    ⟨wRow (wD [(0, 3), (0x10, wDev 64), (0x18, 0x50000000), (0x1C, 4), (0x1D, 2), (0x1E, 9), (0x20, 0x40000000)]), 0x50000000, 0, 0, wTh (wD [(0, 3), (0x10, wDev 64), (0x18, 0x50000000), (0x1C, 4), (0x1D, 2), (0x1E, 9), (0x20, 0x40000000)]), wD [(0, 3), (0x10, wDev 64), (0x18, 0x50000000), (0x1C, 4), (0x1D, 2), (0x1E, 9), (0x20, 0x40000000)], (by constructor <;> decide +kernel), (by decide +kernel), (by constructor <;> decide +kernel), (by decide +kernel), (by decide +kernel), (by decide +kernel), (by decide +kernel)⟩,
    ⟨wRow (wD [(0, 3), (0x10, wDev 64), (0x18, 0x50000000), (0x1C, 4), (0x1D, 1)]), 0x50000000, 0, 0, wTh (wD [(0, 3), (0x10, wDev 64), (0x18, 0x50000000), (0x1C, 4), (0x1D, 1)]), wD [(0, 3), (0x10, wDev 64), (0x18, 0x50000000), (0x1C, 4), (0x1D, 1)], ((startReq (wRow 0) 0 0 (wTh 0) (wD [(0, 3), (0x10, wDev 64), (0x18, 0x50000000), (0x1C, 4), (0x1D, 1)])).getD wStart), 0, 1, 4, (by constructor <;> decide +kernel), (by decide +kernel), (by constructor <;> decide +kernel), (by decide +kernel), (by decide +kernel), (by decide +kernel), (by decide +kernel), (by decide +kernel)⟩⟩

/-- The hypotheses of ControlDescriptorsComplete, clause by clause. -/
theorem meets_ControlDescriptorsComplete_2 :
    (∃ (s : State) (c : UnitAddr) (n : SlotNo) (k : Nat) (t : Thread) (d : BitVec 512) (m : Nat), Ready s c n k t d ∧ opcode d = 0x04 ∧ dN d 0x10 1 % 4 = 0 ∧ tallyFmt d = true ∧ dN d 0x1C 4 = 0 ∧ 1 ≤ dN d 0x18 4 ∧ dN d 0x18 4 ≤ 65535 ∧ (s.ctOf k t d).isSome = true ∧ s.tallyTarget k t d = some m) ∧
    (∃ (s : State) (c : UnitAddr) (n : SlotNo) (k : Nat) (t : Thread) (d : BitVec 512) (m : Nat), Ready s c n k t d ∧ opcode d = 0x04 ∧ dN d 0x10 1 % 4 = 0 ∧ tallyFmt d = true ∧ dN d 0x1C 4 = 0 ∧ 1 ≤ dN d 0x18 4 ∧ dN d 0x18 4 ≤ 65535 ∧ (s.ctOf k t d).isSome = true ∧ s.tallyTarget k t d = some m) ∧
    (∃ (s : State) (c : UnitAddr) (n : SlotNo) (k : Nat) (t : Thread) (d : BitVec 512) (m : Nat), Ready s c n k t d ∧ opcode d = 0x04 ∧ dN d 0x10 1 % 4 = 1 ∧ tallyFmt d = true ∧ dN d 0x1C 4 = 0 ∧ (s.ctOf k t d).isSome = true ∧ s.tallyTarget k t d = some m) ∧
    (∃ (s : State) (c : UnitAddr) (n : SlotNo) (k : Nat) (t : Thread) (d : BitVec 512), Ready s c n k t d ∧ opcode d = 0x04 ∧ dN d 0x10 1 % 4 = 2 ∧ tallyFmt d = true ∧ dN d 0x14 4 = 0 ∧ (s.ctOf k t d).isSome = true) :=
  ⟨⟨wRow (wD [(0, 4), (0x11, 9), (0x14, 0x40000000), (0x18, 65535)]), 0x50000000, 0, 0, wTh (wD [(0, 4), (0x11, 9), (0x14, 0x40000000), (0x18, 65535)]), wD [(0, 4), (0x11, 9), (0x14, 0x40000000), (0x18, 65535)], 0, (by constructor <;> decide +kernel), (by decide +kernel), (by decide +kernel), (by decide +kernel), (by decide +kernel), (by decide +kernel), (by decide +kernel), (by decide +kernel), (by decide +kernel)⟩,
    ⟨wRow (wD [(0, 4), (0x11, 9), (0x14, 0x40000000), (0x18, 1)]), 0x50000000, 0, 0, wTh (wD [(0, 4), (0x11, 9), (0x14, 0x40000000), (0x18, 1)]), wD [(0, 4), (0x11, 9), (0x14, 0x40000000), (0x18, 1)], 0, (by constructor <;> decide +kernel), (by decide +kernel), (by decide +kernel), (by decide +kernel), (by decide +kernel), (by decide +kernel), (by decide +kernel), (by decide +kernel), (by decide +kernel)⟩,
    ⟨wRow (wD [(0, 4), (0x10, 1), (0x11, 63), (0x14, 0x40000000), (0x18, 0xFFFFFFFF)]), 0x50000000, 0, 0, wTh (wD [(0, 4), (0x10, 1), (0x11, 63), (0x14, 0x40000000), (0x18, 0xFFFFFFFF)]), wD [(0, 4), (0x10, 1), (0x11, 63), (0x14, 0x40000000), (0x18, 0xFFFFFFFF)], 0, (by constructor <;> decide +kernel), (by decide +kernel), (by decide +kernel), (by decide +kernel), (by decide +kernel), (by decide +kernel), (by decide +kernel)⟩,
    ⟨wRow (wD [(0, 4), (0x10, 2), (0x11, 63), (0x18, 0)]), 0x50000000, 0, 0, wTh (wD [(0, 4), (0x10, 2), (0x11, 63), (0x18, 0)]), wD [(0, 4), (0x10, 2), (0x11, 63), (0x18, 0)], (by constructor <;> decide +kernel), (by decide +kernel), (by decide +kernel), (by decide +kernel), (by decide +kernel), (by decide +kernel)⟩⟩

/-- The hypotheses of MovementDescriptorsComplete, clause by clause. -/
theorem meets_MovementDescriptorsComplete :
    (∃ (s : State) (c : UnitAddr) (n : SlotNo) (k : Nat) (t : Thread) (d : BitVec 512), Ready s c n k t d ∧ opcode d = 0x10 ∧ Passes (copyChecks s t d) ∧ (s.ctOf k t d).isSome = true ∧ dFlag d 3 = false) ∧
    (∃ (s : State) (c : UnitAddr) (n : SlotNo) (k : Nat) (t : Thread) (d : BitVec 512), Ready s c n k t d ∧ opcode d = 0x10 ∧ Passes (copyChecks s t d) ∧ (s.ctOf k t d).isSome = true ∧ dFlag d 3 = true ∧ (s.outst.filter fun o => o.thread == t.id && o.isAsync).length < 64) ∧
    (∃ (s : State) (c : UnitAddr) (n : SlotNo) (k : Nat) (t : Thread) (d : BitVec 512), Ready s c n k t d ∧ opcode d = 0x11 ∧ Passes (fillChecks s t d) ∧ (s.ctOf k t d).isSome = true ∧ dFlag d 3 = false) ∧
    (∃ (s : State) (c : UnitAddr) (n : SlotNo) (k : Nat) (t : Thread) (d : BitVec 512), Ready s c n k t d ∧ opcode d = 0x23 ∧ Passes (accReadChecks s t d) ∧ (s.ctOf k t d).isSome = true ∧ (s.tray (trayOfCore k)).ctl.st ≠ .failed) ∧
    (∃ (s : State) (c : UnitAddr) (n : SlotNo) (k : Nat) (t : Thread) (d : BitVec 512), Ready s c n k t d ∧ opcode d = 0x24 ∧ Passes (accWriteChecks s t d) ∧ (s.ctOf k t d).isSome = true ∧ (s.tray (trayOfCore k)).ctl.st ≠ .failed) ∧
    (∃ (s : State) (c : UnitAddr) (n : SlotNo) (k : Nat) (t : Thread) (d : BitVec 512), Ready s c n k t d ∧ opcode d = 0x18 ∧ Passes (fabricChecks true s t d) ∧ (s.ctOf k t d).isSome = true ∧ (peerEntry s t d).getLsbD 31 = true ∧ dFlag d 3 = false) :=
  ⟨⟨wRow (wD [(0, 0x10), (0x10, wLs 0), (0x18, wDev 0), (0x20, 64), (0x24, 2), (0x28, 64), (0x2C, 64)]), 0x50000000, 0, 0, wTh (wD [(0, 0x10), (0x10, wLs 0), (0x18, wDev 0), (0x20, 64), (0x24, 2), (0x28, 64), (0x2C, 64)]), wD [(0, 0x10), (0x10, wLs 0), (0x18, wDev 0), (0x20, 64), (0x24, 2), (0x28, 64), (0x2C, 64)], (by constructor <;> decide +kernel), (by decide +kernel), (by constructor <;> decide +kernel), (by decide +kernel), (by decide +kernel)⟩,
    ⟨wRow (wD [(0, 0x10), (1, 8), (0x10, wLs 0), (0x18, wDev 0), (0x20, 64), (0x24, 1)]), 0x50000000, 0, 0, wTh (wD [(0, 0x10), (1, 8), (0x10, wLs 0), (0x18, wDev 0), (0x20, 64), (0x24, 1)]), wD [(0, 0x10), (1, 8), (0x10, wLs 0), (0x18, wDev 0), (0x20, 64), (0x24, 1)], (by constructor <;> decide +kernel), (by decide +kernel), (by constructor <;> decide +kernel), (by decide +kernel), (by decide +kernel), (by decide +kernel)⟩,
    ⟨wRow (wD [(0, 0x11), (0x10, wTb 8), (0x18, 77), (0x20, 64)]), 0x50000000, 0, 0, wTh (wD [(0, 0x11), (0x10, wTb 8), (0x18, 77), (0x20, 64)]), wD [(0, 0x11), (0x10, wTb 8), (0x18, 77), (0x20, 64)], (by constructor <;> decide +kernel), (by decide +kernel), (by constructor <;> decide +kernel), (by decide +kernel), (by decide +kernel)⟩,
    ⟨wRow (wD [(0, 0x23), (0x10, wLs 8), (0x18, 510), (0x1A, 2), (0x20, 128)]), 0x50000000, 0, 0, wTh (wD [(0, 0x23), (0x10, wLs 8), (0x18, 510), (0x1A, 2), (0x20, 128)]), wD [(0, 0x23), (0x10, wLs 8), (0x18, 510), (0x1A, 2), (0x20, 128)], (by constructor <;> decide +kernel), (by decide +kernel), (by constructor <;> decide +kernel), (by decide +kernel), (by decide +kernel)⟩,
    ⟨wRow (wD [(0, 0x24), (0x18, 510), (0x1A, 2), (0x1C, 1)]), 0x50000000, 0, 0, wTh (wD [(0, 0x24), (0x18, 510), (0x1A, 2), (0x1C, 1)]), wD [(0, 0x24), (0x18, 510), (0x1A, 2), (0x1C, 1)], (by constructor <;> decide +kernel), (by decide +kernel), (by constructor <;> decide +kernel), (by decide +kernel), (by decide +kernel)⟩,
    ⟨wX (wRow (wD [(0, 0x18), (0x10, wLs 8), (0x18, 4096), (0x20, 100), (0x24, 63)])) 1 (fun y => { y with peers := [(63, 0x80040007)] }), 0x50000000, 0, 0, wTh (wD [(0, 0x18), (0x10, wLs 8), (0x18, 4096), (0x20, 100), (0x24, 63)]), wD [(0, 0x18), (0x10, wLs 8), (0x18, 4096), (0x20, 100), (0x24, 63)], (by constructor <;> decide +kernel), (by decide +kernel), (by constructor <;> decide +kernel), (by decide +kernel), (by decide +kernel), (by decide +kernel)⟩⟩

/-- The hypotheses of MovementDescriptorsComplete, clause by clause. -/
theorem meets_MovementDescriptorsComplete_2 :
    (∃ (s : State) (c : UnitAddr) (n : SlotNo) (k : Nat) (t : Thread) (d : BitVec 512), Ready s c n k t d ∧ opcode d = 0x19 ∧ Passes (fabricChecks false s t d) ∧ (s.ctOf k t d).isSome = true ∧ (peerEntry s t d).getLsbD 31 = true ∧ dFlag d 3 = false) ∧
    (∃ (s : State) (id : Nat) (m : MoverOp) (errs : List MemErr), (s.movers.find? fun x => x.id == id) = some m ∧ m.fin = none ∧ ((opcode m.d = 0x10 ∨ opcode m.d = 0x11 ∨ (opcode m.d = 0x23 ∨ opcode m.d = 0x24) ∧ s.accWaits m = false ∨
      opcode m.d = 0x19 ∧ (s.fab.xfers.any fun x => x.mine && x.op == some m.desc && decide (x.len ≤ x.moved)) = true)) ∧ Quiet s) ∧
    (∃ (s : State) (id : Nat) (m : MoverOp) (errs : List MemErr), (s.movers.find? fun x => x.id == id) = some m ∧ m.fin = none ∧ ((opcode m.d = 0x10 ∨ opcode m.d = 0x11 ∨ (opcode m.d = 0x23 ∨ opcode m.d = 0x24) ∧ s.accWaits m = false ∨
      opcode m.d = 0x19 ∧ (s.fab.xfers.any fun x => x.mine && x.op == some m.desc && decide (x.len ≤ x.moved)) = true)) ∧ Quiet s) ∧
    (∃ (s : State) (id : Nat) (m : MoverOp) (errs : List MemErr), (s.movers.find? fun x => x.id == id) = some m ∧ m.fin = none ∧ opcode m.d = 0x11 ∧ (opnd m.d 0x10).sp = 1) :=
  ⟨⟨wX (wRow (wD [(0, 0x19), (0x10, wDev 8), (0x18, 4096), (0x20, 100), (0x24, 63)])) 1 (fun y => { y with peers := [(63, 0x80040007)] }), 0x50000000, 0, 0, wTh (wD [(0, 0x19), (0x10, wDev 8), (0x18, 4096), (0x20, 100), (0x24, 63)]), wD [(0, 0x19), (0x10, wDev 8), (0x18, 4096), (0x20, 100), (0x24, 63)], (by constructor <;> decide +kernel), (by decide +kernel), (by constructor <;> decide +kernel), (by decide +kernel), (by decide +kernel), (by decide +kernel)⟩,
    ⟨{ wRow 0 with movers := [wMov (wD [(0, 0x10), (0x10, wLs 0), (0x18, wDev 0), (0x20, 64), (0x24, 2), (0x28, 64), (0x2C, 64)])] }, 950, wMov (wD [(0, 0x10), (0x10, wLs 0), (0x18, wDev 0), (0x20, 64), (0x24, 2), (0x28, 64), (0x2C, 64)]), [], (by decide +kernel), (by decide +kernel), (by decide +kernel), (by unfold Quiet; decide +kernel)⟩,
    ⟨{ wRow 0 with movers := [wMov (wD [(0, 0x11), (0x10, wTb 8), (0x18, 77), (0x20, 64)])] }, 950, wMov (wD [(0, 0x11), (0x10, wTb 8), (0x18, 77), (0x20, 64)]), [], (by decide +kernel), (by decide +kernel), (by decide +kernel), (by unfold Quiet; decide +kernel)⟩,
    ⟨{ wRow 0 with movers := [wMov (wD [(0, 0x11), (0x10, wLs 8), (0x18, 77), (0x20, 16)])] }, 950, wMov (wD [(0, 0x11), (0x10, wLs 8), (0x18, 77), (0x20, 16)]), [], (by decide +kernel), (by decide +kernel), (by decide +kernel), (by decide +kernel)⟩⟩

/-- The hypotheses of ExposurePathDescriptorsComplete, clause by clause. -/
theorem meets_ExposurePathDescriptorsComplete :
    (∃ (s : State) (c : UnitAddr) (n : SlotNo) (k : Nat) (t : Thread) (d : BitVec 512), Ready s c n k t d ∧ opcode d = 0x20 ∧ Passes (exposeChecks s t d) ∧ (s.ctOf k t d).isSome = true ∧ (s.tray (trayOfCore k)).admits = true ∧ t.prog = 0 ∧ s.queueAhead (trayOfCore k) d s.nextId = false ∧ (((s.tray (trayOfCore k)).hasActive = true ∨ (s.tray (trayOfCore k)).swapQueued = true)) ∧ (s.tray (trayOfCore k)).expQ.length + dN d 0x18 4 ≤ 64) ∧
    (∃ (s : State) (c : UnitAddr) (n : SlotNo) (k : Nat) (t : Thread) (d : BitVec 512), Ready s c n k t d ∧ opcode d = 0x20 ∧ Passes (exposeChecks s t d) ∧ (s.ctOf k t d).isSome = true ∧ (s.tray (trayOfCore k)).admits = true ∧ t.prog = 0 ∧ s.queueAhead (trayOfCore k) d s.nextId = false ∧ (((s.tray (trayOfCore k)).hasActive = true ∨ (s.tray (trayOfCore k)).swapQueued = true)) ∧ (s.tray (trayOfCore k)).expQ.length + dN d 0x18 4 ≤ 64) ∧
    (∃ (s : State) (c : UnitAddr) (n : SlotNo) (k : Nat) (t : Thread) (d : BitVec 512), Ready s c n k t d ∧ opcode d = 0x21 ∧ Passes (planeLoadChecks s t d) ∧ (s.ctOf k t d).isSome = true ∧ (s.tray (trayOfCore k)).admits = true ∧ t.prog = 0 ∧ s.queueAhead (trayOfCore k) d s.nextId = false ∧ (s.tray (trayOfCore k)).loads < 4) ∧
    (∃ (s : State) (c : UnitAddr) (n : SlotNo) (k : Nat) (t : Thread) (d : BitVec 512), Ready s c n k t d ∧ opcode d = 0x21 ∧ Passes (planeLoadChecks s t d) ∧ (s.ctOf k t d).isSome = true ∧ (s.tray (trayOfCore k)).admits = true ∧ t.prog = 0 ∧ s.queueAhead (trayOfCore k) d s.nextId = false ∧ (s.tray (trayOfCore k)).loads < 4) ∧
    (∃ (s : State) (c : UnitAddr) (n : SlotNo) (k : Nat) (t : Thread) (d : BitVec 512), Ready s c n k t d ∧ opcode d = 0x22 ∧ hdrOk d false = true ∧ bodyOk d [] = true ∧ (s.ctOf k t d).isSome = true ∧ (s.tray (trayOfCore k)).admits = true ∧ t.prog = 0 ∧ s.queueAhead (trayOfCore k) d s.nextId = false ∧ (s.tray (trayOfCore k)).expQ.length < 64) :=
  ⟨⟨wRow (wD [(0, 0x20), (0x10, wTb 64), (0x18, 64), (0x1C, 63), (0x1D, 1), (0x1E, 7), (0x20, 8)]), 0x50000000, 0, 0, wTh (wD [(0, 0x20), (0x10, wTb 64), (0x18, 64), (0x1C, 63), (0x1D, 1), (0x1E, 7), (0x20, 8)]), wD [(0, 0x20), (0x10, wTb 64), (0x18, 64), (0x1C, 63), (0x1D, 1), (0x1E, 7), (0x20, 8)], (by constructor <;> decide +kernel), (by decide +kernel), (by constructor <;> decide +kernel), (by decide +kernel), (by decide +kernel), (by decide +kernel), (by decide +kernel), (by decide +kernel), (by decide +kernel)⟩,
    ⟨wRow (wD [(0, 0x20), (0x10, wTb 0), (0x18, 1)]), 0x50000000, 0, 0, wTh (wD [(0, 0x20), (0x10, wTb 0), (0x18, 1)]), wD [(0, 0x20), (0x10, wTb 0), (0x18, 1)], (by constructor <;> decide +kernel), (by decide +kernel), (by constructor <;> decide +kernel), (by decide +kernel), (by decide +kernel), (by decide +kernel), (by decide +kernel), (by decide +kernel), (by decide +kernel)⟩,
    ⟨wRow (wD [(0, 0x21), (0x10, wTb 64), (0x18, wTb 1088)]), 0x50000000, 0, 0, wTh (wD [(0, 0x21), (0x10, wTb 64), (0x18, wTb 1088)]), wD [(0, 0x21), (0x10, wTb 64), (0x18, wTb 1088)], (by constructor <;> decide +kernel), (by decide +kernel), (by constructor <;> decide +kernel), (by decide +kernel), (by decide +kernel), (by decide +kernel), (by decide +kernel), (by decide +kernel)⟩,
    ⟨wRow (wD [(0, 0x21), (0x10, wTb 64), (0x20, 2)]), 0x50000000, 0, 0, wTh (wD [(0, 0x21), (0x10, wTb 64), (0x20, 2)]), wD [(0, 0x21), (0x10, wTb 64), (0x20, 2)], (by constructor <;> decide +kernel), (by decide +kernel), (by constructor <;> decide +kernel), (by decide +kernel), (by decide +kernel), (by decide +kernel), (by decide +kernel), (by decide +kernel)⟩,
    ⟨wRow (wD [(0, 0x22)]), 0x50000000, 0, 0, wTh (wD [(0, 0x22)]), wD [(0, 0x22)], (by constructor <;> decide +kernel), (by decide +kernel), (by decide +kernel), (by decide +kernel), (by decide +kernel), (by decide +kernel), (by decide +kernel), (by decide +kernel), (by decide +kernel)⟩⟩

/-- The hypotheses of SequenceDescriptorsComplete, clause by clause. -/
theorem meets_SequenceDescriptorsComplete :
    (∃ (s : State) (c : UnitAddr) (n : SlotNo) (k : Nat) (t : Thread) (d : BitVec 512) (i : Nat), Ready s c n k t d ∧ opcode d = 0x40 ∧ Passes (seqOpenChecks s t d) ∧ (s.ctOf k t d).isSome = true ∧ ((List.range 256).find? fun j => (s.seq j).st == 0) = some i ∧ s.seqHeld t.ctx < (s.ctx t.ctx).squota.toNat ∧ s.putFault (s.seat k t) (opnd d 0x20) 8 = none) ∧
    (∃ (s : State) (c : UnitAddr) (n : SlotNo) (k : Nat) (t : Thread) (d : BitVec 512) (i : Nat), Ready s c n k t d ∧ opcode d = 0x40 ∧ Passes (seqOpenChecks s t d) ∧ (s.ctOf k t d).isSome = true ∧ ((List.range 256).find? fun j => (s.seq j).st == 0) = some i ∧ s.seqHeld t.ctx < (s.ctx t.ctx).squota.toNat ∧ s.putFault (s.seat k t) (opnd d 0x20) 8 = none) ∧
    (∃ (s : State) (c : UnitAddr) (n : SlotNo) (k : Nat) (t : Thread) (d : BitVec 512), Ready s c n k t d ∧ opcode d = 0x41 ∧ hdrOk d false = true ∧ bodyOk d [(0x10, 1), (0x12, 2)] = true ∧ (s.ctOf k t d).isSome = true ∧ (s.seq (dN d 0x10 1)).openFor t.ctx (dN d 0x12 2) = true) ∧
    (∃ (s : State) (c : UnitAddr) (n : SlotNo) (k : Nat) (t : Thread) (d : BitVec 512), Ready s c n k t d ∧ opcode d = 0x42 ∧ Passes (seqAppendChecks s t d) ∧ (s.ctOf k t d).isSome = true ∧ (s.seq (dN d 0x10 1)).openFor t.ctx (dN d 0x12 2) = true ∧ (s.seq (dN d 0x10 1)).reserved.toNat + dN d 0x14 3 ≤ (s.seq (dN d 0x10 1)).cap.toNat) ∧
    (∃ (s : State) (c : UnitAddr) (n : SlotNo) (k : Nat) (t : Thread) (d : BitVec 512), s.coreAt c = some k ∧ s.thread? k n.toNat = some t ∧ t.wait = .reserve ∧ t.cur = some d ∧ (s.seq (dN d 0x10 1)).openFor t.ctx (dN d 0x12 2) = true ∧ (s.seq (dN d 0x10 1)).reserved.toNat + dN d 0x14 3 ≤ (s.seq (dN d 0x10 1)).cap.toNat) ∧
    (∃ (s : State) (slot : BitVec 8) (first : BitVec 24) (k : Nat) (n : SlotNo) (t : Thread) (d : BitVec 512) (errs : List MemErr), s.appender slot first = some (k, n.toNat) ∧ s.thread? k n.toNat = some t ∧ t.cur = some d ∧ dN d 0x11 1 % 2 = 0 ∧ Quiet s ∧ (s.meet errs).getFault (s.seat k t) (opnd d 0x18) (dN d 0x14 3 * (s.seq slot.toNat).units.toNat * 64) = none ∧ (s.meet errs).putFault (s.seat k t)
      ⟨0, 0, (s.seq slot.toNat).base.toNat + first.toNat * (s.seq slot.toNat).units.toNat * 64⟩
      (dN d 0x14 3 * (s.seq slot.toNat).units.toNat * 64) = none) :=
  ⟨⟨wRow (wD [(0, 0x40), (0x10, wDev 4096), (0x18, 100), (0x1C, 2), (0x20, wLs 8)]), 0x50000000, 0, 0, wTh (wD [(0, 0x40), (0x10, wDev 4096), (0x18, 100), (0x1C, 2), (0x20, wLs 8)]), wD [(0, 0x40), (0x10, wDev 4096), (0x18, 100), (0x1C, 2), (0x20, wLs 8)], 0, (by constructor <;> decide +kernel), (by decide +kernel), (by constructor <;> decide +kernel), (by decide +kernel), (by decide +kernel), (by decide +kernel), (by decide +kernel)⟩,
    ⟨wSeq0 (wRow (wD [(0, 0x40), (0x10, wDev 4096), (0x18, 1), (0x1C, 1024), (0x20, wDev 8)])), 0x50000000, 0, 0, wTh (wD [(0, 0x40), (0x10, wDev 4096), (0x18, 1), (0x1C, 1024), (0x20, wDev 8)]), wD [(0, 0x40), (0x10, wDev 4096), (0x18, 1), (0x1C, 1024), (0x20, wDev 8)], 3, (by constructor <;> decide +kernel), (by decide +kernel), (by constructor <;> decide +kernel), (by decide +kernel), (by decide +kernel), (by decide +kernel), (by decide +kernel)⟩,
    ⟨wSeq (wRow (wD [(0, 0x41), (0x10, 3), (0x12, 9)])), 0x50000000, 0, 0, wTh (wD [(0, 0x41), (0x10, 3), (0x12, 9)]), wD [(0, 0x41), (0x10, 3), (0x12, 9)], (by constructor <;> decide +kernel), (by decide +kernel), (by decide +kernel), (by decide +kernel), (by decide +kernel), (by decide +kernel)⟩,
    ⟨wSeq (wRow (wD [(0, 0x42), (0x10, 3), (0x12, 9), (0x14, 4), (0x18, wLs 64)])), 0x50000000, 0, 0, wTh (wD [(0, 0x42), (0x10, 3), (0x12, 9), (0x14, 4), (0x18, wLs 64)]), wD [(0, 0x42), (0x10, 3), (0x12, 9), (0x14, 4), (0x18, wLs 64)], (by constructor <;> decide +kernel), (by decide +kernel), (by constructor <;> decide +kernel), (by decide +kernel), (by decide +kernel), (by decide +kernel)⟩,
    ⟨wSeq (wCore { wTh (wD [(0, 0x42), (0x10, 3), (0x12, 9), (0x14, 4), (0x18, wLs 64)]) with st := .waitData, wait := .reserve }), 0x50000000, 0, 0, { wTh (wD [(0, 0x42), (0x10, 3), (0x12, 9), (0x14, 4), (0x18, wLs 64)]) with st := .waitData, wait := .reserve }, wD [(0, 0x42), (0x10, 3), (0x12, 9), (0x14, 4), (0x18, wLs 64)], (by decide +kernel), (by decide +kernel), (by decide +kernel), (by decide +kernel), (by decide +kernel), (by decide +kernel)⟩,
    ⟨wSeq (wCore { wTh (wD [(0, 0x42), (0x10, 3), (0x12, 9), (0x14, 4), (0x18, wLs 64)]) with st := .waitData, wait := .append 3 0 }), 3, 0, 0, 0, { wTh (wD [(0, 0x42), (0x10, 3), (0x12, 9), (0x14, 4), (0x18, wLs 64)]) with st := .waitData, wait := .append 3 0 }, wD [(0, 0x42), (0x10, 3), (0x12, 9), (0x14, 4), (0x18, wLs 64)], [], (by decide +kernel), (by decide +kernel), (by decide +kernel), (by decide +kernel), (by unfold Quiet; decide +kernel), (by decide +kernel), (by decide +kernel)⟩⟩

/-- The hypotheses of SequenceDescriptorsComplete, clause by clause. -/
theorem meets_SequenceDescriptorsComplete_2 :
    (∃ (s : State) (c : UnitAddr) (n : SlotNo) (k : Nat) (t : Thread) (d : BitVec 512), Ready s c n k t d ∧ opcode d = 0x43 ∧ Passes (seqQueryChecks s t d) ∧ (s.ctOf k t d).isSome = true ∧ (opnd d 0x18).sp = 1 ∧ (s.seq (dN d 0x10 1)).boundFor t.ctx (dN d 0x12 2) = true) ∧
    (∃ (s : State) (c : UnitAddr) (n : SlotNo) (k : Nat) (t : Thread) (d : BitVec 512), Ready s c n k t d ∧ opcode d = 0x50 ∧ hdrOk d false = true ∧ bodyOk d [(0x10, 1), (0x14, 4), (0x18, 4), (0x1C, 4)] = true ∧ dN d 0x10 1 < 4 ∧ ((dN d 0x10 1 % 2 = 1 → dN d 0x14 4 ≤ dN d 0x18 4)) ∧ (s.ctOf k t d).isSome = true ∧ s.seen t.id s.nextId = true) ∧
    (∃ (s : State) (c : UnitAddr) (n : SlotNo) (k : Nat) (t : Thread) (d : BitVec 512), Ready s c n k t d ∧ opcode d = 0x50 ∧ hdrOk d false = true ∧ bodyOk d [(0x10, 1), (0x14, 4), (0x18, 4), (0x1C, 4)] = true ∧ dN d 0x10 1 < 4 ∧ ((dN d 0x10 1 % 2 = 1 → dN d 0x14 4 ≤ dN d 0x18 4)) ∧ (s.ctOf k t d).isSome = true ∧ s.seen t.id s.nextId = true) :=
  ⟨⟨wSeq (wRow (wD [(0, 0x43), (0x10, 3), (0x12, 9), (0x18, wLs 64)])), 0x50000000, 0, 0, wTh (wD [(0, 0x43), (0x10, 3), (0x12, 9), (0x18, wLs 64)]), wD [(0, 0x43), (0x10, 3), (0x12, 9), (0x18, wLs 64)], (by constructor <;> decide +kernel), (by decide +kernel), (by constructor <;> decide +kernel), (by decide +kernel), (by decide +kernel), (by decide +kernel)⟩,
    ⟨wRow (wD [(0, 0x50), (0x10, 1), (0x14, 4), (0x18, 9)]), 0x50000000, 0, 0, wTh (wD [(0, 0x50), (0x10, 1), (0x14, 4), (0x18, 9)]), wD [(0, 0x50), (0x10, 1), (0x14, 4), (0x18, 9)], (by constructor <;> decide +kernel), (by decide +kernel), (by decide +kernel), (by decide +kernel), (by decide +kernel), (by decide +kernel), (by decide +kernel), (by decide +kernel)⟩,
    ⟨wRow (wD [(0, 0x50), (0x10, 2), (0x14, 4), (0x18, 3), (0x1C, 4294967295)]), 0x50000000, 0, 0, wTh (wD [(0, 0x50), (0x10, 2), (0x14, 4), (0x18, 3), (0x1C, 4294967295)]), wD [(0, 0x50), (0x10, 2), (0x14, 4), (0x18, 3), (0x1C, 4294967295)], (by constructor <;> decide +kernel), (by decide +kernel), (by decide +kernel), (by decide +kernel), (by decide +kernel), (by decide +kernel), (by decide +kernel), (by decide +kernel)⟩⟩

/-- The hypotheses of VectorDescriptorsComplete, clause by clause. -/
theorem meets_VectorDescriptorsComplete :
    (∃ (s : State) (c : UnitAddr) (n : SlotNo) (k : Nat) (t : Thread) (d : BitVec 512) (bs : List (List Int × Int)), Ready s c n k t d ∧ opcode d = 0x28 ∧ Passes (convertBs8Checks s t d) ∧ (s.ctOf k t d).isSome = true ∧ (opnd d 0x10).sp = 1 ∧ (opnd d 0x18).sp = 2 ∧ ((List.range (dN d 0x20 4)).map fun v => toBlock ((List.range 32).map (elemF (s.getL (s.seat k t)
      ((opnd d 0x10).plus (v * dN d 0x24 4)) (32 * fmtSize (dN d 0x29 1))) (dN d 0x29 1)))) = bs.map some) ∧
    (∃ (s : State) (c : UnitAddr) (n : SlotNo) (k : Nat) (t : Thread) (d : BitVec 512) (bs : List (List Int × Int)), Ready s c n k t d ∧ opcode d = 0x29 ∧ Passes (convertPlaneChecks s t d) ∧ (s.ctOf k t d).isSome = true ∧ (opnd d 0x10).sp = 1 ∧ (opnd d 0x18).sp = 2 ∧ (opnd d 0x20).sp = 2 ∧ dN d 0x2D 1 = 0 ∧ ((List.range 32).map fun i => toBlock ((List.range 32).map fun j => elemF (s.getL (s.seat k t)
      ((opnd d 0x10).plus (i * dN d 0x28 4)) (32 * fmtSize (dN d 0x2C 1))) (dN d 0x2C 1) j)) = bs.map some) :=
  ⟨⟨wRow (wD [(0, 0x28), (0x10, wLs 0), (0x18, wTb 0), (0x20, 1), (0x24, 128), (0x28, 63)]), 0x50000000, 0, 0, wTh (wD [(0, 0x28), (0x10, wLs 0), (0x18, wTb 0), (0x20, 1), (0x24, 128), (0x28, 63)]), wD [(0, 0x28), (0x10, wLs 0), (0x18, wTb 0), (0x20, 1), (0x24, 128), (0x28, 63)], wBs (wRow (wD [(0, 0x28), (0x10, wLs 0), (0x18, wTb 0), (0x20, 1), (0x24, 128), (0x28, 63)])) 0 (wTh (wD [(0, 0x28), (0x10, wLs 0), (0x18, wTb 0), (0x20, 1), (0x24, 128), (0x28, 63)])) (wD [(0, 0x28), (0x10, wLs 0), (0x18, wTb 0), (0x20, 1), (0x24, 128), (0x28, 63)]) 1 128 0, (by constructor <;> decide +kernel), (by decide +kernel), (by constructor <;> decide +kernel), (by decide +kernel), (by decide +kernel), (by decide +kernel), (by decide +kernel)⟩,
    ⟨wRow (wD [(0, 0x29), (0x10, wLs 0), (0x18, wTb 0), (0x20, wTb 1024), (0x28, 64), (0x2C, 1)]), 0x50000000, 0, 0, wTh (wD [(0, 0x29), (0x10, wLs 0), (0x18, wTb 0), (0x20, wTb 1024), (0x28, 64), (0x2C, 1)]), wD [(0, 0x29), (0x10, wLs 0), (0x18, wTb 0), (0x20, wTb 1024), (0x28, 64), (0x2C, 1)], wBs (wRow (wD [(0, 0x29), (0x10, wLs 0), (0x18, wTb 0), (0x20, wTb 1024), (0x28, 64), (0x2C, 1)])) 0 (wTh (wD [(0, 0x29), (0x10, wLs 0), (0x18, wTb 0), (0x20, wTb 1024), (0x28, 64), (0x2C, 1)])) (wD [(0, 0x29), (0x10, wLs 0), (0x18, wTb 0), (0x20, wTb 1024), (0x28, 64), (0x2C, 1)]) 32 64 1, (by constructor <;> decide +kernel), (by decide +kernel), (by constructor <;> decide +kernel), (by decide +kernel), (by decide +kernel), (by decide +kernel), (by decide +kernel), (by decide +kernel), (by decide +kernel)⟩⟩

/-- The hypotheses of VectorDescriptorsComplete, clause by clause. -/
theorem meets_VectorDescriptorsComplete_2 :
    (∃ (s : State) (c : UnitAddr) (n : SlotNo) (k : Nat) (t : Thread) (d : BitVec 512), Ready s c n k t d ∧ opcode d = 0x30 ∧ Passes (vecChecks s t d) ∧ (s.ctOf k t d).isSome = true ∧ (opnd d 0x10).sp = 2 ∧ (opnd d 0x18).sp = 2 ∧ (opnd d 0x20).sp = 1 ∧ dN d 0x2C 1 < 6 ∧ dN d 0x2D 1 < 5 ∧ dN d 0x2E 1 < 5 ∧ dN d 0x2F 1 = 0) ∧
    (∃ (s : State) (c : UnitAddr) (n : SlotNo) (k : Nat) (t : Thread) (d : BitVec 512), Ready s c n k t d ∧ opcode d = 0x30 ∧ Passes (vecChecks s t d) ∧ (s.ctOf k t d).isSome = true ∧ (opnd d 0x10).sp = 2 ∧ (opnd d 0x18).sp = 2 ∧ (opnd d 0x20).sp = 1 ∧ dN d 0x2C 1 < 6 ∧ dN d 0x2D 1 < 5 ∧ dN d 0x2E 1 < 5 ∧ dN d 0x2F 1 = 0) :=
  ⟨⟨wData (wRow (wD [(0, 0x30), (0x10, wTb 0), (0x18, wTb 64), (0x20, wLs 8), (0x28, 4), (0x30, 0x3F800000), (0x34, 0x40000000)])), 0x50000000, 0, 0, wTh (wD [(0, 0x30), (0x10, wTb 0), (0x18, wTb 64), (0x20, wLs 8), (0x28, 4), (0x30, 0x3F800000), (0x34, 0x40000000)]), wD [(0, 0x30), (0x10, wTb 0), (0x18, wTb 64), (0x20, wLs 8), (0x28, 4), (0x30, 0x3F800000), (0x34, 0x40000000)], (by constructor <;> decide +kernel), (by decide +kernel), (by constructor <;> decide +kernel), (by decide +kernel), (by decide +kernel), (by decide +kernel), (by decide +kernel), (by decide +kernel), (by decide +kernel), (by decide +kernel), (by decide +kernel)⟩,
    ⟨wData (wRow (wD [(0, 0x30), (0x10, wTb 0), (0x18, wTb 64), (0x20, wLs 8), (0x28, 4), (0x2C, 0), (0x2D, 0), (0x2E, 2), (0x30, 0x3F800000), (0x34, 0x40000000)])), 0x50000000, 0, 0, wTh (wD [(0, 0x30), (0x10, wTb 0), (0x18, wTb 64), (0x20, wLs 8), (0x28, 4), (0x2C, 0), (0x2D, 0), (0x2E, 2), (0x30, 0x3F800000), (0x34, 0x40000000)]), wD [(0, 0x30), (0x10, wTb 0), (0x18, wTb 64), (0x20, wLs 8), (0x28, 4), (0x2C, 0), (0x2D, 0), (0x2E, 2), (0x30, 0x3F800000), (0x34, 0x40000000)], (by constructor <;> decide +kernel), (by decide +kernel), (by constructor <;> decide +kernel), (by decide +kernel), (by decide +kernel), (by decide +kernel), (by decide +kernel), (by decide +kernel), (by decide +kernel), (by decide +kernel), (by decide +kernel)⟩⟩

/-- The hypotheses of VectorDescriptorsComplete, clause by clause. -/
theorem meets_VectorDescriptorsComplete_3 :
    (∃ (s : State) (c : UnitAddr) (n : SlotNo) (k : Nat) (t : Thread) (d : BitVec 512), Ready s c n k t d ∧ opcode d = 0x33 ∧ Passes (activateChecks s t d) ∧ (s.ctOf k t d).isSome = true ∧ (opnd d 0x10).sp = 2 ∧ (opnd d 0x18).sp = 1) ∧
    (∃ (s : State) (c : UnitAddr) (n : SlotNo) (k : Nat) (t : Thread) (d : BitVec 512), Ready s c n k t d ∧ opcode d = 0x34 ∧ Passes (reduceChecks s t d) ∧ (s.ctOf k t d).isSome = true ∧ (opnd d 0x10).sp = 2 ∧ (opnd d 0x18).sp = 1) :=
  ⟨⟨wData (wRow (wD [(0, 0x33), (0x10, wTb 0), (0x18, wLs 64), (0x20, 4), (0x24, 9), (0x25, 1)])), 0x50000000, 0, 0, wTh (wD [(0, 0x33), (0x10, wTb 0), (0x18, wLs 64), (0x20, 4), (0x24, 9), (0x25, 1)]), wD [(0, 0x33), (0x10, wTb 0), (0x18, wLs 64), (0x20, 4), (0x24, 9), (0x25, 1)], (by constructor <;> decide +kernel), (by decide +kernel), (by constructor <;> decide +kernel), (by decide +kernel), (by decide +kernel), (by decide +kernel)⟩,
    ⟨wData (wRow (wD [(0, 0x34), (0x10, wTb 0), (0x18, wLs 64), (0x20, 2), (0x24, 3), (0x28, 16), (0x2C, 0), (0x2D, 0)])), 0x50000000, 0, 0, wTh (wD [(0, 0x34), (0x10, wTb 0), (0x18, wLs 64), (0x20, 2), (0x24, 3), (0x28, 16), (0x2C, 0), (0x2D, 0)]), wD [(0, 0x34), (0x10, wTb 0), (0x18, wLs 64), (0x20, 2), (0x24, 3), (0x28, 16), (0x2C, 0), (0x2D, 0)], (by constructor <;> decide +kernel), (by decide +kernel), (by constructor <;> decide +kernel), (by decide +kernel), (by decide +kernel), (by decide +kernel)⟩⟩

/-- The hypotheses of VectorDescriptorsComplete, clause by clause. -/
theorem meets_VectorDescriptorsComplete_4 :
    (∃ (s : State) (c : UnitAddr) (n : SlotNo) (k : Nat) (t : Thread) (d : BitVec 512), Ready s c n k t d ∧ opcode d = 0x38 ∧ Passes (matmulChecks s t d) ∧ (s.ctOf k t d).isSome = true ∧ (opnd d 0x10).sp = 2 ∧ (opnd d 0x18).sp = 2 ∧ (opnd d 0x20).sp = 1 ∧ dN d 0x28 2 = 1 ∧ dN d 0x34 1 < 5 ∧ dN d 0x35 1 = 0) ∧
    (∃ (s : State) (c : UnitAddr) (n : SlotNo) (k : Nat) (t : Thread) (d : BitVec 512), Ready s c n k t d ∧ opcode d = 0x38 ∧ Passes (matmulChecks s t d) ∧ (s.ctOf k t d).isSome = true ∧ (opnd d 0x10).sp = 2 ∧ (opnd d 0x18).sp = 2 ∧ (opnd d 0x20).sp = 1 ∧ dN d 0x28 2 = 1 ∧ dN d 0x34 1 < 5 ∧ dN d 0x35 1 = 0) :=
  ⟨⟨wData (wRow (wD [(0, 0x38), (0x10, wTb 0), (0x18, wTb 64), (0x20, wLs 8), (0x28, 1), (0x2A, 2), (0x2C, 3), (0x2E, 3), (0x30, 4), (0x32, 2), (0x34, 0)])), 0x50000000, 0, 0, wTh (wD [(0, 0x38), (0x10, wTb 0), (0x18, wTb 64), (0x20, wLs 8), (0x28, 1), (0x2A, 2), (0x2C, 3), (0x2E, 3), (0x30, 4), (0x32, 2), (0x34, 0)]), wD [(0, 0x38), (0x10, wTb 0), (0x18, wTb 64), (0x20, wLs 8), (0x28, 1), (0x2A, 2), (0x2C, 3), (0x2E, 3), (0x30, 4), (0x32, 2), (0x34, 0)], (by constructor <;> decide +kernel), (by decide +kernel), (by constructor <;> decide +kernel), (by decide +kernel), (by decide +kernel), (by decide +kernel), (by decide +kernel), (by decide +kernel), (by decide +kernel), (by decide +kernel)⟩,
    ⟨wData (wRow (wD [(0, 0x38), (0x10, wTb 0), (0x18, wTb 64), (0x20, wLs 8), (0x28, 1), (0x2A, 2), (0x2C, 3), (0x2E, 0), (0x30, 2), (0x32, 0), (0x34, 4)])), 0x50000000, 0, 0, wTh (wD [(0, 0x38), (0x10, wTb 0), (0x18, wTb 64), (0x20, wLs 8), (0x28, 1), (0x2A, 2), (0x2C, 3), (0x2E, 0), (0x30, 2), (0x32, 0), (0x34, 4)]), wD [(0, 0x38), (0x10, wTb 0), (0x18, wTb 64), (0x20, wLs 8), (0x28, 1), (0x2A, 2), (0x2C, 3), (0x2E, 0), (0x30, 2), (0x32, 0), (0x34, 4)], (by constructor <;> decide +kernel), (by decide +kernel), (by constructor <;> decide +kernel), (by decide +kernel), (by decide +kernel), (by decide +kernel), (by decide +kernel), (by decide +kernel), (by decide +kernel), (by decide +kernel)⟩⟩

/-- The hypotheses of TransferOpenRowsComplete, clause by clause. -/
theorem meets_TransferOpenRowsComplete :
    (∃ (s : State) (m : FabMsg) (errs : List MemErr) (e : Nat × Instr), e ∈ [(1, Instr.putOpen m), (2, .putData m), (3, .getReq m errs), (4, .getData m), (5, .msgAccept m errs), (6, .msgRefuse m),
        (7, .msgDone m), (8, .pageRead m errs), (9, .pageWrite m), (10, .pageData m), (11, .msgAbort m)] ∧ ¬Delivered s e.1 m) ∧
    (∃ (s : State) (m : FabMsg), Delivered s 1 m ∧ s.peerJudge m = none) ∧
    (∃ (s : State) (m : FabMsg) (code : Code), Delivered s 1 m ∧ s.peerJudge m = some code) ∧
    (∃ (s : State) (m : FabMsg) (x : Xfer), Delivered s 2 m ∧ s.served m = some x ∧ s.writeFault x.ctx (x.addr + x.moved) (m.data.take (x.len - x.moved)).length = none ∧ x.moved + m.data.length < x.len) ∧
    (∃ (s : State) (m : FabMsg) (x : Xfer), Delivered s 2 m ∧ s.served m = some x ∧ s.writeFault x.ctx (x.addr + x.moved) (m.data.take (x.len - x.moved)).length = none ∧ x.moved + m.data.length < x.len) ∧
    (∃ (s : State) (m : FabMsg) (x : Xfer), Delivered s 2 m ∧ s.served m = some x ∧ s.writeFault x.ctx (x.addr + x.moved) (m.data.take (x.len - x.moved)).length = none ∧ x.len ≤ x.moved + m.data.length ∧ Quiet s) :=
  ⟨⟨wMail (wXf (wNet (wRow 0)) wXfer) 3 wMsg, { wMsg with tag := 4 }, [], (3, .getReq ({ wMsg with tag := 4 }) []), (by decide +kernel), (by unfold Delivered; decide +kernel)⟩,
    ⟨wMail (wPeer (wNet (wRow 0))) 1 wMsg, wMsg, (by unfold Delivered; decide +kernel), (by decide +kernel)⟩,
    ⟨wMail (wNet (wRow 0)) 1 wMsg, wMsg, 0x0402, (by unfold Delivered; decide +kernel), (by decide +kernel)⟩,
    ⟨wMail (wXf (wNet (wRow 0)) wXfer) 2 { wMsg with data := [1, 2, 3] }, { wMsg with data := [1, 2, 3] }, wXfer, (by unfold Delivered; decide +kernel), (by decide +kernel), (by decide +kernel), (by decide +kernel)⟩,
    ⟨wMail (wXf (wNet (wRow 0)) wXfer) 2 { wMsg with data := [] }, { wMsg with data := [] }, wXfer, (by unfold Delivered; decide +kernel), (by decide +kernel), (by decide +kernel), (by decide +kernel)⟩,
    ⟨wMail (wXf (wNet (wRow 0)) wXfer) 2 { wMsg with data := [1, 2, 3, 4] }, { wMsg with data := [1, 2, 3, 4] }, wXfer, (by unfold Delivered; decide +kernel), (by decide +kernel), (by decide +kernel), (by decide +kernel), (by unfold Quiet; decide +kernel)⟩⟩

/-- The hypotheses of TransferOpenRowsComplete, clause by clause. -/
theorem meets_TransferOpenRowsComplete_2 :
    (∃ (s : State) (m : FabMsg) (x : Xfer), Delivered s 2 m ∧ s.served m = some x ∧ s.writeFault x.ctx (x.addr + x.moved) (m.data.take (x.len - x.moved)).length = none ∧ x.len ≤ x.moved + m.data.length ∧ Quiet s) ∧
    (∃ (s : State) (m : FabMsg) (x : Xfer) (code : Code), Delivered s 2 m ∧ s.served m = some x ∧ s.writeFault x.ctx (x.addr + x.moved) (m.data.take (x.len - x.moved)).length = some code) ∧
    (∃ (s : State) (m : FabMsg) (errs : List MemErr), Delivered s 3 m ∧ s.peerJudge m = none ∧ (s.meet errs).readHeld m.dstCtx m.addr.toNat m.len.toNat = false ∧ (s.meet errs).readFault m.dstCtx m.addr.toNat m.len.toNat = none) ∧
    (∃ (s : State) (m : FabMsg) (code : Code) (errs : List MemErr), Delivered s 3 m ∧ s.peerJudge m = some code) ∧
    (∃ (s : State) (m : FabMsg) (errs : List MemErr), Delivered s 3 m ∧ s.peerJudge m = none ∧ (s.meet errs).readHeld m.dstCtx m.addr.toNat m.len.toNat = true) :=
  ⟨⟨wMail (wXf (wNet (wRow 0)) { wXfer with rt := some (0, 6), moved := 3 }) 2 { wMsg with data := [1, 2, 3, 4] }, { wMsg with data := [1, 2, 3, 4] }, { wXfer with rt := some (0, 6), moved := 3 }, (by unfold Delivered; decide +kernel), (by decide +kernel), (by decide +kernel), (by decide +kernel), (by unfold Quiet; decide +kernel)⟩,
    ⟨wMail (wXf (wSite (wNet (wRow 0)) 0 (fun y => { y with poison := [0x1000001] })) wXfer) 2 { wMsg with data := [1, 2, 3, 4] }, { wMsg with data := [1, 2, 3, 4] }, wXfer, 0x0203, (by unfold Delivered; decide +kernel), (by decide +kernel), (by decide +kernel)⟩,
    ⟨wMail (wPeer (wNet (wRow 0))) 3 wMsg, wMsg, [], (by unfold Delivered; decide +kernel), (by decide +kernel), (by decide +kernel), (by decide +kernel)⟩,
    ⟨wMail (wNet (wRow 0)) 3 wMsg, wMsg, 0x0402, [], (by unfold Delivered; decide +kernel), (by decide +kernel)⟩,
    ⟨wSite (wMail (wPeer (wNet (wRow 0))) 3 wMsg) 0 (fun y => { y with erased := [1, 2], training := some 1 }), wMsg, [], (by unfold Delivered; decide +kernel), (by decide +kernel), (by decide +kernel)⟩⟩

/-- The hypotheses of TransferAnswerRowsComplete, clause by clause. -/
theorem meets_TransferAnswerRowsComplete :
    (∃ (s : State) (m : FabMsg) (x : Xfer) (v : MoverOp), Delivered s 4 m ∧ s.ownXfer m = some x ∧ s.moverOf x = some v ∧ x.isPut = false ∧ s.putFault (s.moverSeat v) ((opnd v.d 0x10).plus x.moved) (m.data.take (x.len - x.moved)).length = none) ∧
    (∃ (s : State) (m : FabMsg) (x : Xfer) (errs : List MemErr), Delivered s 5 m ∧ s.ownXfer m = some x ∧ x.phase = .opening ∧ x.isPut = false) ∧
    (∃ (s : State) (m : FabMsg) (x : Xfer) (v : MoverOp) (errs : List MemErr), Delivered s 5 m ∧ s.ownXfer m = some x ∧ x.phase = .opening ∧ x.isPut = true ∧ s.moverOf x = some v ∧ (s.meet errs).getHeld (s.moverSeat v) (opnd v.d 0x10) x.len = false ∧ (s.meet errs).getFault (s.moverSeat v) (opnd v.d 0x10) x.len = none) ∧
    (∃ (s : State) (m : FabMsg) (x : Xfer), Delivered s 6 m ∧ s.ownXfer m = some x) ∧
    (∃ (s : State) (m : FabMsg) (x : Xfer), Delivered s 7 m ∧ s.ownXfer m = some x ∧ x.isPut = true ∧ x.phase = .waiting) ∧
    (∃ (s : State) (m : FabMsg) (x : Xfer), Delivered s 11 m ∧ s.served m = some x) :=
  ⟨⟨wMail (wXf { wNet (wRow 0) with movers := [wMov (wD [(0, 0x19), (0x10, wLs 8), (0x20, 4), (0x24, 63)])] } { wXfer with mine := true, isPut := false, op := some 33 }) 4 { wMsg with data := [9, 8, 7, 6, 5] }, { wMsg with data := [9, 8, 7, 6, 5] }, { wXfer with mine := true, isPut := false, op := some 33 }, wMov (wD [(0, 0x19), (0x10, wLs 8), (0x20, 4), (0x24, 63)]), (by unfold Delivered; decide +kernel), (by decide +kernel), (by decide +kernel), (by decide +kernel), (by decide +kernel)⟩,
    ⟨wMail (wXf (wNet (wRow 0)) { wXfer with mine := true, isPut := false, phase := .opening }) 5 wMsg, wMsg, { wXfer with mine := true, isPut := false, phase := .opening }, [], (by unfold Delivered; decide +kernel), (by decide +kernel), (by decide +kernel), (by decide +kernel)⟩,
    ⟨wMail (wXf { wNet (wRow 0) with movers := [wMov (wD [(0, 0x18), (0x10, wLs 8), (0x20, 4), (0x24, 63)])] } { wXfer with mine := true, phase := .opening, op := some 33 }) 5 wMsg, wMsg, { wXfer with mine := true, phase := .opening, op := some 33 }, wMov (wD [(0, 0x18), (0x10, wLs 8), (0x20, 4), (0x24, 63)]), [], (by unfold Delivered; decide +kernel), (by decide +kernel), (by decide +kernel), (by decide +kernel), (by decide +kernel), (by decide +kernel), (by decide +kernel)⟩,
    ⟨wMail (wXf { wNet (wRow 0) with movers := [wMov (wD [(0, 0x18), (0x10, wLs 8), (0x20, 4), (0x24, 63)])] } { wXfer with mine := true, phase := .opening, op := some 33 }) 6 { wMsg with status := 0x0402 }, { wMsg with status := 0x0402 }, { wXfer with mine := true, phase := .opening, op := some 33 }, (by unfold Delivered; decide +kernel), (by decide +kernel)⟩,
    ⟨wMail (wXf { wNet (wRow 0) with movers := [wMov (wD [(0, 0x18), (0x10, wLs 8), (0x20, 4), (0x24, 63)])] } { wXfer with mine := true, phase := .waiting, op := some 33 }) 7 wMsg, wMsg, { wXfer with mine := true, phase := .waiting, op := some 33 }, (by unfold Delivered; decide +kernel), (by decide +kernel), (by decide +kernel), (by decide +kernel)⟩,
    ⟨wMail (wXf (wNet (wRow 0)) wXfer) 11 wMsg, wMsg, wXfer, (by unfold Delivered; decide +kernel), (by decide +kernel)⟩⟩

/-- The hypotheses of TransferAnswerRowsComplete, clause by clause. -/
theorem meets_TransferAnswerRowsComplete_2 :
    (∃ (s : State) (m : FabMsg) (errs : List MemErr), Delivered s 8 m ∧ s.lendsTo m.srcNode = true ∧ (s.meet errs).pageHeld m = false ∧ ((List.range m.len.toNat).any fun i => (s.meet errs).lentBad m.srcNode (m.addr.toNat + i) 0 0) = false) ∧
    (∃ (s : State) (m : FabMsg), Delivered s 9 m ∧ s.lendsTo m.srcNode = true) ∧
    (∃ (s : State) (m : FabMsg), Delivered s 10 m ∧ s.lender = some m.srcNode) ∧
    (∃ (s : State) (id : Nat) (x : Xfer), s.xfer? id = some x ∧ x.mine = true) :=
  ⟨⟨wMail (wNet (wRow 0)) 8 wMsg, wMsg, [], (by unfold Delivered; decide +kernel), (by decide +kernel), (by decide +kernel), (by decide +kernel)⟩,
    ⟨wMail (wNet (wRow 0)) 9 { wMsg with data := [1, 2, 3] }, { wMsg with data := [1, 2, 3] }, (by unfold Delivered; decide +kernel), (by decide +kernel)⟩,
    ⟨wMail (wNet (wRow 0)) 10 { wMsg with data := [1, 2, 3] }, { wMsg with data := [1, 2, 3] }, (by unfold Delivered; decide +kernel), (by decide +kernel)⟩,
    ⟨wXf (wNet (wRow 0)) { wXfer with mine := true }, 960, { wXfer with mine := true }, (by decide +kernel), (by decide +kernel)⟩⟩

/-- The hypotheses of SiteMemoryRowsComplete, clause by clause. -/
theorem meets_SiteMemoryRowsComplete :
    (∃ (s : State) (i : BitVec 4) (n : BitVec 31) (bad : List (Fin 36)), i.toNat < s.siteCount ∧ (s.site i.toNat).failed = false ∧ (((s.site i.toNat).training = none ∨ (s.site i.toNat).erased.length < 2)) ∧ wrongDies s i.toNat bad = []) ∧
    (∃ (s : State) (i : BitVec 4) (n : BitVec 31) (bad : List (Fin 36)), i.toNat < s.siteCount ∧ (s.site i.toNat).failed = false ∧ (((s.site i.toNat).training = none ∨ (s.site i.toNat).erased.length < 2)) ∧ wrongDies s i.toNat bad = []) ∧
    (∃ (s : State) (i : BitVec 4) (n : BitVec 31) (bad : List (Fin 36)), i.toNat < s.siteCount ∧ (s.site i.toNat).failed = false ∧ (s.site i.toNat).erased.length + nb (s.site i.toNat).training.isSome ≤ 1 ∧ (wrongDies s i.toNat bad).length = 1) ∧
    (∃ (s : State) (i : BitVec 4) (n : BitVec 31) (bad : List (Fin 36)), i.toNat < s.siteCount ∧ (s.site i.toNat).failed = false ∧ (s.site i.toNat).erased.length + nb (s.site i.toNat).training.isSome ≤ 1 ∧ (wrongDies s i.toNat bad).length = 1) ∧
    (∃ (s : State) (i : BitVec 4) (n : BitVec 31) (bad : List (Fin 36)), i.toNat < s.siteCount ∧ (s.site i.toNat).failed = false ∧ (((s.site i.toNat).training = none ∨ (s.site i.toNat).erased.length < 2)) ∧ 2 ≤ (wrongDies s i.toNat bad).length) ∧
    (∃ (s : State) (i : BitVec 4) (n : BitVec 31) (bad : List (Fin 36)), i.toNat < s.siteCount ∧ (s.site i.toNat).failed = false ∧ (((s.site i.toNat).training = none ∨ (s.site i.toNat).erased.length < 2)) ∧ 2 ≤ (wrongDies s i.toNat bad).length) :=
  ⟨⟨w0, 0, 5, [], (by decide +kernel), (by decide +kernel), (by decide +kernel), (by decide +kernel)⟩,
    ⟨w0, 3, 2147483647, [], (by decide +kernel), (by decide +kernel), (by decide +kernel), (by decide +kernel)⟩,
    ⟨w0, 0, 5, [7, 7], (by decide +kernel), (by decide +kernel), (by decide +kernel), (by decide +kernel)⟩,
    ⟨wSite w0 0 fun y => { y with erased := [3] }, 0, 5, [3, 4], (by decide +kernel), (by decide +kernel), (by decide +kernel), (by decide +kernel)⟩,
    ⟨w0, 0, 5, [7, 8], (by decide +kernel), (by decide +kernel), (by decide +kernel), (by decide +kernel)⟩,
    ⟨wSite w0 0 fun y => { y with erased := [3, 4] }, 0, 2147483647, [3, 4, 5, 6, 7], (by decide +kernel), (by decide +kernel), (by decide +kernel), (by decide +kernel)⟩⟩

/-- The hypotheses of SiteMemoryRowsComplete, clause by clause. -/
theorem meets_SiteMemoryRowsComplete_2 :
    (∃ (s : State) (i : BitVec 4) (die : Fin 36), i.toNat < s.siteCount ∧ die ∉ (s.site i.toNat).erased ∧ (s.site i.toNat).erased.length < 2) ∧
    (∃ (s : State) (i : BitVec 4) (die : Fin 36), i.toNat < s.siteCount ∧ die ∉ (s.site i.toNat).erased ∧ (s.site i.toNat).erased.length < 2) ∧
    (∃ (s : State) (i : BitVec 4) (die : Fin 36), i.toNat < s.siteCount ∧ (s.site i.toNat).failed = false ∧ (s.site i.toNat).training = none ∧ die ∉ (s.site i.toNat).erased) ∧
    (∃ (s : State) (i : BitVec 4) (die : Fin 36), i.toNat < s.siteCount ∧ (s.site i.toNat).failed = false ∧ (s.site i.toNat).training = none ∧ die ∉ (s.site i.toNat).erased) ∧
    (∃ (s : State) (i : BitVec 4) (us : BitVec 8) (die : Fin 36), (s.site i.toNat).training = some die) ∧
    (∃ (s : State), s.powerLimit * s.mem.samples.length < s.mem.samples.sum ∧ s.mem.step < 16) :=
  ⟨⟨wSite w0 0 fun y => { y with erased := [3] }, 0, 35, (by decide +kernel), (by decide +kernel), (by decide +kernel)⟩,
    ⟨w0, 0, 0, (by decide +kernel), (by decide +kernel), (by decide +kernel)⟩,
    ⟨wSite w0 0 fun y => { y with erased := [3] }, 0, 35, (by decide +kernel), (by decide +kernel), (by decide +kernel), (by decide +kernel)⟩,
    ⟨w0, 0, 0, (by decide +kernel), (by decide +kernel), (by decide +kernel), (by decide +kernel)⟩,
    ⟨wSite w0 0 fun y => { y with training := some 35, heldW := [(7, (9, .host 1))], longest := 40 }, 0, 41, 35, by decide +kernel⟩,
    ⟨{ w0 with mem := { w0.mem with samples := List.replicate 10 4095, step := 15 } }, (by decide +kernel), (by decide +kernel)⟩⟩

/-- The hypotheses of SiteMemoryRowsComplete, clause by clause. -/
theorem meets_SiteMemoryRowsComplete_3 :
    (∃ (s : State), s.powerLimit * s.mem.samples.length < s.mem.samples.sum ∧ s.mem.step < 16) ∧
    (∃ (s : State), (s.hotter 1600 = true) ∧ s.mem.thermal < 16) ∧
    (∃ (s : State), (s.hotter 1600 = true) ∧ s.mem.thermal < 16) ∧
    (∃ (s : State), 100 * s.mem.samples.sum < 95 * s.powerLimit * s.mem.samples.length ∧ 0 < s.mem.step) ∧
    (∃ (s : State), 100 * s.mem.samples.sum < 95 * s.powerLimit * s.mem.samples.length ∧ 0 < s.mem.step) ∧
    (∃ (s : State), s.hotter 1519 = false ∧ 0 < s.mem.thermal) :=
  ⟨⟨{ w0 with mem := { w0.mem with samples := [4095] } }, (by decide +kernel), (by decide +kernel)⟩,
    ⟨(wT w0 0 .ready fun x => { x with temp := { x.temp with now := 1601 } }), (by decide +kernel), (by decide +kernel)⟩,
    ⟨{ (wT w0 0 .ready fun x => { x with temp := { x.temp with now := 1601 } }) with mem := { w0.mem with thermal := 15 } }, (by decide +kernel), (by decide +kernel)⟩,
    ⟨{ w0 with mem := { w0.mem with samples := [1], step := 16 } }, (by decide +kernel), (by decide +kernel)⟩,
    ⟨{ w0 with mem := { w0.mem with samples := [1], step := 1 } }, (by decide +kernel), (by decide +kernel)⟩,
    ⟨{ w0 with mem := { w0.mem with thermal := 16 } }, (by decide +kernel), (by decide +kernel)⟩⟩

/-- The hypotheses of ContextRowsComplete, clause by clause. -/
theorem meets_ContextRowsComplete :
    (∃ (s : State) (p : Path) (pid : Pid) (n : CtxNo), s.priv p = true ∧ (s.ctx n).st = 0 ∧ ((∀ k : CtxNo, k < n → (s.ctx k).st ≠ 0))) ∧
    (∃ (s : State) (p : Path) (pid : Pid) (n : CtxNo), s.priv p = true ∧ (s.ctx n).st = 0 ∧ ((∀ k : CtxNo, k < n → (s.ctx k).st ≠ 0))) ∧
    (∃ (s : State) (p : Path), s.priv p = true ∧ (s.ctx (s.path p).ctxSel).st ≠ 0 ∧ (s.ctx (s.path p).ctxSel).busy = none) ∧
    (∃ (s : State) (p : Path), s.priv p = true ∧ (s.ctx (s.path p).ctxSel).st = 1 ∧ (s.ctx (s.path p).ctxSel).busy = none) ∧
    (∃ (s : State) (p : Path), s.priv p = true ∧ (s.ctx (s.path p).ctxSel).st = 2 ∧ (s.ctx (s.path p).ctxSel).busy = none) ∧
    (∃ (s : State) (c : CtxNo) (key : Nat), (s.ctx c).busy = some (5, key) ∧ (s.ctx c).waiting = [] ∧ (s.ctx c).st = 3 ∧ ((∀ j ∈ s.mod.resets, j.stopped = false → c ∉ j.ctxs))) :=
  ⟨⟨w0, .image, 5, 0, (by decide +kernel), (by decide +kernel), (by decide +kernel)⟩,
    ⟨wX (wX w0 0 fun _ => wCtx) 1 fun _ => wCtx, .image, 63, 2, (by decide +kernel), (by decide +kernel), (by decide +kernel)⟩,
    ⟨wP (wX w0 1 fun _ => wCtx) fun q => { q with ctxSel := 1 }, .image, (by decide +kernel), (by decide +kernel), (by decide +kernel)⟩,
    ⟨wP (wRow 0) fun q => { q with ctxSel := 1 }, .image, (by decide +kernel), (by decide +kernel), (by decide +kernel)⟩,
    ⟨wP (wX (wRow 0) 1 fun x => { x with st := 2 }) fun q => { q with ctxSel := 1 }, .image, (by decide +kernel), (by decide +kernel), (by decide +kernel)⟩,
    ⟨wX (wRow 0) 1 fun x => { x with st := 3, busy := some (5, 20) }, 1, 20, (by decide +kernel), (by decide +kernel), (by decide +kernel), (by decide +kernel)⟩⟩

/-- The hypotheses of ContextRowsComplete, clause by clause. -/
theorem meets_ContextRowsComplete_2 :
    (∃ (s : State) (c : CtxNo) (key : Nat), (s.ctx c).busy = some (2, key) ∧ (s.ctx c).waiting = []) ∧
    (∃ (s : State) (p : Path) (v : Word) (x : State × List PageAt) (n : Nat), RegionGo s p v 1 ∧ n = (s.path p).rsize.toNat / (if v.getLsbD 20 then 1073741824 else 2097152) ∧ (s.rStore p v).judgeAlloc (s.shownCtx p) (bitsOf v 13 8) (s.path p).rbase.toNat (s.path p).rsize.toNat (v.getLsbD 20)
      (BitVec.ofNat 2 (bitsOf v 17 16)) (bitsOf v 27 24)
      ((n - (if bitsOf v 17 16 = 2 then
          (takeMost (s.rStore p v).openSites (v.getLsbD 20) n s.mem.rot (s.rStore p v)).2.length else 0)) *
        (if v.getLsbD 20 then 512 else 1)) = none ∧ (s.rStore p v).place (BitVec.ofNat 2 (bitsOf v 17 16)) (bitsOf v 27 24) (v.getLsbD 20) n = some x) ∧
    (∃ (s : State) (p : Path) (v : Word), RegionGo s p v 1 ∧ (regionAt s p v).isSome = true) ∧
    (∃ (s : State) (c : CtxNo) (r : BitVec 6) (x : Region), SMap.find (s.ctx c).regions r.toNat = some x ∧ x.st = .allocating) ∧
    (∃ (s : State) (p : Path) (v : Word) (x : Region), RegionGo s p v 2 ∧ regionAt s p v = some x ∧ ((x.st = .mapped ∨ x.st = .lost)) ∧ (s.ctx (s.shownCtx p)).regionHeld x = false) ∧
    (∃ (s : State) (c : CtxNo) (r : BitVec 6) (x : Region), SMap.find (s.ctx c).regions r.toNat = some x ∧ x.st = .releasing ∧ s.regionBusyBy c x = false) :=
  ⟨⟨wX (wRow 0) 1 fun x => { x with st := 3, busy := some (2, 20) }, 1, 20, (by decide +kernel), (by decide +kernel)⟩,
    ⟨wReg w0, .image, 0x80000301, wPlace (wReg w0) .image 0x80000301 2, 2, (by unfold RegionGo; decide +kernel), (by decide +kernel), (by decide +kernel), (by decide +kernel)⟩,
    ⟨wReg w0, .image, 0x80000001, (by unfold RegionGo; decide +kernel), (by decide +kernel)⟩,
    ⟨wReg w0 fun x => { x with regions := [(3, { base := 0x400000, size := 0x400000, big := false, place := 0, st := .allocating, pages := [.here 0 0x200000, .here 1 0x200000] })] }, 1, 3, { base := 0x400000, size := 0x400000, big := false, place := 0, st := .allocating, pages := [.here 0 0x200000, .here 1 0x200000] }, (by decide +kernel), (by decide +kernel)⟩,
    ⟨wReg w0, .image, 0x80000002, { base := 0x200000, size := 0x200000, big := false, place := 0, st := .mapped, pages := [.here 0 0x40000000] }, (by unfold RegionGo; decide +kernel), (by decide +kernel), (by decide +kernel), (by decide +kernel)⟩,
    ⟨wReg w0 fun x => { x with regions := [(3, { base := 0x400000, size := 0x400000, big := false, place := 0, st := .releasing, pages := [.here 0 0x200000, .here 1 0x200000] })] }, 1, 3, { base := 0x400000, size := 0x400000, big := false, place := 0, st := .releasing, pages := [.here 0 0x200000, .here 1 0x200000] }, (by decide +kernel), (by decide +kernel), (by decide +kernel)⟩⟩

/-- The hypotheses of ContextRowsComplete, clause by clause. -/
theorem meets_ContextRowsComplete_3 :
    (∃ (s : State) (p : Path) (v : Word) (x : Region), RegionGo s p v 3 ∧ regionAt s p v = some x) ∧
    (∃ (s : State) (p : Path) (v : Word), s.priv p = true ∧ Grants s (s.shownCtx p) (bitsOf v 21 16) (bitsOf v 6 0)) ∧
    (∃ (s : State) (node : Node), s.lender = some node) :=
  ⟨⟨wReg w0, .image, 0x80000003, { base := 0x200000, size := 0x200000, big := false, place := 0, st := .mapped, pages := [.here 0 0x40000000] }, (by unfold RegionGo; decide +kernel), (by decide +kernel)⟩,
    ⟨wReg w0, .image, 0x00380008, (by decide +kernel), (by unfold Grants; decide +kernel)⟩,
    ⟨wReg (wNet w0) fun x => { x with regions := [(3, { base := 0x400000, size := 0x400000, big := false, place := 0, st := .mapped, pages := [.here 0 0x200000, .lender 3] })] }, 7, by decide +kernel⟩⟩

/-- The hypotheses of RdmaRowsComplete, clause by clause. -/
theorem meets_RdmaRowsComplete :
    (∃ (s : State) (h : RoceHead) (pkt : WritePkt) (rkey : Word) (va : BitVec 64) (data : List Byte) (errs : List MemErr) (k : Nat)
    (r : WriteRun) (last : Bool) (c : CtxNo), InTurn s h k ∧ (s.qp k).writeOf h.psn pkt rkey va.toNat data.length = some (r, last) ∧ s.spaceOf k r.rkey r.va r.len = some (.device c) ∧ (s.meet errs).partFault c r.va (r.va + r.len) (r.va + r.got) data.length = none) ∧
    (∃ (s : State) (h : RoceHead) (pkt : WritePkt) (rkey : Word) (va : BitVec 64) (data : List Byte) (errs : List MemErr) (k : Nat)
    (r : WriteRun) (last : Bool) (a : BitVec 4), InTurn s h k ∧ (s.qp k).writeOf h.psn pkt rkey va.toNat data.length = some (r, last) ∧ s.spaceOf k r.rkey r.va r.len = some (.authPage a)) ∧
    (∃ (s : State) (h : RoceHead) (pkt : WritePkt) (rkey : Word) (va : BitVec 64) (data : List Byte) (errs : List MemErr) (k : Nat)
    (r : WriteRun) (last : Bool), InTurn s h k ∧ (s.qp k).writeOf h.psn pkt rkey va.toNat data.length = some (r, last) ∧ ((s.spaceOf k r.rkey r.va r.len = some .pages ∨ s.spaceOf k r.rkey r.va r.len = some .csr))) ∧
    (∃ (s : State) (h : RoceHead) (rkey : Word) (va : BitVec 64) (len : BitVec 32) (errs : List MemErr) (mid : List (BitVec 16 × Bool))
    (k : Nat) (c : CtxNo), InTurn s h k ∧ (s.qp k).run = none ∧ s.readsFull k = false ∧ s.spaceOf k rkey va.toNat len.toNat = some (.device c) ∧ (s.meet errs).readFault c va.toNat len.toNat = none ∧ s.readHeld c va.toNat len.toNat = false) ∧
    (∃ (s : State) (h : RoceHead) (rkey : Word) (va : BitVec 64) (len : BitVec 32) (errs : List MemErr) (mid : List (BitVec 16 × Bool))
    (k : Nat) (c : CtxNo), InTurn s h k ∧ (s.qp k).run = none ∧ s.readsFull k = false ∧ s.spaceOf k rkey va.toNat len.toNat = some (.device c) ∧ s.readHeld c va.toNat len.toNat = true) ∧
    (∃ (s : State) (h : RoceHead) (rkey : Word) (va : BitVec 64) (len : BitVec 32) (errs : List MemErr) (mid : List (BitVec 16 × Bool))
    (k : Nat) (a : BitVec 4), InTurn s h k ∧ (s.qp k).run = none ∧ s.readsFull k = false ∧ s.spaceOf k rkey va.toNat len.toNat = some (.authPage a)) :=
  ⟨⟨wHost, wHead 0x1001 77, .only, 0xABCDEF01, 0x200010, [1, 2, 3], [], 1, ⟨77, 0xABCDEF01, 0x200010, 3, 0⟩, true, 1, (by unfold InTurn Arrives; decide +kernel), (by decide +kernel), (by decide +kernel), (by decide +kernel)⟩,
    ⟨wHostA, wHead 0x100 77, .only, 0xABCDEF10, 0x100, List.replicate 96 7 ++ [1, 0, 0, 0, 1, 0, 0, 0], [], 4096, ⟨77, 0xABCDEF10, 0x100, 104, 0⟩, true, 0, (by unfold InTurn Arrives; decide +kernel), (by decide +kernel), (by decide +kernel)⟩,
    ⟨wHostA, wHead 0x100 77, .only, 0xABCDEF11, 0x600104, [2, 0, 0, 0x80], [], 4096, ⟨77, 0xABCDEF11, 0x600104, 4, 0⟩, true, (by unfold InTurn Arrives; decide +kernel), (by decide +kernel), (by decide +kernel)⟩,
    ⟨wHost, wHead 0x1001 77, 0xABCDEF01, 0x200010, 9000, [], [], 1, 1, (by unfold InTurn Arrives; decide +kernel), (by decide +kernel), (by decide +kernel), (by decide +kernel), (by decide +kernel), (by decide +kernel)⟩,
    ⟨wSite wHost 0 (fun y => { y with erased := [1, 2], training := some 1 }), wHead 0x1001 77, 0xABCDEF01, 0x200010, 64, [], [], 1, 1, (by unfold InTurn Arrives; decide +kernel), (by decide +kernel), (by decide +kernel), (by decide +kernel), (by decide +kernel)⟩,
    ⟨wHostA, wHead 0x100 77, 0xABCDEF10, 0x000, 256, [], [], 4096, 0, (by unfold InTurn Arrives; decide +kernel), (by decide +kernel), (by decide +kernel), (by decide +kernel)⟩⟩

/-- The hypotheses of RdmaRowsComplete, clause by clause. -/
theorem meets_RdmaRowsComplete_2 :
    (∃ (s : State) (h : RoceHead) (rkey : Word) (va : BitVec 64) (len : BitVec 32) (errs : List MemErr) (mid : List (BitVec 16 × Bool))
    (k : Nat), InTurn s h k ∧ (s.qp k).run = none ∧ s.readsFull k = false ∧ ((s.spaceOf k rkey va.toNat len.toNat = some .pages ∨ s.spaceOf k rkey va.toNat len.toNat = some .csr))) ∧
    (∃ (s : State) (h : RoceHead) (pkt : WritePkt) (rkey : Word) (va : BitVec 64) (data : List Byte) (errs : List MemErr) (k : Nat)
    (r : WriteRun) (last : Bool), InTurn s h k ∧ (s.qp k).writeOf h.psn pkt rkey va.toNat data.length = some (r, last) ∧ s.spaceOf k r.rkey r.va r.len = none) ∧
    (∃ (s : State) (h : RoceHead) (rkey : Word) (va : BitVec 64) (len : BitVec 32) (errs : List MemErr) (mid : List (BitVec 16 × Bool))
    (k : Nat), InTurn s h k ∧ (s.qp k).run = none ∧ s.readsFull k = false ∧ s.spaceOf k rkey va.toNat len.toNat = none) ∧
    (∃ (s : State) (h : RoceHead) (pkt : WritePkt) (rkey : Word) (va : BitVec 64) (data : List Byte) (errs : List MemErr) (k : Nat), InTurn s h k ∧ (s.qp k).writeOf h.psn pkt rkey va.toNat data.length = none) ∧
    (∃ (s : State) (h : RoceHead) (rkey : Word) (va : BitVec 64) (len : BitVec 32) (errs : List MemErr) (mid : List (BitVec 16 × Bool))
    (k : Nat), Arrives s h k ∧ h.psn = (s.qp k).expPsn ∧ ((16 ≤ (s.qp k).reads ∨ (s.qp k).waits = false ∧ (s.qp k).run.isSome = true))) ∧
    (∃ (s : State) (h : RoceHead) (rkey : Word) (va : BitVec 64) (len : BitVec 32) (errs : List MemErr) (mid : List (BitVec 16 × Bool))
    (k : Nat), Arrives s h k ∧ h.psn = (s.qp k).expPsn ∧ ((16 ≤ (s.qp k).reads ∨ (s.qp k).waits = false ∧ (s.qp k).run.isSome = true))) ∧
    (∃ (s : State) (h : RoceHead) (pkt : WritePkt) (rkey : Word) (va : BitVec 64) (data : List Byte) (errs : List MemErr) (len : BitVec 32)
    (mid : List (BitVec 16 × Bool)) (k : Nat), Arrives s h k ∧ psnBefore (s.qp k).expPsn h.psn = true) ∧
    (∃ (s : State) (h : RoceHead) (pkt : WritePkt) (rkey : Word) (va : BitVec 64) (data : List Byte) (errs : List MemErr) (len : BitVec 32)
    (mid : List (BitVec 16 × Bool)), (h.tagged ≠ s.tagOn (ethOf h.port) ∨ qpOf h.qpn = none)) :=
  ⟨⟨wHostA, wHead 0x100 77, 0xABCDEF11, 0x600104, 8, [], [], 4096, (by unfold InTurn Arrives; decide +kernel), (by decide +kernel), (by decide +kernel), (by decide +kernel)⟩,
    ⟨wHost, wHead 0x1001 77, .only, 0xABCDEE01, 0x200010, [1, 2, 3], [], 1, ⟨77, 0xABCDEE01, 0x200010, 3, 0⟩, true, (by unfold InTurn Arrives; decide +kernel), (by decide +kernel), (by decide +kernel)⟩,
    ⟨wHost, wHead 0x1001 77, 0xABCDEF01, 0x3FFFFE, 3, [], [], 1, (by unfold InTurn Arrives; decide +kernel), (by decide +kernel), (by decide +kernel), (by decide +kernel)⟩,
    ⟨wHost, wHead 0x1001 77, .refused, 0xABCDEF01, 0x200010, [], [], 1, (by unfold InTurn Arrives; decide +kernel), (by decide +kernel)⟩,
    ⟨wHost.modQp 1 (fun q => { q with run := some ⟨76, 0xABCDEF01, 0x200010, 4100, 4096⟩ }), wHead 0x1001 77, 0xABCDEF01, 0x200010, 3, [], [], 1, (by unfold Arrives; decide +kernel), (by decide +kernel), (by decide +kernel)⟩,
    ⟨wHost.modQp 1 (fun q => { q with stalled := List.replicate 16 (.rdmaRead (wHead 0x1001 3) 0 0 0 [] []) }), wHead 0x1001 77, 0xABCDEF01, 0x200010, 3, [], [], 1, (by unfold Arrives; decide +kernel), (by decide +kernel), (by decide +kernel)⟩,
    ⟨wHost, wHead 0x1001 78, .only, 0xABCDEF01, 0x200010, [1, 2, 3], [], 5, [], 1, (by unfold Arrives; decide +kernel), (by decide +kernel)⟩,
    ⟨wHost, wHead 0x9001 78, .only, 0xABCDEF01, 0x200010, [1, 2, 3], [], 5, [], by decide +kernel⟩⟩

/-- The hypotheses of EthernetRowsComplete, clause by clause. -/
theorem meets_EthernetRowsComplete :
    (∃ (s : State) (p : BitVec 1) (ip : BitVec 32) (tag : Bool), ip = s.ip4 p ∧ ip ≠ 0 ∧ tag = s.tagOn (ethOf p)) ∧
    (∃ (s : State) (p : BitVec 1) (ip : BitVec 32) (tag : Bool), ((ip ≠ s.ip4 p ∨ ip = 0 ∨ tag ≠ s.tagOn (ethOf p)))) ∧
    (∃ (s : State) (p : BitVec 1) (up : Bool), (s.hport p).link ≠ up) ∧
    (∃ (s : State) (p : BitVec 1) (prio : BitVec 3), s.pfcOn p = true ∧ prio.toNat = bitsOf (s.portCfg p) 30 28) ∧
    (∃ (s : State) (p : BitVec 1) (prio : BitVec 3), s.pfcOn p = true ∧ prio.toNat = bitsOf (s.portCfg p) 30 28 ∧ (∀ e ∈ (s.hport p).txq, e.1.port = p)) :=
  ⟨⟨(w0.setPol 0x601010 0x0A000001).setPol 0x601004 0x80000005, 0, 0x0A000001, true, (by decide +kernel), (by decide +kernel), (by decide +kernel)⟩,
    ⟨w0, 1, 0, false, by decide +kernel⟩,
    ⟨w0, 1, true, by decide +kernel⟩,
    ⟨w0.setPol 0x601004 0x38000000, 0, 3, (by decide +kernel), (by decide +kernel)⟩,
    ⟨{ w0.setPol 0x601104 0x38000000 with host := { w0.host with p1 := { paused := true, txq := [((wHost.roceHead 4096), .cnp)].map (fun e => ({ e.1 with port := 1 }, e.2)) } } }, 1, 3, (by decide +kernel), (by decide +kernel), (by decide +kernel)⟩⟩

/-- The hypotheses of QueuePairRowsComplete, clause by clause. -/
theorem meets_QueuePairRowsComplete :
    (∃ (s : State) (p : Path) (k : Nat), s.priv p = true ∧ (s.path p).qpSel.toNat = k ∧ (s.qp k).st = 0 ∧ (s.qp k).lockout = false) ∧
    (∃ (s : State) (p : Path) (k : Nat), s.priv p = true ∧ (s.path p).qpSel.toNat = k) ∧
    (∃ (s : State) (k : BitVec 13), (s.qp k.toNat).st = 1) ∧
    (∃ (s : State) (k : BitVec 13), (s.qp k.toNat).st = 1 ∧ (s.qp k.toNat).rate < 400000) ∧
    (∃ (s : State) (k : BitVec 13), (s.qp k.toNat).st = 1 ∧ (s.qp k.toNat).mirror ≠ [] ∧ (s.qp k.toNat).retries < bitsOf (s.qp k.toNat).cfg 31 29) ∧
    (∃ (s : State) (k : BitVec 13), (s.qp k.toNat).st = 1 ∧ (s.qp k.toNat).mirror ≠ [] ∧ bitsOf (s.qp k.toNat).cfg 31 29 ≤ (s.qp k.toNat).retries) :=
  ⟨⟨wP w0 fun q => { q with qpSel := 7 }, .image, 7, (by decide +kernel), (by decide +kernel), (by decide +kernel), (by decide +kernel)⟩,
    ⟨wP (wQp w0 4111 fun q => { q with auth := true, mirror := [⟨5, 1, 7, 8, []⟩], reason := 3 }) fun q => { q with qpSel := 4111 }, .image, 4111, (by decide +kernel), (by decide +kernel)⟩,
    ⟨wQp w0 5, 5, by decide +kernel⟩,
    ⟨wQp w0 5 fun q => { q with rate := 200 }, 5, (by decide +kernel), (by decide +kernel)⟩,
    ⟨wQp w0 5 fun q => { q with mirror := [⟨4, 2, 7, 8, [1, 2]⟩, ⟨5, 3, 7, 8, [3]⟩], retries := 6 }, 5, (by decide +kernel), (by decide +kernel), (by decide +kernel)⟩,
    ⟨wQp w0 5 fun q => { q with mirror := [⟨4, 2, 7, 8, [1, 2]⟩, ⟨5, 3, 7, 8, [3]⟩], retries := 7 }, 5, (by decide +kernel), (by decide +kernel), (by decide +kernel)⟩⟩

/-- The hypotheses of QueuePairRowsComplete, clause by clause. -/
theorem meets_QueuePairRowsComplete_2 :
    (∃ (s : State) (k : BitVec 13), (s.qp k.toNat).st = 1 ∧ (s.qp k.toNat).mirror ≠ [] ∧ k.toNat < 4096) ∧
    (∃ (s : State) (a : BitVec 4), (s.qp (adminQp a)).st = 1 ∧ (s.qp (adminQp a)).verifying = false) ∧
    (∃ (s : State) (a : BitVec 4), (s.qp (adminQp a)).st = 1 ∧ (s.qp (adminQp a)).verifying = true ∧ s.authGood (adminQp a) = true) ∧
    (∃ (s : State) (a : BitVec 4), (s.qp (adminQp a)).st = 1 ∧ (s.qp (adminQp a)).verifying = true ∧ s.authGood (adminQp a) = false ∧ (s.qp (adminQp a)).refusals < 2) ∧
    (∃ (s : State) (a : BitVec 4), (s.qp (adminQp a)).st = 1 ∧ (s.qp (adminQp a)).verifying = true ∧ s.authGood (adminQp a) = false ∧ 2 ≤ (s.qp (adminQp a)).refusals) ∧
    (∃ (s : State) (a : BitVec 4), (s.qp (adminQp a)).lockout = true) :=
  ⟨⟨wQp (wRow 0) 1 fun q => { q with mirror := [⟨4, 2, 7, 8, [1, 2]⟩, ⟨5, 3, 7, 8, [3]⟩] }, 1, (by decide +kernel), (by decide +kernel), (by decide +kernel)⟩,
    ⟨wQp w0 4111, 15, (by decide +kernel), (by decide +kernel)⟩,
    ⟨wQp { w0 with fw := { w0.fw with keys := [(3, wKey)] } } 4111 fun q => { q with verifying := true, keyIdx := 3, sig := Memory.writeL [] 0 (keyBytes wSigAuth) }, 15, (by decide +kernel), (by decide +kernel), (by decide +kernel)⟩,
    ⟨wQp w0 4111 fun q => { q with verifying := true, refusals := 1, auth := true }, 15, (by decide +kernel), (by decide +kernel), (by decide +kernel), (by decide +kernel)⟩,
    ⟨wQp w0 4111 fun q => { q with verifying := true, refusals := 2, auth := true }, 15, (by decide +kernel), (by decide +kernel), (by decide +kernel), (by decide +kernel)⟩,
    ⟨w0.modQp 4096 fun q => { q with lockout := true, refusals := 3 }, 0, by decide +kernel⟩⟩

/-- The hypotheses of RingRowsComplete, clause by clause. -/
theorem meets_RingRowsComplete :
    (∃ (s : State) (p : Path) (r : BitVec 2) (v : Word) (x : SubRing) (k : Word), s.carries p = true ∧ v.getLsbD 31 = true ∧ s.ringOf p r = (s.shownCtx p, x) ∧ x.en = false ∧ s.ringFits (s.shownCtx p) { x with log2 := log2Of v } = true ∧ s.producer (s.shownCtx p) x = some k) ∧
    (∃ (s : State) (p : Path) (r : BitVec 2) (v : Word) (x : SubRing), s.carries p = true ∧ v.getLsbD 31 = true ∧ s.ringOf p r = (s.shownCtx p, x) ∧ x.en = false ∧ s.ringFits (s.shownCtx p) { x with log2 := log2Of v } = false) ∧
    (∃ (s : State) (p : Path) (r : BitVec 2) (v : Word) (x : SubRing), s.carries p = true ∧ v.getLsbD 31 = false ∧ s.ringOf p r = (s.shownCtx p, x)) ∧
    (∃ (s : State) (c : CtxNo) (r : BitVec 2) (x : SubRing) (k : Word), (s.ctx c).ring r.toNat = x ∧ s.host.scanning = true ∧ x.en = true ∧ (s.ctx c).st ≠ 0 ∧ (s.ctx c).st ≠ 3 ∧ x.taken = [] ∧ s.producer c x = some k ∧ (k - x.consumer).toNat ≤ 2 ^ x.log2.toNat ∧ s.readHeld c x.base.toNat 4 = false) ∧
    (∃ (s : State) (c : CtxNo) (r : BitVec 2) (x : SubRing) (k : Word), (s.ctx c).ring r.toNat = x ∧ s.host.scanning = true ∧ x.en = true ∧ (s.ctx c).st ≠ 0 ∧ (s.ctx c).st ≠ 3 ∧ x.taken = [] ∧ s.producer c x = some k ∧ (k - x.consumer).toNat ≤ 2 ^ x.log2.toNat ∧ s.readHeld c x.base.toNat 4 = false) ∧
    (∃ (s : State) (c : CtxNo) (r : BitVec 2) (x : SubRing) (k : Word), (s.ctx c).ring r.toNat = x ∧ s.host.scanning = true ∧ x.en = true ∧ (s.ctx c).st ≠ 0 ∧ (s.ctx c).st ≠ 3 ∧ x.taken = [] ∧ s.producer c x = some k ∧ 2 ^ x.log2.toNat < (k - x.consumer).toNat ∧ s.readHeld c x.base.toNat 4 = false) :=
  ⟨⟨wRing 9, .image, 2, 0x80000006, { base := 0x210000 }, 9, (by decide +kernel), (by decide +kernel), (by decide +kernel), (by decide +kernel), (by decide +kernel), (by decide +kernel)⟩,
    ⟨wRing 9 fun x => { x with base := 0x210020 }, .image, 2, 0x80000006, { base := 0x210020 }, (by decide +kernel), (by decide +kernel), (by decide +kernel), (by decide +kernel), (by decide +kernel)⟩,
    ⟨wRing 9 fun x => { x with en := true, idle := true }, .image, 2, 8, { base := 0x210000, en := true, idle := true }, (by decide +kernel), (by decide +kernel), (by decide +kernel)⟩,
    ⟨wScan (wRing 9 fun x => { x with en := true, consumer := 5 }), 1, 2, { base := 0x210000, en := true, consumer := 5 }, 9, (by decide +kernel), (by decide +kernel), (by decide +kernel), (by decide +kernel), (by decide +kernel), (by decide +kernel), (by decide +kernel), (by decide +kernel), (by decide +kernel)⟩,
    ⟨wScan (wRing 64 fun x => { x with en := true, consumer := 0 }), 1, 2, { base := 0x210000, en := true }, 64, (by decide +kernel), (by decide +kernel), (by decide +kernel), (by decide +kernel), (by decide +kernel), (by decide +kernel), (by decide +kernel), (by decide +kernel), (by decide +kernel)⟩,
    ⟨wScan (wRing 0 fun x => { x with en := true, idle := true, consumer := 1 }), 1, 2, { base := 0x210000, en := true, idle := true, consumer := 1 }, 0, (by decide +kernel), (by decide +kernel), (by decide +kernel), (by decide +kernel), (by decide +kernel), (by decide +kernel), (by decide +kernel), (by decide +kernel), (by decide +kernel)⟩⟩

/-- The hypotheses of RingRowsComplete, clause by clause. -/
theorem meets_RingRowsComplete_2 :
    (∃ (s : State) (c : CtxNo) (r : BitVec 2), ((s.ctx c).ring r.toNat).en = true ∧ ((s.ctx c).ring r.toNat).taken = [] ∧ s.polF 0x600004 31 16 ≠ 0) ∧
    (∃ (s : State) (c : CtxNo) (r : BitVec 2) (k : Word) (e : BitVec 512), FirstEntry s c r k e ∧ dN e 0 1 = 0 ∧ s.judgeEntry c e = none) ∧
    (∃ (s : State) (c : CtxNo) (r : BitVec 2) (k : Word) (e : BitVec 512), FirstEntry s c r k e ∧ dN e 0 1 = 1 ∧ s.judgeEntry c e = none ∧ s.judgeStart c (BitVec.ofNat 32 (dN e 0x10 4)) (dN e 0x14 1) = none ∧ dN e 8 8 < 2 ^ 48) ∧
    (∃ (s : State) (c : CtxNo) (r : BitVec 2) (k : Word) (e : BitVec 512), FirstEntry s c r k e ∧ dN e 0 1 = 1 ∧ s.judgeEntry c e = none ∧ s.judgeStart c (BitVec.ofNat 32 (dN e 0x10 4)) (dN e 0x14 1) = none ∧ dN e 8 8 < 2 ^ 48) ∧
    (∃ (s : State) (c : CtxNo) (r : BitVec 2) (k : Word) (e : BitVec 512), FirstEntry s c r k e ∧ dN e 0 1 = 2 ∧ s.judgeEntry c e = none) ∧
    (∃ (s : State) (c : CtxNo) (r : BitVec 2) (k : Word) (e : BitVec 512) (code : Code) (i : Instr), FirstEntry s c r k e ∧ s.judgeEntry c e = some code ∧ ((i = .ringStart c r ∧ dN e 0 1 = 1 ∨ i = .ringRelease c r ∧ dN e 0 1 = 2 ∨
      i = .ringNop c r ∧ dN e 0 1 ≠ 1 ∧ dN e 0 1 ≠ 2))) ∧
    (∃ (s : State) (p : Path) (v : Word), s.carries p = true ∧ s.statusInUse (s.shownCtx p) = false ∧ ((bitsOf v 16 0 = 0 ∨ (s.ctx (s.shownCtx p)).inRegion (s.ctx (s.shownCtx p)).sbase.toNat (64 * min 65536 (bitsOf v 16 0)) = true))) :=
  ⟨⟨wRing 0 fun x => { x with en := true }, 1, 2, (by decide +kernel), (by decide +kernel), (by decide +kernel)⟩,
    ⟨wEnt [(0, 0), (2, 5)], 1, 2, 8, wD [(0, 0), (2, 5)], (by unfold FirstEntry; decide +kernel), (by decide +kernel), (by decide +kernel)⟩,
    ⟨wEnt [(0, 1), (2, 5), (8, wDev 64), (0x10, 0x50000000), (0x14, 4)], 1, 2, 8, wD [(0, 1), (2, 5), (8, wDev 64), (0x10, 0x50000000), (0x14, 4)], (by unfold FirstEntry; decide +kernel), (by decide +kernel), (by decide +kernel), (by decide +kernel), (by decide +kernel)⟩,
    ⟨wEnt [(0, 1), (1, 1), (2, 5), (8, wDev 64), (0x10, 0x50000000), (0x14, 4), (0x18, 99)], 1, 2, 8, wD [(0, 1), (1, 1), (2, 5), (8, wDev 64), (0x10, 0x50000000), (0x14, 4), (0x18, 99)], (by unfold FirstEntry; decide +kernel), (by decide +kernel), (by decide +kernel), (by decide +kernel), (by decide +kernel)⟩,
    ⟨{ wEnt [(0, 2), (2, 5), (4, 6)] with subs := [(subKey 1 5, { ctx := 1, ring := 2, slot := 5, entry := 1, gen := 6, st := 4 })] }, 1, 2, 8, wD [(0, 2), (2, 5), (4, 6)], (by unfold FirstEntry; decide +kernel), (by decide +kernel), (by decide +kernel)⟩,
    ⟨wEnt [(0, 3)], 1, 2, 8, wD [(0, 3)], 0x0601, .ringNop 1 2, (by unfold FirstEntry; decide +kernel), (by decide +kernel), (by decide +kernel)⟩,
    ⟨{ wRing 0 with subs := [] }, .image, 0, (by decide +kernel), (by decide +kernel), (by decide +kernel)⟩⟩

/-- The hypotheses of TrayLightRowsComplete, clause by clause. -/
theorem meets_TrayLightRowsComplete :
    (∃ (s : State) (u : UnitAddr) (k : Nat) (n : Fin 36), s.trayAt u = some k ∧ (s.tray k).tended = true ∧ (s.tray k).light.gridFailed = false ∧ firstOfGroup (s.tray k) n.val ∧ n.val % 9 ≠ 8) ∧
    (∃ (s : State) (u : UnitAddr) (k : Nat) (n : Fin 36), s.trayAt u = some k ∧ (s.tray k).tended = true ∧ (s.tray k).light.gridFailed = false ∧ firstOfGroup (s.tray k) n.val ∧ n.val % 9 = 8) ∧
    (∃ (s : State) (u : UnitAddr) (k : Nat) (temps : List (BitVec 16)), s.trayAt u = some k ∧ s.mod.on = true) ∧
    (∃ (s : State) (u : UnitAddr) (k : Nat) (temps : List (BitVec 16)), s.trayAt u = some k ∧ s.mod.on = true ∧ (s.tray k).tended = true ∧ (s.tray k).light.settling = false ∧ 16 ≤ slewOf ((temps.map BitVec.toInt :: (s.tray k).light.hist).take 101)) ∧
    (∃ (s : State) (u : UnitAddr) (k : Nat) (temps : List (BitVec 16)), s.trayAt u = some k ∧ s.mod.on = true ∧ (s.tray k).tended = true ∧ (s.tray k).light.settling = false ∧ 16 ≤ slewOf ((temps.map BitVec.toInt :: (s.tray k).light.hist).take 101)) ∧
    (∃ (s : State) (u : UnitAddr) (k : Nat), s.trayAt u = some k ∧ (s.tray k).light.settling = true ∧ slewOf (s.tray k).light.hist ≤ 8) :=
  ⟨⟨wLit, 0x30000000, 0, 0, (by decide +kernel), (by decide +kernel), (by decide +kernel), (by unfold firstOfGroup; decide +kernel), (by decide +kernel)⟩,
    ⟨wLit, 0x30000000, 0, 8, (by decide +kernel), (by decide +kernel), (by decide +kernel), (by unfold firstOfGroup; decide +kernel), (by decide +kernel)⟩,
    ⟨wLit, 0x30000000, 0, [400, 416, 0x8000], (by decide +kernel), (by decide +kernel)⟩,
    ⟨wLit fun l => { l with hist := [[400, 400]] }, 0x30000000, 0, [416, 400], (by decide +kernel), (by decide +kernel), (by decide +kernel), (by decide +kernel), (by decide +kernel)⟩,
    ⟨wLit fun l => { l with hist := [[400, 400]] }, 0x30000000, 0, [400, 0], (by decide +kernel), (by decide +kernel), (by decide +kernel), (by decide +kernel), (by decide +kernel)⟩,
    ⟨wLit fun l => { l with settling := true, devHold := true, hist := [[400, 400], [408, 392]] }, 0x30000000, 0, (by decide +kernel), (by decide +kernel), (by decide +kernel)⟩⟩

/-- The hypotheses of TrayLightRowsComplete, clause by clause. -/
theorem meets_TrayLightRowsComplete_2 :
    (∃ (s : State) (u : UnitAddr) (k : Nat), s.trayAt u = some k ∧ (s.tray k).light.settling = true ∧ slewOf (s.tray k).light.hist ≤ 8) ∧
    (∃ (s : State) (u : UnitAddr) (k : Nat), s.trayAt u = some k ∧ (s.tray k).light.stripRun = none ∧ (s.tray k).light.measured = none ∧ (s.tray k).staged = none ∧ ((128 * s.calDelta ≤ 100 * ((s.tray k).temp.now.toInt - (s.tray k).cal.tCal).natAbs ∨
      ∃ a, s.calAge (s.tray k) = some a ∧ 9 * s.calMaxAge * 1000000000 ≤ 10 * a))) ∧
    (∃ (s : State) (u : UnitAddr) (k : Nat), s.trayAt u = some k ∧ (s.tray k).light.stripRun = none ∧ (s.tray k).light.measured = none ∧ (s.tray k).staged = none ∧ ((128 * s.calDelta ≤ 100 * ((s.tray k).temp.now.toInt - (s.tray k).cal.tCal).natAbs ∨
      ∃ a, s.calAge (s.tray k) = some a ∧ 9 * s.calMaxAge * 1000000000 ≤ 10 * a))) ∧
    (∃ (s : State) (x : PortNo), ((128 * s.calDelta ≤ 100 * ((s.lt x).temp - (s.lt x).tCal).natAbs ∨
      ∃ a, (s.lt x).stamp = some a ∧ 9 * s.calMaxAge * 1000000000 ≤ 10 * (s.up - a)))) ∧
    (∃ (s : State) (x : PortNo), ((128 * s.calDelta ≤ 100 * ((s.lt x).temp - (s.lt x).tCal).natAbs ∨
      ∃ a, (s.lt x).stamp = some a ∧ 9 * s.calMaxAge * 1000000000 ≤ 10 * (s.up - a)))) ∧
    (∃ (s : State) (u : UnitAddr) (k : Nat) (n : BitVec 32) (r : StripRun), s.trayAt u = some k ∧ (s.tray k).sliceable = true ∧ (s.tray k).light.stripRun = some r ∧ s.shareLeft k n.toNat = true ∧ (EndsNoMode r.beats n.toNat ∨ s.fw.patterns = [])) :=
  ⟨⟨wLit fun l => { l with settling := true, devHold := true, hist := [] }, 0x30000000, 0, (by decide +kernel), (by decide +kernel), (by decide +kernel)⟩,
    ⟨(wLit).modTray 0 (fun x => { x with temp := { x.temp with now := 100 } }), 0x30000000, 0, (by decide +kernel), (by decide +kernel), (by decide +kernel), (by decide +kernel), (by decide +kernel)⟩,
    ⟨{ (wLit).modTray 0 (fun x => { x with cal := { x.cal with stamp := some 0 } }) with time := { w0.time with up := 3600000000000 } }, 0x30000000, 0, (by decide +kernel), (by decide +kernel), (by decide +kernel), (by decide +kernel), (by decide +kernel)⟩,
    ⟨w0.setLt 5 { (w0.lt 5) with temp := 5000 }, 5, by decide +kernel⟩,
    ⟨{ w0.setLt 5 { (w0.lt 5) with stamp := some 0 } with time := { w0.time with up := 3600000000000 } }, 5, by decide +kernel⟩,
    ⟨(wLit fun l => { l with stripRun := some {} }).modTray 0 (fun x => { x with a := { wPlane with st := .active } }), 0x30000000, 0, 100, {}, (by decide +kernel), (by decide +kernel), (by decide +kernel), (by decide +kernel), (by unfold EndsNoMode; decide +kernel)⟩⟩

/-- The hypotheses of TrayLightRowsComplete, clause by clause. -/
theorem meets_TrayLightRowsComplete_3 :
    (∃ (s : State) (u : UnitAddr) (k : Nat) (n : BitVec 32), s.trayAt u = some k ∧ (s.tray k).sliceable = true ∧ (s.tray k).light.stripRun = none ∧ s.mayStrip k = true ∧ s.shareLeft k n.toNat = true ∧ (EndsNoMode 0 n.toNat ∨ s.fw.patterns = [])) ∧
    (∃ (s : State) (u : UnitAddr) (k : Nat) (f : StripFigures) (r : StripRun), s.trayAt u = some k ∧ (s.tray k).light.stripRun = some r ∧ 2 * stripMode ≤ r.beats) ∧
    (∃ (s : State) (u : UnitAddr) (k : Nat) (f : StripFigures) (r : StripRun), s.trayAt u = some k ∧ (s.tray k).light.stripRun = some r ∧ 2 * stripMode ≤ r.beats) ∧
    (∃ (s : State) (u : UnitAddr) (k : Nat) (m : Measured), s.trayAt u = some k ∧ (s.tray k).light.measured = some m) ∧
    (∃ (s : State) (u : UnitAddr) (k : Nat), s.trayAt u = some k ∧ (s.tray k).light.measured = none ∧ (s.tray k).light.interimDue = true) ∧
    (∃ (s : State) (x : PortNo), (s.lt x).calDue = true) :=
  ⟨⟨wLit fun l => { l with req := some { prio := 1, stamp := 0 } }, 0x30000000, 0, 100, (by decide +kernel), (by decide +kernel), (by decide +kernel), (by decide +kernel), (by decide +kernel), (by unfold EndsNoMode; decide +kernel)⟩,
    ⟨wLit fun l => { l with stripRun := some { beats := 4194304 } }, 0x30000000, 0, wFig, { beats := 4194304 }, (by decide +kernel), (by decide +kernel), (by decide +kernel)⟩,
    ⟨wLit fun l => { l with stripRun := some { beats := 9194304 } }, 0x30000000, 0, { wFig with resStd := 0xFFFF, randFine := 0xFFFF }, { beats := 9194304 }, (by decide +kernel), (by decide +kernel), (by decide +kernel)⟩,
    ⟨wLit fun l => { l with measured := some ⟨wFig, 1, 7, 3⟩ }, 0x30000000, 0, ⟨wFig, 1, 7, 3⟩, (by decide +kernel), (by decide +kernel)⟩,
    ⟨wLit fun l => { l with interimDue := true }, 0x30000000, 0, (by decide +kernel), (by decide +kernel), (by decide +kernel)⟩,
    ⟨w0.setLt 5 { (w0.lt 5) with calDue := true, temp := 700 }, 5, by decide +kernel⟩⟩

/-- The hypotheses of TrayLightRowsComplete, clause by clause. -/
theorem meets_TrayLightRowsComplete_4 :
    (∃ (s : State) (p : Path), s.priv p = true) ∧
    (∃ (s : State) (p : Path), s.priv p = true) ∧
    (∃ (s : State) (p : Path) (k : Nat), SelectsTray s p k ∧ (s.tray k).tended = true) ∧
    (∃ (s : State) (p : Path) (k : Nat), SelectsTray s p k) ∧
    (∃ (s : State) (p : Path) (v : Word), s.priv p = true) ∧
    (∃ (s : State) (p : Path) (k : Nat), s.priv p = true ∧ s.selOf p = .one (.tray k)) :=
  ⟨⟨wLit, .image, by decide +kernel⟩,
    ⟨wLit, .image, by decide +kernel⟩,
    ⟨wS wLit 0x30000000, .image, 0, (by unfold SelectsTray; decide +kernel), (by decide +kernel)⟩,
    ⟨wS wLit 0x30000000, .image, 0, by unfold SelectsTray; decide +kernel⟩,
    ⟨w0, .image, 0xFFFFFFFF, by decide +kernel⟩,
    ⟨wS (wLit fun l => { l with slewPeak := 9 }) 0x30000000, .image, 0, (by decide +kernel), (by decide +kernel)⟩⟩

/-- The hypotheses of RingLockRowsComplete, clause by clause. -/
theorem meets_RingLockRowsComplete :
    (∃ (s : State) (u : UnitAddr) (k : Nat) (i : BitVec 11) (h : BitVec 12) (pn : BitVec 10), s.trayAt u = some k ∧ (s.tray k).light.lit = true ∧ ((s.tray k).ring i.toNat).lock = 1 ∧ i.toNat < 1056) ∧
    (∃ (s : State) (x : PortNo) (k : ChanNo) (rx : Bool) (h : BitVec 12) (pn : BitVec 10), (s.ltRing x rx k).lock = 1) ∧
    (∃ (s : State) (u : UnitAddr) (k : Nat) (i : BitVec 11), s.trayAt u = some k ∧ (s.tray k).tended = true ∧ ((s.tray k).ring i.toNat).lock = 1 ∧ i.toNat < 1056 ∧ (s.tray k).light.gridFailed = false ∧ ((s.tray k).ring i.toNat).attempts < 2) ∧
    (∃ (s : State) (x : PortNo) (k : ChanNo) (rx : Bool), (s.ltRing x rx k).lock = 1 ∧ (s.ltRing x rx k).attempts < 2) ∧
    (∃ (s : State) (x : PortNo) (k : ChanNo) (rx : Bool), (s.ltRing x rx k).lock = 1 ∧ (s.ltRing x rx k).attempts < 2) ∧
    (∃ (s : State) (x : PortNo) (k : ChanNo) (rx : Bool), (s.ltRing x rx k).lock = 1 ∧ 2 ≤ (s.ltRing x rx k).attempts) :=
  ⟨⟨wLit fun l => { l with ringBase := { lock := 1 } }, 0x30000000, 0, 1055, 99, 7, (by decide +kernel), (by decide +kernel), (by decide +kernel), (by decide +kernel)⟩,
    ⟨wRi w0 5 true 3 fun r => { r with lock := 1 }, 5, 3, true, 99, 7, by decide +kernel⟩,
    ⟨wLit fun l => { l with ringBase := { lock := 1, attempts := 1 } }, 0x30000000, 0, 1055, (by decide +kernel), (by decide +kernel), (by decide +kernel), (by decide +kernel), (by decide +kernel), (by decide +kernel)⟩,
    ⟨wRi w0 5 true 3 fun r => { r with lock := 1, attempts := 1 }, 5, 3, true, (by decide +kernel), (by decide +kernel)⟩,
    ⟨wRi w0 5 false 3 fun r => { r with lock := 1, attempts := 1 }, 5, 3, false, (by decide +kernel), (by decide +kernel)⟩,
    ⟨wRi w0 5 true 3 fun r => { r with lock := 1, attempts := 2 }, 5, 3, true, (by decide +kernel), (by decide +kernel)⟩⟩

/-- The hypotheses of RingLockRowsComplete, clause by clause. -/
theorem meets_RingLockRowsComplete_2 :
    (∃ (s : State) (x : PortNo) (k : ChanNo) (rx : Bool), (s.ltRing x rx k).lock = 1 ∧ 2 ≤ (s.ltRing x rx k).attempts) ∧
    (∃ (s : State) (u : UnitAddr) (k : Nat), s.trayAt u = some k ∧ (s.tray k).tended = true ∧ (s.tray k).allLocked = true ∧ (s.tray k).light.gridFailed = false) ∧
    (∃ (s : State) (x : PortNo), (s.lt x).port.isSome = true ∧ (s.lt x).acquires = false) ∧
    (∃ (s : State) (u : UnitAddr) (k : Nat), s.trayAt u = some k ∧ (s.tray k).tended = true ∧ (s.tray k).light.checking = true) ∧
    (∃ (s : State) (u : UnitAddr) (k : Nat) (i : BitVec 11), s.trayAt u = some k ∧ (s.tray k).tended = true ∧ (s.tray k).light.checking = true ∧ (s.tray k).light.acquiring = false ∧ i.toNat < 1056) ∧
    (∃ (s : State) (x : PortNo), (s.lt x).checking = true) ∧
    (∃ (s : State) (x : PortNo) (k : ChanNo) (f : TagFault), (s.lt x).checking = true ∧ (s.chan x k).rx = .up) ∧
    (∃ (s : State) (x : PortNo) (k : ChanNo) (f : TagFault), (s.lt x).checking = true ∧ (s.chan x k).tx = .up) :=
  ⟨⟨wRi w0 5 false 3 fun r => { r with lock := 1, attempts := 2 }, 5, 3, false, (by decide +kernel), (by decide +kernel)⟩,
    ⟨wLit, 0x30000000, 0, (by decide +kernel), (by decide +kernel), (by decide +kernel), (by decide +kernel)⟩,
    ⟨w0.setLt 5 { (w0.lt 5) with port := some 9 }, 5, (by decide +kernel), (by decide +kernel)⟩,
    ⟨wLit fun l => { l with checking := true, acquiring := true, devHold := true, cause := 3 }, 0x30000000, 0, (by decide +kernel), (by decide +kernel), (by decide +kernel)⟩,
    ⟨wLit fun l => { l with checking := true }, 0x30000000, 0, 1055, (by decide +kernel), (by decide +kernel), (by decide +kernel), (by decide +kernel), (by decide +kernel)⟩,
    ⟨w0.setLt 5 { (w0.lt 5) with port := some 9, checking := true }, 5, by decide +kernel⟩,
    ⟨wCh (w0.setLt 5 { (w0.lt 5) with port := some 9, checking := true }) 5 15 fun c => { c with rx := .up }, 5, 15, .mislock, (by decide +kernel), (by decide +kernel)⟩,
    ⟨wCh (w0.setLt 5 { (w0.lt 5) with port := some 9, checking := true }) 5 15 fun c => { c with tx := .up }, 5, 15, .mislock, (by decide +kernel), (by decide +kernel)⟩⟩

/-- The hypotheses of CombAndReferenceRowsComplete, clause by clause. -/
theorem meets_CombAndReferenceRowsComplete :
    (∃ (s : State) (c : Fin 56) (b : Nat), s.combSt c.val = 0 ∧ (combsOf (c.val / 14)).find? (fun b => s.combSt b == 1) = some b) ∧
    (∃ (s : State) (c : Fin 56), s.combSt c.val = 0 ∧ (∀ b ∈ combsOf (c.val / 14), s.combSt b ≠ 1)) ∧
    (∃ (s : State) (q : BitVec 2) (b : Nat), (combsOf q.toNat).find? (fun b => s.combSt b == 3) = some b) ∧
    (∃ (s : State) (pw off : BitVec 8), s.mod.on = true ∧ ((s.light.refSt = 0 ∨ s.light.refSt = 3)) ∧ -40 ≤ pw.toInt ∧ pw.toInt ≤ 12 ∧ off.toInt.natAbs ≤ 50) ∧
    (∃ (s : State) (pw off : BitVec 8), s.mod.on = true ∧ ((s.light.refSt = 0 ∨ s.light.refSt = 3)) ∧ -40 ≤ pw.toInt ∧ pw.toInt ≤ 12 ∧ off.toInt.natAbs ≤ 50) ∧
    (∃ (s : State) (off : BitVec 8), s.light.refSt = 1 ∧ off.toInt.natAbs ≤ 2) :=
  ⟨⟨w0, 0, 13, (by decide +kernel), (by decide +kernel)⟩,
    ⟨wCo w0 13 fun c => { c with st := some 2 }, 0, (by decide +kernel), (by decide +kernel)⟩,
    ⟨wCo w0 13 fun c => { c with st := some 3 }, 0, 13, by decide +kernel⟩,
    ⟨w0, 0xD8, 0xCE, (by decide +kernel), (by decide +kernel), (by decide +kernel), (by decide +kernel), (by decide +kernel)⟩,
    ⟨{ w0 with light := { w0.light with refSt := 3 } }, 12, 50, (by decide +kernel), (by decide +kernel), (by decide +kernel), (by decide +kernel), (by decide +kernel)⟩,
    ⟨{ w0 with light := { w0.light with refSt := 1 } }, 0xFE, (by decide +kernel), (by decide +kernel)⟩⟩

/-- The hypotheses of CombAndReferenceRowsComplete, clause by clause. -/
theorem meets_CombAndReferenceRowsComplete_2 :
    (∃ (s : State), ((s.light.refSt = 1 ∨ s.light.refSt = 2))) ∧
    (∃ (s : State) (x : PortNo) (k : ChanNo) (off : BitVec 8), 40 < off.toInt.natAbs ∧ (((s.chan x k).rx = .locking ∨ (s.chan x k).rx = .training ∨ (s.chan x k).rx = .retrain ∨ (s.chan x k).rx = .up))) ∧
    (∃ (s : State) (x : PortNo) (k : ChanNo) (off : BitVec 8), 40 < off.toInt.natAbs ∧ (((s.chan x k).rx = .locking ∨ (s.chan x k).rx = .training ∨ (s.chan x k).rx = .retrain ∨ (s.chan x k).rx = .up))) ∧
    (∃ (s : State) (x : PortNo) (k : ChanNo) (off : BitVec 8), off.toInt.natAbs ≤ 32 ∧ (s.chan x k).rx = .refused) :=
  ⟨⟨{ w0 with light := { w0.light with refSt := 2 } }, by decide +kernel⟩,
    ⟨wCh w0 5 15 fun c => { c with rx := .up }, 5, 15, 41, (by decide +kernel), (by decide +kernel)⟩,
    ⟨wCh w0 5 15 fun c => { c with rx := .locking }, 5, 15, 0x80, (by decide +kernel), (by decide +kernel)⟩,
    ⟨wCh w0 5 15 fun c => { c with rx := .refused }, 5, 15, 0xE0, (by decide +kernel), (by decide +kernel)⟩⟩

/-- The hypotheses of ChannelRowsComplete, clause by clause. -/
theorem meets_ChannelRowsComplete :
    (∃ (s : State) (l : BitVec 6) (x : PortNo) (k : ChanNo), s.ltOn l x = true ∧ 262144 < (s.link l).backlog ∧ s.usedChans x < (s.link l).max.toNat ∧ s.bestLine x = some k) ∧
    (∃ (s : State) (l : BitVec 6) (x : PortNo) (k : ChanNo), s.ltOn l x = true ∧ 262144 < (s.link l).backlog ∧ s.usedChans x < (s.link l).max.toNat ∧ s.bestLine x = some k) ∧
    (∃ (s : State) (l : BitVec 6) (x : PortNo) (k : ChanNo), s.ltOn l x = true ∧ (s.chan x k).tx = .up ∧ (s.chan x k).releasing = false ∧ (s.link l).min.toNat < s.keptChans x) ∧
    (∃ (s : State) (l : BitVec 6) (x : PortNo) (k : ChanNo), s.ltOn l x = true ∧ (s.chan x k).tx = .up ∧ (s.chan x k).releasing = false ∧ (s.link l).min.toNat < s.keptChans x) ∧
    (∃ (s : State) (q : BitVec 2) (r : LineReq) (k : ChanNo), ServedFirst s q.toNat r ∧ s.bestLine r.lt = some k) ∧
    (∃ (s : State) (x : PortNo) (k : ChanNo) (off : BitVec 8), (s.chan x k).rx = .locking) :=
  ⟨⟨wLl wLink 5 fun l => { l with queue := List.replicate 513 { vc := false, dst := 7, bytes := List.replicate 512 0 } }, 5, 5, 0, (by decide +kernel), (by decide +kernel), (by decide +kernel), (by decide +kernel)⟩,
    ⟨wLl (wUp) 5 fun l => { l with resend := List.replicate 513 { wTx 5 with payload := List.replicate 512 0 }, max := 2 }, 5, 5, 0, (by decide +kernel), (by decide +kernel), (by decide +kernel), (by decide +kernel)⟩,
    ⟨wCh (wUp) 5 4 fun c => { c with tx := .up }, 5, 5, 3, (by decide +kernel), (by decide +kernel), (by decide +kernel), (by decide +kernel)⟩,
    ⟨wCh (wUp fun c => { c with unacked := [wTx 1] }) 5 4 fun c => { c with tx := .up }, 5, 5, 3, (by decide +kernel), (by decide +kernel), (by decide +kernel), (by decide +kernel)⟩,
    ⟨{ wLink with fab := { wLink.fab with waiting := [⟨5, 1, 7, 5⟩, ⟨5, 1, 9, 5⟩] } }, 0, ⟨5, 1, 7, 5⟩, 0, (by unfold ServedFirst; decide +kernel), (by decide +kernel)⟩,
    ⟨wCh wLink 5 3 fun c => { c with rx := .locking }, 5, 3, 40, by decide +kernel⟩⟩

/-- The hypotheses of ChannelRowsComplete, clause by clause. -/
theorem meets_ChannelRowsComplete_2 :
    (∃ (s : State) (x : PortNo) (k : ChanNo) (off : BitVec 8), (s.chan x k).tx = .locking) ∧
    (∃ (s : State) (x : PortNo) (k : ChanNo) (n : BitVec 32), n.toNat ≤ 1000 ∧ (((s.chan x k).rx = .training ∨ (s.chan x k).rx = .retrain))) ∧
    (∃ (s : State) (x : PortNo) (k : ChanNo) (n : BitVec 32), n.toNat ≤ 1000 ∧ (((s.chan x k).rx = .training ∨ (s.chan x k).rx = .retrain))) ∧
    (∃ (s : State) (x : PortNo) (k : ChanNo) (n : BitVec 32), n.toNat ≤ 1000 ∧ (((s.chan x k).tx = .training ∨ (s.chan x k).tx = .retrain))) ∧
    (∃ (s : State) (x : PortNo) (k : ChanNo) (n : BitVec 32), n.toNat ≤ 1000 ∧ (((s.chan x k).tx = .training ∨ (s.chan x k).tx = .retrain))) ∧
    (∃ (s : State) (x : PortNo) (k : ChanNo) (n : BitVec 32), 1000 < n.toNat ∧ (((s.chan x k).rx = .training ∨ (s.chan x k).rx = .retrain))) :=
  ⟨⟨wCh wLink 5 3 fun c => { c with tx := .locking }, 5, 3, 0x80, by decide +kernel⟩,
    ⟨wCh wLink 5 3 fun c => { c with rx := .training, bits := 9, rxAttempts := 2 }, 5, 3, 1000, (by decide +kernel), (by decide +kernel)⟩,
    ⟨wCh w0 5 3 fun c => { c with rx := .retrain, bits := 9, rxAttempts := 2 }, 5, 3, 0, (by decide +kernel), (by decide +kernel)⟩,
    ⟨wCh wLink 5 3 fun c => { c with tx := .retrain, attempts := 2 }, 5, 3, 1000, (by decide +kernel), (by decide +kernel)⟩,
    ⟨wLl (wCh wLink 5 3 fun c => { c with tx := .training, replays := 2 }) 5 fun l => { l with queue := [{ vc := false, dst := 7, bytes := List.replicate 300 0 }] }, 5, 3, 0, (by decide +kernel), (by decide +kernel)⟩,
    ⟨wCh wLink 5 3 fun c => { c with rx := .retrain, rxAttempts := 2 }, 5, 3, 1001, (by decide +kernel), (by decide +kernel)⟩⟩

/-- The hypotheses of ChannelRowsComplete, clause by clause. -/
theorem meets_ChannelRowsComplete_3 :
    (∃ (s : State) (x : PortNo) (k : ChanNo) (n : BitVec 32), 1000 < n.toNat ∧ (((s.chan x k).rx = .training ∨ (s.chan x k).rx = .retrain))) ∧
    (∃ (s : State) (x : PortNo) (k : ChanNo) (n : BitVec 32), 1000 < n.toNat ∧ (((s.chan x k).tx = .training ∨ (s.chan x k).tx = .retrain))) ∧
    (∃ (s : State) (x : PortNo) (k : ChanNo) (n : BitVec 32), 1000 < n.toNat ∧ (((s.chan x k).tx = .training ∨ (s.chan x k).tx = .retrain))) :=
  ⟨⟨wCh wLink 5 3 fun c => { c with rx := .training, rxAttempts := 1 }, 5, 3, 1001, (by decide +kernel), (by decide +kernel)⟩,
    ⟨wCh wLink 5 3 fun c => { c with tx := .retrain, attempts := 2 }, 5, 3, 1001, (by decide +kernel), (by decide +kernel)⟩,
    ⟨wCh wLink 5 3 fun c => { c with tx := .training, attempts := 1 }, 5, 3, 0xFFFFFFFF, (by decide +kernel), (by decide +kernel)⟩⟩

/-- The hypotheses of ChannelWatchRowsComplete, clause by clause. -/
theorem meets_ChannelWatchRowsComplete :
    (∃ (s : State) (x : PortNo) (k : ChanNo) (bits errs : BitVec 64), (s.chan x k).rx = .up) ∧
    (∃ (s : State) (x : PortNo) (k : ChanNo) (bits errs : BitVec 64) (h w : BitVec 16), (s.chan x k).rx = .up) ∧
    (∃ (s : State) (x : PortNo) (k : ChanNo) (n : BitVec 16), (s.chan x k).rx = .up) ∧
    (∃ (s : State) (x : PortNo) (k : ChanNo), (s.chan x k).rx = .up) ∧
    (∃ (s : State) (x : PortNo) (k : ChanNo), (s.chan x k).rx = .up ∧ 100000000000 ≤ (s.chan x k).bits.toNat ∧ (s.chan x k).readyOk = false) ∧
    (∃ (s : State) (x : PortNo) (k : ChanNo), (s.chan x k).rx = .up ∧ 100000000000 ≤ (s.chan x k).bits.toNat ∧ (s.chan x k).readyOk = false) ∧
    (∃ (s : State) (x : PortNo) (k : ChanNo) (p : PortNo), (s.lt x).port = some p ∧ (s.fport p).st = .linked ∧ (s.chan x k).rx = .failed ∧ (s.chan x k).peerLit = true) ∧
    (∃ (s : State) (x : PortNo) (k : ChanNo) (p : PortNo), (s.lt x).port = some p ∧ (s.fport p).st = .linked ∧ (s.chan x k).tx = .failed ∧ (s.chan x k).line.isSome = true) :=
  ⟨⟨wUp, 5, 3, 100000, 24, by decide +kernel⟩,
    ⟨wUp, 5, 3, 0, 0, 4, 5, by decide +kernel⟩,
    ⟨wUp, 5, 3, 16, by decide +kernel⟩,
    ⟨wUp fun c => { c with retrains := 255 }, 5, 3, by decide +kernel⟩,
    ⟨wUp fun c => { c with bits := 100000000000, errs := 100000 }, 5, 3, (by decide +kernel), (by decide +kernel), (by decide +kernel)⟩,
    ⟨wUp fun c => { c with bits := 100000000000, errs := 100001 }, 5, 3, (by decide +kernel), (by decide +kernel), (by decide +kernel)⟩,
    ⟨wUp fun c => { c with rx := .failed, peerLit := true, rxAttempts := 3 }, 5, 3, 5, (by decide +kernel), (by decide +kernel), (by decide +kernel), (by decide +kernel)⟩,
    ⟨wUp fun c => { c with tx := .failed }, 5, 3, 5, (by decide +kernel), (by decide +kernel), (by decide +kernel), (by decide +kernel)⟩⟩

/-- The hypotheses of FlitAndShutterRowsComplete, clause by clause. -/
theorem meets_FlitAndShutterRowsComplete :
    (∃ (s : State) (x : PortNo) (k : ChanNo) (f : Flit) (g : FlitF), GoodFlit s x k f 0 g) ∧
    (∃ (s : State) (x : PortNo) (k : ChanNo) (f : Flit) (g : FlitF), GoodFlit s x k f 1 g ∧ g.cseq = (s.chan x k).expect) ∧
    (∃ (s : State) (x : PortNo) (k : ChanNo) (f : Flit) (g : FlitF) (l : BitVec 6), NextFlit s x k f g l) ∧
    (∃ (s : State) (x : PortNo) (k : ChanNo) (f : Flit) (g : FlitF) (l : BitVec 6), NextFlit s x k f g l ∧ WholeMessage s l g ∧ headDst g.payload = s.node) ∧
    (∃ (s : State) (x : PortNo) (k : ChanNo) (f : Flit) (g : FlitF) (l o : BitVec 6), NextFlit s x k f g l ∧ WholeMessage s l g ∧ headDst g.payload ≠ s.node ∧ s.routeTo (headDst g.payload) = some o ∧ s.sendChans o = []) ∧
    (∃ (s : State) (x : PortNo) (k : ChanNo) (f : Flit) (g : FlitF) (l : BitVec 6), NextFlit s x k f g l ∧ WholeMessage s l g ∧ headDst g.payload ≠ s.node ∧ s.routeTo (headDst g.payload) = none) :=
  ⟨⟨wUp fun c => { c with unacked := [wTx 3, wTx 4, wTx 5] }, 5, 3, wFlit { wFF with kind := 0 }, { wFF with kind := 0 }, by unfold GoodFlit; decide +kernel⟩,
    ⟨wUp fun c => { c with unacked := [wTx 3, wTx 4, wTx 5] }, 5, 3, wFlit wFF, wFF, (by unfold GoodFlit; decide +kernel), (by decide +kernel)⟩,
    ⟨wUp, 5, 3, wFlit wFF, wFF, 5, by unfold NextFlit GoodFlit; decide +kernel⟩,
    ⟨wUp, 5, 3, wFlit wFF, wFF, 5, (by unfold NextFlit GoodFlit; decide +kernel), (by unfold WholeMessage; decide +kernel), (by decide +kernel)⟩,
    ⟨wUp, 5, 3, wFlit (wFor 9), wFor 9, 5, 8, (by unfold NextFlit GoodFlit; decide +kernel), (by unfold WholeMessage; decide +kernel), (by decide +kernel), (by decide +kernel), (by decide +kernel)⟩,
    ⟨wUp, 5, 3, wFlit (wFor 12), wFor 12, 5, (by unfold NextFlit GoodFlit; decide +kernel), (by unfold WholeMessage; decide +kernel), (by decide +kernel), (by decide +kernel)⟩⟩

/-- The hypotheses of FlitAndShutterRowsComplete, clause by clause. -/
theorem meets_FlitAndShutterRowsComplete_2 :
    (∃ (s : State) (x : PortNo) (k : ChanNo) (f : Flit) (g : FlitF), GoodFlit s x k f 1 g ∧ g.cseq ≠ (s.chan x k).expect) ∧
    (∃ (s : State) (x : PortNo) (k : ChanNo) (f : Flit), (s.chan x k).rx = .up ∧ ((f.coded = false ∨ readFlit f.bits = none))) ∧
    (∃ (s : State) (x : PortNo) (k : ChanNo) (f : Flit) (g : FlitF) (keep : List TxFlit), GoodFlit s x k f 2 g ∧ keep = ((s.chan x k).unacked.filter fun y => seqLe g.cack y.cseq) ∧ (∀ y ∈ keep, y.sends < 8)) ∧
    (∃ (s : State) (x : PortNo) (k : ChanNo) (f : Flit) (g : FlitF) (keep : List TxFlit), GoodFlit s x k f 2 g ∧ keep = ((s.chan x k).unacked.filter fun y => seqLe g.cack y.cseq) ∧ (∀ y ∈ keep, y.sends < 8)) ∧
    (∃ (s : State) (x : PortNo) (k : ChanNo) (f : Flit) (g : FlitF), GoodFlit s x k f 2 g ∧ (∃ y ∈ (s.chan x k).unacked, seqLe g.cack y.cseq = true ∧ 8 ≤ y.sends)) ∧
    (∃ (s : State) (x : PortNo) (k : ChanNo) (f : Flit) (g : FlitF), GoodFlit s x k f 2 g ∧ (∃ y ∈ (s.chan x k).unacked, seqLe g.cack y.cseq = true ∧ 8 ≤ y.sends)) :=
  ⟨⟨wUp, 5, 3, wFlit { wFF with cseq := 7 }, { wFF with cseq := 7 }, (by unfold GoodFlit; decide +kernel), (by decide +kernel)⟩,
    ⟨wUp, 5, 3, ⟨false, wFF.bits⟩, (by decide +kernel), (by decide +kernel)⟩,
    ⟨wUp fun c => { c with nextSeq := 6, unacked := [wTx 3, wTx 4, wTx 5] }, 5, 3, wFlit { wFF with kind := 2 }, { wFF with kind := 2 }, [wTx 4, wTx 5], (by unfold GoodFlit; decide +kernel), (by decide +kernel), (by decide +kernel)⟩,
    ⟨wLl (wUp fun c => { c with nextSeq := 6, unacked := [wTx 3, wTx 4, wTx 5] }) 5 fun l => { l with queue := [{ vc := false, dst := 7, bytes := List.replicate 300 0 }] }, 5, 3, wFlit { wFF with kind := 2 }, { wFF with kind := 2 }, [wTx 4, wTx 5], (by unfold GoodFlit; decide +kernel), (by decide +kernel), (by decide +kernel)⟩,
    ⟨wUp fun c => { c with nextSeq := 6, unacked := [wTx 3, { wTx 4 with sends := 8 }, wTx 5] }, 5, 3, wFlit { wFF with kind := 2 }, { wFF with kind := 2 }, (by unfold GoodFlit; decide +kernel), (by decide +kernel)⟩,
    ⟨wCh (wUp fun c => { c with nextSeq := 6, unacked := [wTx 3, { wTx 4 with sends := 8 }, wTx 5] }) 5 4 (fun c => { c with tx := .up }), 5, 3, wFlit { wFF with kind := 2 }, { wFF with kind := 2 }, (by unfold GoodFlit; decide +kernel), (by decide +kernel)⟩⟩

/-- The hypotheses of FlitAndShutterRowsComplete, clause by clause. -/
theorem meets_FlitAndShutterRowsComplete_3 :
    (∃ (s : State) (p : PortNo), s.mod.on = true ∧ (s.fport p).st ≠ .shutdown) ∧
    (∃ (s : State) (p x : PortNo), (s.fport p).st = .shutdown ∧ s.ltOf p = some x) ∧
    (∃ (s : State) (p : PortNo), (s.fport p).st = .shutdown ∧ (s.fport p).probing = false) ∧
    (∃ (s : State) (q : Path) (p : PortNo), s.priv q = true ∧ (s.fport p).st = .shutdown ∧ (s.fport p).probing = false) ∧
    (∃ (s : State) (p : PortNo), (s.fport p).probing = true) ∧
    (∃ (s : State) (p : PortNo) (pw : BitVec 16), (s.fport p).st = .shutdown ∧ -250 ≤ pw.toInt) ∧
    (∃ (s : State) (p : PortNo) (pw : BitVec 16), (s.fport p).st = .shutdown ∧ -250 ≤ pw.toInt) :=
  ⟨⟨wUp, 5, (by decide +kernel), (by decide +kernel)⟩,
    ⟨wFp (wUp) 5 fun p => { p with st := .shutdown }, 5, 5, (by decide +kernel), (by decide +kernel)⟩,
    ⟨wFp (wUp) 5 fun p => { p with st := .shutdown, shutter := true }, 5, (by decide +kernel), (by decide +kernel)⟩,
    ⟨wFp (wUp) 5 fun p => { p with st := .shutdown, shutter := true }, .image, 5, (by decide +kernel), (by decide +kernel), (by decide +kernel)⟩,
    ⟨wFp (wUp) 5 fun p => { p with st := .shutdown, probing := true }, 5, by decide +kernel⟩,
    ⟨wFp (wUp) 5 fun p => { p with st := .shutdown, shutter := true }, 5, 0xFF06, (by decide +kernel), (by decide +kernel)⟩,
    ⟨wFp (wUp) 5 fun p => { p with st := .shutdown, probing := true }, 5, 0, (by decide +kernel), (by decide +kernel)⟩⟩

/-- The hypotheses of SwitchExchangeRowsComplete, clause by clause. -/
theorem meets_SwitchExchangeRowsComplete :
    (∃ (s : State) (p : Path) (n : BitVec 2) (pl : Plan), s.priv p = true ∧ s.goRefusal n s.swTime = none ∧ (s.plan.slot n).plan = some pl) ∧
    (∃ (s : State) (p : Path) (n : BitVec 2) (c : Code), s.priv p = true ∧ s.goRefusal n s.swTime = some c) ∧
    (∃ (s : State) (h : SlHead) (id : Word) (tm : DevTime) (planId : Word) (digest : BitVec 384) (n : BitVec 2), Accepts s h 0x10 (prepareBytes id tm planId digest) ∧ s.swPending = false ∧ s.steer.done.contains id = false ∧ s.mod.st = 2 ∧ s.findPlan planId digest = some n ∧ s.steer.frozen = false ∧ s.steer.latchOpen = false ∧ s.lenderShort n = false) ∧
    (∃ (s : State) (h : SlHead) (id : Word) (w : Switch), Accepts s h 0x11 (leBytes 4 id.toNat) ∧ s.steer.sw = some w ∧ w.coord = true ∧ w.id = id ∧ w.ready.contains h.src = false) ∧
    (∃ (s : State) (h : SlHead) (id : Word) (code : Code) (w : Switch), Accepts s h 0x12 (leBytes 4 id.toNat ++ leBytes 2 code.toNat) ∧ s.steer.sw = some w ∧ w.coord = true ∧ w.id = id ∧ (w.refused.any fun e => e.1 == h.src) = false) ∧
    (∃ (s : State) (h : SlHead) (id : Word) (w : Switch), Accepts s h 0x13 (leBytes 4 id.toNat) ∧ s.steer.sw = some w ∧ w.id = id ∧ w.coord = false ∧ s.steer.phase = 1) :=
  ⟨⟨wGov.setPol 0x400018 100, .image, 2, wPlan2, (by decide +kernel), (by decide +kernel), (by decide +kernel)⟩,
    ⟨wGov, .image, 2, 0x0405, (by decide +kernel), (by decide +kernel)⟩,
    ⟨wGov, wSl 9 0x10 (prepareBytes 55 ⟨10, 0⟩ 78 6), 55, ⟨10, 0⟩, 78, 6, 2, (by unfold Accepts; decide +kernel), (by decide +kernel), (by decide +kernel), (by decide +kernel), (by decide +kernel), (by decide +kernel), (by decide +kernel), (by decide +kernel)⟩,
    ⟨wSw 1 wSwitch, wSl 9 0x11 (leBytes 4 55), 55, wSwitch, (by unfold Accepts; decide +kernel), (by decide +kernel), (by decide +kernel), (by decide +kernel), (by decide +kernel)⟩,
    ⟨wSw 1 { wSwitch with ready := [3, 7] }, wSl 9 0x12 (leBytes 4 55 ++ leBytes 2 0x0407), 55, 0x0407, { wSwitch with ready := [3, 7] }, (by unfold Accepts; decide +kernel), (by decide +kernel), (by decide +kernel), (by decide +kernel), (by decide +kernel)⟩,
    ⟨wSw 1 wPart2, wSl 9 0x13 (leBytes 4 55), 55, wPart2, (by unfold Accepts; decide +kernel), (by decide +kernel), (by decide +kernel), (by decide +kernel), (by decide +kernel)⟩⟩

/-- The hypotheses of SwitchExchangeRowsComplete, clause by clause. -/
theorem meets_SwitchExchangeRowsComplete_2 :
    (∃ (s : State) (h : SlHead) (id : Word) (code : Code) (w : Switch), Accepts s h 0x14 (leBytes 4 id.toNat ++ leBytes 2 code.toNat) ∧ s.steer.sw = some w ∧ w.id = id ∧ w.coord = false ∧ s.steer.phase = 1) ∧
    (∃ (s : State) (h : SlHead) (id : Word) (w : Switch), Accepts s h 0x15 (leBytes 4 id.toNat) ∧ s.steer.sw = some w ∧ w.coord = true ∧ w.id = id ∧ w.acks.contains h.src = false) ∧
    (∃ (s : State) (h : SlHead) (id : Word) (code : Code) (r : BitVec 16) (w : Switch), Accepts s h 0x16 (leBytes 4 id.toNat ++ leBytes 2 code.toNat ++ leBytes 2 r.toNat) ∧ s.steer.sw = some w ∧ w.coord = true ∧ w.id = id) ∧
    (∃ (s : State) (w : Switch), s.steer.sw = some w ∧ w.coord = true ∧ s.steer.phase = 1) ∧
    (∃ (s : State) (w : Switch), s.steer.sw = some w ∧ w.coord = true ∧ s.steer.phase = 1) ∧
    (∃ (s : State) (w : Switch), s.steer.sw = some w ∧ w.coord = true ∧ s.steer.phase = 2) :=
  ⟨⟨wSw 1 wPart2, wSl 9 0x14 (leBytes 4 55 ++ leBytes 2 0x0406), 55, 0x0406, wPart2, (by unfold Accepts; decide +kernel), (by decide +kernel), (by decide +kernel), (by decide +kernel), (by decide +kernel)⟩,
    ⟨wSw 2 wSwitch, wSl 9 0x15 (leBytes 4 55), 55, wSwitch, (by unfold Accepts; decide +kernel), (by decide +kernel), (by decide +kernel), (by decide +kernel), (by decide +kernel)⟩,
    ⟨wSw 6 wSwitch, wSl 9 0x16 (leBytes 4 55 ++ leBytes 2 0 ++ leBytes 2 700), 55, 0, 700, wSwitch, (by unfold Accepts; decide +kernel), (by decide +kernel), (by decide +kernel), (by decide +kernel)⟩,
    ⟨wSw 1 wSwitch, wSwitch, (by decide +kernel), (by decide +kernel), (by decide +kernel)⟩,
    ⟨wSw 1 wSwitch, wSwitch, (by decide +kernel), (by decide +kernel), (by decide +kernel)⟩,
    ⟨wSw 2 { wSwitch with ready := [3, 7, 9], acks := [7] }, { wSwitch with ready := [3, 7, 9], acks := [7] }, (by decide +kernel), (by decide +kernel), (by decide +kernel)⟩⟩

/-- The hypotheses of SwitchRunRowsComplete, clause by clause. -/
theorem meets_SwitchRunRowsComplete :
    (∃ (s : State) (w : Switch), s.steer.sw = some w ∧ s.steer.phase = 2) ∧
    (∃ (s : State) (w : Switch) (pl : Plan) (i : Nat), s.steer.sw = some w ∧ s.steer.phase = 2 ∧ s.steer.frozen = false ∧ s.steer.latchOpen = false ∧ s.target w = some pl ∧ pl.bySerial s.fuse.serial = some i) ∧
    (∃ (s : State) (w : Switch), s.steer.sw = some w ∧ s.steer.phase = 2 ∧ ((s.steer.frozen = true ∨ s.steer.latchOpen = true))) ∧
    (∃ (s : State), s.steer.step = 1) ∧
    (∃ (s : State) (bad : List PortNo), s.steer.step = 2) ∧
    (∃ (s : State), s.steer.step = 3) ∧
    (∃ (s : State) (w : Switch), s.steer.sw = some w ∧ w.coord = false ∧ s.steer.phase = 1) ∧
    (∃ (s : State) (p : Path) (w : Switch), s.priv p = true ∧ s.steer.sw = some w ∧ w.coord = true ∧ s.steer.phase = 1) :=
  ⟨⟨wLl (wSw 2 { wPart2 with committed := true }) 8 (fun l => { l with used := true, ports := [8] }), { wPart2 with committed := true }, (by decide +kernel), (by decide +kernel)⟩,
    ⟨wSw 2 wSwitch, wSwitch, wPlan2, 0, (by decide +kernel), (by decide +kernel), (by decide +kernel), (by decide +kernel), (by decide +kernel), (by decide +kernel)⟩,
    ⟨wSw 2 wPart2 fun x => { x with frozen := true }, wPart2, (by decide +kernel), (by decide +kernel), (by decide +kernel)⟩,
    ⟨wSw 3 wSwitch fun x => { x with step := 1, moving := true }, by decide +kernel⟩,
    ⟨wSw 4 wSwitch fun x => { x with step := 2 }, [], by decide +kernel⟩,
    ⟨wLl (wSw 5 wSwitch fun x => { x with step := 3 }) 5 (fun l => { l with quiesced := true, queue := [{ vc := false, dst := 7, bytes := [1, 2] }] }), by decide +kernel⟩,
    ⟨wSw 1 wPart2, wPart2, (by decide +kernel), (by decide +kernel), (by decide +kernel)⟩,
    ⟨wSw 1 wSwitch, .image, wSwitch, (by decide +kernel), (by decide +kernel), (by decide +kernel), (by decide +kernel)⟩⟩

/-- The hypotheses of MatrixRowsComplete, clause by clause. -/
theorem meets_MatrixRowsComplete :
    (∃ (s : State) (p : Path), s.priv p = true) ∧
    (∃ (s : State), s.steer.inBypass = true ∧ s.steer.moving = true) ∧
    (∃ (s : State) (p : Path) (pl : Plan) (i : Nat), s.priv p = true ∧ s.judging = true ∧ s.steer.inBypass = true ∧ ((s.steer.src = 3 ∨ s.steer.src = 4)) ∧ s.steer.latchOpen = false ∧ s.steer.frozen = false ∧ s.activePlan = some pl ∧ s.selfIdx = some i) ∧
    (∃ (s : State) (a b : BitVec 7), s.steer.moving = true ∧ (movedElements s.steer.old s.steer.conn).contains (a.toNat, b.toNat) = true) ∧
    (∃ (s : State), s.inStage 7 = false) :=
  ⟨⟨wGov, .image, by decide +kernel⟩,
    ⟨wSteer fun x => { x with moving := true, bypassBit := true, changed := [5] }, (by decide +kernel), (by decide +kernel)⟩,
    ⟨wSteer fun x => { x with src := 4 }, .image, wPlan, 0, (by decide +kernel), (by decide +kernel), (by decide +kernel), (by decide +kernel), (by decide +kernel), (by decide +kernel), (by decide +kernel), (by decide +kernel)⟩,
    ⟨wSteer fun x => { x with moving := true, conn := wPlan.conns 0, old := bypassConn }, 69, 5, (by decide +kernel), (by decide +kernel)⟩,
    ⟨wSteer fun x => { x with latchOpen := true }, by decide +kernel⟩⟩

/-- The hypotheses of GovernorRowsComplete, clause by clause. -/
theorem meets_GovernorRowsComplete :
    (∃ (s : State) (g : GovMsg), (s.judgeCopy g.rcv g.src g.epoch g.seq g.govB g.payload).1 = .accepted) ∧
    (∃ (s : State) (g : GovMsg), (s.judgeCopy g.rcv g.src g.epoch g.seq g.govB g.payload).1 = .duplicate) ∧
    (∃ (s : State) (g : GovMsg), (s.judgeCopy g.rcv g.src g.epoch g.seq g.govB g.payload).1 = .split ∧ s.gov.split = 0 ∧ s.gov.simplex = false) ∧
    (∃ (s : State) (r : GovReceiver) (seq : Word) (w : GovWin) (e : Word × Word × Bool × Bool), s.gov.split = 0 ∧ s.gov.simplex = false ∧ w ∈ s.gov.wins ∧ w.rcv = r ∧ w.epoch = s.gov.epoch ∧ e ∈ w.got ∧ e.1 = seq ∧ e.2.2.1 ≠ e.2.2.2) ∧
    (∃ (s : State) (h : SlHead) (seq : Word) (epoch : BitVec 16), Accepts s h 0x31 (leBytes 4 seq.toNat ++ leBytes 2 epoch.toNat) ∧ s.gov.split = 0 ∧ s.gov.simplex = false) ∧
    (∃ (s : State), s.gov.split = 1) :=
  ⟨⟨wGov, ⟨.slEngine, 7, 4, 9, false, [1, 2]⟩, by decide +kernel⟩,
    ⟨{ wGov with gov := { wGov.gov with wins := [⟨.slEngine, 7, 4, 9, [(9, crc32c [1, 2], true, false)]⟩] } }, ⟨.slEngine, 7, 4, 9, true, [1, 2]⟩, by decide +kernel⟩,
    ⟨{ wGov with gov := { wGov.gov with wins := [⟨.siteCtl 3, 3, 4, 9, [(9, crc32c [1, 2, 3], true, false)]⟩] } }, ⟨.siteCtl 3, 3, 4, 9, true, [1, 2]⟩, (by decide +kernel), (by decide +kernel), (by decide +kernel)⟩,
    ⟨{ wGov with gov := { wGov.gov with wins := [⟨.mgmtPort, 3, 4, 9, [(9, 6, true, false)]⟩] } }, .mgmtPort, 9, ⟨.mgmtPort, 3, 4, 9, [(9, 6, true, false)]⟩, (9, 6, true, false), (by decide +kernel), (by decide +kernel), (by decide +kernel), (by decide +kernel), (by decide +kernel), (by decide +kernel), (by decide +kernel), (by decide +kernel)⟩,
    ⟨wGov, wSl 9 0x31 (leBytes 4 5 ++ leBytes 2 4), 5, 4, (by unfold Accepts; decide +kernel), (by decide +kernel), (by decide +kernel)⟩,
    ⟨{ wGov with gov := { wGov.gov with split := 1 }, steer := { wGov.steer with frozen := true } }, by decide +kernel⟩⟩

/-- The hypotheses of GovernorRowsComplete, clause by clause. -/
theorem meets_GovernorRowsComplete_2 :
    (∃ (s : State) (p : Path), s.priv p = true ∧ s.gov.split = 0 ∧ s.gov.roleA.toNat ≤ 1 ∧ s.gov.roleB.toNat ≤ 1) ∧
    (∃ (s : State), s.gov.swapAsked = true) ∧
    (∃ (s : State) (p : Path), s.priv p = true ∧ ((s.gov.roleA = 2 ∨ s.gov.roleB = 2))) ∧
    (∃ (s : State), s.gov.resyncing = true) ∧
    (∃ (s : State) (p : Path), s.priv p = true ∧ s.gov.split = 2) ∧
    (∃ (s : State) (h : SlHead) (x : PortNo) (k : ChanNo) (n : LinkNote), Accepts s h 0x02 (linkBytes n k) ∧ (s.lt x).port = some h.port) ∧
    (∃ (s : State) (p : PortNo), (s.slPort p).st ≠ 3) ∧
    (∃ (s : State) (p : PortNo), (s.slPort p).st ≠ 3 ∧ s.mod.on = true) :=
  ⟨⟨wGov, .image, (by decide +kernel), (by decide +kernel), (by decide +kernel), (by decide +kernel)⟩,
    ⟨{ wGov with gov := { wGov.gov with swapAsked := true } }, by decide +kernel⟩,
    ⟨{ wGov with gov := { wGov.gov with roleA := 2, roleB := 0, simplex := true } }, .image, (by decide +kernel), (by decide +kernel)⟩,
    ⟨{ wGov with gov := { wGov.gov with roleA := 0, roleB := 3, simplex := true, resyncing := true } }, by decide +kernel⟩,
    ⟨{ wGov with gov := { wGov.gov with split := 2 }, steer := { wGov.steer with frozen := true } }, .image, (by decide +kernel), (by decide +kernel)⟩,
    ⟨wGov, wSl 9 0x02 [3, 1], 5, 3, .lit, (by unfold Accepts; decide +kernel), (by decide +kernel)⟩,
    ⟨wGov, 5, by decide +kernel⟩,
    ⟨wGov, 6, (by decide +kernel), (by decide +kernel)⟩⟩

/-- The hypotheses of PlanAndDiscoveryRowsComplete, clause by clause. -/
theorem meets_PlanAndDiscoveryRowsComplete :
    (∃ (s : State) (p : PortNo), s.gov.relay = true ∧ (s.fport p).st ≠ .shutdown) ∧
    (∃ (s : State) (h : SlHead) (d : Disc), Accepts s h 1 (discBytes d)) :=
  ⟨⟨wGov, 5, (by decide +kernel), (by decide +kernel)⟩,
    ⟨wGov, wSl 9 1 (discBytes wDisc), wDisc, by unfold Accepts; decide +kernel⟩⟩

/-- The hypotheses of PlanAndDiscoveryRowsComplete, clause by clause. -/
theorem meets_PlanAndDiscoveryRowsComplete_2 :
    (∃ (s : State) (p : PortNo), s.mod.on = true) ∧
    (∃ (s : State) (p : Path) (n : BitVec 2), s.priv p = true) :=
  ⟨⟨wGov, 5, by decide +kernel⟩,
    ⟨wGov, .image, 3, by decide +kernel⟩⟩

/-- The hypotheses of PlanAndDiscoveryRowsComplete, clause by clause. -/
theorem meets_PlanAndDiscoveryRowsComplete_3 :
    (∃ (s : State) (n : BitVec 2) (pl : Plan), s.plan.loading = some n ∧ s.plan.loadQ = [] ∧ s.judgePlan s.plan.staging s.plan.stagedLen n = (0, some pl)) ∧
    (∃ (s : State) (n : BitVec 2) (code : Code), s.plan.loading = some n ∧ s.plan.loadQ = [] ∧ s.judgePlan s.plan.staging s.plan.stagedLen n = (code, none)) :=
  ⟨⟨wStaged, 3, wStagedP, (by decide +kernel), (by decide +kernel), staged_judged⟩,
    ⟨{ wStaged with plan := { wStaged.plan with stagedLen := 0 } }, 3, 0x0409, (by decide +kernel), (by decide +kernel), (by decide +kernel)⟩⟩

/-- The hypotheses of PlanAndDiscoveryRowsComplete, clause by clause. -/
theorem meets_PlanAndDiscoveryRowsComplete_4 :
    (∃ (s : State) (p : Path) (n : BitVec 2), s.priv p = true) ∧
    (∃ (s : State) (p : Path) (x : PortNo) (h : SlHead) (d : Disc), s.priv p = true ∧ s.swPending = false ∧ (s.fport x).st = .quarantined ∧ (((s.disc x).outcome = 5 ∨ (s.disc x).outcome = 6)) ∧ (s.disc x).heard = some (h, d) ∧ s.isMember d.serial = true ∧ s.named d = some (BitVec.ofNat 8 x.toNat)) :=
  ⟨⟨wGov, .image, 2, by decide +kernel⟩,
    ⟨(wFp wGov 5 fun p => { p with st := .quarantined }).setDisc 5 { outcome := 5, heard := some (wSl 9 1 [], wDisc) }, .image, 5, wSl 9 1 [], wDisc, (by decide +kernel), (by decide +kernel), (by decide +kernel), (by decide +kernel), (by decide +kernel), (by decide +kernel), (by decide +kernel)⟩⟩

/-- The hypotheses of PlanAndDiscoveryRowsComplete, clause by clause. -/
theorem meets_PlanAndDiscoveryRowsComplete_5 :
    (∃ (s : State) (p : Path) (x : PortNo), s.priv p = true ∧ s.swPending = false ∧ (s.fport x).st ≠ .quarantined) ∧
    (∃ (s : State) (p : Path) (x : PortNo), s.priv p = true ∧ s.swPending = true) :=
  ⟨⟨wGov, .image, 5, (by decide +kernel), (by decide +kernel), (by decide +kernel)⟩,
    ⟨wSw 2 wSwitch, .image, 5, (by decide +kernel), (by decide +kernel)⟩⟩

/-- The hypotheses of PlanAndDiscoveryRowsComplete, clause by clause. -/
theorem meets_PlanAndDiscoveryRowsComplete_6 :
    ∃ (s : State) (n : Node) (pl : Plan) (k : BitVec 2), s.activePlan = some pl ∧ ((pl.substs.filter fun e => e.1 == n).findSome? fun e => s.stagedById e.2.2) = some k ∧ s.allMissing n = true :=
  ⟨({ wGov with plan := { wGov.plan with s1 := { st := 3, plan := some { wPlan with substs := [(7, 11, 78)] } } } }).setDisc 5 { outcome := 3 } |> fun s => s.setDisc 6 { outcome := 3 }, 7, { wPlan with substs := [(7, 11, 78)] }, 2, (by decide +kernel), (by decide +kernel), (by decide +kernel)⟩

/-- The hypotheses of BootStageRowsComplete, clause by clause. -/
theorem meets_BootStageRowsComplete :
    (∃ (s : State) (a b : BitVec 12), s.mod.on = false ∧ s.mod.tripped = false ∧ ((inRange a = true ∨ inRange b = true))) ∧
    (∃ (s : State), s.enters 0 = true) ∧
    (∃ (s : State), s.enters 1 = true) ∧
    (∃ (s : State) (h4 : Bool), s.enters 2 = true) ∧
    (∃ (s : State) (a b h4 : Bool), s.enters 2 = true ∧ ((a = true ∨ b = true))) ∧
    (∃ (s : State), s.enters 3 = true) :=
  ⟨⟨State.reset, 480, 0, (by decide +kernel), (by decide +kernel), (by decide +kernel)⟩,
    ⟨wEnters 0, by decide +kernel⟩,
    ⟨wEnters 1, by decide +kernel⟩,
    ⟨wEnters 2, true, by decide +kernel⟩,
    ⟨wEnters 2, true, true, true, (by decide +kernel), (by decide +kernel)⟩,
    ⟨wEnters 3, by decide +kernel⟩⟩

/-- The hypotheses of BootStageRowsComplete, clause by clause. -/
theorem meets_BootStageRowsComplete_2 :
    (∃ (s : State) (i : BitVec 4), s.inStage 3 = true ∧ i.toNat < s.siteCount) ∧
    (∃ (s : State) (i : BitVec 4), s.inStage 3 = true ∧ i.toNat < s.siteCount) ∧
    (∃ (s : State) (i : BitVec 4), ((s.inStage 3 = true ∨ s.enters 4 = true)) ∧ i.toNat < s.siteCount ∧ (s.site i.toNat).failed = false ∧ (s.site i.toNat).trained = false) ∧
    (∃ (s : State) (i : BitVec 4), ((s.inStage 3 = true ∨ s.enters 4 = true)) ∧ i.toNat < s.siteCount ∧ (s.site i.toNat).failed = false ∧ (s.site i.toNat).trained = false) ∧
    (∃ (s : State) (failed : List (BitVec 4 × Fin 36)), s.enters 4 = true) ∧
    (∃ (s : State), s.enters 5 = true) :=
  ⟨⟨wIn 3, 15, (by decide +kernel), (by decide +kernel)⟩,
    ⟨wIn 3, 0, (by decide +kernel), (by decide +kernel)⟩,
    ⟨wIn 3, 0, (by decide +kernel), (by decide +kernel), (by decide +kernel), (by decide +kernel)⟩,
    ⟨wEnters 4, 15, (by decide +kernel), (by decide +kernel), (by decide +kernel), (by decide +kernel)⟩,
    ⟨wEnters 4, [], by decide +kernel⟩,
    ⟨wEnters 5, by decide +kernel⟩⟩

/-- The hypotheses of BootStageRowsComplete, clause by clause. -/
theorem meets_BootStageRowsComplete_3 :
    (∃ (s : State) (n : BitVec 7), s.inStage 5 = true ∧ n.toNat / 8 < s.siteCount ∧ (s.site (n.toNat / 8)).failed = false) ∧
    (∃ (s : State) (n : BitVec 7), s.inStage 5 = true ∧ n.toNat / 8 < s.siteCount ∧ (s.site (n.toNat / 8)).failed = false) ∧
    (∃ (s : State), s.enters 6 = true ∧ (∀ k ∈ s.allTrays, (s.tray k).light.gridFailed = false)) ∧
    (∃ (s : State) (pl : Plan) (i : Nat), s.enters 7 = true ∧ s.steer.latchOpen = false ∧ s.activePlan = some pl ∧ s.selfIdx = some i) ∧
    (∃ (s : State), s.inStage 7 = true ∧ s.mod.recWait = .idle ∧ s.stageRecs 7 = []) ∧
    (∃ (s : State), s.enters 8 = true) ∧
    (∃ (s : State), s.enters 9 = true) :=
  ⟨⟨wIn 5, 0, (by decide +kernel), (by decide +kernel), (by decide +kernel)⟩,
    ⟨wIn 5, 127, (by decide +kernel), (by decide +kernel), (by decide +kernel)⟩,
    ⟨wT (wEnters 6) 0 .off, (by decide +kernel), (by decide +kernel)⟩,
    ⟨wEnters 7, wPlan, 0, (by decide +kernel), (by decide +kernel), (by decide +kernel), (by decide +kernel)⟩,
    ⟨wIn 7, (by decide +kernel), (by decide +kernel), (by decide +kernel)⟩,
    ⟨(wEnters 8).modQp 4097 fun q => { q with raddr := [1, 0, 0, 0] }, by decide +kernel⟩,
    ⟨wEnters 9, by decide +kernel⟩⟩

/-- The hypotheses of RecordTableAndResetRowsComplete, clause by clause. -/
theorem meets_RecordTableAndResetRowsComplete :
    (∃ (s : State) (r : Rec), s.recordOf 1 = some r ∧ r.addr.toNat ∈ storedRegs) ∧
    (∃ (s : State) (r : Rec), s.recordOf 2 = some r ∧ r.addr.toNat ∈ storedRegs) ∧
    (∃ (s : State) (r : Rec), s.recordOf 3 = some r ∧ r.addr.toNat ∈ storedRegs) ∧
    (∃ (s : State) (r : Rec), s.recordOf 3 = some r) ∧
    (∃ (s : State) (r : Rec), s.recordOf 4 = some r) ∧
    (∃ (s : State), s.mod.recWait = .delay) :=
  ⟨⟨wRec 1 0x700008 0x12345678 0, wR 1 0x700008 0x12345678 0, (by decide +kernel), (by decide +kernel)⟩,
    ⟨wRec 2 0x700008 0x12345678 0xFF00, wR 2 0x700008 0x12345678 0xFF00, (by decide +kernel), (by decide +kernel)⟩,
    ⟨wRec 3 0x700008 0x500 0xFF00, wR 3 0x700008 0x500 0xFF00, (by decide +kernel), (by decide +kernel)⟩,
    ⟨wRec 3 0x700008 0x0 0x0, wR 3 0x700008 0x0 0x0, by decide +kernel⟩,
    ⟨wRec 4 0 5 0, wR 4 0 5 0, by decide +kernel⟩,
    ⟨{ wRec 4 0 5 0 with mod := { (wRec 4 0 5 0).mod with recWait := .delay } }, by decide +kernel⟩⟩

/-- The hypotheses of RecordTableAndResetRowsComplete, clause by clause. -/
theorem meets_RecordTableAndResetRowsComplete_2 :
    (∃ (s : State) (p : Path) (v : Word), s.priv p = true ∧ p ≠ .image ∧ s.mod.mode ≠ 0 ∧ v.getLsbD 31 = true ∧ s.mod.st = 1 ∧ v.setWidth 4 = s.mod.stage + 1) ∧
    (∃ (s : State) (p : Path) (v : Word), s.priv p = true ∧ p ≠ .image ∧ s.mod.mode ≠ 0 ∧ v.getLsbD 31 = true ∧ s.mod.st = 3 ∧ v.setWidth 4 = s.mod.stage ∧ s.mod.stage ≠ 2) ∧
    (∃ (s : State) (p : Path) (v : Word), s.priv p = true ∧ p ≠ .image ∧ s.mod.on = true ∧ v.getLsbD 31 = true ∧ bitsOf v 15 0 = 0xB007) ∧
    (∃ (s : State), s.mod.on = true) ∧
    (∃ (s : State) (a : UnitAddr) (n : TableNo), Repairable s a n) ∧
    (∃ (s : State) (r : ResetTarget) (j : ResetJob), (s.mod.resets.find? fun x => x.target == r && !x.stopped) = some j ∧ ((∀ k ∈ j.trays, (s.tray k).ctl.st = .resetting → (s.tray k).proof.guestQ = []))) ∧
    (∃ (s : State) (pid : Pid) (j : ResetJob), (s.mod.resets.find? fun x => x.target == .partition pid && !x.stopped) = some j ∧ ((∀ k ∈ j.trays, (s.tray k).ctl.st = .resetting → (s.tray k).proof.guestQ = []))) :=
  ⟨⟨wA2 (wIn 5 fun m => { m with mode := 1, st := 1 }), .admin 0, 0x80000006, (by decide +kernel), (by decide +kernel), (by decide +kernel), (by decide +kernel), (by decide +kernel), (by decide +kernel)⟩,
    ⟨wA2 (wIn 5 fun m => { m with mode := 1, st := 3, code := 4 }), .admin 0, 0x80000005, (by decide +kernel), (by decide +kernel), (by decide +kernel), (by decide +kernel), (by decide +kernel), (by decide +kernel), (by decide +kernel)⟩,
    ⟨wA2 wResetting, .admin 0, 0x8000B007, (by decide +kernel), (by decide +kernel), (by decide +kernel), (by decide +kernel), (by decide +kernel)⟩,
    ⟨wA2 wResetting, by decide +kernel⟩,
    ⟨{ wT w0 0 .starting with mod := { w0.mod with tries := [(8 * 0x30000000 + TableNo.code .calibration, 2)] } }, 0x30000000, .calibration, by unfold Repairable; decide +kernel⟩,
    ⟨wResetting, .partition 5, wJob, (by decide +kernel), (by decide +kernel)⟩,
    ⟨wResetting, 5, wJob, (by decide +kernel), (by decide +kernel)⟩⟩

/-- The hypotheses of PtpRowsComplete, clause by clause. -/
theorem meets_PtpRowsComplete :
    (∃ (s : State) (m : PtpMaster) (utc : BitVec 16) (heard : List PtpMaster) (b : PtpMaster), s.ptpOn = true ∧ m.domain.toNat = s.polF 0x200010 23 16 ∧ heard = m :: s.time.heard.filter (fun x => !sameMaster x m) ∧ bestMaster heard = some b) ∧
    (∃ (s : State) (c : BitVec 64) (q : BitVec 16) (rx o : DevTime), s.fromMaster c = true) ∧
    (∃ (s : State) (c : BitVec 64) (q : BitVec 16) (rx o : DevTime), s.fromMaster c = true ∧ s.time.raws.length < 2) ∧
    (∃ (s : State) (c : BitVec 64) (q : BitVec 16) (rx o : DevTime), s.fromMaster c = true ∧ 2 ≤ s.time.raws.length ∧ s.time.set = true ∧ s.time.forceArm = false) ∧
    (∃ (s : State) (c : BitVec 64) (q : BitVec 16) (rx o : DevTime), s.fromMaster c = true ∧ 2 ≤ s.time.raws.length ∧ s.time.set = true ∧ s.time.forceArm = false) ∧
    (∃ (s : State) (c : BitVec 64) (q : BitVec 16) (rx o : DevTime), s.fromMaster c = true ∧ s.time.sync = some (q, rx)) :=
  ⟨⟨wPtp, { wMast with clock := 9 }, 37, [{ wMast with clock := 9 }, wMast], { wMast with clock := 9 }, (by decide +kernel), (by decide +kernel), (by decide +kernel), (by decide +kernel)⟩,
    ⟨wPtp, 0x1122334455667788, 5, ⟨1, 100⟩, ⟨1, 50⟩, by decide +kernel⟩,
    ⟨wPtp fun t => { t with raws := [5] }, 0x1122334455667788, 5, ⟨1, 100⟩, ⟨1, 50⟩, (by decide +kernel), (by decide +kernel)⟩,
    ⟨wPtp fun t => { t with raws := [5, 6], set := true }, 0x1122334455667788, 5, ⟨1, 100⟩, ⟨1, 50⟩, (by decide +kernel), (by decide +kernel), (by decide +kernel), (by decide +kernel)⟩,
    ⟨wPtp fun t => { t with raws := [5, 6, 7, 8, 9], set := true, st := 2 }, 0x1122334455667788, 5, ⟨1, 100⟩, ⟨9, 50⟩, (by decide +kernel), (by decide +kernel), (by decide +kernel), (by decide +kernel)⟩,
    ⟨wPtp fun t => { t with sync := some (5, ⟨1, 100⟩) }, 0x1122334455667788, 5, ⟨1, 100⟩, ⟨9, 50⟩, (by decide +kernel), (by decide +kernel)⟩⟩

/-- The hypotheses of PtpRowsComplete, clause by clause. -/
theorem meets_PtpRowsComplete_2 :
    (∃ (s : State) (c : BitVec 64) (q : BitVec 16) (t4 rx o : DevTime) (e : Bool × BitVec 16 × DevTime), s.fromMaster c = true ∧ (s.time.txq.find? fun e => !e.1 && e.2.1 == q) = some e ∧ s.time.lastSync = some (rx, o)) ∧
    (∃ (s : State), s.ptpOn = true ∧ s.time.master.isSome = true) ∧
    (∃ (s : State), ((s.time.st = 1 ∨ s.time.st = 2))) :=
  ⟨⟨wPtp fun t => { t with txq := [(true, 5, ⟨1, 60⟩), (false, 5, ⟨1, 70⟩)], lastSync := some (⟨1, 50⟩, ⟨1, 40⟩) }, 0x1122334455667788, 5, ⟨1, 100⟩, ⟨1, 50⟩, ⟨1, 40⟩, (false, 5, ⟨1, 70⟩), (by decide +kernel), (by decide +kernel), (by decide +kernel)⟩,
    ⟨wPtp, (by decide +kernel), (by decide +kernel)⟩,
    ⟨wPtp fun t => { t with st := 2 }, by decide +kernel⟩⟩

/-- The hypotheses of TriggerRowsComplete, clause by clause. -/
theorem meets_TriggerRowsComplete :
    (∃ (s : State) (p : Path), s.priv p = true) ∧
    (∃ (s : State) (p : Path), s.priv p = true ∧ s.swPending = true) ∧
    (∃ (s : State) (p : Path), s.priv p = true ∧ s.swPending = false) ∧
    (∃ (s : State), s.swPending = false) ∧
    (∃ (s : State) (p : Path) (n : BitVec 3), s.priv p = true ∧ s.steerHolds n.toNat = false) ∧
    (∃ (s : State) (p : Path) (n : BitVec 3), s.priv p = true ∧ s.steerHolds n.toNat = false) :=
  ⟨⟨wPtp, .image, by decide +kernel⟩,
    ⟨wSw 1 wSwitch, .image, (by decide +kernel), (by decide +kernel)⟩,
    ⟨wPtp fun t => { t with setNs := 5, setS := 7, refused := true }, .image, (by decide +kernel), (by decide +kernel)⟩,
    ⟨wPtp fun t => { t with setNs := 5, setS := 7, heldSet := true, heldForce := true }, by decide +kernel⟩,
    ⟨wTt 3 fun t => { t with fires := 7, st := 2 }, .image, 3, (by decide +kernel), (by decide +kernel)⟩,
    ⟨wTt 3 fun t => { t with fires := 7, st := 4 }, .image, 3, (by decide +kernel), (by decide +kernel)⟩⟩

/-- The hypotheses of TriggerRowsComplete, clause by clause. -/
theorem meets_TriggerRowsComplete_2 :
    (∃ (s : State) (n : BitVec 3) (e : BitVec 4 × Instr), e ∈ [(2, Instr.triggerStrip n), (3, .triggerSnapshot n), (4, .triggerMarker n), (0, .triggerActionNone n)] ∧ (s.trigger n.toNat).st = 1 ∧ (s.trigger n.toNat).steer = false ∧ (s.trigger n.toNat).action = e.1) ∧
    (∃ (s : State) (n : BitVec 3), (s.trigger n.toNat).st = 1 ∧ (s.trigger n.toNat).steer = false ∧ (s.trigger n.toNat).action = 2) ∧
    (∃ (s : State) (n : BitVec 3), (s.trigger n.toNat).st = 1 ∧ (s.trigger n.toNat).steer = false ∧ (s.trigger n.toNat).action = 4) ∧
    (∃ (s : State) (h : SlHead) (m : Marker), Accepts s h 0x20 (markerBytes m)) :=
  ⟨⟨wTt 3 fun t => { t with action := 4, dst := 7 }, 3, (4, .triggerMarker 3), (by decide +kernel), (by decide +kernel), (by decide +kernel), (by decide +kernel)⟩,
    ⟨(wTt 3 fun t => { t with action := 2 }).modTray 5 (fun x => { x with ctl := { x.ctl with st := .ready } }), 3, (by decide +kernel), (by decide +kernel), (by decide +kernel)⟩,
    ⟨wTt 3 fun t => { t with action := 4, dst := 7 }, 3, (by decide +kernel), (by decide +kernel), (by decide +kernel)⟩,
    ⟨wGov, wSl 9 0x20 (markerBytes ⟨5, 3, ⟨1, 2⟩⟩), ⟨5, 3, ⟨1, 2⟩⟩, by unfold Accepts; decide +kernel⟩⟩

/-- The hypotheses of ImageRowsComplete, clause by clause. -/
theorem meets_ImageRowsComplete :
    (∃ (s : State) (p : Path) (config : Bool), UpdateFree s p ∧ (s.fw.slot (s.dlSlot config)).st ≠ 3 ∧ s.rollTarget config = false) ∧
    (∃ (s : State) (p : Path) (config : Bool), s.priv p = true ∧ s.fw.op = .idle ∧ (s.fw.slot (s.dlSlot config)).st ≠ 3 ∧ s.rollTarget config = false) ∧
    (∃ (s : State) (p : Path) (config : Bool), s.priv p = true ∧ s.fw.op ≠ .idle ∧ (s.fw.slot (s.dlSlot config)).st ≠ 3) ∧
    (∃ (s : State) (n : BitVec 2) (ok : Bool), (((s.fw.slot n).st = 2 ∨ (s.fw.slot n).st = 3))) ∧
    (∃ (s : State) (p : Path), UpdateFree s p ∧ s.newImage.st = 4 ∧ s.fw.sel.trial = false ∧ s.newImage.hitless = true ∧ s.newImage.stateFrom.toNat ≤ s.fw.runVersion.toNat) ∧
    (∃ (s : State) (p : Path), UpdateFree s p ∧ s.newImage.st = 4 ∧ s.fw.sel.trial = false ∧ s.newImage.hitless = true ∧ s.newImage.stateFrom.toNat ≤ s.fw.runVersion.toNat) :=
  ⟨⟨wFw, .image, false, (by unfold UpdateFree; decide +kernel), (by decide +kernel), (by decide +kernel)⟩,
    ⟨wFw, .image, false, (by decide +kernel), (by decide +kernel), (by decide +kernel), (by decide +kernel)⟩,
    ⟨wFw fun f => { f with op := .hitless }, .image, false, (by decide +kernel), (by decide +kernel), (by decide +kernel)⟩,
    ⟨wFw fun f => { f with op := .verify 1, fb := { st := 3 } }, 1, true, by decide +kernel⟩,
    ⟨wFw, .image, (by unfold UpdateFree; decide +kernel), (by decide +kernel), (by decide +kernel), (by decide +kernel), (by decide +kernel)⟩,
    ⟨{ wFw with gov := { wFw.gov with roleA := 1, roleB := 0 } }, .image, (by unfold UpdateFree; decide +kernel), (by decide +kernel), (by decide +kernel), (by decide +kernel), (by decide +kernel)⟩⟩

/-- The hypotheses of ImageRowsComplete, clause by clause. -/
theorem meets_ImageRowsComplete_2 :
    (∃ (s : State), s.fw.op = .hitless ∧ s.updFault = 0 ∧ s.fw.hstep = 3 ∧ ((s.gov.roleA = 3 ∨ s.gov.roleB = 3))) ∧
    (∃ (s : State), s.fw.op = .hitless ∧ s.updFault = 0 ∧ s.fw.hstep = 5 ∧ ((s.gov.roleA = 3 ∨ s.gov.roleB = 3))) ∧
    (∃ (s : State), s.fw.op = .hitless ∧ s.fw.hstep = 8) ∧
    (∃ (s : State) (p : Path), UpdateFree s p ∧ ((s.newImage.st = 4 ∨ s.newImage.st = 5)) ∧ s.fw.sel.trial = false) ∧
    (∃ (s : State) (p : Path), UpdateFree s p ∧ (s.fw.slot s.otherCfg).st = 4) :=
  ⟨⟨wHit 3 3 0, (by decide +kernel), (by decide +kernel), (by decide +kernel), (by decide +kernel)⟩,
    ⟨wHit 5 3 0, (by decide +kernel), (by decide +kernel), (by decide +kernel), (by decide +kernel)⟩,
    ⟨wHit 8 0 1, (by decide +kernel), (by decide +kernel)⟩,
    ⟨wFw, .image, (by unfold UpdateFree; decide +kernel), (by decide +kernel), (by decide +kernel)⟩,
    ⟨wFw fun f => { f with cb := { st := 4 } }, .image, (by unfold UpdateFree; decide +kernel), (by decide +kernel)⟩⟩

/-- The hypotheses of SettingsAndAttestationRowsComplete, clause by clause. -/
theorem meets_SettingsAndAttestationRowsComplete :
    (∃ (s : State) (p : Path), s.priv p = true ∧ s.fw.op = .idle ∧ s.fw.sel.trial = true) ∧
    (∃ (s : State) (p : Path), s.priv p = true ∧ s.fw.op = .idle ∧ s.fw.sel.trial = true) ∧
    (∃ (s : State) (p : Path), s.priv p = true ∧ s.fw.op = .idle ∧ s.saveLocked = false) ∧
    (∃ (s : State) (p : Path) (b : Bank), s.priv p = true ∧ s.fw.foreign = true ∧ s.fw.foreignBank = some b) ∧
    (∃ (s : State) (p : Path) (b : Bank), s.priv p = true ∧ s.fw.foreign = true ∧ s.fw.foreignBank = some b ∧ (s.fw.slot s.fw.activeFw).schemaConvMin.toNat ≤ b.schema.toNat ∧ b.schema.toNat ≤ s.fw.schema.toNat ∧ (s.fw.slot s.fw.activeFw).h4 = false) ∧
    (∃ (s : State) (p : Path) (v : Word), s.priv p = true) ∧
    (∃ (s : State) (p : Path), s.priv p = true) ∧
    (∃ (s : State), s.fw.reporting = true) :=
  ⟨⟨wTrial, .image, (by decide +kernel), (by decide +kernel), (by decide +kernel)⟩,
    ⟨wTrial, .image, (by decide +kernel), (by decide +kernel), (by decide +kernel)⟩,
    ⟨wFw, .image, (by decide +kernel), (by decide +kernel), (by decide +kernel)⟩,
    ⟨wFw fun f => { f with foreign := true, bankA := wBank }, .image, wBank, (by decide +kernel), (by decide +kernel), (by decide +kernel)⟩,
    ⟨wFw fun f => { f with foreign := true, bankA := wBank, fa := { st := 4, schemaWrite := 3, schemaConvMin := 1 } }, .image, wBank, (by decide +kernel), (by decide +kernel), (by decide +kernel), (by decide +kernel), (by decide +kernel), (by decide +kernel)⟩,
    ⟨wFw fun f => { f with minSvn := 5 }, .image, 0x80000007, by decide +kernel⟩,
    ⟨wFw, .image, by decide +kernel⟩,
    ⟨wFw fun f => { f with reporting := true }, by decide +kernel⟩⟩

/-- The hypotheses of ManagementSessionsComplete, clause by clause. -/
theorem meets_ManagementSessionsComplete :
    (∃ (s : State) (h : HmpHead) (n : Nat), s.mpUp = true ∧ (∀ e ∈ s.mgmt.sess, e.2.ip ≠ h.ip) ∧ s.mgmt.lockouts.contains h.ip = false ∧ s.freeSess = some n) ∧
    (∃ (s : State) (h : HmpHead), s.mpUp = true ∧ (∀ e ∈ s.mgmt.sess, e.2.ip ≠ h.ip)) ∧
    (∃ (s : State) (h : HmpHead) (n : Nat) (x : Sess) (i : BitVec 8) (sig : BitVec 768), Serves s h n x ∧ x.verifying = none ∧ (SMap.find s.fw.keys i.toNat).isSome = true) ∧
    (∃ (s : State) (n : BitVec 2) (x : Sess) (q : Word) (i : BitVec 8) (sig : BitVec 768), s.sess? n.toNat = some x ∧ x.verifying = some (q, i, sig) ∧ s.sessGood x i sig = true) ∧
    (∃ (s : State) (n : BitVec 2) (x : Sess) (q : Word) (i : BitVec 8) (sig : BitVec 768), s.sess? n.toNat = some x ∧ x.verifying = some (q, i, sig) ∧ s.sessGood x i sig = false) ∧
    (∃ (s : State) (h : HmpHead) (n : Nat) (x : Sess), Serves s h n x) ∧
    (∃ (s : State) (h : HmpHead) (n : Nat) (x : Sess) (off : Word), Serves s h n x) :=
  ⟨⟨wMg, { wHh with ip := 6 }, 0, (by decide +kernel), (by decide +kernel), (by decide +kernel), (by decide +kernel)⟩,
    ⟨wMg wSess fun m => { m with sess := [(0, wSess), (1, wSess), (2, wSess), (3, wSess)] }, { wHh with ip := 6 }, (by decide +kernel), (by decide +kernel)⟩,
    ⟨wMg { wSess with auth := false }, wHh, 2, { wSess with auth := false }, 3, 0x5555, (by constructor <;> decide +kernel), (by decide +kernel), (by decide +kernel)⟩,
    ⟨wMg { wSess with auth := false, verifying := some (7, 3, wSigSess) }, 2, { wSess with auth := false, verifying := some (7, 3, wSigSess) }, 7, 3, wSigSess, (by decide +kernel), (by decide +kernel), (by decide +kernel)⟩,
    ⟨wMg { wSess with auth := false, refusals := 1, verifying := some (7, 3, 5) }, 2, { wSess with auth := false, refusals := 1, verifying := some (7, 3, 5) }, 7, 3, 5, (by decide +kernel), (by decide +kernel), (by decide +kernel)⟩,
    ⟨wMg, wHh, 2, wSess, by constructor <;> decide +kernel⟩,
    ⟨{ wMg with fuse := { State.reset.fuse with cert := List.replicate 1500 7 } }, wHh, 2, wSess, 1000, by constructor <;> decide +kernel⟩⟩

/-- The hypotheses of ManagementRequestsComplete, clause by clause. -/
theorem meets_ManagementRequestsComplete :
    (∃ (s : State) (h : HmpHead) (n : Nat) (x : Sess) (a : CsrAddr) (k : BitVec 8), Serves s h n x ∧ x.auth = true ∧ 1 ≤ k.toNat ∧ k.toNat ≤ 64 ∧ a.toNat % 4 = 0) ∧
    (∃ (s : State) (h : HmpHead) (n : Nat) (x : Sess) (a : CsrAddr) (k : BitVec 8), Serves s h n x ∧ x.auth = true ∧ 1 ≤ k.toNat ∧ k.toNat ≤ 64 ∧ a.toNat % 4 = 0) ∧
    (∃ (s : State) (h : HmpHead) (n : Nat) (x : Sess) (a : Nat) (v : Word), Serves s h n x ∧ x.auth = true ∧ n < 4 ∧ a ∈ storedRegs) ∧
    (∃ (s : State) (h : HmpHead) (n : Nat) (x : Sess) (a : Nat) (v : Word), Serves s h n x ∧ x.auth = true ∧ n < 4 ∧ a ∈ storedRegs) ∧
    (∃ (s : State) (h : HmpHead) (n : Nat) (x : Sess) (k : BitVec 8) (size : Word), Serves s h n x ∧ ((x.auth = true ∨ s.unowned = true ∧ k = 5)) ∧ s.xferFault x k size = 0) ∧
    (∃ (s : State) (h : HmpHead) (n : Nat) (x : Sess) (y : HXfer) (off : Word) (data : List Byte), Serves s h n x ∧ ((x.auth = true ∨ s.unowned = true ∧ y.kind = 5)) ∧ x.xfer = some y ∧ off.toNat = y.next ∧ off.toNat + data.length ≤ y.size ∧ data.length ≤ 1024) :=
  ⟨⟨wMg, wHh, 2, wSess, 0, 64, (by constructor <;> decide +kernel), (by decide +kernel), (by decide +kernel), (by decide +kernel), (by decide +kernel)⟩,
    ⟨wMg, wHh, 2, wSess, 0x1001310, 1, (by constructor <;> decide +kernel), (by decide +kernel), (by decide +kernel), (by decide +kernel), (by decide +kernel)⟩,
    ⟨wMg, wHh, 2, wSess, 0x2c, 0xFFFFFFFF, (by constructor <;> decide +kernel), (by decide +kernel), (by decide +kernel), (by decide +kernel)⟩,
    ⟨wMg, wHh, 2, wSess, 0x301000, 0xFFFFFFFF, (by constructor <;> decide +kernel), (by decide +kernel), (by decide +kernel), (by decide +kernel)⟩,
    ⟨wMg, wHh, 2, wSess, 3, 0x2000000, (by constructor <;> decide +kernel), (by decide +kernel), (by decide +kernel)⟩,
    ⟨wMg { wSess with xfer := some ⟨3, 100, 4, []⟩ }, wHh, 2, { wSess with xfer := some ⟨3, 100, 4, []⟩ }, ⟨3, 100, 4, []⟩, 4, [1, 2, 3], (by constructor <;> decide +kernel), (by decide +kernel), (by decide +kernel), (by decide +kernel), (by decide +kernel), (by decide +kernel)⟩⟩

/-- The hypotheses of ManagementRequestsComplete, clause by clause. -/
theorem meets_ManagementRequestsComplete_2 :
    (∃ (s : State) (h : HmpHead) (n : Nat) (x : Sess) (y : HXfer) (off : Word) (data : List Byte), Serves s h n x ∧ ((x.auth = true ∨ s.unowned = true ∧ y.kind = 5)) ∧ x.xfer = some y ∧ off.toNat = y.next ∧ off.toNat + data.length ≤ y.size ∧ data.length ≤ 1024) ∧
    (∃ (s : State) (h : HmpHead) (n : Nat) (x : Sess) (y : HXfer), Serves s h n x ∧ ((x.auth = true ∨ s.unowned = true ∧ y.kind = 5)) ∧ x.xfer = some y) ∧
    (∃ (s : State) (h : HmpHead) (n : Nat) (x : Sess) (i : BitVec 2) (key sig : BitVec 768), Serves s h n x ∧ ((x.auth = true ∨ s.unowned = true)) ∧ x.kind = some 5 ∧ (if s.unowned = true then i = 0 else s.keySigned i (keyBytes key) sig = true)) ∧
    (∃ (s : State) (h : HmpHead) (n : Nat) (x : Sess) (i : BitVec 2) (sig : BitVec 768), Serves s h n x ∧ x.auth = true ∧ x.kind = some 5 ∧ s.keySigned i (leBytes 48 0) sig = true ∧ (SMap.find s.fw.keys i.toNat).isSome = true ∧ 1 < s.fw.keys.length) :=
  ⟨⟨wMg { wSess with xfer := some ⟨4, 100, 4, [1, 1, 1, 1]⟩ }, wHh, 2, { wSess with xfer := some ⟨4, 100, 4, [1, 1, 1, 1]⟩ }, ⟨4, 100, 4, [1, 1, 1, 1]⟩, 4, [1, 2, 3], (by constructor <;> decide +kernel), (by decide +kernel), (by decide +kernel), (by decide +kernel), (by decide +kernel), (by decide +kernel)⟩,
    ⟨wMg { wSess with xfer := some ⟨3, 100, 4, []⟩ }, wHh, 2, { wSess with xfer := some ⟨3, 100, 4, []⟩ }, ⟨3, 100, 4, []⟩, (by constructor <;> decide +kernel), (by decide +kernel), (by decide +kernel)⟩,
    ⟨wMg { wSess with xfer := some ⟨5, 100, 4, []⟩ }, wHh, 2, { wSess with xfer := some ⟨5, 100, 4, []⟩ }, 2, 5, wSigIns, (by constructor <;> decide +kernel), (by decide +kernel), (by decide +kernel), (by decide +kernel)⟩,
    ⟨wMg { wSess with xfer := some ⟨5, 100, 4, []⟩ }, wHh, 2, { wSess with xfer := some ⟨5, 100, 4, []⟩ }, 3, wSigRem, (by constructor <;> decide +kernel), (by decide +kernel), (by decide +kernel), (by decide +kernel), (by decide +kernel), (by decide +kernel)⟩⟩

/-- The hypotheses of NoticeRowsComplete, clause by clause. -/
theorem meets_NoticeRowsComplete :
    (∃ (s : State) (epoch : BitVec 16) (seq : Word), s.mpUp = true) ∧
    (∃ (s : State) (node epoch : BitVec 16) (seq : Word), s.mpUp = true ∧ node ≠ s.node) ∧
    (∃ (s : State) (h : SlHead) (b : List Byte), s.hears h b = true ∧ h.src ≠ s.node ∧ s.mgmt.link = true) ∧
    (∃ (s : State) (h : SlHead) (node epoch : BitVec 16) (seq : Word), Accepts s h 0x30 (ackBytes node epoch seq)) ∧
    (∃ (s : State) (seq : Word) (n : Notice), s.mod.on = true ∧ (s.mgmt.notices.find? fun n => n.seq == seq) = some n ∧ s.noticesWait = false) ∧
    (∃ (s : State) (up : Bool), s.mod.on = true ∧ s.mgmt.link ≠ up) :=
  ⟨⟨wMg wSess fun m => { m with notices := [wNote 1, { wNote 2 with seq := 9 }] }, 4, 4, by decide +kernel⟩,
    ⟨wMg, 7, 4, 4, (by decide +kernel), (by decide +kernel)⟩,
    ⟨wMg, wSl 9 0x30 [1, 2, 3], [1, 2, 3], (by decide +kernel), (by decide +kernel), (by decide +kernel)⟩,
    ⟨wMg wSess fun m => { m with notices := [wNote 1, { wNote 2 with seq := 9 }] }, wSl 9 0x30 (ackBytes 3 4 4), 3, 4, 4, by unfold Accepts; decide +kernel⟩,
    ⟨wMg wSess fun m => { m with notices := [wNote 1, { wNote 2 with seq := 9 }] }, 4, wNote 1, (by decide +kernel), (by decide +kernel), (by decide +kernel)⟩,
    ⟨wMg, false, (by decide +kernel), (by decide +kernel)⟩⟩

/-- The hypotheses of NoticeRowsComplete, clause by clause. -/
theorem meets_NoticeRowsComplete_2 :
    (∃ (s : State), s.mod.on = true ∧ ((s.mgmt.link = false ∨ s.stations = []))) ∧
    (∃ (s : State), s.polF 0xB00004 31 16 ≠ 0 ∧ s.mpUp = true) ∧
    (∃ (s : State), (s.cs.taken.map fun e => e.1).Nodup) ∧
    (∃ (s : State) (p : Path), s.priv p = true ∧ s.cs.writing = none ∧ ((s.cs.lastPersist = none ∨ ∃ u, s.cs.lastPersist = some u ∧ 10000000000 ≤ s.up - u))) ∧
    (∃ (s : State) (p : Path), s.priv p = true ∧ s.cs.writing = none ∧ ((s.cs.lastPersist = none ∨ ∃ u, s.cs.lastPersist = some u ∧ 10000000000 ≤ s.up - u))) ∧
    (∃ (s : State) (to1 : Bool) (l : List CsRec), s.cs.writing = some (to1, l)) ∧
    (∃ (s : State) (p : Path) (upto : Word), s.carries p = true) :=
  ⟨⟨wMg wSess fun m => { m with link := false }, (by decide +kernel), (by decide +kernel)⟩,
    ⟨wMg.setPol 0xB00004 0x000A0000, (by decide +kernel), (by decide +kernel)⟩,
    ⟨{ wMg with cs := { wMg.cs with taken := [(5, 9), (7, 3), (9, 1)] } }, by decide +kernel⟩,
    ⟨wCs, .image, (by decide +kernel), (by decide +kernel), (by decide +kernel)⟩,
    ⟨{ wCs with cs := { wCs.cs with lastPersist := some 5 }, time := { wCs.time with up := 10000000005 } }, .image, (by decide +kernel), (by decide +kernel), (by decide +kernel)⟩,
    ⟨{ wCs with cs := { wCs.cs with writing := some (true, [{ code := 0x0101, index := 0, t := ⟨0, 1⟩ }]) } }, true, [{ code := 0x0101, index := 0, t := ⟨0, 1⟩ }], by decide +kernel⟩,
    ⟨wCs, .image, 1, by decide +kernel⟩⟩

/-- The hypotheses of InputPowerRowsComplete, clause by clause. -/
theorem meets_InputPowerRowsComplete :
    (∃ (s : State), s.mod.lostA = false) ∧
    (∃ (s : State), s.mod.lostB = false) ∧
    (∃ (s : State) (v : BitVec 12), 400 < v.toNat) ∧
    (∃ (s : State) (v : BitVec 12), 400 < v.toNat) ∧
    (∃ (s : State), s.noInput = true ∧ s.mod.on = true ∧ s.mod.powerFail = false) ∧
    (∃ (s : State), s.mod.powerFail = true) :=
  ⟨⟨wOffS false true, by decide +kernel⟩,
    ⟨wOffS true false, by decide +kernel⟩,
    ⟨wOffS true true, 401, by decide +kernel⟩,
    ⟨wOffS false false, 4095, by decide +kernel⟩,
    ⟨wOffS true true, (by decide +kernel), (by decide +kernel), (by decide +kernel)⟩,
    ⟨wOffS true true fun m => { m with powerFail := true }, by decide +kernel⟩⟩

/-- The hypotheses of InputPowerRowsComplete, clause by clause. -/
theorem meets_InputPowerRowsComplete_2 :
    (∃ (s : State), s.mod.on = true ∧ s.mod.st = 2 ∧ s.mod.holdup.toNat < 90) ∧
    (∃ (s : State), s.mod.on = true) ∧
    (∃ (s : State), s.mod.on = true ∧ s.mod.tripped = false) :=
  ⟨⟨wOffS false false fun m => { m with st := 2, holdup := 89 }, (by decide +kernel), (by decide +kernel), (by decide +kernel)⟩,
    ⟨wMg, by decide +kernel⟩,
    ⟨wMg, (by decide +kernel), (by decide +kernel)⟩⟩

/-- The hypotheses of TriggerRowsComplete's clause on triggers that fire, for each of its actions. -/
theorem meets_TriggerRowsComplete_fires : ∀ a ∈ ([2, 3, 4, 0] : List (BitVec 4)), ∃ (s : State) (n : BitVec 3),
    (s.trigger n.toNat).st = 1 ∧ (s.trigger n.toNat).steer = false ∧ (s.trigger n.toNat).action = a :=
  fun a _ => ⟨wTt 3 fun t => { t with action := a }, 3, rfl, rfl, rfl⟩

/-- The hypotheses of EmptyQueueLetsTimePass. -/
theorem meets_EmptyQueueLetsTimePass : ∃ s : State, s.pending = [] ∧ s.mod.on = true := ⟨w0, rfl, rfl⟩

/-- The hypotheses of StepTakesExactlyOneCommand, with a command in front. -/
theorem meets_StepTakesExactlyOneCommand : ∃ s t : State, s.pending ≠ [] ∧ step s = .next t :=
  ⟨{ w0 with pending := [.unitSelWrite .image 5] }, _, by decide, rfl⟩

/-- A tray and a memory as reset leaves them are sound, so the state after reset with a command in front is. -/
theorem meets_StepKeepsMemoriesAndBeats : ∃ s t : State, s.pending ≠ [] ∧ Sound s ∧ step s = .next t :=
  ⟨{ State.reset with pending := [.quiesceEnd] }, _, by decide, ⟨by simp [State.reset], by simp [State.reset], by simp [State.reset], rfl⟩, rfl⟩

/-- The hypothesis of CommandsTouchOnlyTheirParts, with a command that changes the state. -/
theorem meets_CommandsTouchOnlyTheirParts : ∃ (c : Instr) (s t : State), exec c s = .next t ∧ t ≠ s :=
  ⟨.unitSelWrite .image 5, w0, _, rfl, by decide +kernel⟩

/-- The hypotheses of UncarriedAccessChangesNothing, in both of its cases. -/
theorem meets_UncarriedAccessChangesNothing :
    (∃ (c : Instr) (s : State) (p : Path), accessPath c = some p ∧ s.carries p = false) ∧
    ∃ (c : Instr) (p : Path), accessPath c = some p ∧ isPrivileged c = true ∧ privileged p = false :=
  ⟨⟨.ucbOwnerWrite (.hmp 0) 3, w0, .hmp 0, rfl, by decide +kernel⟩, ⟨.ucbOwnerWrite (.page 1) 3, .page 1, rfl, rfl, rfl⟩⟩

/-- The hypothesis of OwnerWritesTakeEffectWhereAllowed, with a tray whose owner changes and one whose owner stays. -/
theorem meets_OwnerWritesTakeEffectWhereAllowed :
    (∃ (s : State) (p : Path) (u : URef) (k : Nat), SelectsOne s p u ∧ k ∈ s.traysUnder u ∧ OwnerFree s k) ∧
    ∃ (s : State) (p : Path) (u : URef) (k : Nat), SelectsOne s p u ∧ k ∈ s.traysUnder u ∧ ¬OwnerFree s k :=
  ⟨⟨wS w0 0x30000000, .image, .tray 0, 0, by unfold SelectsOne; decide +kernel, by decide +kernel, by unfold OwnerFree; decide +kernel⟩,
    ⟨wS (wT w0 0 .ready) 0x30000000, .image, .tray 0, 0, by unfold SelectsOne; decide +kernel, by decide +kernel,
      by unfold OwnerFree; decide +kernel⟩⟩

/-- The hypotheses of OwnerChangeClearsTallies. -/
theorem meets_OwnerChangeClearsTallies : ∃ (s : State) (p : Path) (u : URef) (pid : Pid) (k : Nat),
    SelectsOne s p u ∧ k ∈ s.traysUnder u ∧ OwnerFree s k ∧ (s.tray k).owner ≠ pid :=
  ⟨wS w0 0x30000000, .image, .tray 0, 9, 0, by unfold SelectsOne; decide +kernel, by decide +kernel,
    by unfold OwnerFree; decide +kernel, by decide +kernel⟩

/-- The hypotheses of BypassJoinsPairedPorts. -/
theorem meets_BypassJoinsPairedPorts : ∃ (s : State) (p : Path), s.priv p = true ∧ s.steer.failed = [] :=
  ⟨w0, .image, by decide +kernel, rfl⟩

/-- The hypothesis of SelectionsBelongToTheirPath, for a write that changes its path. -/
theorem meets_SelectionsBelongToTheirPath : ∃ (s t : State) (p : Path) (v : Word),
    (exec (.unitSelWrite p v) s = .next t ∨ exec (.unitSelModeWrite p v) s = .next t) ∧ t.path p ≠ s.path p :=
  ⟨w0, _, .image, 5, .inl rfl, by decide +kernel⟩

/-- The hypotheses of StoredRegistersChangeAlone. -/
theorem meets_StoredRegistersChangeAlone : ∃ (s t : State) (p : Path) (a : Nat) (v : Word), privileged p = true ∧ a ∈ storedRegs ∧
    exec (.regWrite p (BitVec.ofNat 26 a) v) s = .next t ∧ t.pol a ≠ s.pol a :=
  ⟨w0, _, .image, 0x2C, 0x12345, rfl, by decide +kernel, rfl, by decide +kernel⟩

/-- The hypotheses of ComputingWritesOnlyItsDestination, for a REDUCE on core 0. -/
theorem meets_ComputingWritesOnlyItsDestination : ∃ (s r : State) (c : UnitAddr) (n : SlotNo) (k : Nat) (t : Thread) (d : BitVec 512),
    s.coreAt c = some k ∧ s.thread? k n.toNat = some t ∧ t.cur = some d ∧
      ∃ i ∈ computeRows c n, exec i s = .next r :=
  ⟨wRow (wD [(0, 0x34)]), _, 0x50000000, 0, 0, wTh (wD [(0, 0x34)]), wD [(0, 0x34)], by decide +kernel, by decide +kernel, rfl,
    .reduce 0x50000000 0, by decide +kernel, rfl⟩

/-- A descriptor with a reserved byte set: the hypotheses of RejectedDescriptorsMoveNothing, for each of its opcodes. -/
def wBad (o : Nat) : BitVec 512 := wD [(0, o), (0x3F, 1)]

theorem meets_RejectedDescriptorsMoveNothing :
    ∀ e ∈ ([(0x10, copyChecks), (0x11, fillChecks), (0x23, accReadChecks), (0x24, accWriteChecks), (0x28, convertBs8Checks),
        (0x29, convertPlaneChecks), (0x33, activateChecks), (0x34, reduceChecks)] : List (Nat × (State → Thread → BitVec 512 → Checks))),
      Ready (wRow (wBad e.1)) 0x50000000 0 0 (wTh (wBad e.1)) (wBad e.1) ∧ opcode (wBad e.1) = e.1 ∧
        firstFailure (e.2 (wRow (wBad e.1)) (wTh (wBad e.1)) (wBad e.1)) = some 0x0104 := by
  intro e he
  simp only [List.mem_cons, List.not_mem_nil, or_false] at he
  rcases he with rfl | rfl | rfl | rfl | rfl | rfl | rfl | rfl <;>
    refine ⟨by constructor <;> decide +kernel, ?_⟩ <;> decide +kernel

end Sys2Proof.Tests
end

section
/-! What every command can change, from the frames of the commands' meanings: the mask that a list of parts spells, and the frame
of `exec` by the parts that `touches` lists. -/

namespace Sys2Proof.Safety
open Sys2Proof.Machine

/-- The mask with the bits of the listed parts. -/
def partsMask (ps : List Part) : Nat := ps.foldr (fun p m => 2 ^ Part.bit p ||| m) 0

@[simp] theorem partsMask_nil : partsMask [] = 0 := rfl

@[simp] theorem partsMask_cons (p : Part) (ps : List Part) : partsMask (p :: ps) = 2 ^ Part.bit p ||| partsMask ps := rfl

/-- The bits number the parts in the order of their declaration. -/
theorem part_ofNat_bit (p : Part) : Part.ofNat (Part.bit p) = p := by cases p <;> rfl

theorem part_bit_inj {p q : Part} : Part.bit p = Part.bit q ↔ p = q :=
  ⟨fun h => by rw [← part_ofNat_bit p, h, part_ofNat_bit q], fun h => by rw [h]⟩

theorem testBit_partsMask (p : Part) (ps : List Part) : (partsMask ps).testBit (Part.bit p) = decide (p ∈ ps) := by
  induction ps with
  | nil => simp
  | cons q ps ih => simp [Nat.testBit_or, Nat.testBit_two_pow, ih, part_bit_inj, eq_comm]

/-- A frame by the mask of some parts is a frame by these parts. -/
theorem frame_of_fr {ps : List Part} {s t : State} (h : Fr (partsMask ps) s t) : Frame ps s t :=
  fun p hp => h.all p (by rw [testBit_partsMask]; exact decide_eq_false hp)

/-- The meaning of every command stays within the parts that `touches` lists for it, and keeps a sound state sound. -/
theorem exec_outFr (c : Instr) (s : State) : OutFr (partsMask (touches c)) s (exec c s) := by
  cases c with dsimp only [touches]
  | regWrite => exact execRegWrite_frame rfl
  | wideLowRead => exact execWideLowRead_frame rfl
  | wideHighRead => exact execWideHighRead_frame rfl
  | wideLowWrite => exact execWideLowWrite_frame rfl
  | wideHighWrite => exact execWideHighWrite_frame rfl
  | unitSelWrite => exact execUnitSelWrite_frame rfl
  | unitSelModeWrite => exact execUnitSelModeWrite_frame rfl
  | wildcardDelivered => exact execWildcardDelivered_frame rfl
  | ucbHold => exact execUcbHold_frame rfl
  | ucbFence => exact execUcbFence_frame rfl
  | ucbReset => exact execUcbReset_frame rfl
  | ucbDrain => exact execUcbDrain_frame rfl
  | ucbEnable => exact execUcbEnable_frame rfl
  | ucbMapWrite => exact execUcbMapWrite_frame rfl
  | mapPersisted => exact execMapPersisted_frame rfl
  | ucbVfWrite => exact execUcbVfWrite_frame rfl
  | ucbOwnerWrite => exact execUcbOwnerWrite_frame rfl
  | ucbTempRead => exact execUcbTempRead_frame rfl
  | selfTestDone => exact execSelfTestDone_frame rfl
  | drainComplete => exact execDrainComplete_frame rfl
  | exposureIssue => exact execExposureIssue_frame rfl
  | proofVerdict => exact execProofVerdict_frame rfl
  | loadStart => exact execLoadStart_frame rfl
  | loadRowWrite => exact execLoadRowWrite_frame rfl
  | swapExecute => exact execSwapExecute_frame rfl
  | swapRefreshDue => exact execSwapRefreshDue_frame rfl
  | inplaceRefreshDue => exact execInplaceRefreshDue_frame rfl
  | backgroundReloadDue => exact execBackgroundReloadDue_frame rfl
  | idleBoundary => exact execIdleBoundary_frame rfl
  | vstepPauseEnd => exact execVstepPauseEnd_frame rfl
  | modeSettleEnd => exact execModeSettleEnd_frame rfl
  | coreIssueCycle => exact execCoreIssueCycle_frame rfl
  | threadDispatch => exact execThreadDispatch_frame rfl
  | windowCleared => exact execWindowCleared_frame rfl
  | tallyApply => exact execTallyApply_frame rfl
  | tallyWaitTimeout => exact execTallyWaitTimeout_frame rfl
  | clockStepApply => exact execClockStepApply_frame rfl
  | queueAdmit => exact execQueueAdmit_frame rfl
  | ctxThreadsWrite => exact execCtxThreadsWrite_frame rfl
  | chainFetchDone => exact execChainFetchDone_frame rfl
  | nop => exact execNop_frame rfl
  | endThread => exact execEndThread_frame rfl
  | jump => exact execJump_frame rfl
  | unknownOpcode => exact execUnknownOpcode_frame rfl
  | threadStart => exact execThreadStart_frame rfl
  | tallyAdd => exact execTallyAdd_frame rfl
  | tallySet => exact execTallySet_frame rfl
  | tallyWait => exact execTallyWait_frame rfl
  | copy => exact execCopy_frame rfl
  | fill => exact execFill_frame rfl
  | fabricPut => exact execFabricPut_frame rfl
  | fabricGet => exact execFabricGet_frame rfl
  | moverDone => exact execMoverDone_frame rfl
  | expose => exact execExpose_frame rfl
  | planeLoad => exact execPlaneLoad_frame rfl
  | planeSwap => exact execPlaneSwap_frame rfl
  | accRead => exact execAccRead_frame rfl
  | accWrite => exact execAccWrite_frame rfl
  | convertBs8 => exact execConvertBs8_frame rfl
  | convertPlane => exact execConvertPlane_frame rfl
  | vec => exact execVec_frame rfl
  | activate => exact execActivate_frame rfl
  | reduce => exact execReduce_frame rfl
  | matmulExact => exact execMatmulExact_frame rfl
  | seqOpen => exact execSeqOpen_frame rfl
  | seqClose => exact execSeqClose_frame rfl
  | seqAppend => exact execSeqAppend_frame rfl
  | seqReserveDone => exact execSeqReserveDone_frame rfl
  | seqEntriesVisible => exact execSeqEntriesVisible_frame rfl
  | seqQuery => exact execSeqQuery_frame rfl
  | publish => exact execPublish_frame rfl
  | putOpen => exact execPutOpen_frame rfl
  | putData => exact execPutData_frame rfl
  | getReq => exact execGetReq_frame rfl
  | getData => exact execGetData_frame rfl
  | msgAccept => exact execMsgAccept_frame rfl
  | msgRefuse => exact execMsgRefuse_frame rfl
  | msgDone => exact execMsgDone_frame rfl
  | pageRead => exact execPageRead_frame rfl
  | pageWrite => exact execPageWrite_frame rfl
  | pageData => exact execPageData_frame rfl
  | msgAbort => exact execMsgAbort_frame rfl
  | transferNoProgress => exact execTransferNoProgress_frame rfl
  | guestExposure => exact execGuestExposure_frame rfl
  | partnerReport => exact execPartnerReport_frame rfl
  | partnerTimeout => exact execPartnerTimeout_frame rfl
  | refereeReport => exact execRefereeReport_frame rfl
  | secondRefereeReport => exact execSecondRefereeReport_frame rfl
  | epochEnd => exact execEpochEnd_frame rfl
  | rateIntervalEnd => exact execRateIntervalEnd_frame rfl
  | scoreDecay => exact execScoreDecay_frame rfl
  | spareRestoreDone => exact execSpareRestoreDone_frame rfl
  | reseed => exact execReseed_frame rfl
  | relearn => exact execRelearn_frame rfl
  | scrubRead => exact execScrubRead_frame rfl
  | dieErase => exact execDieErase_frame rfl
  | retrainStart => exact execRetrainStart_frame rfl
  | retrainEnd => exact execRetrainEnd_frame rfl
  | ctxCreate => exact execCtxCreate_frame rfl
  | ctxDestroy => exact execCtxDestroy_frame rfl
  | ctxFence => exact execCtxFence_frame rfl
  | ctxUnfence => exact execCtxUnfence_frame rfl
  | ctxReset => exact execCtxReset_frame rfl
  | ctxResetDone => exact execCtxResetDone_frame rfl
  | ctxDestroyDone => exact execCtxDestroyDone_frame rfl
  | regionAllocate => exact execRegionAllocate_frame rfl
  | regionAllocateDone => exact execRegionAllocateDone_frame rfl
  | regionRelease => exact execRegionRelease_frame rfl
  | regionReleaseDone => exact execRegionReleaseDone_frame rfl
  | regionQuery => exact execRegionQuery_frame rfl
  | ctxTbgrantWrite => exact execCtxTbgrantWrite_frame rfl
  | lenderLost => exact execLenderLost_frame rfl
  | powerSample => exact execPowerSample_frame rfl
  | powerCapStep => exact execPowerCapStep_frame rfl
  | powerCapWithdraw => exact execPowerCapWithdraw_frame rfl
  | rdmaWrite => exact execRdmaWrite_frame rfl
  | rdmaRead => exact execRdmaRead_frame rfl
  | cnpReceived => exact execCnpReceived_frame rfl
  | dcqcnRateTimer => exact execDcqcnRateTimer_frame rfl
  | dcqcnByteCounter => exact execDcqcnByteCounter_frame rfl
  | pfcFrame => exact execPfcFrame_frame rfl
  | ackTimeout => exact execAckTimeout_frame rfl
  | mirrorAck => exact execMirrorAck_frame rfl
  | mirrorNak => exact execMirrorNak_frame rfl
  | arpRequest => exact execArpRequest_frame rfl
  | neighbourSolicitation => exact execNeighbourSolicitation_frame rfl
  | icmpEcho => exact execIcmpEcho_frame rfl
  | frameDropped => exact execFrameDropped_frame rfl
  | hostLinkChange => exact execHostLinkChange_frame rfl
  | qpConnect => exact execQpConnect_frame rfl
  | qpReset => exact execQpReset_frame rfl
  | authGo => exact execAuthGo_frame rfl
  | authVerifyDone => exact execAuthVerifyDone_frame rfl
  | authLockoutEnd => exact execAuthLockoutEnd_frame rfl
  | ringEnable => exact execRingEnable_frame rfl
  | ringDisable => exact execRingDisable_frame rfl
  | ringScan => exact execRingScan_frame rfl
  | ringIdle => exact execRingIdle_frame rfl
  | ringNop => exact execRingNop_frame rfl
  | ringStart => exact execRingStart_frame rfl
  | ringRelease => exact execRingRelease_frame rfl
  | statusRegionConfig => exact execStatusRegionConfig_frame rfl
  | laserFail => exact execLaserFail_frame rfl
  | combFail => exact execCombFail_frame rfl
  | combSpareLocked => exact execCombSpareLocked_frame rfl
  | refAccepted => exact execRefAccepted_frame rfl
  | refLost => exact execRefLost_frame rfl
  | refLocked => exact execRefLocked_frame rfl
  | carrierRefused => exact execCarrierRefused_frame rfl
  | carrierReadmitted => exact execCarrierReadmitted_frame rfl
  | ringLockTimeout => exact execRingLockTimeout_frame rfl
  | ringLocked => exact execRingLocked_frame rfl
  | tagCheckDue => exact execTagCheckDue_frame rfl
  | tagCheckDone => exact execTagCheckDone_frame rfl
  | sensorSample => exact execSensorSample_frame rfl
  | tempSettled => exact execTempSettled_frame rfl
  | calAgeDue => exact execCalAgeDue_frame rfl
  | stripSlice => exact execStripSlice_frame rfl
  | stripEnd => exact execStripEnd_frame rfl
  | calSetStage => exact execCalSetStage_frame rfl
  | relockAll => exact execRelockAll_frame rfl
  | stripAll => exact execStripAll_frame rfl
  | relock => exact execRelock_frame rfl
  | strip => exact execStrip_frame rfl
  | lightCalWrite => exact execLightCalWrite_frame rfl
  | lkSlewRead => exact execLkSlewRead_frame rfl
  | flitIdle => exact execFlitIdle_frame rfl
  | flitData => exact execFlitData_frame rfl
  | flitNak => exact execFlitNak_frame rfl
  | channelGrow => exact execChannelGrow_frame rfl
  | channelShrink => exact execChannelShrink_frame rfl
  | lineGrant => exact execLineGrant_frame rfl
  | lineWait => exact execLineWait_frame rfl
  | channelLocked => exact execChannelLocked_frame rfl
  | shortCheckDone => exact execShortCheckDone_frame rfl
  | berWindow10ms => exact execBerWindow10ms_frame rfl
  | berWindow1s => exact execBerWindow1s_frame rfl
  | uncorrectableBurst => exact execUncorrectableBurst_frame rfl
  | fecAlignmentLoss => exact execFecAlignmentLoss_frame rfl
  | readyCriterionBits => exact execReadyCriterionBits_frame rfl
  | channelFailedRetry => exact execChannelFailedRetry_frame rfl
  | alsDark => exact execAlsDark_frame rfl
  | alsLineRelease => exact execAlsLineRelease_frame rfl
  | alsProbeTimer => exact execAlsProbeTimer_frame rfl
  | probe => exact execProbe_frame rfl
  | probeEnd => exact execProbeEnd_frame rfl
  | alsRestored => exact execAlsRestored_frame rfl
  | steerSwitchGo => exact execSteerSwitchGo_frame rfl
  | prepare => exact execPrepare_frame rfl
  | slReady => exact execSlReady_frame rfl
  | refuseFrame => exact execRefuseFrame_frame rfl
  | commit => exact execCommit_frame rfl
  | abortFrame => exact execAbortFrame_frame rfl
  | commitAck => exact execCommitAck_frame rfl
  | outcomeFrame => exact execOutcomeFrame_frame rfl
  | prepareResend => exact execPrepareResend_frame rfl
  | readyDeadline => exact execReadyDeadline_frame rfl
  | commitResend => exact execCommitResend_frame rfl
  | quiesceStart => exact execQuiesceStart_frame rfl
  | quiesceEnd => exact execQuiesceEnd_frame rfl
  | switchT => exact execSwitchT_frame rfl
  | elementsLatched => exact execElementsLatched_frame rfl
  | lightVerify => exact execLightVerify_frame rfl
  | trafficResume => exact execTrafficResume_frame rfl
  | commitMissing => exact execCommitMissing_frame rfl
  | elementSettleTimeout => exact execElementSettleTimeout_frame rfl
  | hotSwapLatchRelease => exact execHotSwapLatchRelease_frame rfl
  | hotSwapLatchClose => exact execHotSwapLatchClose_frame rfl
  | bypass => exact execBypass_frame rfl
  | restore => exact execRestore_frame rfl
  | steerAbort => exact execSteerAbort_frame rfl
  | bypassLatched => exact execBypassLatched_frame rfl
  | govCopy => exact execGovCopy_frame rfl
  | govSecondCopyTimeout => exact execGovSecondCopyTimeout_frame rfl
  | govSelfcheckDone => exact execGovSelfcheckDone_frame rfl
  | govSwap => exact execGovSwap_frame rfl
  | govRoleSwapped => exact execGovRoleSwapped_frame rfl
  | resync => exact execResync_frame rfl
  | resyncDone => exact execResyncDone_frame rfl
  | keepA => exact execKeepA_frame rfl
  | keepB => exact execKeepB_frame rfl
  | splitReport => exact execSplitReport_frame rfl
  | discovery => exact execDiscovery_frame rfl
  | slLink => exact execSlLink_frame rfl
  | timeMarker => exact execTimeMarker_frame rfl
  | healthRelay => exact execHealthRelay_frame rfl
  | discoverySend => exact execDiscoverySend_frame rfl
  | discoverySilence => exact execDiscoverySilence_frame rfl
  | planLoad => exact execPlanLoad_frame rfl
  | planLoadDone => exact execPlanLoadDone_frame rfl
  | planErase => exact execPlanErase_frame rfl
  | planMarkRewrite => exact execPlanMarkRewrite_frame rfl
  | planAccept => exact execPlanAccept_frame rfl
  | spareOffer => exact execSpareOffer_frame rfl
  | powerUp => exact execPowerUp_frame rfl
  | stagePower => exact execStagePower_frame rfl
  | stageImage => exact execStageImage_frame rfl
  | stageGovern => exact execStageGovern_frame rfl
  | stageSites => exact execStageSites_frame rfl
  | stageMemory => exact execStageMemory_frame rfl
  | stageLight => exact execStageLight_frame rfl
  | stageTrays => exact execStageTrays_frame rfl
  | stageFabric => exact execStageFabric_frame rfl
  | stageHost => exact execStageHost_frame rfl
  | stageReady => exact execStageReady_frame rfl
  | recordWrite => exact execRecordWrite_frame rfl
  | recordModify => exact execRecordModify_frame rfl
  | recordPoll => exact execRecordPoll_frame rfl
  | recordPollTimeout => exact execRecordPollTimeout_frame rfl
  | recordDelay => exact execRecordDelay_frame rfl
  | recordDelayEnd => exact execRecordDelayEnd_frame rfl
  | modStageGo => exact execModStageGo_frame rfl
  | modReset => exact execModReset_frame rfl
  | s7Timeout => exact execS7Timeout_frame rfl
  | sitePowerOn => exact execSitePowerOn_frame rfl
  | siteReportTimeout => exact execSiteReportTimeout_frame rfl
  | bayLaserStart => exact execBayLaserStart_frame rfl
  | tableCrcReturn => exact execTableCrcReturn_frame rfl
  | tableCrcTimeout => exact execTableCrcTimeout_frame rfl
  | resetStopDone => exact execResetStopDone_frame rfl
  | endpointDrainTimeout => exact execEndpointDrainTimeout_frame rfl
  | ptpAnnounce => exact execPtpAnnounce_frame rfl
  | ptpSync => exact execPtpSync_frame rfl
  | ptpFollowUp => exact execPtpFollowUp_frame rfl
  | ptpDelayResp => exact execPtpDelayResp_frame rfl
  | delayReqSend => exact execDelayReqSend_frame rfl
  | announceTimeout => exact execAnnounceTimeout_frame rfl
  | txStamp => exact execTxStamp_frame rfl
  | forceStep => exact execForceStep_frame rfl
  | timeSet => exact execTimeSet_frame rfl
  | heldStepApply => exact execHeldStepApply_frame rfl
  | ttArm => exact execTtArm_frame rfl
  | ttCancel => exact execTtCancel_frame rfl
  | triggerStrip => exact execTriggerStrip_frame rfl
  | triggerSnapshot => exact execTriggerSnapshot_frame rfl
  | triggerMarker => exact execTriggerMarker_frame rfl
  | fwOpen => exact execFwOpen_frame rfl
  | fwErase => exact execFwErase_frame rfl
  | slotVerifyDone => exact execSlotVerifyDone_frame rfl
  | activateHitless => exact execActivateHitless_frame rfl
  | hitlessGovernorBooted => exact execHitlessGovernorBooted_frame rfl
  | hitlessSiteRestarted => exact execHitlessSiteRestarted_frame rfl
  | activateReset => exact execActivateReset_frame rfl
  | selectConfig => exact execSelectConfig_frame rfl
  | confirm => exact execConfirm_frame rfl
  | rollback => exact execRollback_frame rfl
  | save => exact execSave_frame rfl
  | settingsConvert => exact execSettingsConvert_frame rfl
  | settingsEmpty => exact execSettingsEmpty_frame rfl
  | fwLockWrite => exact execFwLockWrite_frame rfl
  | keyInstall => exact execKeyInstall_frame rfl
  | keyRemove => exact execKeyRemove_frame rfl
  | fwAttest => exact execFwAttest_frame rfl
  | attestReportDone => exact execAttestReportDone_frame rfl
  | hmpOpen => exact execHmpOpen_frame rfl
  | hmpAuth => exact execHmpAuth_frame rfl
  | hmpAuthVerified => exact execHmpAuthVerified_frame rfl
  | hmpClose => exact execHmpClose_frame rfl
  | keepalive => exact execKeepalive_frame rfl
  | csrRead => exact execCsrRead_frame rfl
  | csrWrite => exact execCsrWrite_frame rfl
  | xferOpen => exact execXferOpen_frame rfl
  | xferData => exact execXferData_frame rfl
  | xferClose => exact execXferClose_frame rfl
  | certRead => exact execCertRead_frame rfl
  | noticeAck => exact execNoticeAck_frame rfl
  | sessionTimeout => exact execSessionTimeout_frame rfl
  | hmpLockoutEnd => exact execHmpLockoutEnd_frame rfl
  | noticeResend => exact execNoticeResend_frame rfl
  | mgmtLink => exact execMgmtLink_frame rfl
  | relayStart => exact execRelayStart_frame rfl
  | telemetry => exact execTelemetry_frame rfl
  | bucketRefill => exact execBucketRefill_frame rfl
  | persist => exact execPersist_frame rfl
  | persistDone => exact execPersistDone_frame rfl
  | csClear => exact execCsClear_frame rfl
  | inputLost => exact execInputLost_frame rfl
  | inputRegained => exact execInputRegained_frame rfl
  | powerFailSignal => exact execPowerFailSignal_frame rfl
  | controlOff => exact execControlOff_frame rfl
  | holdupDegraded => exact execHoldupDegraded_frame rfl
  | coolantAlarm => exact execCoolantAlarm_frame rfl
  | thermalWithdraw => exact execThermalWithdraw_frame rfl
  | thermalTrip => exact execThermalTrip_frame rfl
  | safelightDown => exact execSafelightDown_frame rfl
  | safelightUp => exact execSafelightUp_frame rfl
  | govWatchdog => exact execGovWatchdog_frame rfl
  | linkAddressResolved => exact execLinkAddressResolved_frame rfl
  | triggerActionNone => exact execTriggerActionNone_frame rfl

/-- A next state that a command answers differs from the state before only in the parts that `touches` lists for it. -/
theorem exec_frame {c : Instr} {s t : State} (h : exec c s = .next t) : Frame (touches c) s t := frame_of_fr (exec_outFr c s t h)

/-- No command is listed with the queue or with what is fixed at manufacture. -/
theorem queue_fuse_notMem_touches (c : Instr) : Part.pending ∉ touches c ∧ Part.fuse ∉ touches c := by
  fun_cases touches c <;> decide

/-- A command leaves the queue behind it and the fuses as they are. -/
theorem exec_keeps_queue_fuse {c : Instr} {s t : State} (h : exec c s = .next t) : t.pending = s.pending ∧ t.fuse = s.fuse := by
  obtain ⟨hq, hf⟩ := queue_fuse_notMem_touches c
  exact ⟨exec_frame h .pending hq, exec_frame h .fuse hf⟩

/-- The passing of time leaves the queue and the fuses as they are. -/
theorem idle_keeps_queue_fuse (s : State) : (idle s).pending = s.pending ∧ (idle s).fuse = s.fuse := by
  have h : Fr 16777217800 s (idle s) := idle_frame (Within.rfl' _)
  exact ⟨h.all .pending rfl, h.all .fuse rfl⟩

/-- Every meaning ends in a next state. -/
theorem exec_goes (c : Instr) (s : State) : ∃ t, exec c s = .next t := by
  cases c <;> exact ⟨_, rfl⟩

/-! ### The step by its queue -/

theorem step_of_pending_nil {s : State} (h : s.pending = []) : step s = .next (idle s) := by
  rw [step, h]

theorem step_of_pending_cons {s : State} {c : Instr} {rest : List Instr} (h : s.pending = c :: rest) :
    step s = exec c { s with pending := rest } := by
  rw [step, h]

/-- Settles O51: the frame of `exec`, read by parts. -/
theorem commandsTouchOnlyTheirParts : Obligations.CommandsTouchOnlyTheirParts :=
  fun _ _ _ h => exec_frame h

/-- Settles O47: the front command leaves the rest of the queue, an idle step the empty queue, and both the fuses. -/
theorem stepTakesExactlyOneCommand : Obligations.StepTakesExactlyOneCommand := by
  intro s t h
  cases hq : s.pending with
  | nil =>
    rw [step_of_pending_nil hq] at h
    cases h
    obtain ⟨hpending, hfuse⟩ := idle_keeps_queue_fuse s
    exact ⟨hpending.trans hq, hfuse⟩
  | cons c rest =>
    rw [step_of_pending_cons hq] at h
    exact exec_keeps_queue_fuse h

/-- Settles O46: an idle step answers a next state, and so does every command. -/
theorem everyStepAnswersANextState : Obligations.EveryStepAnswersANextState := by
  intro s
  cases hq : s.pending with
  | nil => exact ⟨_, step_of_pending_nil hq⟩
  | cons c rest =>
    obtain ⟨t, ht⟩ := exec_goes c { s with pending := rest }
    exact ⟨t, (step_of_pending_cons hq).trans ht⟩

end Sys2Proof.Safety
end

section
/-! Accesses on paths that do not carry them: what the operations that the access rows share do on a path that carries no access or
is refused a privileged one, and the rows as accesses. -/

namespace Sys2Proof.Safety
open Sys2Proof.Machine

/-- A path is refused a privileged access where it carries none, and where it is not privileged. -/
theorem priv_eq_false {s : State} {p : Path} (h : s.carries p = false ∨ privileged p = false) : s.priv p = false := by
  rcases h with h | h <;> simp [State.priv, h]

/-! ### On a path that is refused a privileged access -/

section
variable {s : State} {p : Path} (h : s.priv p = false)
include h

theorem ite_of_not_priv (t : State) : (if s.priv p then t else s) = s := by simp [h]

theorem windowed_of_not_priv (c : Instr) (f : State → State) : s.windowed p c f = s := by simp [State.windowed, h]

theorem fwOp_of_not_priv (a : Nat) (v : Word) (faults : State → List Code) (f : State → State) : s.fwOp p a v faults f = s := by
  simp [State.fwOp, h]

theorem adoptWrite_of_not_priv (empty : Bool) : s.adoptWrite p empty = s := by simp [State.adoptWrite, h]

theorem lockWrite_of_not_priv (v : Word) : s.lockWrite p v = s := by simp [State.lockWrite, h]

theorem govCommand_of_not_priv (op : Word) (ok : Bool) (f : State → State) : s.govCommand p op ok f = s := by
  simp [State.govCommand, h]

theorem ctxMake_of_not_priv (pid : Pid) : s.ctxMake p pid = s := by simp [State.ctxMake, h]

theorem ctxCommand_of_not_priv (op : BitVec 3) : s.ctxCommand p op = s := by simp [State.ctxCommand, h]

theorem threadsWrite_of_not_priv (v : Word) : s.threadsWrite p v = s := by simp [State.threadsWrite, h]

theorem grantWrite_of_not_priv (v : Word) : s.grantWrite p v = s := by simp [State.grantWrite, h]

theorem probeNow_of_not_priv (x : PortNo) : s.probeNow p x = s := by simp [State.probeNow, h]

theorem loadPlan_of_not_priv (n : BitVec 2) : s.loadPlan p n = s := by simp [State.loadPlan, h]

theorem erasePlan_of_not_priv (n : BitVec 2) : s.erasePlan p n = s := by simp [State.erasePlan, h]

theorem acceptPort_of_not_priv (x : PortNo) : s.acceptPort p x = s := by simp [State.acceptPort, h]

theorem stageGo_of_not_priv (v : Word) : s.stageGo p v = s := by simp [State.stageGo, h]

theorem modResetWrite_of_not_priv (v : Word) : s.modResetWrite p v = s := by simp [State.modResetWrite, h]

end

/-! ### On a path that carries no access -/

section
variable {s : State} {p : Path} (h : s.carries p = false)
include h

theorem ite_of_not_carries (t : State) : (if s.carries p then t else s) = s := by simp [h]

theorem ite_and_of_not_carries (c : Prop) [Decidable c] (t : State) : (if s.carries p ∧ c then t else s) = s := by simp [h]

theorem writeReg_of_not_carries (a : Nat) (v : Word) : s.writeReg p a v = s := by simp [State.writeReg, h]

theorem regionCmd_of_not_carries (v : Word) (op : Nat) (f : State → CtxNo → Nat → State) : s.regionCmd p v op f = s := by
  simp [State.regionCmd, h]

theorem ringOn_of_not_carries (r : BitVec 2) (v : Word) : s.ringOn p r v = s := by simp [State.ringOn, h]

theorem ringOff_of_not_carries (r : BitVec 2) (v : Word) : s.ringOff p r v = s := by simp [State.ringOff, h]

end

/-- An access row, on a path that is refused it: each is its condition on the path, or goes through an operation above. -/
theorem exec_of_refused {c : Instr} {s : State} {p : Path} (hc : accessPath c = some p)
    (hp : isPrivileged c = true → s.priv p = false) (ho : isPrivileged c = false → s.carries p = false) : exec c s = .next s := by
  cases c with cases hc
  | unitSelWrite | unitSelModeWrite | ucbHold | ucbFence | ucbReset | ucbDrain | ucbEnable | ucbMapWrite | ucbVfWrite |
    ucbOwnerWrite | relock | strip =>
    exact congrArg _ (windowed_of_not_priv (hp rfl) ..)
  | ucbTempRead | reseed | relearn | qpConnect | qpReset | relockAll | stripAll | lightCalWrite | lkSlewRead | steerSwitchGo |
    bypass | restore | steerAbort | forceStep | timeSet | ttArm | ttCancel | fwAttest | persist =>
    exact congrArg _ (ite_of_not_priv (hp rfl) ..)
  | ctxThreadsWrite => exact congrArg _ (threadsWrite_of_not_priv (hp rfl) ..)
  | ctxCreate => exact congrArg _ (ctxMake_of_not_priv (hp rfl) ..)
  | ctxDestroy | ctxFence | ctxUnfence | ctxReset => exact congrArg _ (ctxCommand_of_not_priv (hp rfl) ..)
  | ctxTbgrantWrite => exact congrArg _ (grantWrite_of_not_priv (hp rfl) ..)
  | probe => exact congrArg _ (probeNow_of_not_priv (hp rfl) ..)
  | govSwap | resync | keepA | keepB => exact congrArg _ (govCommand_of_not_priv (hp rfl) ..)
  | planLoad => exact congrArg _ (loadPlan_of_not_priv (hp rfl) ..)
  | planErase => exact congrArg _ (erasePlan_of_not_priv (hp rfl) ..)
  | planAccept => exact congrArg _ (acceptPort_of_not_priv (hp rfl) ..)
  | modStageGo => exact congrArg _ (stageGo_of_not_priv (hp rfl) ..)
  | modReset => exact congrArg _ (modResetWrite_of_not_priv (hp rfl) ..)
  | fwOpen | fwErase | activateHitless | activateReset | selectConfig | confirm | rollback | save =>
    exact congrArg _ (fwOp_of_not_priv (hp rfl) ..)
  | settingsConvert | settingsEmpty => exact congrArg _ (adoptWrite_of_not_priv (hp rfl) ..)
  | fwLockWrite => exact congrArg _ (lockWrite_of_not_priv (hp rfl) ..)
  | regWrite => exact congrArg _ (writeReg_of_not_carries (ho rfl) ..)
  | wideLowRead | wideHighRead | wideLowWrite | wideHighWrite => exact congrArg _ (ite_and_of_not_carries (ho rfl) ..)
  | regionAllocate | regionRelease | regionQuery => exact congrArg _ (regionCmd_of_not_carries (ho rfl) ..)
  | ringEnable => exact congrArg _ (ringOn_of_not_carries (ho rfl) ..)
  | ringDisable => exact congrArg _ (ringOff_of_not_carries (ho rfl) ..)
  | statusRegionConfig | csClear => exact congrArg _ (ite_of_not_carries (ho rfl) ..)

/-- Settles O52: a privileged access needs a path that is privileged and carries it, and any other one a path that carries it. -/
theorem uncarriedAccessChangesNothing : Obligations.UncarriedAccessChangesNothing := by
  intro c s p hc h
  refine exec_of_refused hc (fun _ => priv_eq_false ?_) fun ho => ?_
  · exact h.imp_right And.right
  · exact h.resolve_right fun hp => by simp [ho] at hp

end Sys2Proof.Safety
end

section
/-! Writes of the module registers that only store: that their address selects nothing but a store, and what the store leaves. -/

namespace Sys2Proof.Safety
open Sys2Proof.Machine

/-- A privileged path names a register by its CSR address. -/
theorem canon_of_privileged {p : Path} (h : privileged p = true) (a : Nat) : canon p a = a := by
  cases p with
  | page => cases h
  | hmp | admin | image => rfl

/-- Below the unit window the 64-bit registers are those of `wideCsr`, on every path. -/
theorem wideLow_of_lt {a : Nat} (h : a < 0x1001000) (s : State) (p : Path) : s.wideLow p a = wideCsr a := by
  simp [State.wideLow, h]

/-- Every stored register is a word below the unit window, and neither half of a 64-bit register. -/
theorem storedRegs_narrow : ∀ a ∈ storedRegs, a < 0x1001000 ∧ a % 4 = 0 ∧ wideCsr a = false ∧ wideCsr (a - 4) = false := by
  decide +kernel

/-- A stored register is none of those that its block singles out, which start commands or select: the block stores what is
written. -/
theorem putReg_of_mem_storedRegs {a : Nat} (ha : a ∈ storedRegs) (s : State) (p : Path) (v : Word) :
    s.putReg p a v = s.storePol a v := by
  revert a
  simp only [storedRegs, List.cons_append, List.nil_append, List.forall_mem_cons, List.not_mem_nil, false_implies,
    implies_true, and_true]
  and_intros <;> rfl

/-- A privileged path writes a stored register whole, where it carries the access. -/
theorem writeReg_of_mem_storedRegs {p : Path} (hp : privileged p = true) {a : Nat} (ha : a ∈ storedRegs) (s : State) (v : Word) :
    s.writeReg p a v = if s.carries p then s.storePol a v else s := by
  obtain ⟨hlt, halign, hlow, hhigh⟩ := storedRegs_narrow a ha
  have hlow' : s.wideLow p a = false := (wideLow_of_lt hlt s p).trans hlow
  have hhigh' : s.wideLow p (a - 4) = false := (wideLow_of_lt (by omega) s p).trans hhigh
  cases hc : s.carries p <;>
    simp [State.writeReg, hc, canon_of_privileged hp, halign, hlow', hhigh', putReg_of_mem_storedRegs ha]

/-- A store changes the register at its address, or none where it stores nothing. -/
theorem storePol_pol_of_ne (s : State) {a b : Nat} (h : b ≠ a) (v : Word) : (s.storePol a v).pol b = s.pol b := by
  unfold State.storePol
  split
  · exact State.setPol_ne s h _
  · rfl

/-- Settles O58: the write is a store, or nothing where the path does not carry it. -/
theorem storedRegistersChangeAlone : Obligations.StoredRegistersChangeAlone := by
  intro s t p a v hp ha h
  have hlt : a < 2 ^ 26 := (storedRegs_narrow a ha).1.trans (by decide)
  simp only [exec, execRegWrite, BitVec.toNat_ofNat, Nat.mod_eq_of_lt hlt, writeReg_of_mem_storedRegs hp ha,
    Host.Outcome.next.injEq] at h
  split at h <;> subst h
  · exact ⟨frame_of_fr (ps := [.csr]) (State.storePol_frame rfl), fun b hb => storePol_pol_of_ne s hb v⟩
  · exact ⟨frame_of_fr (Fr.refl _ s), fun _ _ => rfl⟩

end Sys2Proof.Safety
end

section
/-! Unit addresses: the conditions under which one names no unit, over the fields of R22, and what each of the checks of a selection
reads of them (R23). -/

namespace Sys2Proof.Safety
open Sys2Proof.Machine

/-- The `n + 1` bits of an address from bit `lo` on spell the field that ends at bit `lo + n`. -/
theorem toNat_extractLsb'_eq_bitsOf (u : UnitAddr) (lo n : Nat) : (u.extractLsb' lo (n + 1)).toNat = bitsOf u (lo + n) lo := by
  rw [BitVec.extractLsb'_toNat, bitsOf, Nat.add_assoc, Nat.add_sub_cancel_left]

/-- A site field names no site where its physical site is absent, or its logical index lies past the sites of the variant. -/
theorem physSite_eq_none_iff (s : State) (phys : Bool) (i : Nat) :
    s.physSite phys i = none ↔ if phys then i ∉ s.fuse.sites else s.fuse.sites.length ≤ i := by
  cases phys <;> simp [State.physSite]

/-- Without wildcards an index is bad where its field counts at the level and lies past its range. -/
theorem badIndex_false_iff (u : UnitAddr) : badIndex u false = true ↔
    (2 ≤ uLevel u ∧ 7 < uBay u) ∨ (3 ≤ uLevel u ∧ (if uPhys u then 8 else 7) < uTray u) ∨
      (4 ≤ uLevel u ∧ (if uPhys u then 19 else 18) < uCluster u) := by
  simp [badIndex, or_assoc]

/-- The bits of an address below the end of a field are those below the field and the field. -/
theorem toNat_mod_ne_zero_iff_bitsOf (u : UnitAddr) (lo n : Nat) : u.toNat % 2 ^ (lo + (n + 1)) ≠ 0 ↔
    u.toNat % 2 ^ lo ≠ 0 ∨ bitsOf u (lo + n) lo ≠ 0 := by
  rw [bitsOf, Nat.add_assoc, Nat.add_sub_cancel_left, Nat.shiftRight_eq_div_pow, pow_add, Nat.mod_mul, ne_eq, Nat.add_eq_zero_iff,
    Nat.mul_eq_zero, or_iff_right (Nat.two_pow_pos lo).ne', not_and_or]

/-- The bits below a level that names a unit are the reserved bits and the fields below it. -/
theorem mod_belowBits_ne_zero_iff {u : UnitAddr} (h : uLevel u < 6) : u.toNat % 2 ^ belowBits (uLevel u) ≠ 0 ↔
    bitsOf u 5 0 ≠ 0 ∨ (uLevel u < 5 ∧ uCore u ≠ 0) ∨ (uLevel u < 4 ∧ uCluster u ≠ 0) ∨ (uLevel u < 3 ∧ uTray u ≠ 0) ∨
      (uLevel u < 2 ∧ uBay u ≠ 0) ∨ (uLevel u < 1 ∧ uSite u ≠ 0) := by
  have hsite : u.toNat % 2 ^ 28 ≠ 0 ↔ u.toNat % 2 ^ 24 ≠ 0 ∨ uSite u ≠ 0 := toNat_mod_ne_zero_iff_bitsOf u 24 3
  have hbay : u.toNat % 2 ^ 24 ≠ 0 ↔ u.toNat % 2 ^ 20 ≠ 0 ∨ uBay u ≠ 0 := toNat_mod_ne_zero_iff_bitsOf u 20 3
  have htray : u.toNat % 2 ^ 20 ≠ 0 ↔ u.toNat % 2 ^ 16 ≠ 0 ∨ uTray u ≠ 0 := toNat_mod_ne_zero_iff_bitsOf u 16 3
  have hcluster : u.toNat % 2 ^ 16 ≠ 0 ↔ u.toNat % 2 ^ 10 ≠ 0 ∨ uCluster u ≠ 0 := toNat_mod_ne_zero_iff_bitsOf u 10 5
  have hcore : u.toNat % 2 ^ 10 ≠ 0 ↔ u.toNat % 2 ^ 6 ≠ 0 ∨ uCore u ≠ 0 := toNat_mod_ne_zero_iff_bitsOf u 6 3
  have hreserved : u.toNat % 2 ^ 6 = bitsOf u 5 0 := rfl
  generalize uLevel u = l at h ⊢
  interval_cases l <;>
    simp +decide only [belowBits, if_true, if_false, hsite, hbay, htray, hcluster, hcore, hreserved, or_assoc, true_and,
      false_and, or_false]

/-- A check that answers a code of its own where it fails leaves 0 only where it passes and the checks after it do. -/
theorem ite_code_ne_zero_iff {c : Prop} [Decidable c] {k r : BitVec 4} (hk : k ≠ 0) :
    (if c then k else r) ≠ 0 ↔ c ∨ r ≠ 0 := by
  by_cases hc : c
  · rw [if_pos hc]
    exact iff_of_true hk (.inl hc)
  · rw [if_neg hc, or_iff_right hc]

/-- Without wildcards a selection is refused for its level, a bit below it, an index or an absent site (R25). -/
theorem selCode_false_ne_zero_iff (s : State) (u : UnitAddr) : s.selCode u false ≠ 0 ↔
    6 ≤ uLevel u ∨ u.toNat % 2 ^ belowBits (uLevel u) ≠ 0 ∨ badIndex u false = true ∨
      (1 ≤ uLevel u ∧ s.physSite (uPhys u) (uSite u) = none) := by
  unfold State.selCode
  rw [ite_code_ne_zero_iff (by decide), ite_code_ne_zero_iff (by decide), ite_code_ne_zero_iff (by decide),
    ite_code_ne_zero_iff (by decide), ite_code_ne_zero_iff (by decide)]
  simp

/-- An address names no unit exactly where its selection is refused. -/
theorem resolve_eq_none_iff (s : State) (u : UnitAddr) : s.resolve u = none ↔ s.selCode u false ≠ 0 := by
  refine ⟨fun h hc => ?_, fun h => by rw [State.resolve, if_pos h]⟩
  have hsite : 1 ≤ uLevel u → s.physSite (uPhys u) (uSite u) ≠ none := fun hl hn =>
    (selCode_false_ne_zero_iff s u).mpr (.inr (.inr (.inr ⟨hl, hn⟩))) hc
  by_cases hl : uLevel u = 0
  · simp [State.resolve, hc, hl] at h
  · obtain ⟨ps, hps⟩ := Option.ne_none_iff_exists'.mp (hsite (by omega))
    simp only [State.resolve, hc, hl, hps, ne_eq, not_true_eq_false, if_false] at h
    split_ifs at h

/-- The conditions of R23 over the fields of an address. -/
theorem resolve_eq_none_iff_fields (s : State) (u : UnitAddr) : s.resolve u = none ↔
    bitsOf u 5 0 ≠ 0 ∨ 6 ≤ uLevel u ∨
      (uLevel u < 5 ∧ uCore u ≠ 0) ∨ (uLevel u < 4 ∧ uCluster u ≠ 0) ∨ (uLevel u < 3 ∧ uTray u ≠ 0) ∨
      (uLevel u < 2 ∧ uBay u ≠ 0) ∨ (uLevel u < 1 ∧ uSite u ≠ 0) ∨
      (2 ≤ uLevel u ∧ 7 < uBay u) ∨ (3 ≤ uLevel u ∧ (if uPhys u then 8 else 7) < uTray u) ∨
      (4 ≤ uLevel u ∧ (if uPhys u then 19 else 18) < uCluster u) ∨
      (1 ≤ uLevel u ∧ (if uPhys u then uSite u ∉ s.fuse.sites else s.fuse.sites.length ≤ uSite u)) := by
  rw [resolve_eq_none_iff, selCode_false_ne_zero_iff, badIndex_false_iff, physSite_eq_none_iff]
  by_cases hl : 6 ≤ uLevel u
  · simp only [hl, true_or, or_true]
  · rw [mod_belowBits_ne_zero_iff (not_le.mp hl)]
    simp only [hl, false_or, or_assoc]

/-- Settles O53: a field is the bits of the address that spell it. -/
theorem addressesAreInvalidAsStated : Obligations.AddressesAreInvalidAsStated := by
  intro s u
  simp only [toNat_extractLsb'_eq_bitsOf]
  exact resolve_eq_none_iff_fields s u

end Sys2Proof.Safety
end

section
/-! The window: what an access that is done, held behind a wildcard write or refused leaves (R24, R26), and what UCB_OWNER leaves of
the trays (R30). -/

namespace Sys2Proof.Safety
open Sys2Proof.Machine

/-- A window access is refused, held or done. -/
theorem windowed_cases (s : State) (p : Path) (c : Instr) (f : State → State) :
    s.windowed p c f = s ∨ s.windowed p c f = s.holdAcc p c ∨ s.windowed p c f = f s := by
  unfold State.windowed State.behind
  split
  · split
    · exact .inr (.inl rfl)
    · exact .inr (.inr rfl)
  · exact .inl rfl

/-- A window access that leaves another path as it is when it is done leaves it when it is held too. -/
theorem windowed_path_of_ne {s : State} {p q : Path} (hq : q ≠ p) (c : Instr) {f : State → State}
    (hf : (f s).path q = s.path q) : (s.windowed p c f).path q = s.path q := by
  rcases windowed_cases s p c f with h | h | h <;> rw [h]
  · exact s.setPath_ne hq _
  · exact hf

/-- Settles O57: both writes are window accesses that set the path they come on. -/
theorem selectionsBelongToTheirPath : Obligations.SelectionsBelongToTheirPath := by
  rintro s t p v (h | h) <;> refine ⟨exec_frame h, fun q hq => ?_⟩ <;> cases h
  case inl => exact windowed_path_of_ne hq _ (s.setPath_ne hq _)
  case inr => exact windowed_path_of_ne hq _ (s.setPath_ne hq _)

/-- A window access is done where its path may act on the window and no wildcard write of it is at work. -/
theorem windowed_of_not_busy {s : State} {p : Path} (hp : s.priv p = true) (hb : (s.path p).busy = false) (c : Instr)
    (f : State → State) : s.windowed p c f = f s := by
  simp [State.windowed, State.behind, hp, hb]

/-- A write that no wildcard may make acts on the unit that is selected. -/
theorem narrowWrite_of_selOf_one {s : State} {p : Path} {u : URef} (h : s.selOf p = .one u) (f : State → URef → State)
    (g : State → Pid → State) : s.narrowWrite p f g = (f s u).setCode p 0 := by
  simp [State.narrowWrite, h]

/-- Where a unit is selected, UCB_OWNER is written to each of its trays in turn, to none at a cluster or a core. -/
theorem exec_ucbOwnerWrite_of_selectsOne {s : State} {p : Path} {u : URef} (h : SelectsOne s p u) (pid : Pid) :
    exec (.ucbOwnerWrite p pid) s = .next (((s.traysUnder u).foldl (State.ownTray pid) s).setCode p 0) := by
  obtain ⟨hp, hb, hu⟩ := h
  have hunit : State.ownUnit pid s u = (s.traysUnder u).foldl (State.ownTray pid) s := by cases u <;> rfl
  simp only [exec, execUcbOwnerWrite, windowed_of_not_busy hp hb, State.ownerField, narrowWrite_of_selOf_one hu, hunit]

/-- Updates of clusters leave every tray as it is. -/
@[simp] theorem foldl_modCluster_trayAt (f : Cluster → Cluster) (cs : List Nat) (s : State) (k : Nat) :
    (cs.foldl (fun s c => s.modCluster c f) s).tray k = s.tray k := by
  induction cs generalizing s with
  | nil => rfl
  | cons c cs ih => exact ih _

/-- A write of UCB_OWNER that changes the owner of a tray changes nothing else of the trays. -/
theorem ownTray_trayAt_of_change {pid : Pid} {s : State} {j : Nat} (h : OwnerFree s j ∧ (s.tray j).owner ≠ pid) (k : Nat) :
    (s.ownTray pid j).tray k = (s.modTray j fun x => { x with owner := pid }).tray k := by
  have hc : s.ownTray pid j = _ := if_pos h
  rw [hc, foldl_modCluster_trayAt]

/-- Where the tray is not OFF or drained, or has the written owner already, it does nothing. -/
theorem ownTray_of_no_change {pid : Pid} {s : State} {j : Nat} (h : ¬(OwnerFree s j ∧ (s.tray j).owner ≠ pid)) :
    s.ownTray pid j = s := if_neg h

/-- It leaves every other tray as it is. -/
theorem ownTray_trayAt_of_ne (pid : Pid) (s : State) {j k : Nat} (hk : k ≠ j) : (s.ownTray pid j).tray k = s.tray k := by
  by_cases h : OwnerFree s j ∧ (s.tray j).owner ≠ pid
  · rw [ownTray_trayAt_of_change h, s.modTray_ne hk]
  · rw [ownTray_of_no_change h]

/-- Where it takes effect, the tray has the written owner afterwards. -/
theorem ownTray_owner_of_free (pid : Pid) {s : State} {j : Nat} (hf : OwnerFree s j) :
    ((s.ownTray pid j).tray j).owner = pid := by
  by_cases hne : (s.tray j).owner ≠ pid
  · rw [ownTray_trayAt_of_change ⟨hf, hne⟩, State.modTray_self]
  · rw [ownTray_of_no_change fun h => hne h.2]
    exact not_not.mp hne

/-- It leaves the state and the control of every tray. -/
@[simp] theorem ownTray_ctl (pid : Pid) (s : State) (j k : Nat) : ((s.ownTray pid j).tray k).ctl = (s.tray k).ctl := by
  by_cases h : OwnerFree s j ∧ (s.tray j).owner ≠ pid
  · rw [ownTray_trayAt_of_change h]
    by_cases hk : k = j
    · rw [hk, State.modTray_self]
    · rw [s.modTray_ne hk]
  · rw [ownTray_of_no_change h]

/-- Whether UCB_OWNER takes effect on a tray does not change with the trays written before it. -/
@[simp] theorem ownerFree_ownTray (pid : Pid) (s : State) (j k : Nat) : OwnerFree (s.ownTray pid j) k ↔ OwnerFree s k := by
  simp only [OwnerFree, ownTray_ctl]

open Classical in
/-- The owner of every tray after a write of UCB_OWNER to one. -/
theorem ownTray_owner (pid : Pid) (s : State) (j k : Nat) : ((s.ownTray pid j).tray k).owner =
    if k = j ∧ OwnerFree s k then pid else (s.tray k).owner := by
  split
  case isTrue h =>
    obtain ⟨rfl, hf⟩ := h
    exact ownTray_owner_of_free pid hf
  case isFalse h =>
    by_cases hk : k = j
    · subst hk
      rw [ownTray_of_no_change fun hf => h ⟨rfl, hf.1⟩]
    · rw [ownTray_trayAt_of_ne pid s hk]

open Classical in
/-- And after a write to each tray of a list. -/
theorem foldl_ownTray_owner (pid : Pid) (ts : List Nat) (s : State) (k : Nat) :
    ((ts.foldl (State.ownTray pid) s).tray k).owner = if k ∈ ts ∧ OwnerFree s k then pid else (s.tray k).owner := by
  induction ts generalizing s with
  | nil => simp
  | cons j ts ih =>
    rw [List.foldl_cons, ih]
    simp only [ownerFree_ownTray, ownTray_owner, ← ite_or, ← or_and_right, List.mem_cons, or_comm]

/-- Settles O54: the write reaches the trays under the unit, and the contact sheet is none of the parts that it touches. -/
theorem ownerWritesTakeEffectWhereAllowed : Obligations.OwnerWritesTakeEffectWhereAllowed := by
  intro s p u pid h
  have hexec := exec_ucbOwnerWrite_of_selectsOne h pid
  refine ⟨_, hexec, exec_frame hexec .cs (by simp [touches]), fun k hk hf => ?_, fun k hk => ?_⟩
  · rw [State.setCode, State.setPath_trayAt, foldl_ownTray_owner, if_pos ⟨hk, hf⟩]
  · rw [State.setCode, State.setPath_trayAt, foldl_ownTray_owner, if_neg hk]

end Sys2Proof.Safety
end

section
/-! What the block is right after reset: every path, tray, cluster, core and context reads as one that nothing has acted on. -/

namespace Sys2Proof.Safety
open Sys2Proof.Machine

@[simp] theorem reset_path (p : Path) : State.reset.path p = {} := rfl

@[simp] theorem reset_tray (k : Nat) : State.reset.tray k = {} := rfl

@[simp] theorem reset_cluster (c : Nat) : State.reset.cluster c = {} := rfl

/-- A core stands as its cluster does, which is OFF. -/
@[simp] theorem reset_core (k : Nat) : State.reset.core k = {} := rfl

@[simp] theorem reset_ctx (c : CtxNo) : State.reset.ctx c = {} := rfl

/-- Settles O50, part by part. -/
theorem resetLeavesNothingAtWork : Obligations.ResetLeavesNothingAtWork := by
  refine ⟨rfl, fun p => ?_, rfl, fun k => ?_, fun c i => ?_, fun c => ?_, fun k n => ?_, rfl, rfl⟩
  · simp
  · rw [reset_tray]
    exact ⟨rfl, rfl, rfl, rfl⟩
  · simp [State.tally, SMap.get, SMap.find]
  · simp
  · simp [State.thread?, SMap.find]

end Sys2Proof.Safety
end

section
/-! The queue of commands. -/

namespace Sys2Proof.Safety
open Sys2Proof.Machine

/-- Settles O44: the queue of the state that steps is the command and the rest. -/
theorem stepRunsTheFrontCommand : Obligations.StepRunsTheFrontCommand := by
  intro s c rest
  have hqueue : { s with pending := c :: rest }.pending = c :: rest := rfl
  exact step_of_pending_cons hqueue

end Sys2Proof.Safety
end

section
/-! The invariant of the memories and the beats: it holds at reset, and commands and the passing of time keep it. -/

namespace Sys2Proof.Safety
open Sys2Proof.Machine

/-- Taking commands off the queue, or adding some, moves no memory and no beat. -/
theorem sound_with_pending {s : State} (h : Sound s) (cs : List Instr) : Sound { s with pending := cs } :=
  ⟨h.trays, h.cores, h.sites, h.remote⟩

/-- A command writes memories in canonical form only, and counts each beat together with the part that it falls in (R70). -/
theorem exec_keeps_sound {c : Instr} {s t : State} (hs : Sound s) (h : exec c s = .next t) : Sound t :=
  (exec_outFr c s t h).keep hs

/-- So does the passing of time. -/
theorem idle_keeps_sound {s : State} (hs : Sound s) : Sound (idle s) :=
  (idle_frame (Within.rfl' _)).keep hs

/-- Settles O48: a step is the passing of time, or the front command on the rest of the queue. -/
theorem stepKeepsMemoriesAndBeats : Obligations.StepKeepsMemoriesAndBeats := by
  intro s t hs h
  cases hq : s.pending with
  | nil =>
    rw [step_of_pending_nil hq] at h
    cases h
    exact idle_keeps_sound hs
  | cons c rest =>
    rw [step_of_pending_cons hq] at h
    exact exec_keeps_sound (sound_with_pending hs rest) h

/-- Settles O49: reset stores no tray, core or site, each of which then reads as a blank one, and no remote page. -/
theorem resetIsSound : Obligations.ResetIsSound where
  trays := List.forall_mem_nil _
  cores := List.forall_mem_nil _
  sites := List.forall_mem_nil _
  remote := Memory.wf_nil

end Sys2Proof.Safety
end

section
/-! The tallies that a write of UCB_OWNER clears: those of the logical clusters of the trays whose owner it changes (R101). -/

namespace Sys2Proof.Safety
open Sys2Proof.Machine

/-- A tray has 19 logical clusters, whichever of its physical ones carry them (R34). -/
@[simp] theorem clustersOfTray_length (s : State) (k : Nat) : (s.clustersOfTray k).length = 19 := by
  simp [State.clustersOfTray]

/-- The logical clusters of a tray are read from the map of the spare clusters alone (R34). -/
theorem clustersOfTray_congr {s t : State} (h : t.cmap = s.cmap) (k : Nat) : t.clustersOfTray k = s.clustersOfTray k := by
  simp only [State.clustersOfTray, State.clusterIdx, h]

/-- A write of UCB_OWNER changes the owner of a tray: it takes effect there (R30), and the tray has another owner. -/
def OwnerChanges (pid : Pid) (s : State) (k : Nat) : Prop := OwnerFree s k ∧ (s.tray k).owner ≠ pid

/-- A write of UCB_OWNER leaves the map of the spare clusters. -/
theorem ownTray_cmap (pid : Pid) (s : State) (j : Nat) : (s.ownTray pid j).cmap = s.cmap :=
  (State.ownTray_frame (Within.rfl' _)).all .cmap (by decide)

/-- A tray that has been written has the written owner, so that its owner does not change again. -/
theorem ownerChanges_ownTray (pid : Pid) (s : State) (j k : Nat) :
    OwnerChanges pid (s.ownTray pid j) k ↔ k ≠ j ∧ OwnerChanges pid s k := by
  by_cases hk : k = j
  · subst hk
    simp +contextual [OwnerChanges, ownTray_owner]
  · simp [OwnerChanges, ownTray_owner, hk]

/-- Clearing the tallies of each cluster of a list leaves those of every other cluster. -/
theorem foldl_clearTallies_tally (cs : List Nat) (s : State) (c : Nat) (i : BitVec 6) :
    (cs.foldl (fun s c => s.modCluster c fun x => { x with tallies := [] }) s).tally c i =
      if c ∈ cs then 0 else s.tally c i := by
  induction cs generalizing s with
  | nil => simp
  | cons d cs ih =>
    rw [List.foldl_cons, ih]
    by_cases hc : c = d
    · subst hc
      simp [State.tally, SMap.get, SMap.find]
    · simp [State.tally, s.modCluster_ne hc, hc]

open Classical in
/-- The tallies after a write of UCB_OWNER to a tray. -/
theorem ownTray_tally (pid : Pid) (s : State) (j c : Nat) (i : BitVec 6) :
    (s.ownTray pid j).tally c i = if OwnerChanges pid s j ∧ c ∈ s.clustersOfTray j then 0 else s.tally c i := by
  by_cases h : OwnerChanges pid s j
  · have hc : s.ownTray pid j = _ := if_pos h
    rw [hc, foldl_clearTallies_tally, clustersOfTray_congr (s.modTray_cmap ..)]
    exact if_congr (and_iff_right h).symm rfl rfl
  · rw [ownTray_of_no_change h, if_neg fun hc => h hc.1]

open Classical in
/-- And after a write to each tray of a list. -/
theorem foldl_ownTray_tally (pid : Pid) (ts : List Nat) (s : State) (c : Nat) (i : BitVec 6) :
    (ts.foldl (State.ownTray pid) s).tally c i =
      if ∃ k ∈ ts, OwnerChanges pid s k ∧ c ∈ s.clustersOfTray k then 0 else s.tally c i := by
  induction ts generalizing s with
  | nil => simp
  | cons j ts ih =>
    rw [List.foldl_cons, ih]
    simp only [ownerChanges_ownTray, clustersOfTray_congr (ownTray_cmap pid s j), ownTray_tally, ← ite_or,
      List.exists_mem_cons_iff]
    refine if_congr ⟨?_, ?_⟩ rfl rfl
    · rintro (⟨k, hk, ⟨-, hch⟩, hc⟩ | hj)
      · exact .inr ⟨k, hk, hch, hc⟩
      · exact .inl hj
    · rintro (hj | ⟨k, hk, hch, hc⟩)
      · exact .inr hj
      · by_cases hkj : k = j
        · exact .inr (hkj ▸ ⟨hch, hc⟩)
        · exact .inl ⟨k, hk, ⟨hkj, hch⟩, hc⟩

/-- Settles O55: the write goes to the trays under the unit in turn, and each clears the clusters of its own tray. -/
theorem ownerChangeClearsTallies : Obligations.OwnerChangeClearsTallies := by
  intro s p u pid h
  have htally (c : Nat) (i : BitVec 6) := foldl_ownTray_tally pid (s.traysUnder u) s c i
  refine ⟨_, exec_ucbOwnerWrite_of_selectsOne h pid, fun k hk hf hne => ⟨clustersOfTray_length s k, fun c hc i => ?_⟩,
    fun c hc i => ?_⟩
  · exact (htally c i).trans (if_pos ⟨k, hk, ⟨hf, hne⟩, hc⟩)
  · exact (htally c i).trans (if_neg fun ⟨k, hk, ⟨hf, hne⟩, hmem⟩ => hc k hk hf hne hmem)

end Sys2Proof.Safety
end

section
/-! The end of a thread and of a descriptor: what both leave of the cores, the local stores and the tray buffers, and the failure
that a submission holds (R125, R126). -/

namespace Sys2Proof.Safety
open Sys2Proof.Machine

/-! ### Local stores and threads -/

/-- The local store of a core is read from the stored cores alone. -/
theorem core_ls_congr {s t : State} (h : t.cores = s.cores) (j : Nat) : (t.core j).ls = (s.core j).ls := by
  simp only [State.core, h]
  cases SMap.find s.cores j <;> rfl

/-- And so is the thread in a slot. -/
theorem thread?_congr {s t : State} (h : t.cores = s.cores) (k n : Nat) : t.thread? k n = s.thread? k n := by
  simp only [State.thread?, State.core, h]
  cases SMap.find s.cores k <;> rfl

@[simp] theorem thread?_setThread_self (s : State) (k n : Nat) (t : Thread) : (s.setThread k n t).thread? k n = some t := by
  simp [State.thread?, State.setThread]

/-- An update of a core leaves every other core. -/
theorem modCore_coreAt_of_ne (s : State) {k j : Nat} (h : j ≠ k) (f : Core → Core) : (s.modCore k f).core j = s.core j :=
  s.setCore_ne h _

/-- A thread put into a slot leaves the local stores. -/
@[simp] theorem setThread_ls (s : State) (k n : Nat) (t : Thread) (j : Nat) :
    ((s.setThread k n t).core j).ls = (s.core j).ls := by
  by_cases hj : j = k
  · rw [hj, State.setThread, State.modCore_self]
  · rw [State.setThread, modCore_coreAt_of_ne s hj]

/-- Every local store and every tray buffer, the memories of the near spaces (R120), is as it was. -/
structure KeepsNear (s r : State) : Prop where
  ls : ∀ j, (r.core j).ls = (s.core j).ls
  tb : ∀ j, (r.tray j).tb = (s.tray j).tb

theorem KeepsNear.refl (s : State) : KeepsNear s s := ⟨fun _ => rfl, fun _ => rfl⟩

theorem KeepsNear.trans {s t r : State} (h : KeepsNear s t) (k : KeepsNear t r) : KeepsNear s r :=
  ⟨fun j => (k.ls j).trans (h.ls j), fun j => (k.tb j).trans (h.tb j)⟩

/-- Operations that change no tray keep the buffers. -/
theorem KeepsNear.of_trays {s r : State} (hls : ∀ j, (r.core j).ls = (s.core j).ls) (ht : r.trays = s.trays) : KeepsNear s r :=
  ⟨hls, fun j => by rw [State.tray, ht, State.tray]⟩

/-- Operations within a mask that has neither trays nor cores keep both. -/
theorem KeepsNear.of_fr {m : Nat} {s r : State} (h : Fr m s r) (ht : m.testBit (Part.bit .trays) = false)
    (hc : m.testBit (Part.bit .cores) = false) : KeepsNear s r :=
  .of_trays (core_ls_congr (h.all .cores hc)) (h.all .trays ht)

theorem setThread_keepsNear (s : State) (k n : Nat) (t : Thread) : KeepsNear s (s.setThread k n t) :=
  .of_trays (setThread_ls s k n t) rfl

/-! ### The failure that a submission holds -/

/-- A submission holds a failure (R126). -/
def HoldsFailure (s : State) (j : Nat) (code : Code) : Prop := (s.sub? j).bind (fun x => x.fail) = some code

theorem HoldsFailure.congr {s t : State} {j : Nat} {code : Code} (h : HoldsFailure s j code) (ht : t.subs = s.subs) :
    HoldsFailure t j code := by
  rwa [HoldsFailure, State.sub?, ht]

theorem holdsFailure_iff {s : State} {j : Nat} {code : Code} :
    HoldsFailure s j code ↔ ∃ x, s.sub? j = some x ∧ x.fail = some code := Option.bind_eq_some_iff

/-- Where the record written holds the failure, whichever record it is, the submission holds it still. -/
theorem HoldsFailure.setSub {s : State} {j : Nat} {code : Code} (h : HoldsFailure s j code) (i : Nat) {v : Sub}
    (hv : v.fail = some code) : HoldsFailure (s.setSub i v) j code := by
  by_cases hj : j = i
  · rw [HoldsFailure, hj, State.setSub_self]
    exact hv
  · rwa [HoldsFailure, s.setSub_ne hj]

/-- A live submission that holds no failure takes the one that it is given. -/
theorem subFail_records {s : State} {j : Nat} {x : Sub} (hx : s.sub? j = some x) (hl : x.live = true) (hf : x.fail = none)
    (code : Code) : HoldsFailure (s.subFail j code) j code := by
  simp [HoldsFailure, State.subFail, hx, hl, hf]

/-- The first failure of a submission stands. -/
theorem HoldsFailure.subFail {s : State} {j : Nat} {code : Code} (h : HoldsFailure s j code) (other : Code) :
    HoldsFailure (s.subFail j other) j code := by
  obtain ⟨x, hx, hf⟩ := holdsFailure_iff.mp h
  simpa [State.subFail, hx, hf] using h

/-- Of the records a rewrite changes its own alone, whatever device memory and the mirror take of it. -/
theorem rewrite_subs (s : State) (x : Sub) : ∃ v : Sub, v.fail = x.fail ∧
    (s.rewrite x).subs = (s.setSub (subKey x.ctx x.slot) v).subs := by
  refine ⟨{ x with prev := s.devRead x.ctx (s.recordAt x.ctx x.slot) 64, at_ := s.up }, rfl, ?_⟩
  rw [State.rewrite, (State.mirrorCopy_frame (Within.rfl' _)).all .subs rfl, (State.devWrite_frame (Within.rfl' _)).all .subs rfl]

theorem HoldsFailure.rewrite {s : State} {j : Nat} {code : Code} (h : HoldsFailure s j code) {x : Sub}
    (hx : x.fail = some code) : HoldsFailure (s.rewrite x) j code := by
  obtain ⟨v, hv, hsubs⟩ := rewrite_subs s x
  exact (h.setSub _ (hv.trans hx)).congr hsubs

/-- A submission that ends keeps its failure. -/
theorem HoldsFailure.subSettle {s : State} {j : Nat} {code : Code} (h : HoldsFailure s j code) :
    HoldsFailure (s.subSettle j) j code := by
  obtain ⟨x, hx, hf⟩ := holdsFailure_iff.mp h
  simp only [State.subSettle, hx]
  split
  · exact h.rewrite hf
  · exact h

/-! ### The end of a thread -/

/-- A failure of a submission leaves the threads. -/
theorem subFail_thread? (s : State) (i : Nat) (code : Code) (k n : Nat) : (s.subFail i code).thread? k n = s.thread? k n :=
  thread?_congr ((State.subFail_frame (Within.rfl' _)).all .cores rfl) k n

/-- A thread that ends with a failure is one that ends after its submission has taken the failure. -/
theorem threadEnd_some {s : State} {k n : Nat} {t : Thread} (h : s.thread? k n = some t) (code : Code) :
    s.threadEnd k n (some code) = (s.subFail t.sub code).threadEnd k n none := by
  simp only [State.threadEnd, subFail_thread?, h]

/-- A thread as it stands in its slot once it has ended (R93). -/
def endedThread (t : Thread) : Thread := { t with st := .ending, wait := .none, cur := none, nxt := none }

/-- The end tally of a thread joins the descriptors in flight, to follow the last of them (R133). -/
def withEndTally (s : State) (k : Nat) (t : Thread) : State :=
  match t.ended with
  | some e =>
    let o : Outst := { id := s.nextId, thread := t.id, sub := t.sub, cluster := clusterOfCore k, ct := some e, left := 0,
                       isEnd := true }
    { s.fresh with outst := s.outst ++ [o] }
  | none => s

/-- A submission counts a thread of it out. -/
def countOut (s : State) (j : Nat) : State :=
  match s.sub? j with
  | some x => s.setSub j { x with threads := x.threads - 1 }
  | none => s

/-- The end of a thread by its parts. -/
theorem threadEnd_none {s : State} {k n : Nat} {t : Thread} (h : s.thread? k n = some t) :
    s.threadEnd k n none =
      ((countOut (withEndTally (s.setThread k n (endedThread t)) k t) t.sub).sweepEnds t.id).subSettle t.sub := by
  simp only [State.threadEnd, h]
  rfl

theorem withEndTally_cores (s : State) (k : Nat) (t : Thread) : (withEndTally s k t).cores = s.cores := by
  unfold withEndTally
  split <;> rfl

theorem withEndTally_subs (s : State) (k : Nat) (t : Thread) : (withEndTally s k t).subs = s.subs := by
  unfold withEndTally
  split <;> rfl

theorem countOut_cores (s : State) (j : Nat) : (countOut s j).cores = s.cores := by
  unfold countOut
  split <;> rfl

/-- A submission that counts a thread out keeps its failure. -/
theorem HoldsFailure.countOut {s : State} {j : Nat} {code : Code} (h : HoldsFailure s j code) :
    HoldsFailure (countOut s j) j code := by
  obtain ⟨x, hx, hf⟩ := holdsFailure_iff.mp h
  simpa only [Safety.countOut, hx] using h.setSub j (v := { x with threads := x.threads - 1 }) hf

/-- Of the cores the end of a thread changes its own slot alone. -/
theorem threadEnd_cores {s : State} {k n : Nat} {t : Thread} (h : s.thread? k n = some t) :
    (s.threadEnd k n none).cores = (s.setThread k n (endedThread t)).cores := by
  rw [threadEnd_none h, (State.subSettle_frame (Within.rfl' _)).all .cores rfl,
    (State.sweepEnds_frame (Within.rfl' _)).all .cores rfl, countOut_cores, withEndTally_cores]

/-- The thread that has ended is ENDING. -/
theorem threadEnd_thread {s : State} {k n : Nat} {t : Thread} (h : s.thread? k n = some t) :
    (s.threadEnd k n none).thread? k n = some (endedThread t) := by
  rw [thread?_congr (threadEnd_cores h), thread?_setThread_self]

theorem HoldsFailure.threadEnd {s : State} {k n : Nat} {t : Thread} {code : Code} (h : HoldsFailure s t.sub code)
    (ht : s.thread? k n = some t) : HoldsFailure (s.threadEnd k n none) t.sub code := by
  have hend : HoldsFailure (withEndTally (s.setThread k n (endedThread t)) k t) t.sub code := h.congr (withEndTally_subs _ _ _)
  have hsweep {s : State} {i : Nat} : (s.sweepEnds i).subs = s.subs := (State.sweepEnds_frame (Within.rfl' _)).all .subs rfl
  rw [threadEnd_none ht]
  exact (hend.countOut.congr hsweep).subSettle

theorem threadEnd_none_keepsNear (s : State) (k n : Nat) : KeepsNear s (s.threadEnd k n none) := by
  cases h : s.thread? k n with
  | none => simpa only [State.threadEnd, h] using KeepsNear.refl s
  | some t =>
    refine .of_trays (fun j => ?_) ((State.threadEnd_frame (Within.rfl' _)).all .trays rfl)
    rw [core_ls_congr (threadEnd_cores h), setThread_ls]

theorem subFail_keepsNear (s : State) (i : Nat) (code : Code) : KeepsNear s (s.subFail i code) :=
  .of_fr (State.subFail_frame (Within.rfl' _)) rfl rfl

theorem threadEnd_keepsNear (s : State) (k n : Nat) (fail : Option Code) : KeepsNear s (s.threadEnd k n fail) := by
  cases fail with
  | none => exact threadEnd_none_keepsNear s k n
  | some code =>
    cases h : s.thread? k n with
    | none => simpa only [State.threadEnd, h] using KeepsNear.refl s
    | some t =>
      rw [threadEnd_some h]
      exact (subFail_keepsNear s t.sub code).trans (threadEnd_none_keepsNear _ k n)

/-! ### The end of a descriptor -/

theorem fetchAt_keepsNear (s : State) (k n : Nat) (pc : BitVec 48) (keep : Bool) : KeepsNear s (s.fetchAt k n pc keep) := by
  unfold State.fetchAt
  split
  · exact setThread_keepsNear s k n _
  · exact .refl s

/-- At the boundary after a descriptor its thread ends, or waits for a fetch. -/
theorem advance_cases {s : State} {k n : Nat} {t : Thread} (h : s.thread? k n = some t) (d : BitVec 512) :
    (∃ fail, s.advance k n d = s.threadEnd k n fail) ∨ ∃ pc, s.advance k n d = s.fetchAt k n pc true := by
  simp only [State.advance, State.advanceTo, h]
  split_ifs
  · exact .inl ⟨_, rfl⟩
  · exact .inl ⟨_, rfl⟩
  · exact .inr ⟨_, rfl⟩
  · exact .inl ⟨_, rfl⟩

theorem advance_keepsNear (s : State) (k n : Nat) (d : BitVec 512) : KeepsNear s (s.advance k n d) := by
  cases h : s.thread? k n with
  | none => simpa only [State.advance, h] using KeepsNear.refl s
  | some t =>
    rcases advance_cases h d with ⟨fail, hend⟩ | ⟨pc, hfetch⟩
    · exact hend ▸ threadEnd_keepsNear s k n fail
    · exact hfetch ▸ fetchAt_keepsNear s k n pc true

/-- The boundary after a descriptor leaves the failure of its submission. -/
theorem HoldsFailure.advance {s : State} {k n : Nat} {t : Thread} {code : Code} (h : HoldsFailure s t.sub code)
    (ht : s.thread? k n = some t) (d : BitVec 512) : HoldsFailure (s.advance k n d) t.sub code := by
  rcases advance_cases ht d with ⟨fail, hend⟩ | ⟨pc, hfetch⟩
  · rw [hend]
    cases fail with
    | none => exact h.threadEnd ht
    | some other =>
      rw [threadEnd_some ht]
      exact (h.subFail other).threadEnd ((subFail_thread? ..).trans ht)
  · rw [hfetch]
    exact h.congr ((State.fetchAt_frame (Within.rfl' _)).all .subs rfl)

theorem addOut_keepsNear (s : State) (k n : Nat) (ct : Option (Nat × BitVec 6)) : KeepsNear s (s.addOut k n ct) :=
  .of_fr (State.addOut_frame (Within.rfl' _)) rfl rfl

/-- A completion ADD on its way leaves the threads. -/
theorem addOut_thread? (s : State) (k n : Nat) (ct : Option (Nat × BitVec 6)) (j i : Nat) :
    (s.addOut k n ct).thread? j i = s.thread? j i :=
  thread?_congr ((State.addOut_frame (Within.rfl' _)).all .cores rfl) j i

theorem completeNow_keepsNear (s : State) (k n : Nat) (d : BitVec 512) (ct : Option (Nat × BitVec 6)) :
    KeepsNear s (s.completeNow k n d ct) :=
  (addOut_keepsNear s k n ct).trans (advance_keepsNear _ k n d)

/-- A descriptor that fails: its completion ADD goes on its way and its submission takes the failure; then the thread goes on with
CONT, and ends without (R123, R125). -/
theorem failDesc_of_thread {s : State} {k n : Nat} {t : Thread} (h : s.thread? k n = some t) (d : BitVec 512)
    (ct : Option (Nat × BitVec 6)) (code : Code) : s.failDesc k n d ct code =
      if dFlag d 2 then ((s.addOut k n ct).subFail t.sub code).advance k n d
      else ((s.addOut k n ct).subFail t.sub code).threadEnd k n none := by
  simp only [State.failDesc, h, threadEnd_some ((addOut_thread? ..).trans h)]

theorem failDesc_keepsNear (s : State) (k n : Nat) (d : BitVec 512) (ct : Option (Nat × BitVec 6)) (code : Code) :
    KeepsNear s (s.failDesc k n d ct code) := by
  cases h : s.thread? k n with
  | none => simpa only [State.failDesc, h] using KeepsNear.refl s
  | some t =>
    have hfail := (addOut_keepsNear s k n ct).trans (subFail_keepsNear _ t.sub code)
    rw [failDesc_of_thread h]
    split
    · exact hfail.trans (advance_keepsNear _ k n d)
    · exact hfail.trans (threadEnd_none_keepsNear _ k n)

end Sys2Proof.Safety
end

section
/-! The checks of R127: the first one that fails decides how a descriptor ends. -/

namespace Sys2Proof.Safety
open Sys2Proof.Machine

/-- A descriptor that fails is rejected. -/
theorem failDesc_rejects {s : State} {k : Nat} {n : SlotNo} {t : Thread} (h : s.thread? k n.toNat = some t) (d : BitVec 512)
    (ct : Option (Nat × BitVec 6)) (code : Code) : Rejects s (s.failDesc k n.toNat d ct code) k n t d code := by
  have hkeeps := failDesc_keepsNear s k n.toNat d ct code
  have hthread : ((s.addOut k n.toNat ct).subFail t.sub code).thread? k n.toNat = some t := by
    rw [subFail_thread?, addOut_thread?, h]
  refine ⟨fun hcont => ?_, (State.failDesc_frame (Within.rfl' _)).all .movers rfl, hkeeps.tb, hkeeps.ls, fun x hx hl hf => ?_⟩
  · rw [failDesc_of_thread h, hcont, if_neg Bool.false_ne_true, threadEnd_thread hthread]
    rfl
  · have hsubs : (s.addOut k n.toNat ct).subs = s.subs := (State.addOut_frame (Within.rfl' _)).all .subs rfl
    have hx' : (s.addOut k n.toNat ct).sub? t.sub = some x := by rw [State.sub?, hsubs]; exact hx
    have hfail := subFail_records hx' hl hf code
    change HoldsFailure _ _ _
    rw [failDesc_of_thread h]
    split
    · exact hfail.advance hthread d
    · exact hfail.threadEnd hthread

/-- A row acts on the descriptor of a thread that is READY, once the waits of its header are over (R93, R114, R119, R123). -/
theorem descStep_of_ready {s : State} {c : UnitAddr} {n : SlotNo} {k : Nat} {t : Thread} {d : BitVec 512} (h : Ready s c n k t d)
    {mine : BitVec 512 → Bool} (hm : mine d = true) (f : State → Nat → Nat → Thread → BitVec 512 → State) :
    s.descStep c n mine f = f s k n.toNat t d := by
  obtain ⟨hcore, hthread, hcur, hst, hissues, horder, hwait⟩ := h
  have hheld : (s.core k).ctl.st ≠ .held := fun hheld => by simp [hheld, Machine.issues] at hissues
  have hready : ¬(t.st ≠ .ready || !mine d) = true := by simp [hst, hm]
  have hdone : ¬(dFlag d 4 && s.outst.any (fun o => o.thread == t.id)) = true := by
    rw [Bool.and_eq_true]
    rintro ⟨hflag, hany⟩
    simp [hflag, hany] at horder
  have hover : ¬(dFlag d 7 && !t.waited && decide ((s.tally (clusterOfCore k) (BitVec.ofNat 6 (dN d 3 1))).toNat <
      (BitVec.ofNat 32 (dN d 4 4)).toNat)) = true := by
    rcases hwait with hflag | hwaited | htally
    · simp [hflag]
    · simp [hwaited]
    · simpa using fun _ _ => (Nat.mod_le _ _).trans htally
  simp only [State.descStep, hcore, hthread, hcur, if_neg hready, if_neg hheld, hissues, if_neg hdone, if_neg hover]
  rfl

/-- A check of R127 that fails ends the descriptor with its code, before the opcode's own check and its work. -/
theorem checked_of_firstFailure {checks : Checks} {code : Code} (h : firstFailure checks = some code) (hb : checks.bound = true)
    (s : State) (k n : Nat) (t : Thread) (d : BitVec 512) (own : Option Code) (run : Option (Nat × BitVec 6) → State) :
    s.checked k n t d checks own run = s.failDesc k n d ((s.ctOf k t d).getD none) code := by
  unfold firstFailure at h
  split_ifs at h with hfmt halign hzero hext htrans <;> cases h
  · simp [State.checked, hfmt]
  · simp [State.checked, hfmt, halign]
  · simp [State.checked, hfmt, halign, hzero, hb, hext]
  · simp [State.checked, hfmt, halign, hzero, hb, hext, htrans]

/-- So a row whose checks find a failure rejects the descriptor. -/
theorem descStep_rejects {s : State} {c : UnitAddr} {n : SlotNo} {k : Nat} {t : Thread} {d : BitVec 512} (h : Ready s c n k t d)
    {mine : BitVec 512 → Bool} (hm : mine d = true) {f : State → Nat → Nat → Thread → BitVec 512 → State} {checks : Checks}
    {own : Option Code} {run : Option (Nat × BitVec 6) → State}
    (hf : f s k n.toNat t d = s.checked k n.toNat t d checks own run) (hb : checks.bound = true) {code : Code}
    (hcode : firstFailure checks = some code) : Rejects s (s.descStep c n mine f) k n t d code := by
  rw [descStep_of_ready h hm, hf, checked_of_firstFailure hcode hb]
  exact failDesc_rejects h.thread d _ code

/-- Settles O60: every row is `State.checked` with the checks of its opcode, none of which is about a binding. -/
theorem rejectedDescriptorsMoveNothing : Obligations.RejectedDescriptorsMoveNothing := by
  intro s c n k t d code h
  refine ⟨?copy, ?fill, ?accRead, ?accWrite, ?convertBs8, ?convertPlane, ?activate, ?reduce⟩
  all_goals
    intro hop hcode
    exact ⟨_, rfl, descStep_rejects h (by rw [hop]; rfl) rfl rfl hcode⟩

end Sys2Proof.Safety
end

section
/-! What a descriptor that computes writes (R144-R150): bytes of its destination, and of the near memories no others. -/

namespace Sys2Proof.Safety
open Sys2Proof.Machine

/-! ### Writes within ranges -/

/-- Of the local stores and the tray buffers only bytes of the ranges `l`, counted in the spaces of `w`, may differ. -/
structure WritesOnly (w : Seat) (l : List (Opnd × Nat)) (s r : State) : Prop where
  otherLs : ∀ j, j ≠ w.core → (r.core j).ls = (s.core j).ls
  ls : ∀ a, Outside 1 w.win l a → Memory.read (r.core w.core).ls a = Memory.read (s.core w.core).ls a
  otherTb : ∀ j, j ≠ w.tray → (r.tray j).tb = (s.tray j).tb
  tb : ∀ a, Outside 2 w.grant l a → Memory.read (r.tray w.tray).tb a = Memory.read (s.tray w.tray).tb a

theorem KeepsNear.writesOnly {s r : State} (h : KeepsNear s r) (w : Seat) (l : List (Opnd × Nat)) : WritesOnly w l s r :=
  ⟨fun j _ => h.ls j, fun _ _ => by rw [h.ls], fun j _ => h.tb j, fun _ _ => by rw [h.tb]⟩

theorem WritesOnly.trans {w : Seat} {l : List (Opnd × Nat)} {s t r : State} (h : WritesOnly w l s t) (k : WritesOnly w l t r) :
    WritesOnly w l s r :=
  ⟨fun j hj => (k.otherLs j hj).trans (h.otherLs j hj), fun a ha => (k.ls a ha).trans (h.ls a ha),
    fun j hj => (k.otherTb j hj).trans (h.otherTb j hj), fun a ha => (k.tb a ha).trans (h.tb a ha)⟩

theorem WritesOnly.ite {w : Seat} {l : List (Opnd × Nat)} {s t r : State} {p : Prop} [Decidable p] (h : WritesOnly w l s t)
    (k : WritesOnly w l s r) : WritesOnly w l s (if p then t else r) := by
  split
  · exact h
  · exact k

theorem WritesOnly.foldl {α : Type} {w : Seat} {l : List (Opnd × Nat)} {f : State → α → State} {xs : List α}
    (h : ∀ x ∈ xs, ∀ t, WritesOnly w l t (f t x)) (s : State) : WritesOnly w l s (xs.foldl f s) := by
  induction xs generalizing s with
  | nil => exact (KeepsNear.refl s).writesOnly w l
  | cons x xs ih =>
    exact (h x List.mem_cons_self s).trans (ih (fun y hy => h y (List.mem_cons_of_mem x hy)) (f s x))

theorem putL_of_dev {a : Opnd} (h : a.sp = 0) (s : State) (w : Seat) (data : List Byte) :
    s.putL w a data = s.devWriteBy w.writer w.ctx a.off data := if_pos h

theorem putL_of_ls {a : Opnd} (h : a.sp = 1) (s : State) (w : Seat) (data : List Byte) :
    s.putL w a data = s.modCore w.core fun c => { c with ls := Memory.writeL c.ls (w.win + a.off) data } := by
  rw [State.putL, if_neg (by omega), if_pos h]

theorem putL_of_tb {a : Opnd} (h : a.sp = 2) (s : State) (w : Seat) (data : List Byte) :
    s.putL w a data = s.modTray w.tray fun t => { t with tb := Memory.writeL t.tb (w.grant + a.off) data } := by
  rw [State.putL, if_neg (by omega), if_neg (by omega)]

/-- Bytes put into one of the ranges. -/
theorem putL_writesOnly {w : Seat} {l : List (Opnd × Nat)} {a : Opnd} {data : List Byte} (hmem : (a, data.length) ∈ l)
    (hsp : a.sp ∈ anySp) (s : State) : WritesOnly w l s (s.putL w a data) := by
  simp only [anySp, List.mem_cons, List.not_mem_nil, or_false] at hsp
  rcases hsp with hdev | hls | htb
  · rw [putL_of_dev hdev]
    exact (KeepsNear.of_fr (State.devWriteBy_frame (Within.rfl' _)) rfl rfl).writesOnly w l
  · rw [putL_of_ls hls]
    refine ⟨fun j hj => ?_, fun b hb => ?_, fun _ _ => rfl, fun _ _ => rfl⟩
    · rw [modCore_coreAt_of_ne s hj]
    · rw [State.modCore_self]
      exact Memory.read_writeL_out (hb _ hmem hls)
  · rw [putL_of_tb htb]
    refine ⟨fun _ _ => rfl, fun _ _ => rfl, fun j hj => ?_, fun b hb => ?_⟩
    · rw [s.modTray_ne hj]
    · rw [State.modTray_self]
      exact Memory.read_writeL_out (hb _ hmem htb)

/-! ### The course of a descriptor -/

theorem touchOp_keepsNear (s : State) (w : Seat) (a : Opnd) (n : Nat) : KeepsNear s (s.touchOp w a n) :=
  .of_fr (State.touchOp_frame (Within.rfl' _)) rfl rfl

theorem rejectTally_keepsNear (s : State) (k n : Nat) (d : BitVec 512) (ct : Option (Nat × BitVec 6)) :
    KeepsNear s (s.rejectTally k n d ct) :=
  (KeepsNear.of_fr (State.modCluster_frame (Within.rfl' _)) rfl rfl).trans (failDesc_keepsNear _ k n d ct _)

theorem finish_keepsNear (s : State) (k n : Nat) (t : Thread) (d : BitVec 512) (ct : Option (Nat × BitVec 6)) (w : Seat)
    (code : Option Code) : KeepsNear s (s.finish k n t d ct w code) := by
  unfold State.finish
  split
  · split
    · exact setThread_keepsNear s k n _
    · exact .refl s
  · split
    · exact failDesc_keepsNear s k n d ct _
    · exact completeNow_keepsNear s k n d ct

/-- Past the checks of R127 a descriptor has completed or failed, or does its work. -/
theorem checked_cases (s : State) (k n : Nat) (t : Thread) (d : BitVec 512) (checks : Checks) (own : Option Code)
    (run : Option (Nat × BitVec 6) → State) :
    KeepsNear s (s.checked k n t d checks own run) ∨
      checks.fmt = true ∧ ∃ ct, s.checked k n t d checks own run = run ct := by
  have hfail (ct : Option (Nat × BitVec 6)) (code : Code) := failDesc_keepsNear s k n d ct code
  have hreject := rejectTally_keepsNear s k n d none
  unfold State.checked
  dsimp only
  split_ifs with hfmt
  · exact .inl (hfail _ _)
  · exact .inl (hfail _ _)
  · split
    · exact .inl (completeNow_keepsNear s k n d _)
    · exact .inl hreject
  · exact .inl (hfail _ _)
  · exact .inl (hfail _ _)
  · exact .inl (hfail _ _)
  · split
    · exact .inl hreject
    · exact .inl (hfail _ _)
    · exact .inr ⟨by simpa using hfmt, _, rfl⟩

theorem checked_writesOnly {w : Seat} {l : List (Opnd × Nat)} {s : State} {k n : Nat} {t : Thread} {d : BitVec 512}
    {checks : Checks} {own : Option Code} {run : Option (Nat × BitVec 6) → State}
    (h : checks.fmt = true → ∀ ct, WritesOnly w l s (run ct)) : WritesOnly w l s (s.checked k n t d checks own run) := by
  rcases checked_cases s k n t d checks own run with hkeeps | ⟨hfmt, ct, hrun⟩
  · exact hkeeps.writesOnly w l
  · exact hrun ▸ h hfmt ct

/-- The row of a descriptor does nothing, changes the state of its thread, or acts on its own opcode. -/
theorem descStep_cases {s : State} {c : UnitAddr} {n : SlotNo} {k : Nat} {t : Thread} {d : BitVec 512} (hcore : s.coreAt c = some k)
    (hthread : s.thread? k n.toNat = some t) (hcur : t.cur = some d) (mine : BitVec 512 → Bool)
    (f : State → Nat → Nat → Thread → BitVec 512 → State) :
    KeepsNear s (s.descStep c n mine f) ∨ mine d = true ∧ s.descStep c n mine f = f s k n.toNat t d := by
  simp only [State.descStep, hcore, hthread, hcur]
  split_ifs with hmine
  · exact .inl (.refl s)
  · exact .inl (setThread_keepsNear s _ _ _)
  · exact .inl (.refl s)
  · exact .inl (setThread_keepsNear s _ _ _)
  · exact .inl (setThread_keepsNear s _ _ _)
  · exact .inr ⟨by simp_all, rfl⟩

/-- A descriptor that produces writes that lie within its destinations: an undefined result, or the writes. -/
theorem produce_writesOnly {s : State} {k n : Nat} {t : Thread} {d : BitVec 512} {ct : Option (Nat × BitVec 6)}
    {srcs dsts : List (Opnd × Nat)} {writes : Option (List (Opnd × List Byte))} {undef : Bool}
    (hsp : ∀ x ∈ dsts, x.1.sp ∈ anySp) (hwrites : ∀ ws, writes = some ws → ∀ e ∈ ws, (e.1, e.2.length) ∈ dsts) :
    WritesOnly (s.seat k t) dsts s (s.produce k n t d ct srcs dsts writes undef) := by
  have hput (w : Seat) (a : Opnd) (data : List Byte) (hmem : (a, data.length) ∈ dsts) (s : State) :
      WritesOnly w dsts s (s.putL w a data) := putL_writesOnly hmem (hsp _ hmem) s
  have htouch (w : Seat) : WritesOnly w dsts s (srcs.foldl (fun s r => s.touchOp w r.1 r.2) s) :=
    .foldl (fun x _ t => (touchOp_keepsNear t w x.1 x.2).writesOnly w dsts) s
  unfold State.produce
  refine .ite ((KeepsNear.refl s).writesOnly _ _) (.ite ?undefined ?written)
  case undefined =>
    refine ((htouch _).trans (.foldl (fun x hx u => hput _ _ _ ?_ u) _)).trans
      (((KeepsNear.of_fr (State.draw_frame (Within.rfl' _)) rfl rfl).trans (finish_keepsNear _ k n t d ct _ _)).writesOnly _ _)
    simpa [freeBytes] using List.fst_mem_of_mem_zipIdx hx
  case written =>
    cases writes with
    | none => exact (htouch _).trans ((failDesc_keepsNear _ k n d ct _).writesOnly _ _)
    | some ws =>
      exact ((htouch _).trans (.foldl (fun e he u => hput _ _ _ (hwrites ws rfl e he) u) _)).trans
        ((finish_keepsNear _ k n t d ct _ _).writesOnly _ _)

/-- INT_SAT, which a result may set first (R91), is a flag of the cluster. -/
theorem intSat_produce_writesOnly {s : State} {k n : Nat} {t : Thread} {d : BitVec 512} {ct : Option (Nat × BitVec 6)}
    {srcs dsts : List (Opnd × Nat)} {writes : Option (List (Opnd × List Byte))} {undef hit : Bool}
    (hsp : ∀ x ∈ dsts, x.1.sp ∈ anySp) (hwrites : ∀ ws, writes = some ws → ∀ e ∈ ws, (e.1, e.2.length) ∈ dsts) :
    WritesOnly (s.seat k t) dsts s ((s.intSat k hit).produce k n t d ct srcs dsts writes undef) := by
  have hseat : (s.intSat k hit).seat k t = s.seat k t := by
    unfold State.intSat
    split <;> rfl
  have hflag : KeepsNear s (s.intSat k hit) := .of_fr (State.intSat_frame (Within.rfl' _)) rfl rfl
  exact (hflag.writesOnly _ _).trans (hseat ▸ produce_writesOnly hsp hwrites)

end Sys2Proof.Safety
end

section
/-! The rows that compute on a core: each produces writes within the destinations of its descriptor (R144-R149). -/

namespace Sys2Proof.Safety
open Sys2Proof.Machine

/-! ### Lengths of results -/

@[simp] theorem leBytes_length (n v : Nat) : (leBytes n v).length = n := by
  induction n generalizing v with
  | zero => rfl
  | succ n ih => rw [leBytes, List.length_cons, ih]

@[simp] theorem putFloat_length (f : Nat) (v : FVal) : (putFloat f v).length = fmtSize f := leBytes_length _ _

@[simp] theorem putInt_length (f : Nat) (x : Int) : (putInt f x).length = fmtSize f := leBytes_length _ _

@[simp] theorem sbytes_length (l : List Int) : (sbytes l).length = l.length := List.length_map _

@[simp] theorem activation_length (fn f : Nat) (x : FVal) (bits : Nat) : (activation fn f x bits).length = fmtSize f := by
  unfold activation
  split
  · exact putFloat_length f _
  · exact leBytes_length _ _
  · exact leBytes_length _ _

@[simp] theorem reduceRow_length (op : Nat) (vs : List FVal) : (reduceRow op vs).length = 4 := by
  unfold reduceRow
  dsimp only
  split_ifs
  · exact putFloat_length 0 _
  · exact putFloat_length 0 _
  · exact putFloat_length 0 _
  · exact putFloat_length 0 _
  · exact leBytes_length 4 _
  · exact leBytes_length 4 _

/-- A vector in block form has a mantissa for each of its elements. -/
theorem toBlock_length {vs : List FVal} {b : List Int × Int} (h : toBlock vs = some b) : b.1.length = vs.length := by
  unfold toBlock at h
  split at h
  · cases h
    exact List.length_map _
  · cases h

/-- Pieces of one length, put together. -/
theorem length_flatMap_of_forall {α β : Type} {l : List α} {f : α → List β} {z : Nat} (h : ∀ x ∈ l, (f x).length = z) :
    (l.flatMap f).length = l.length * z := by
  rw [List.length_flatMap, List.map_congr_left h, List.map_const', List.sum_replicate, smul_eq_mul]

/-! ### The rows -/

theorem sp_mem_of_among {a : Opnd} {l : List Nat} (h : a.among l = true) : a.sp ∈ l := by
  simpa using (Bool.and_eq_true_iff.mp h).2

theorem nearSp_subset_anySp : nearSp ⊆ anySp := by decide

theorem sp_mem_anySp_of_range {r : Opnd} {m : Nat} (h : r.among nearSp = true) : ∀ x ∈ [(r, m)], x.1.sp ∈ anySp := by
  intro x hx
  rw [List.mem_singleton.mp hx]
  exact nearSp_subset_anySp (sp_mem_of_among h)

/-- A result written as one piece fills a range of its length. -/
theorem write_mem_of_length {r : Opnd} {data : List Byte} {m : Nat} (h : data.length = m) :
    ∀ ws, some [(r, data)] = some ws → ∀ e ∈ ws, (e.1, e.2.length) ∈ [(r, m)] := by
  intro ws hws e he
  cases hws
  rw [List.mem_singleton.mp he, h]
  exact List.mem_singleton_self _

theorem activateRun_writesOnly {d : BitVec 512} (hop : opcode d = 0x33) (s : State) (k n : Nat) (t : Thread) :
    WritesOnly (s.seat k t) (computeDests d) s (s.activateRun k n t d) := by
  have hdests : computeDests d = [(opnd d 0x18, dN d 0x20 4 * fmtSize (dN d 0x25 1))] := by simp [computeDests, hop]
  rw [hdests]
  refine checked_writesOnly fun hfmt ct => produce_writesOnly (sp_mem_anySp_of_range ?_) (write_mem_of_length ?_)
  · simp only [Bool.and_eq_true] at hfmt
    obtain ⟨⟨⟨⟨-, hr⟩, -⟩, -⟩, -⟩ := hfmt
    exact hr
  · rw [length_flatMap_of_forall fun _ _ => activation_length _ _ _ _, List.length_range]

theorem reduceRun_writesOnly {d : BitVec 512} (hop : opcode d = 0x34) (s : State) (k n : Nat) (t : Thread) :
    WritesOnly (s.seat k t) (computeDests d) s (s.reduceRun k n t d) := by
  have hdests : computeDests d = [(opnd d 0x18, 4 * dN d 0x20 4)] := by simp [computeDests, hop]
  rw [hdests]
  refine checked_writesOnly fun hfmt ct => produce_writesOnly (sp_mem_anySp_of_range ?_) (write_mem_of_length ?_)
  · simp only [Bool.and_eq_true] at hfmt
    obtain ⟨⟨⟨-, hr⟩, -⟩, -⟩ := hfmt
    exact hr
  · rw [length_flatMap_of_forall fun _ _ => reduceRow_length _ _, List.length_range, Nat.mul_comm]

theorem vecRun_writesOnly {d : BitVec 512} (hop : opcode d = 0x30) (s : State) (k n : Nat) (t : Thread) :
    WritesOnly (s.seat k t) (computeDests d) s (s.vecRun k n t d) := by
  have hdests : computeDests d = [(opnd d 0x20, dN d 0x28 4 * fmtSize (dN d 0x2E 1))] := by simp [computeDests, hop]
  rw [hdests]
  refine checked_writesOnly fun hfmt ct => intSat_produce_writesOnly (sp_mem_anySp_of_range ?_) (write_mem_of_length ?_)
  · simp only [Bool.and_eq_true] at hfmt
    obtain ⟨⟨⟨⟨⟨⟨-, hr⟩, -⟩, -⟩, -⟩, -⟩, -⟩ := hfmt
    exact hr
  · rw [length_flatMap_of_forall (z := fmtSize (dN d 0x2E 1)), List.length_map, List.length_range]
    intro x hx
    obtain ⟨i, -, rfl⟩ := List.mem_map.mp hx
    split
    · exact putInt_length _ _
    · exact putFloat_length _ _

/-- The rows of a result of `m` by `n` words fill ranges of `4 n` bytes, `z` bytes apart. -/
theorem rows_mem_of_length {r : Opnd} {m n z : Nat} {cell : Nat → Nat → List Byte × Bool}
    (h : ∀ i j, (cell i j).1.length = 4) :
    ∀ ws, some ((((List.range m).map fun i => (List.range n).map fun j => cell i j).zipIdx).map fun x =>
        (r.plus (z * x.2), x.1.flatMap (·.1))) = some ws →
      ∀ e ∈ ws, (e.1, e.2.length) ∈ (List.range m).map fun i => (r.plus (z * i), 4 * n) := by
  intro ws hws e he
  cases hws
  obtain ⟨⟨row, i⟩, hrow, rfl⟩ := List.mem_map.mp he
  have hi : i < m := by simpa using List.snd_lt_of_mem_zipIdx hrow
  obtain ⟨i', -, rfl⟩ := List.mem_map.mp (List.fst_mem_of_mem_zipIdx hrow)
  have hcell : ∀ x ∈ (List.range n).map fun j => cell i' j, x.1.length = 4 := by
    intro x hx
    obtain ⟨j, -, rfl⟩ := List.mem_map.mp hx
    exact h i' j
  refine List.mem_map.mpr ⟨i, List.mem_range.mpr hi, Prod.ext rfl ?_⟩
  dsimp only
  rw [length_flatMap_of_forall hcell, List.length_map, List.length_range, Nat.mul_comm]

theorem matmulRun_writesOnly {d : BitVec 512} (hop : opcode d = 0x38) (s : State) (k n : Nat) (t : Thread) :
    WritesOnly (s.seat k t) (computeDests d) s (s.matmulRun k n t d) := by
  have hdests : computeDests d =
      (List.range (dN d 0x28 2)).map fun i => ((opnd d 0x20).plus (4 * dN d 0x32 2 * i), 4 * dN d 0x2A 2) := by
    simp [computeDests, hop]
  rw [hdests]
  refine checked_writesOnly fun hfmt ct => intSat_produce_writesOnly (fun x hx => ?_) (rows_mem_of_length fun i j => ?_)
  · simp only [Bool.and_eq_true] at hfmt
    obtain ⟨⟨⟨⟨-, hr⟩, -⟩, -⟩, -⟩ := hfmt
    obtain ⟨i, -, rfl⟩ := List.mem_map.mp hx
    exact nearSp_subset_anySp (sp_mem_of_among hr)
  · split
    · exact putInt_length 6 _
    · exact putFloat_length 0 _

/-- A conversion gives one block for each of its vectors, with a mantissa for each of their `z` elements. -/
structure BlocksOf (m z : Nat) (blocks : List (Option (List Int × Int))) : Prop where
  count : blocks.length = m
  mants : ∀ b, some b ∈ blocks → b.1.length = z

theorem blocksOf_map_range {m z : Nat} {v : Nat → List FVal} (h : ∀ i, (v i).length = z) :
    BlocksOf m z ((List.range m).map fun i => toBlock (v i)) := by
  refine ⟨by rw [List.length_map, List.length_range], fun b hb => ?_⟩
  obtain ⟨i, -, hblock⟩ := List.mem_map.mp hb
  rw [toBlock_length hblock, h i]

/-- Where every vector converts, none is left out. -/
theorem BlocksOf.reduceOption {m z : Nat} {blocks : List (Option (List Int × Int))} (h : BlocksOf m z blocks)
    (hall : blocks.all Option.isSome = true) :
    blocks.reduceOption.length = m ∧ ∀ b ∈ blocks.reduceOption, b.1.length = z :=
  ⟨(List.reduceOption_length_eq_iff.mpr (List.all_eq_true.mp hall)).trans h.count,
    fun b hb => h.mants b (List.reduceOption_mem_iff.mp hb)⟩

/-- A plane image and its row exponents fill 1024 and 32 bytes (R145). -/
theorem plane_mem_of_blocksOf {p e : Opnd} {blocks : List (Option (List Int × Int))} (h : BlocksOf 32 32 blocks) :
    ∀ ws, (if blocks.all Option.isSome = true then
          some [(p, blocks.reduceOption.flatMap fun x => sbytes x.1), (e, sbytes (blocks.reduceOption.map (·.2)))]
        else none) = some ws →
      ∀ w ∈ ws, (w.1, w.2.length) ∈ [(p, 1024), (e, 32)] := by
  intro ws hws w hw
  obtain ⟨hall, hws⟩ := Option.ite_none_right_eq_some.mp hws
  obtain ⟨hcount, hmants⟩ := h.reduceOption hall
  cases hws
  rcases List.mem_pair.mp hw with rfl | rfl
  · rw [length_flatMap_of_forall fun b hb => (sbytes_length b.1).trans (hmants b hb), hcount]
    exact List.mem_cons_self
  · rw [sbytes_length, List.length_map, hcount]
    exact List.mem_cons_of_mem _ List.mem_cons_self

/-- The mantissas and the exponent of each vector of a group sequence fill 32 bytes and 1 (R144). -/
theorem vectors_mem_of_blocksOf {mants expAt : Nat → Opnd} {m : Nat} {blocks : List (Option (List Int × Int))}
    (h : BlocksOf m 32 blocks) :
    ∀ ws, (if blocks.all Option.isSome = true then
          some (blocks.reduceOption.zipIdx.flatMap fun x => [(mants x.2, sbytes x.1.1), (expAt x.2, sbytes [x.1.2])])
        else none) = some ws →
      ∀ w ∈ ws, (w.1, w.2.length) ∈ (List.range m).flatMap fun v => [(mants v, 32), (expAt v, 1)] := by
  intro ws hws w hw
  obtain ⟨hall, hws⟩ := Option.ite_none_right_eq_some.mp hws
  obtain ⟨hcount, hmants⟩ := h.reduceOption hall
  cases hws
  obtain ⟨⟨b, v⟩, hb, hw⟩ := List.mem_flatMap.mp hw
  have hv : v < m := by simpa [hcount] using List.snd_lt_of_mem_zipIdx hb
  refine List.mem_flatMap.mpr ⟨v, List.mem_range.mpr hv, ?_⟩
  rcases List.mem_pair.mp hw with rfl | rfl
  · rw [sbytes_length, hmants b (List.fst_mem_of_mem_zipIdx hb)]
    exact List.mem_cons_self
  · exact List.mem_cons_of_mem _ List.mem_cons_self

theorem convertPlaneRun_writesOnly {d : BitVec 512} (hop : opcode d = 0x29) (s : State) (k n : Nat) (t : Thread) :
    WritesOnly (s.seat k t) (computeDests d) s (s.convertPlaneRun k n t d) := by
  have hdests : computeDests d = [(opnd d 0x18, 1024), (opnd d 0x20, 32)] := by simp [computeDests, hop]
  rw [hdests]
  refine checked_writesOnly fun hfmt ct => produce_writesOnly (fun x hx => ?_)
    (plane_mem_of_blocksOf (blocksOf_map_range fun i => by rw [List.length_map, List.length_range]))
  simp only [Bool.and_eq_true] at hfmt
  obtain ⟨⟨⟨⟨-, hp⟩, he⟩, -⟩, -⟩ := hfmt
  rcases List.mem_pair.mp hx with rfl | rfl
  · exact sp_mem_of_among hp
  · exact sp_mem_of_among he

/-- Where a group sequence holds the mantissas and the exponent of vector `v` of a CONVERT_BS8 (R144). -/
def mantsAt (d : BitVec 512) (v : Nat) : Opnd :=
  (opnd d 0x18).plus (2112 * ((dN d 0x28 1 + v) / 64) + 32 * ((dN d 0x28 1 + v) % 64))
def expAt (d : BitVec 512) (v : Nat) : Opnd :=
  (opnd d 0x18).plus (2112 * ((dN d 0x28 1 + v) / 64) + 2048 + (dN d 0x28 1 + v) % 64)

theorem convertBs8Run_writesOnly {d : BitVec 512} (hop : opcode d = 0x28) (s : State) (k n : Nat) (t : Thread) :
    WritesOnly (s.seat k t) (computeDests d) s (s.convertBs8Run k n t d) := by
  have hdests : computeDests d = (List.range (dN d 0x20 4)).flatMap fun v => [(mantsAt d v, 32), (expAt d v, 1)] := by
    simp [computeDests, hop, mantsAt, expAt]
  rw [hdests]
  refine checked_writesOnly fun hfmt ct => produce_writesOnly (fun x hx => ?_)
    (vectors_mem_of_blocksOf (mants := mantsAt d) (expAt := expAt d) (blocksOf_map_range fun i => ?_))
  · simp only [Bool.and_eq_true] at hfmt
    obtain ⟨⟨⟨-, hr⟩, -⟩, -⟩ := hfmt
    obtain ⟨v, -, hx⟩ := List.mem_flatMap.mp hx
    rcases List.mem_pair.mp hx with rfl | rfl
    · exact sp_mem_of_among hr
    · exact sp_mem_of_among hr
  · rw [List.length_map, List.length_range]

/-! ### The obligation -/

/-- A row for which the work on its own opcode stays within the destinations does so in every state. -/
theorem descStep_writesOnly {s : State} {c : UnitAddr} {n : SlotNo} {k : Nat} {t : Thread} {d : BitVec 512}
    (hcore : s.coreAt c = some k) (hthread : s.thread? k n.toNat = some t) (hcur : t.cur = some d) {o : Nat}
    {f : State → Nat → Nat → Thread → BitVec 512 → State}
    (hf : opcode d = o → ∀ s k n t, WritesOnly (s.seat k t) (computeDests d) s (f s k n t d)) :
    WritesOnly (s.seat k t) (computeDests d) s (s.descStep c n (fun d => opcode d == o) f) := by
  rcases descStep_cases hcore hthread hcur (fun d => opcode d == o) f with hkeeps | ⟨hmine, hrow⟩
  · exact hkeeps.writesOnly _ _
  · exact hrow ▸ hf (beq_iff_eq.mp hmine) s k n.toNat t

/-- Settles O59: the six rows are steps of descriptors whose work writes within the destinations. -/
theorem computingWritesOnlyItsDestination : Obligations.ComputingWritesOnlyItsDestination := by
  intro s r c n k t d hcore hthread hcur i hi hr
  have hrow {o : Nat} {f : State → Nat → Nat → Thread → BitVec 512 → State}
      (hf : opcode d = o → ∀ s k n t, WritesOnly (s.seat k t) (computeDests d) s (f s k n t d)) :=
    descStep_writesOnly (c := c) hcore hthread hcur hf
  have hwrites : WritesOnly (s.seat k t) (computeDests d) s r := by
    simp only [computeRows, List.mem_cons, List.not_mem_nil, or_false] at hi
    rcases hi with rfl | rfl | rfl | rfl | rfl | rfl <;> cases hr
    · exact hrow convertBs8Run_writesOnly
    · exact hrow convertPlaneRun_writesOnly
    · exact hrow vecRun_writesOnly
    · exact hrow activateRun_writesOnly
    · exact hrow reduceRun_writesOnly
    · exact hrow matmulRun_writesOnly
  obtain ⟨hotherLs, hls, hotherTb, htb⟩ := hwrites
  exact ⟨hotherLs, hls, hotherTb, htb⟩

end Sys2Proof.Safety
end

section
/-! The steering matrix driven to bypass (R290): a switch that the drive ends leaves the elements as they are, and what else the
drive does leaves the matrix alone. -/

namespace Sys2Proof.Safety
open Sys2Proof.Machine

/-! ### The end of a switch -/

theorem report_aim (s : State) (code : Code) (r : BitVec 16) : (s.report code r).steer.aim = s.steer.aim := by
  unfold State.report
  split
  · split
    · split <;> rfl
    · rw [(State.slSend_frame (Within.rfl' _)).all .steer rfl]
  · rfl

theorem endSwitch_aim (s : State) (phase : BitVec 4) (code : Code) : (s.endSwitch phase code).steer.aim = s.steer.aim := by
  rw [State.endSwitch, (State.judgeHeld_frame (Within.rfl' _)).all .steer rfl,
    (State.freeTrigger_frame (Within.rfl' _)).all .steer rfl]
  rfl

theorem notMoved_aim (s : State) : s.notMoved.steer.aim = s.steer.aim := by
  rw [State.notMoved, endSwitch_aim, (State.event_frame (Within.rfl' _)).all .steer rfl,
    (State.unquiesce_frame (Within.rfl' _)).all .steer rfl, report_aim, State.draw_steer]

/-- The end of a participation by a bypass trigger (R313) changes no connection and fails no element. -/
theorem bypassWins_aim (s : State) (src : BitVec 3) : (s.bypassWins src).steer.aim = s.steer.aim := by
  unfold State.bypassWins
  split
  · split
    · exact notMoved_aim s
    · rfl
  · rfl

/-! ### The drive -/

theorem driveBypass_steer (s : State) (src : BitVec 3) :
    (s.driveBypass src).steer = { (s.bypassWins src).steer.drive bypassConn with
      step := 0, changed := changedPorts (s.bypassWins src).steer.conn (s.steer.aim bypassConn), inBypass := true, src := src,
      restoreBit := false } := by
  rw [State.driveBypass, (State.wearEvent_frame (Within.rfl' _)).all .steer rfl,
    (Fr.foldl fun _ _ => State.loosen_frame (Within.rfl' _)).all .steer rfl, (State.unquiesce_frame (Within.rfl' _)).all .steer rfl,
    (State.joinLts_frame (Within.rfl' _)).all .steer rfl, (State.leaveLts_frame (Within.rfl' _)).all .steer rfl, bypassWins_aim]

theorem driveBypass_conn (s : State) (src : BitVec 3) : (s.driveBypass src).steer.conn = s.steer.aim bypassConn := by
  rw [driveBypass_steer]
  exact congrFun (bypassWins_aim s src) bypassConn

theorem aim_of_failed_nil {x : SteerSt} (h : x.failed = []) (target : List (Nat × Nat)) : x.aim target = target := by
  simp [SteerSt.aim, h]

/-- The list of the bypass state pairs the even inputs with the next output and the odd ones with the one before (R290). -/
theorem mem_bypassConn (a b : Nat) :
    (a, b) ∈ bypassConn ↔ ∃ m < 32, (a = 2 * m ∧ b = 2 * m + 1) ∨ (a = 2 * m + 1 ∧ b = 2 * m) := by
  have hlist : (a, b) ∈ bypassConn ↔ a < 64 ∧ b = if a % 2 = 0 then a + 1 else a - 1 := by
    simp [bypassConn, eq_comm]
  rw [hlist]
  constructor
  · rintro ⟨ha, rfl⟩
    refine ⟨a / 2, by omega, ?_⟩
    split <;> omega
  · rintro ⟨m, hm, ⟨rfl, rfl⟩ | ⟨rfl, rfl⟩⟩
    · exact ⟨by omega, by rw [if_pos (by omega)]⟩
    · exact ⟨by omega, by rw [if_neg (by omega), Nat.add_sub_cancel]⟩

theorem exec_bypass_of_priv {s : State} {p : Path} (h : s.priv p = true) :
    exec (.bypass p) s = .next { s.driveBypass 4 with steer := { (s.driveBypass 4).steer with bypassBit := true } } :=
  congrArg Host.Outcome.next (if_pos h)

/-- Settles O56: the matrix is driven to the bypass state, and without failed elements it connects what it is driven to. -/
theorem bypassJoinsPairedPorts : Obligations.BypassJoinsPairedPorts := by
  intro s p hp hfailed
  refine ⟨_, exec_bypass_of_priv hp, ?_, fun a b => ?_⟩
  · rw [driveBypass_steer]
  · rw [driveBypass_conn, aim_of_failed_nil hfailed, mem_bypassConn]

end Sys2Proof.Safety
end
